-- ==== Sys2Proof/Syntax.lean ====
section
/-! DEFINITION. The commands of the device: one constructor of `Instr` per row of spec/opcode_table.json, in the
table's order, with the operands the row's rule names. The table gives no row any bits. -/

namespace Sys2Proof

abbrev Dom := Fin 2
abbrev Quarter := Fin 16
abbrev Ward := Fin 4
abbrev PitchNo := Fin 16
abbrev ChanNo := Fin 256
abbrev PortNo := Fin 8
abbrev LinkNo := Fin 64
abbrev EthNo := Fin 2
abbrev RtpNo := Fin 1024
abbrev KioskNo := Fin 256
abbrev StreamNo := Fin 131072
abbrev CtxNo := Fin 1024

/-- Who makes a register access (20 R508). -/
inductive Requester where
  | session (n : Nat)
  | mgmt
  | kiosk (k : KioskNo)
  deriving DecidableEq, Repr

/-- The header fields of a KTP request that its processing uses (15 R376). -/
structure Hdr where
  session : Nat
  tag : Word
  epoch : Word
  deriving DecidableEq, Repr

/-- Where a datagram came from (15 R373). -/
structure Peer where
  port : EthNo
  mac : BitVec 48
  v6 : Bool
  ip : BitVec 128
  udp : Half
  deriving DecidableEq, Repr

/-- The STREAM_OPEN payload (15 R384). -/
structure OpenParams where
  voice : Half
  domain : Byte
  pitch : Byte
  cls : Byte
  dest : Half
  qdepth : Half
  prime : Half
  group : Half
  seed : DWord
  startTick : DWord
  deriving DecidableEq, Repr

/-- The FEATURE payload (15 R385). A mark is its two 8-byte words (03 R97). -/
structure FeatureMsg where
  handle : Word
  endFlag : Bool
  marks : List (DWord × DWord)
  first : DWord
  frameBytes : Word
  frames : List (List Byte)
  deriving DecidableEq, Repr

/-- The PACK_EXPORT payload but for its mode (15 R384). -/
structure ExportParams where
  handle : Word
  toDevice : Bool
  device : Half
  op : OpenParams
  deriving DecidableEq, Repr

structure BuildParams where
  pitch : Byte
  domain : Byte
  mode : Byte
  acct : Byte
  fault : Byte
  qmask : Half
  deriving DecidableEq, Repr

structure CtxParams where
  ctx : Half
  pitch : Byte
  cls : Byte
  weight : Byte
  weightPages : Byte
  workPages : Byte
  spill : DWord
  deriving DecidableEq, Repr

/-- The kinds of unit that tiles run on (09 R221, R229). -/
inductive UnitKind where
  | square | gate | expand | kiosk
  deriving DecidableEq, Repr

/-- What is to be released (09 R234): an execution that waits, or the BE work of a Pitch, whose batch is formed at
the dispatch (04 R127). -/
inductive RelSel where
  | exec (id : Nat)
  | be (p : PitchNo)
  deriving DecidableEq, Repr

/-- Kiosk instruction formats (11 R286). -/
structure FV where
  d : BitVec 5
  a : BitVec 5
  b : BitVec 5
  msk : BitVec 3
  fn : BitVec 4
  ty : BitVec 4
  deriving DecidableEq, Repr

structure FI where
  d : BitVec 5
  a : BitVec 5
  imm : BitVec 16
  deriving DecidableEq, Repr

structure FM where
  d : BitVec 5
  a : BitVec 5
  msk : BitVec 3
  sz : BitVec 2
  off : BitVec 11
  deriving DecidableEq, Repr

structure FB where
  a : BitVec 5
  b : BitVec 5
  off : BitVec 16
  deriving DecidableEq, Repr

structure FS where
  a : BitVec 5
  b : BitVec 5
  imm : BitVec 16
  deriving DecidableEq, Repr

/-- The requester of a block read and the owner its failure is charged to (12 R313, R314). -/
inductive MemReq where
  | swapIn (i : StreamNo)
  | restore (c : CtxNo)
  | staging (exec : Nat)
  | refetch (exec : Nat)
  | kiosk (k : KioskNo)
  | loadPath (p : PitchNo)
  | voiceOpen
  | voiceHash
  | voiceFrame (i : StreamNo)
  | adapter (i : StreamNo)
  | mover (n : ChanNo)
  | mgmt
  | host
  | scrub
  deriving DecidableEq, Repr

/-- One received Ethernet frame, as the checks of 15 R372 see it. -/
structure EthFrame where
  len : Nat
  fcsOk : Bool
  pause : Bool
  tags : List (BitVec 12)
  deriving DecidableEq, Repr

/-- What the flash, the memory and the self-test answer during a start (17 R428 to R431, 18 R458, R463). -/
structure StartEnv where
  flashAnswers : Bool
  flashMiB : Nat
  dirOk : Bool
  counterAuth : Bool
  pufOk : Bool
  trained : Bool
  qfail : BitVec 16
  dirFail : List StreamNo
  startMs : Nat
  deriving DecidableEq, Repr

/-- Pins of an audio port (14 R351). -/
inductive PortPin where
  | bclk | fsync | sdo
  deriving DecidableEq, Repr

/-- The commands, in the order of spec/opcode_table.json. -/
inductive Instr where
  -- ticks (01)
  | tickEdge (d : Dom)
  | sourceEdge (d : Dom) (offPpm : Int) (intervalPpm : Nat)
  | predictedEdgeMissed (d : Dom)
  | tickHoldover (d : Dom)
  | tickLocked (d : Dom)
  | monitorIntervalEnd (d : Dom)
  | tickEnSet (d : Dom)
  | tickEnClear (d : Dom)
  | tickSrcChange (d : Dom) (src : BitVec 3) (mult : BitVec 2) (link : BitVec 6)
  | tickRestart (d : Dom)
  | tickFrameWrite (d : Dom) (v : Word)
  -- registers (00)
  | latchedLoRead (rq : Requester) (off : Word)
  | rcRead (rq : Requester) (off : Word)
  | registerWrite (rq : Requester) (off : Word) (v : Word)
  -- streams and voices (02)
  | streamOpen (h : Hdr) (p : OpenParams)
  | streamCloseDrain (h : Hdr) (handle : Word)
  | streamCloseAbort (h : Hdr) (handle : Word)
  | streamDrained (i : StreamNo)
  | streamAbortDone (i : StreamNo)
  | streamPause (h : Hdr) (handle : Word)
  | streamResume (h : Hdr) (handle : Word)
  | streamSetGroup (h : Hdr) (handle : Word) (group : Half)
  | streamStats (h : Hdr) (handle : Word) (claim : Bool)
  | voiceSet (h : Hdr) (voice : Half) (entry : List Byte)
  | voiceClear (h : Hdr) (voice : Half)
  | feature (h : Hdr) (m : FeatureMsg)
  | chunkCut (i : StreamNo)
  -- residency and packs (03)
  | swapStart (w : Ward)
  | swapOutDone (w : Ward)
  | swapInDone (w : Ward)
  | slotCopyDone (w : Ward)
  | packExportSnapshot (h : Hdr) (e : ExportParams)
  | packExportMove (h : Hdr) (e : ExportParams)
  | packCapture (i : StreamNo)
  | packDelivered (i : StreamNo)
  | packImport (h : Hdr) (laneMode : Byte) (op : OpenParams) (pack : List Byte)
  -- executions and tiles (09)
  | execRelease (sel : RelSel)
  | tileDispatch (q : Quarter) (k : UnitKind)
  | tileEnd (q : Quarter) (k : UnitKind) (unit : Nat)
  | tileTimeout (q : Quarter) (k : UnitKind) (unit : Nat)
  | fetchDiscard (exec : Nat)
  | cancelComplete (exec : Nat)
  | pitchDispatchResume (p : PitchNo)
  | tstlArm (n : BitVec 14)
  | tstlPass (n : BitVec 14)
  | tstlReset (n : BitVec 14)
  | graphLoad (h : Hdr) (pitch : Byte) (ctx : Half) (addr : DWord)
  | graphCopyDone (p : PitchNo)
  | graphUnload (h : Hdr) (pitch : Byte) (model : Half)
  | graphUnloadDone (p : PitchNo) (model : Half)
  -- Pitches and contexts (10)
  | pitchBuild (h : Hdr) (b : BuildParams)
  | pitchBuildDone (p : PitchNo)
  | pitchDissolve (h : Hdr) (pitch : Byte)
  | ctxRegister (h : Hdr) (c : CtxParams)
  | ctxAdmit (h : Hdr) (ctx : Half)
  | ctxTeardown (h : Hdr) (ctx : Half)
  | ctxSpillDone (c : CtxNo)
  | ctxRestoreDone (c : CtxNo)
  -- Kiosk instructions and events (11)
  | kNop (k : KioskNo) (f : FS)
  | kEnd (k : KioskNo) (f : FS)
  | kYield (k : KioskNo) (f : FS)
  | kWait (k : KioskNo) (f : FS)
  | kWaitMet (k : KioskNo)
  | kPass (k : KioskNo) (f : FS)
  | kArm (k : KioskNo) (f : FS)
  | kTrst (k : KioskNo) (f : FS)
  | kFlush (k : KioskNo) (f : FS)
  | kInv (k : KioskNo) (f : FS)
  | kFence (k : KioskNo) (f : FS)
  | kioskReleaseDone (k : KioskNo)
  | kCsr (k : KioskNo) (f : FS)
  | kOpr (k : KioskNo) (f : FS)
  | addi (k : KioskNo) (f : FI)
  | lui (k : KioskNo) (f : FI)
  | salu (k : KioskNo) (f : FV)
  | ld (k : KioskNo) (f : FM)
  | st (k : KioskNo) (f : FM)
  | vld (k : KioskNo) (f : FM)
  | vst (k : KioskNo) (f : FM)
  | beq (k : KioskNo) (f : FB)
  | bne (k : KioskNo) (f : FB)
  | blt (k : KioskNo) (f : FB)
  | bltu (k : KioskNo) (f : FB)
  | jal (k : KioskNo) (f : FI)
  | jr (k : KioskNo) (f : FI)
  | valu (k : KioskNo) (f : FV)
  | vfma (k : KioskNo) (f : FV)
  | vcmp (k : KioskNo) (f : FV)
  | vcvt (k : KioskNo) (f : FV)
  | klog2 (k : KioskNo) (f : FV)
  | kexp2 (k : KioskNo) (f : FV)
  | ksqrt (k : KioskNo) (f : FV)
  | krcp (k : KioskNo) (f : FV)
  | ksincosTurn (k : KioskNo) (f : FV)
  | vmovs (k : KioskNo) (f : FV)
  | vred (k : KioskNo) (f : FV)
  | vgather (k : KioskNo) (f : FV)
  | vscatter (k : KioskNo) (f : FV)
  | kioskOverlength (k : KioskNo)
  | kioskCacheEvict (k : KioskNo) (addr : Nat)
  | kskExcClear (k : KioskNo)
  -- memory checks (12)
  | blockRead (addr : BitVec 48) (rq : MemReq) (reads : List (List Byte × BitVec 16))
  | scrubRead (addr : BitVec 48) (reads : List (List Byte × BitVec 16))
  | retryWarnSecond
  | parityRefetchDone (q : Quarter) (addr : BitVec 48)
  -- movers (13)
  | movrEnSet (n : ChanNo)
  | movrEnClear (n : ChanNo)
  | movrPauseSet (n : ChanNo)
  | movrPauseClear (n : ChanNo)
  | movrPaused (n : ChanNo)
  | movrStart (n : ChanNo) (rq : Requester)
  | movrResume (n : ChanNo)
  | movrAbort (n : ChanNo)
  | movrTimerTrigger (n : ChanNo)
  | movrDescFetch (n : ChanNo)
  | movrReadData (n : ChanNo)
  | movrDescComplete (n : ChanNo)
  -- audio ports (14)
  | portEnSet (p : PortNo)
  | portEnClear (p : PortNo)
  | portRestart (p : PortNo)
  | portFrameStart (p : PortNo)
  | portRxFrame (p : PortNo) (bclks : Nat) (slots : List Word)
  | portClockLost (p : PortNo)
  | portClockRegained (p : PortNo)
  | portRateMeasure (p : PortNo) (rate16 : Nat)
  | portPinShort (p : PortNo) (pin : PortPin)
  | sdoContention (p : PortNo)
  | wclkOutShort
  -- Ethernet and KTP (15)
  | ethFrameRx (p : EthNo) (f : EthFrame)
  | ethLinkChange (p : EthNo) (up : Bool) (lanes : BitVec 4)
  | ethNoLight (p : EthNo)
  | arpRequest (p : EthNo) (target : Word) (src : Peer)
  | neighbourSolicitation (p : EthNo) (target : BitVec 128) (src : Peer)
  | icmpEcho (p : EthNo) (target : Word) (src : Peer) (data : List Byte)
  | icmpv6Echo (p : EthNo) (target : BitVec 128) (src : Peer) (data : List Byte)
  | ktpDatagram (src : Peer) (dst : BitVec 128) (udp : Half) (data : List Byte)
  | ktpAckDelay (session : Nat)
  | ktpRetxTimeout (session : Nat)
  | ktpSessionIdle (session : Nat)
  | sessionOpen (src : Peer) (tag epoch : Word) (evtMask : Word) (maxPayload : Half)
  | sessionClose (h : Hdr)
  | ping (h : Hdr)
  | status (h : Hdr)
  | identity (h : Hdr)
  | imageUpload (h : Hdr) (kind : Byte) (offset total : Word) (data : List Byte)
  | imageProgramDone (ok : Bool)
  | resetMgmt (h : Hdr)
  | mgmtResetFire
  | resetPitch (h : Hdr) (pitch : Byte)
  | regRead (h : Hdr) (addrs : List DWord)
  | regWrite (h : Hdr) (entries : List (DWord × Word))
  | memRead (h : Hdr) (addr : DWord) (len : Word)
  | memWrite (h : Hdr) (addr : DWord) (data : List Byte)
  | configStage (h : Hdr) (data : List Byte)
  | configCommit (h : Hdr)
  | configCommitTimer
  | pitchRollDrainDone (p : PitchNo)
  | configRead (h : Hdr)
  | authPolicy (h : Hdr) (policy : List Byte) (tokens : List (List Byte))
  | attest (h : Hdr) (nonce : List Byte)
  | attestSignDone
  | debugLevel (h : Hdr) (level : Byte) (tokens : List (List Byte))
  | twinDetach (h : Hdr)
  | hostReturnSend (i : StreamNo)
  | beHostTake (i : StreamNo)
  | ptpSync (p : EthNo) (seq : Half) (twoStep : Bool) (t1 t2 : Int) (freqPpm : Int)
  | ptpFollowUp (p : EthNo) (seq : Half) (t1 : Int)
  | ptpDelayResp (p : EthNo) (seq : Half) (t4 : Int)
  | ptpAnnounce (p : EthNo) (clock : DWord) (better : Bool)
  | ptpDelayReqTimer (p : EthNo) (t3 : Int)
  | ptpAnnounceTimeout (p : EthNo)
  | rtpEnSet (r : RtpNo)
  | rtpPacketSend (r : RtpNo)
  -- links and twin (16)
  | linkEnSet (n : LinkNo)
  | linkEnClear (n : LinkNo)
  | linkSignalDetect (n : LinkNo)
  | linkSeekTimeout (n : LinkNo)
  | linkPatternDecoded (n : LinkNo) (inverted : Bool)
  | linkTrainSend (n : LinkNo)
  | linkFlitRx (n : LinkNo) (flit : List Byte)
  | linkAckTimeout (n : LinkNo)
  | linkSignalLoss (n : LinkNo)
  | linkRetrainTimer (n : LinkNo)
  | linkRetryWarn (n : LinkNo)
  | routeInstall
  | packXfer (src : Half) (tag : Word) (body : List Byte)
  | packResult (src : Half) (body : List Byte)
  | packXferTimeout (handle : Word)
  | twinAttach (n : LinkNo)
  | twinInput (record : List Byte)
  | twinCkpt (f : DWord) (tag : Word) (pack : List Byte)
  | twinCkptEnd (f : DWord) (cnt : Word)
  | twinHb (d : Dom) (tick : DWord)
  | twinHbLoss
  | twinPrimaryLoss
  | twinTakeover
  | twinRestoreDone
  | twinOrder
  | imageReq (src : Half) (offset : Word)
  | imageData (offset total : Word) (data : List Byte)
  | imageFetchRetry
  -- supplies, start, resets (17, 21)
  | supplyStagesStart
  | supplyFault
  | pwrGoodRise
  | pwrGoodHeldLow
  | pinReset
  | pinResetRelease
  | deviceStart (env : StartEnv)
  | startStepTimeout (step : Nat)
  | watchdogTimeout
  | thermalTrip
  | thermalRelease
  -- power and debug (18)
  | pwrReqP1
  | pwrReqP2
  | pwrReqP3
  | powerEntryDone
  | wakePin
  | wakeTimer
  | wakeDone
  | powerMeasure (deciwatts : Nat)
  | kioskHaltSet
  | kioskHaltClear
  | kioskStep
  | kioskExcRelease
  | kioskViewWrite (v : Word)
  | jtagDbgAccess (write : Bool) (addr : DWord) (v : Word)
  -- recorder (19)
  | trecStatus (h : Hdr)
  | trecRead (h : Hdr) (seq : DWord) (count : Word)
  | trecAck (h : Hdr) (seq : DWord)
  | trecClear (h : Hdr)
  | replayBegin (h : Hdr)
  | replayData (h : Hdr) (data : List Byte)
  | replayEnd (h : Hdr)
  -- late rows of the table
  | flitBoundary (n : LinkNo)
  | reservedOpcode (k : KioskNo) (w : Word)
  | fetchOutsideImage (k : KioskNo)
  deriving DecidableEq, Repr

end Sys2Proof
end

