-- ==== Sys2Proof/Machine/Fp.lean ====
section
/-! DEFINITION. Number formats, rounding and the arithmetic of the Squares, the gate pipelines and the Kiosks
(05 R133 to R147, 04 R120 to R122, 11 R289, R290). A finite value is kept as sign, magnitude and power of two. -/

namespace Sys2Proof.Machine

/-- A floating format (05 R133). `top` is the encoding of the largest finite value; `infs` says whether the format
has infinities; `nan` is its canonical NaN (05 R147). -/
structure Fmt where
  eb : Nat
  mb : Nat
  bias : Nat
  top : Nat
  infs : Bool
  nans : Bool
  nan : Nat
  deriving DecidableEq, Repr

def fp32 : Fmt := ⟨8, 23, 127, 0x7F7FFFFF, true, true, 0x7FC00000⟩
def fp16 : Fmt := ⟨5, 10, 15, 0x7BFF, true, true, 0x7E00⟩
def bf16 : Fmt := ⟨8, 7, 127, 0x7F7F, true, true, 0x7FC0⟩
def e4m3 : Fmt := ⟨4, 3, 7, 0x7E, false, true, 0x7F⟩
def e5m2 : Fmt := ⟨5, 2, 15, 0x7B, true, true, 0x7E⟩
def e2m1 : Fmt := ⟨2, 1, 1, 0x7, false, false, 0⟩
def e2m3 : Fmt := ⟨2, 3, 1, 0x1F, false, false, 0⟩
def e3m2 : Fmt := ⟨3, 2, 3, 0x1F, false, false, 0⟩

/-- A decoded value: (−1)^s · m · 2^e when finite. -/
inductive FVal where
  | nan
  | inf (s : Bool)
  | fin (s : Bool) (m : Nat) (e : Int)
  deriving DecidableEq, Repr

def Fmt.width (f : Fmt) : Nat := 1 + f.eb + f.mb

/-- The power of two of a format's smallest subnormal. -/
def Fmt.qmin (f : Fmt) : Int := 1 - (f.bias : Int) - (f.mb : Int)

/-- The value an encoding stands for (05 R133). -/
def fpDecode (f : Fmt) (v : Nat) : FVal :=
  let s := v.testBit (f.eb + f.mb)
  let mag := v % 2 ^ (f.eb + f.mb)
  let ex := mag / 2 ^ f.mb
  let ma := mag % 2 ^ f.mb
  if mag > f.top then
    if f.infs && (mag == f.top + 1) then .inf s else .nan
  else if ex = 0 then .fin s ma f.qmin
  else .fin s (ma + 2 ^ f.mb) (f.qmin + (ex : Int) - 1)

/-- The encoding magnitude of m · 2^e in a format whose exponent is unbounded above, rounded by `pick`, which is given
the truncated significand, the discarded bits and how many they are (05 R144). -/
def roundMag (f : Fmt) (pick : Nat → Nat → Nat → Nat) (m : Nat) (e : Int) : Nat :=
  if m = 0 then 0 else
    let q := max f.qmin ((Nat.log2 m : Int) + e - (f.mb : Int))
    let k :=
      if q ≤ e then m * 2 ^ (e - q).toNat
      else
        let sh := (q - e).toNat
        pick (m / 2 ^ sh) (m % 2 ^ sh) sh
    (q - f.qmin).toNat * 2 ^ f.mb + k

/-- Round to nearest, ties to even (05 R144). -/
def pickRne (k r sh : Nat) : Nat :=
  let half := 2 ^ (sh - 1)
  if r > half || (r == half && k % 2 == 1) then k + 1 else k

/-- Stochastic rounding by the two top discarded bits and a random bit (05 R145). -/
def pickSr (bit : Bool) (k r sh : Nat) : Nat :=
  if r = 0 then k else
    let b1 := r.testBit (sh - 1)
    let b0 := if sh ≥ 2 then r.testBit (sh - 2) else false
    match b1, b0 with
    | false, false => k
    | true, true => k + 1
    | _, _ => if bit then k + 1 else k

def withSign (f : Fmt) (s : Bool) (mag : Nat) : Nat := if s then mag + 2 ^ (f.eb + f.mb) else mag

/-- Round m · 2^e of sign s to a format with infinities, overflow to infinity (05 R144, R143). -/
def rneTo (f : Fmt) (s : Bool) (m : Nat) (e : Int) : Nat :=
  let k := roundMag f pickRne m e
  withSign f s (if k > f.top then f.top + 1 else k)

def rne32 (s : Bool) (m : Nat) (e : Int) : Nat := rneTo fp32 s m e

def nan32 : Nat := 0x7FC00000
def inf32 (s : Bool) : Nat := withSign fp32 s 0x7F800000

def isNan (f : Fmt) (v : Nat) : Bool := match fpDecode f v with | .nan => true | _ => false
def isFinite32 (v : Nat) : Bool := match fpDecode fp32 v with | .fin _ _ _ => true | _ => false

/-- A value as an integer over 2^e, with its power. -/
def sgn (s : Bool) (m : Nat) : Int := if s then -(m : Int) else (m : Int)

/-- An exact sum of two dyadic numbers: integer and power of two. -/
def dyAdd (a b : Int × Int) : Int × Int :=
  if a.2 ≤ b.2 then (a.1 + b.1 * 2 ^ (b.2 - a.2).toNat, a.2) else (a.1 * 2 ^ (a.2 - b.2).toNat + b.1, b.2)

/-- Whether a value is NaN, an infinity, or zero. -/
def FVal.isNan : FVal → Bool
  | .nan => true
  | _ => false

def FVal.isInf : FVal → Bool
  | .inf _ => true
  | _ => false

def FVal.isZero : FVal → Bool
  | .fin _ m _ => m == 0
  | _ => false

def FVal.neg : FVal → Bool
  | .nan => false
  | .inf s => s
  | .fin s _ _ => s

/-- The finite value as integer and power of two (zero for the others). -/
def FVal.dy : FVal → Int × Int
  | .fin s m e => (sgn s m, e)
  | _ => (0, 0)

/-- a × b + c with one rounding and IEEE 754 special cases and zero signs (05 R143). -/
def fpFmaV (f : Fmt) (a b c : FVal) : Nat :=
  let ps := a.neg != b.neg
  let pInf := a.isInf || b.isInf
  if a.isNan || b.isNan || c.isNan then f.nan
  else if (a.isInf && b.isZero) || (a.isZero && b.isInf) then f.nan
  else if pInf && c.isInf && ps != c.neg then f.nan
  else if pInf then withSign f ps (f.top + 1)
  else if c.isInf then withSign f c.neg (f.top + 1)
  else
    let p := dyAdd (a.dy.1 * b.dy.1, a.dy.2 + b.dy.2) c.dy
    -- both terms zero of one sign keep it; every other exact zero is +0
    if p.1 = 0 then (if (a.isZero || b.isZero) && c.isZero && ps && c.neg then withSign f true 0 else 0)
    else rneTo f (decide (p.1 < 0)) p.1.natAbs p.2

def fpFma (f : Fmt) (a b c : Nat) : Nat := fpFmaV f (fpDecode f a) (fpDecode f b) (fpDecode f c)

def fpOne (f : Fmt) : Nat := f.bias * 2 ^ f.mb
def fpNegate (f : Fmt) (a : Nat) : Nat := a ^^^ 2 ^ (f.eb + f.mb)
def fpAdd (f : Fmt) (a b : Nat) : Nat := fpFma f a (fpOne f) b
def fpSub (f : Fmt) (a b : Nat) : Nat := if isNan f b then f.nan else fpAdd f a (fpNegate f b)

def fpMul (f : Fmt) (a b : Nat) : Nat :=
  let x := fpDecode f a
  let y := fpDecode f b
  let s := x.neg != y.neg
  if x.isNan || y.isNan then f.nan
  else if (x.isInf && y.isZero) || (x.isZero && y.isInf) then f.nan
  else if x.isInf || y.isInf then withSign f s (f.top + 1)
  else rneTo f s (x.dy.1 * y.dy.1).natAbs (x.dy.2 + y.dy.2)

/-- Numeric order of two decoded values, −0 below +0 when `zeros` (11 R289); NaN is below nothing. -/
def fpLt (f : Fmt) (zeros : Bool) (a b : Nat) : Bool :=
  match fpDecode f a, fpDecode f b with
  | .nan, _ => false
  | _, .nan => false
  | .inf s, .inf t => s && !t
  | .inf s, .fin _ _ _ => s
  | .fin _ _ _, .inf t => !t
  | .fin s m e, .fin t n g =>
    let d := dyAdd (sgn s m, e) (sgn (!t) n, g)
    if d.1 < 0 then true else if d.1 > 0 then false
    else zeros && m == 0 && n == 0 && s && !t

def fpEq (f : Fmt) (a b : Nat) : Bool :=
  !isNan f a && !isNan f b && !fpLt f false a b && !fpLt f false b a

/-- MIN and MAX: the other operand when exactly one is NaN, −0 below +0 (11 R289). -/
def fpMin (f : Fmt) (a b : Nat) : Nat :=
  if isNan f a then (if isNan f b then f.nan else b) else if isNan f b then a
  else if fpLt f true b a then b else a

def fpMax (f : Fmt) (a b : Nat) : Nat :=
  if isNan f a then (if isNan f b then f.nan else b) else if isNan f b then a
  else if fpLt f true a b then b else a

/-- Conversion of a decoded value to a format under RND and SAT (05 R144, R145, R147). -/
def narrow (f : Fmt) (sr sat bit : Bool) : FVal → Nat
  | .nan => f.nan
  | .inf s => if sat then withSign f s f.top else if f.infs then withSign f s (f.top + 1) else withSign f s 0x7F
  | .fin s m e =>
    let k := roundMag f (if sr then pickSr bit else pickRne) m e
    if k > f.top then
      if sat then withSign f s f.top else withSign f s (f.top + 1)
    else withSign f s k

/-- Whether an OUT element counts in QTR_OUT_OVF_CNT (05 R148). -/
def outOverflows (f : Fmt) (sr sat bit : Bool) : FVal → Bool
  | .nan => false
  | .inf _ => sat || !f.infs
  | .fin _ m e => decide (roundMag f (if sr then pickSr bit else pickRne) m e > f.top)

/-- Widening to FP32 is exact; a NaN becomes the canonical NaN (05 R141). -/
def widen32 (f : Fmt) (v : Nat) : Nat :=
  match fpDecode f v with
  | .nan => nan32
  | .inf s => inf32 s
  | .fin s m e => withSign fp32 s (roundMag fp32 pickRne m e)

/-! ### Real functions by integer arithmetic

A real is held as an integer over 2^`fxP`, cut towards minus infinity. The results below are irrational wherever they
are used, so the remainder is never zero: one sticky bit below the cut makes the rounding of the exact value come out
right, as long as no result lies within the cut's error of a rounding boundary. -/

def fxP : Nat := 288
def fxOne : Int := 2 ^ fxP
def fxMul (a b : Int) : Int := (a * b) / fxOne
def fxDiv (a b : Int) : Int := (a * fxOne) / b

/-- Σ over odd powers of z: `step k` divides the term of index k. -/
def fxOddSeries (alt : Bool) (z2 : Int) : Nat → Nat → Int → Int → Int
  | 0, _, _, acc => acc
  | n + 1, k, p, acc =>
    let term := p / (2 * k + 1)
    fxOddSeries alt z2 n (k + 1) (fxMul p z2) (if alt && k % 2 == 1 then acc - term else acc + term)

def fxAtanh (z : Int) : Int := fxOddSeries false (fxMul z z) 110 0 z 0
def fxAtan (z : Int) : Int := fxOddSeries true (fxMul z z) 110 0 z 0
def fxLn2 : Int := 2 * fxAtanh (fxOne / 3)
def fxPi : Int := 16 * fxAtan (fxOne / 5) - 4 * fxAtan (fxOne / 239)

/-- ln of a positive fixed-point number. -/
def fxLn (v : Int) : Int :=
  let k : Int := (Nat.log2 v.toNat : Int) - (fxP : Int)
  let m := if 0 ≤ k then v / 2 ^ k.toNat else v * 2 ^ (-k).toNat
  2 * fxAtanh (fxDiv (m - fxOne) (m + fxOne)) + k * fxLn2

/-- Σ x^k / k!, `n` terms. -/
def fxExpSeries (x : Int) : Nat → Nat → Int → Int → Int
  | 0, _, _, acc => acc
  | n + 1, k, p, acc => fxExpSeries x n (k + 1) (fxMul p x / (k + 1)) (acc + p)

/-- e^x as a fixed-point number. -/
def fxExp (x : Int) : Int :=
  let n := x / fxLn2
  let r := fxExpSeries (x - n * fxLn2) 75 0 fxOne 0
  if 0 ≤ n then r * 2 ^ n.toNat else r / 2 ^ (-n).toNat

/-- Alternating Σ of a Taylor series in steps of two: sin from k = 1, cos from k = 0. -/
def fxTrig (x2 : Int) : Nat → Nat → Int → Int → Bool → Int
  | 0, _, _, acc, _ => acc
  | n + 1, k, p, acc, neg =>
    fxTrig x2 n (k + 2) (fxMul p x2 / ((k + 1) * (k + 2))) (if neg then acc - p else acc + p) (!neg)

def fxSin (x : Int) : Int := fxTrig (fxMul x x) 40 1 x 0 false
def fxCos (x : Int) : Int := fxTrig (fxMul x x) 40 0 fxOne 0 false

/-- Round an irrational fixed-point number to FP32 (sticky bit below the cut). -/
def fxRne32 (v : Int) : Nat := rne32 (decide (v < 0)) (2 * v.natAbs + 1) (-((fxP : Int) + 1))

/-- A quotient of naturals as FP32, exactly rounded. -/
def ratRne32 (n d : Nat) : Nat :=
  let q := n * 2 ^ fxP / d
  rne32 false (2 * q + (if n * 2 ^ fxP % d = 0 then 0 else 1)) (-((fxP : Int) + 1))

/-- TT[k] (04 R121). -/
def tanhTab (k : Nat) : Nat :=
  if k = 0 then 0 else
    let e := fxExp (fxOne * k / 32)
    fxRne32 (fxDiv (e - fxOne) (e + fxOne))

/-- ST[k] (04 R121). -/
def sigTab (k : Nat) : Nat :=
  if k = 0 then 0x3F000000 else
    let e := fxExp (-(fxOne * k / 32))
    fxRne32 (fxDiv fxOne (fxOne + e))

/-- The table lookup with one fused interpolation that SIG and TANH share: a = m · 2^e, scaled by 2^sh (04 R121). -/
def tabInterp (tab : Nat → Nat) (m : Nat) (e : Int) (sh : Nat) : Nat :=
  let e2 := e + (sh : Int)
  let i := if 0 ≤ e2 then m * 2 ^ e2.toNat else m / 2 ^ (-e2).toNat
  let fr := if 0 ≤ e2 then 0 else m % 2 ^ (-e2).toNat
  let f := rne32 false fr e2
  let d := fpSub fp32 (tab (i + 1)) (tab i)
  fpFma fp32 f d (tab i)

/-- |m · 2^e| ≥ n. -/
def magGe (m : Nat) (e : Int) (n : Nat) : Bool :=
  if 0 ≤ e then decide (n ≤ m * 2 ^ e.toNat) else decide (n * 2 ^ (-e).toNat ≤ m)

/-- tanh_gp (04 R121, R122). -/
def tanhGp (x : Nat) : Nat :=
  match fpDecode fp32 x with
  | .nan => nan32
  | .inf s => withSign fp32 s 0x3F800000
  | .fin s m e =>
    if m = 0 then 0 else
      withSign fp32 s (if magGe m e 8 then 0x3F800000 else tabInterp tanhTab m e 6)

/-- sigmoid_gp (04 R121, R122). -/
def sigGp (x : Nat) : Nat :=
  match fpDecode fp32 x with
  | .nan => nan32
  | .inf s => if s then 0 else 0x3F800000
  | .fin s m e =>
    let y := if magGe m e 16 then 0x3F800000 else tabInterp sigTab m e 5
    if s && m != 0 then fpSub fp32 0x3F800000 y else y

/-- KLOG2 (11 R289). -/
def kLog2 (x : Nat) : Nat :=
  match fpDecode fp32 x with
  | .nan => nan32
  | .inf s => if s then nan32 else inf32 false
  | .fin s m e =>
    if m = 0 then inf32 true else if s then nan32 else
      let k : Int := (Nat.log2 m : Int)
      if m = 2 ^ k.toNat then
        rne32 (decide (k + e < 0)) (k + e).natAbs 0
      else
        let fr : Int := (m : Int) * 2 ^ (fxP - k.toNat)
        fxRne32 ((k + e) * fxOne + fxDiv (fxLn fr) fxLn2)

/-- KEXP2 (11 R289). -/
def kExp2 (x : Nat) : Nat :=
  match fpDecode fp32 x with
  | .nan => nan32
  | .inf s => if s then 0 else inf32 false
  | .fin s m e =>
    if magGe m e 256 then (if s then 0 else inf32 false) else
      -- x = n + r, 0 ≤ r < 1, exact at 2^-fxP since e ≥ -149
      let v : Int := (if s then -1 else 1) * (if 0 ≤ e then (m : Int) * 2 ^ (e.toNat + fxP) else
        (m : Int) * 2 ^ (fxP - (-e).toNat))
      let n := v / fxOne
      let r := v - n * fxOne
      if r = 0 then rne32 false 1 n
      else rne32 false (2 * (fxExp (fxMul r fxLn2)).natAbs + 1) (n - (fxP : Int) - 1)

/-- KSQRT (11 R289). -/
def kSqrt (x : Nat) : Nat :=
  match fpDecode fp32 x with
  | .nan => nan32
  | .inf s => if s then nan32 else inf32 false
  | .fin s m e =>
    if m = 0 then x else if s then nan32 else
      let m2 := if e % 2 = 0 then m else 2 * m
      let e2 := if e % 2 = 0 then e else e - 1
      let big := m2 * 4 ^ 40
      let r := Nat.sqrt big
      rne32 false (2 * r + (if r * r = big then 0 else 1)) (e2 / 2 - 41)

/-- KRCP (11 R289). -/
def kRcp (x : Nat) : Nat :=
  match fpDecode fp32 x with
  | .nan => nan32
  | .inf s => withSign fp32 s 0
  | .fin s m e =>
    if m = 0 then inf32 s else
      let q := 2 ^ 80 / m
      rne32 s (2 * q + (if 2 ^ 80 % m = 0 then 0 else 1)) (-e - 81)

/-- cos 2πx and sin 2πx (11 R289). -/
def kSincosTurn (x : Nat) : Nat × Nat :=
  match fpDecode fp32 x with
  | .nan => (nan32, nan32)
  | .inf _ => (nan32, nan32)
  | .fin s m e =>
    let v : Int := (if s then -1 else 1) * (if 0 ≤ e then 0 else (m : Int) * 2 ^ (fxP - (-e).toNat))
    let t := (v % fxOne) * 4
    let q := t / fxOne
    let f := t - q * fxOne
    let one := 0x3F800000
    let mone := 0xBF800000
    if f = 0 then
      if q = 0 then (one, 0) else if q = 1 then (0, one) else if q = 2 then (mone, 0) else (0, mone)
    else
      -- angles above an eighth turn are taken from the other axis, so small results keep their precision
      let a := fxMul f (fxPi / 2)
      let b := fxMul (fxOne - f) (fxPi / 2)
      let sn := if 2 * f ≤ fxOne then fxSin a else fxCos b
      let cs := if 2 * f ≤ fxOne then fxCos a else fxSin b
      if q = 0 then (fxRne32 cs, fxRne32 sn) else if q = 1 then (fxRne32 (-sn), fxRne32 cs)
      else if q = 2 then (fxRne32 (-cs), fxRne32 (-sn)) else (fxRne32 sn, fxRne32 (-cs))

/-- Conversion to INT32: nearest even, saturating, NaN gives 0 (11 R290). -/
def toInt32 : FVal → Nat
  | .nan => 0
  | .inf s => if s then 2 ^ 31 else 2 ^ 31 - 1
  | .fin s m e =>
    let k := if 0 ≤ e then m * 2 ^ (min e.toNat 64) else
      let sh := (-e).toNat
      pickRne (m / 2 ^ sh) (m % 2 ^ sh) sh
    if s then (if k ≥ 2 ^ 31 then 2 ^ 31 else (2 ^ 32 - k) % 2 ^ 32)
    else (if k ≥ 2 ^ 31 then 2 ^ 31 - 1 else k)

/-- A two's complement number as a value. -/
def ofInt (v : Int) : FVal := .fin (decide (v < 0)) v.natAbs 0

/-! ### Square results (05 R137 to R140) -/

/-- The product terms of a sum: exact finite part, and which special terms occur. -/
structure ExSum where
  nan : Bool
  pinf : Bool
  ninf : Bool
  v : Int × Int
  deriving DecidableEq, Repr

def exZero : ExSum := ⟨false, false, false, (0, 0)⟩

/-- Add one product a × b to an exact sum (05 R137, R140). -/
def exMac (t : ExSum) (a b : FVal) : ExSum :=
  let s := a.neg != b.neg
  if a.isNan || b.isNan || (a.isInf && b.isZero) || (a.isZero && b.isInf) then { t with nan := true }
  else if a.isInf || b.isInf then (if s then { t with ninf := true } else { t with pinf := true })
  else { t with v := dyAdd t.v (a.dy.1 * b.dy.1, a.dy.2 + b.dy.2) }

/-- One pass on one accumulator (05 R137, R139, R140). -/
def passUpdate (acc : Nat) (t : ExSum) : Nat :=
  match fpDecode fp32 acc with
  | .nan => nan32
  | .inf s =>
    if t.nan || (s && t.pinf) || (!s && t.ninf) || (t.pinf && t.ninf) then nan32 else inf32 s
  | .fin s m e =>
    if t.nan || (t.pinf && t.ninf) then nan32
    else if t.pinf then inf32 false
    else if t.ninf then inf32 true
    else
      let r := dyAdd (sgn s m, e) t.v
      if r.1 = 0 then 0 else
        let o := rne32 (decide (r.1 < 0)) r.1.natAbs r.2
        if o = 0x80000000 then 0 else o

/-- COMBINE: ascending additions, −0 turned to +0 (04 R120). -/
def combine (parts : List Nat) : Nat :=
  let r := match parts with
    | [] => 0
    | p :: ps => ps.foldl (fpAdd fp32) p
  if r = 0x80000000 then 0 else r

/-! ### Gated cells (07 R174) -/

def gruCell (cr br cz bz cnh bnh cnx bnx h : Nat) : Nat :=
  let r := sigGp (fpAdd fp32 cr br)
  let z := sigGp (fpAdd fp32 cz bz)
  let hn := fpAdd fp32 cnh bnh
  let xn := fpAdd fp32 cnx bnx
  let n := tanhGp (fpFma fp32 r hn xn)
  fpFma fp32 (fpSub fp32 0x3F800000 z) n (fpMul fp32 z h)

def lstmCell (ci bi cf bf cg bg co bo c : Nat) : Nat × Nat :=
  let i := sigGp (fpAdd fp32 ci bi)
  let f := sigGp (fpAdd fp32 cf bf)
  let g := tanhGp (fpAdd fp32 cg bg)
  let o := sigGp (fpAdd fp32 co bo)
  let c1 := fpFma fp32 f c (fpMul fp32 i g)
  (fpMul fp32 o (tanhGp c1), c1)

def minimalCell (cf bf cnh bnh cnx bnx h : Nat) : Nat :=
  let f := sigGp (fpAdd fp32 cf bf)
  let hn := fpAdd fp32 cnh bnh
  let xn := fpAdd fp32 cnx bnx
  let n := tanhGp (fpFma fp32 f hn xn)
  fpFma fp32 (fpSub fp32 0x3F800000 f) h (fpMul fp32 f n)

end Sys2Proof.Machine
end

