-- ==== Sys2Proof/Machine/Rng.lean ====
section
/-! DEFINITION. Lane generators, seeding, random lists and the noise tables (06 R150 to R163). -/

namespace Sys2Proof.Machine

/-- One shift of a lane's generator (06 R151). -/
def lfsrStep (x : Nat) : Nat := if x % 2 = 1 then (x / 2) ^^^ 0x80200003 else x / 2

/-- Thirty-two shifts; the draw value is the new state (06 R152). -/
def draw (x : Nat) : Nat := (List.range 32).foldl (fun a _ => lfsrStep a) x

/-- The generator after `n` draws. -/
def drawsAfter : Nat → Nat → Nat
  | 0, x => x
  | n + 1, x => drawsAfter n (draw x)

/-- 06 R153. -/
def mix64 (z : Nat) : Nat :=
  let z1 := ((z ^^^ (z / 2 ^ 30)) * 0xBF58476D1CE4E5B9) % 2 ^ 64
  let z2 := ((z1 ^^^ (z1 / 2 ^ 27)) * 0x94D049BB133111EB) % 2 ^ 64
  z2 ^^^ (z2 / 2 ^ 31)

def seedLane (seed c s n : Nat) : Nat :=
  let z := mix64 (seed ^^^ mix64 s ^^^ (((c * 64) ||| n) * 0x9E3779B97F4A7C15 % 2 ^ 64))
  let x := (z % 2 ^ 32) ^^^ (z / 2 ^ 32)
  if x = 0 then 1 else x

/-- The set of `lanes` lanes seeded for context code `c` at position `s` (06 R154, R155). -/
def seedSet (lanes seed c s : Nat) : List Nat := (List.range lanes).map (seedLane seed c s)

/-- Kinds of a random list entry (06 R156). -/
inductive RandKind where
  | gumbel | normalTable | normalBm | srBits
  | reserved (code : Nat)
  deriving DecidableEq, Repr

/-- One entry of a random list: kind, elements per row, and the target buffer's place in the working share. -/
structure RandEntry where
  kind : RandKind
  count : Nat
  target : Nat
  deriving DecidableEq, Repr

/-- Draws per lane of one entry with `l` lanes (06 R156). -/
def RandEntry.draws (r : RandEntry) (l : Nat) : Nat :=
  match r.kind with
  | .gumbel => ceilDiv r.count (4 * l)
  | .normalTable => 2 * ceilDiv r.count (4 * l)
  | .normalBm => 2 * ceilDiv r.count (4 * l)
  | .srBits => ceilDiv r.count (32 * l)
  | .reserved _ => 0

/-- D, the draws of a whole list (06 R157). -/
def listDraws (rs : List RandEntry) (l : Nat) : Nat := (rs.map (fun r => r.draws l)).sum

/-- GT[u] (06 R161). -/
def gumbelTab (u : Nat) : Nat := fxRne32 (-(fxLn (-(fxLn (fxOne * (2 * u + 1) / 512)))))

def nxP : Nat := 160
def nxOne : Int := 2 ^ nxP

/-- Σ (−1)^n z^(2n+1) / (n! 2^n (2n+1)), over 2^nxP. -/
def phiSeries (z2 : Int) : Nat → Nat → Int → Int → Int
  | 0, _, _, acc => acc
  | n + 1, k, p, acc =>
    phiSeries z2 n (k + 1) (-(p * z2 / nxOne) / (2 * (k + 1))) (acc + p / (2 * k + 1))

/-- 2^nxP · sqrt(2π). -/
def sqrt2Pi : Int := (Nat.sqrt (2 * fxPi.toNat * 2 ^ (2 * nxP - fxP)) : Int)

/-- Bisection for Φ(z) − 1/2 = target / 2^nxP. -/
def phiInv (target : Int) : Nat → Int → Int → Int
  | 0, lo, _ => lo
  | n + 1, lo, hi =>
    let mid := (lo + hi) / 2
    let v := phiSeries (mid * mid / nxOne) 75 0 mid 0 * nxOne / sqrt2Pi
    if v < target then phiInv target n mid hi else phiInv target n lo mid

/-- NT[k] (06 R162): the inverse normal distribution function at (2k + 1)/512. -/
def normalTab (k : Nat) : Nat :=
  let up := decide (k ≥ 128)
  let j := if up then k else 255 - k
  let z := phiInv (nxOne * (2 * (j : Int) + 1 - 256) / 512) 162 0 (3 * nxOne)
  rne32 (!up) (2 * z.toNat + 1) (-((nxP : Int) + 1))

/-- normal_table (06 R162). -/
def normalTable (a a2 : Nat) : Nat :=
  let t : Int := (a : Int) * 256 + a2 - 128
  if t < 0 then normalTab 0 else
    let i := (t / 256).toNat
    if i ≥ 255 then normalTab 255 else
      let d := fpSub fp32 (normalTab (i + 1)) (normalTab i)
      fpFma fp32 (rne32 false (t % 256).toNat (-8)) d (normalTab i)

/-- box_muller (06 R163): the cosine and the sine result. -/
def boxMuller (p q : Nat) : Nat × Nat :=
  let u1 := rne32 false (2 * p + 1) (-17)
  let u2 := rne32 false (2 * q + 1) (-17)
  let r := kSqrt (fpMul fp32 0xBFB17218 (kLog2 u1))
  let cs := kSincosTurn u2
  (fpMul fp32 r cs.1, fpMul fp32 r cs.2)

/-- Element `e` of an entry, when `drw n k` is draw k of the entry from lane n (06 R158, R159). SR_BITS elements are
0 or 1. -/
def randElem (r : RandEntry) (l : Nat) (drw : Nat → Nat → Nat) (e : Nat) : Nat :=
  let n := e / 4 % l
  let k := e / (4 * l)
  let b := e % 4
  let byteOf (v : Nat) := v / 2 ^ (8 * b) % 256
  match r.kind with
  | .gumbel => gumbelTab (byteOf (drw n k))
  | .normalTable => normalTable (byteOf (drw n (2 * k))) (byteOf (drw n (2 * k + 1)))
  | .normalBm =>
    let sh := if b < 2 then 1 else 2 ^ 16
    let pr := boxMuller (drw n (2 * k) / sh % 2 ^ 16) (drw n (2 * k + 1) / sh % 2 ^ 16)
    if b % 2 = 0 then pr.1 else pr.2
  | .srBits => drw (e / 32 % l) (e / (32 * l)) / 2 ^ (e % 32) % 2
  | .reserved _ => 0

/-- The draws of one lane, the first `n` after state `x`. -/
def laneDraws : Nat → Nat → List Nat
  | 0, _ => []
  | n + 1, x => draw x :: laneDraws n (draw x)

/-- The bytes of an entry's target buffer, given the lane states before the entry (06 R156). The spec does not say what the
bits above element E - 1 of an SR_BITS buffer's last byte hold: they are written as 0 (log 111). -/
def entryBytes (r : RandEntry) (set : List Nat) : List Byte :=
  let l := set.length
  let per := set.map (laneDraws (r.draws l))
  let el (e : Nat) := randElem r l (fun n k => (per.getD n []).getD k 0) e
  match r.kind with
  | .srBits => (List.range (ceilDiv r.count 8)).map (fun i =>
      BitVec.ofNat 8 ((List.range 8).foldl (fun a j => if 8 * i + j < r.count then a + el (8 * i + j) * 2 ^ j else a) 0))
  | .reserved _ => []
  | _ => (List.range r.count).flatMap (fun e => leBytes 4 (el e))

/-- The lane states after an entry. -/
def entryAdvance (r : RandEntry) (set : List Nat) : List Nat := set.map (drawsAfter (r.draws set.length))

end Sys2Proof.Machine
end

