-- ==== Sys2Proof/Config.lean ====
section
/-! DEFINITION. What the spec leaves open: the free values (opaque, without a body, so no proof can use one), and the
readers of image blocks whose byte layout the spec does not give (09 R219: the parameter block, the random lists and the
argument blocks of SQUARE_SEG, GATE, MARK_DECODE and NOISE_FILL tasks). A reader answers plain data that the rules name. -/

namespace Sys2Proof.Config

open Sys2Proof.Machine

/-- A free value drawn at a step: the counter of draws comes from `State.free` (log 1). -/
opaque freeNat : Nat → Nat

/-- An upset of stored bits: of a word of Quarter SRAM or of the directory, of a word of a Kiosk's cache line or write-buffer
entry, of a word of a stream's output queue, or of one of its conditioning frames (12 R318, R319, R321). -/
inductive Upset where
  | none
  | word (a : Nat)
  | line (k addr w : Nat)
  | queue (i : Nat)
  | cond (i : Nat)
  deriving DecidableEq, Repr, Inhabited

/-- The upset, if any, of a period of the internal reference (log 116). -/
opaque upset : Nat → Upset

/-- The rate, in 1/16 Hz, to which the tick generator is steered at a draw, before its clamp (01 R26, R31; log 3). -/
opaque steeredRate : Nat → Nat

/-- Whether an image's two signatures verify under vendor pair `i` (17 R435, 18 R457; log 14). -/
opaque imageSigOk : Nat → List Byte → Bool

/-- Whether a token's two signatures verify under a custodian's keys (18 R468; log 14). -/
opaque tokenSigOk : List Byte → List Byte → Bool

/-- Whether a policy record's identity signatures verify (18 R463; log 14). -/
opaque policySigOk : List Byte → Bool

/-- The identity signatures over a report or a block (18 R460, R470): 384 and 16,224 bytes (log 14). -/
opaque signRsa : List Byte → List Byte
opaque signSlh : List Byte → List Byte

/-- The identity public keys (18 R458; log 14). -/
opaque idRsaN : List Byte
opaque idSlhPk : List Byte

/-- A challenge from the on-die random source (18 R468; log 9). -/
opaque challenge : Nat → List Byte

/-- The rate in kHz at which edges of MCLK_IN arrive in a period of the internal reference; none if none do (14 R370; log 120). -/
opaque mclkIn : Nat → Option Nat

/-- Whether an RTP packetiser or host return has secured a burst for its mover by now (13 R339; log 26). -/
opaque periphReady : Nat → Bool

/-- Weight formats of a Square pass (05 R135). -/
inductive WFmt where
  | e4m3 | e5m2 | int8 | mxfp4 | mxe2m3 | mxe3m2 | bf16 | fp16
  deriving DecidableEq, Repr, Inhabited

/-- Activation formats of a Square pass (05 R135). -/
inductive AFmt where
  | e4m3 | e5m2 | int8 | bf16 | fp16
  deriving DecidableEq, Repr, Inhabited

/-- Formats an OUT operation writes (04 R120). -/
inductive OFmt where
  | f32 | f16 | bf16 | e4m3 | e5m2
  deriving DecidableEq, Repr, Inhabited

/-- A convolution layer's parameters (08 R194). -/
structure ConvP where
  taps : Nat
  dil : Nat
  centre : Nat
  cin : Nat
  cout : Nat
  pad : Nat
  exec : Nat
  deriving DecidableEq, Repr, Inhabited

/-- The weights of a layer that Kiosks run: their format, image offset and number (08 R198, R210). -/
structure KWeights where
  fmt : OFmt
  off : Nat
  count : Nat
  deriving DecidableEq, Repr, Inhabited

/-- A layer of an image: its number, lengths, activation format (05 R135), whether it is named adaptable (07 R182), its
convolution parameters, and its weights if Kiosks run it. -/
structure LayerP where
  id : Nat
  inLen : Nat
  outLen : Nat
  afmt : AFmt
  adaptable : Bool
  conv : Option ConvP
  kiosk : Option KWeights
  deriving DecidableEq, Repr, Inhabited

/-- A recurrent layer (07 R172). -/
structure CellP where
  form : Nat
  hidden : Nat
  deriving DecidableEq, Repr, Inhabited

/-- A fused group (08 R202, R203): its layers, the stripe rows, the working bytes of a stripe, and whether it belongs to the
chunk subgraph. -/
structure FuseP where
  layers : List Nat
  stripeRows : Nat
  bytes : Nat
  inChunk : Bool
  deriving DecidableEq, Repr, Inhabited

/-- Where the inputs of an execution's rows lie in the working share (07 R176, R177, R186): the input row of a step with the
place of h in the vocoder state, the held feature frames of chunk work, the encoded frames of frame work and the voice
embeddings, each with its stride. -/
structure InP where
  row : Nat
  rowStride : Nat
  hOff : Nat
  hLen : Nat
  feat : Nat
  featStride : Nat
  enc : Nat
  encStride : Nat
  voice : Nat
  voiceStride : Nat
  deriving DecidableEq, Repr, Inhabited

/-- The parameter block (07 R170, 08 R194, R203): what the image states beyond its header. `tileFmts` is the format of each
weight tile (05 R134, R135), `kioskTiles` the worst case of each tile of a KIOSK task, by task (09 R226). -/
structure ImgParams where
  hop : Nat
  halo : Nat
  chunkLen : Nat
  frameBytes : Nat
  condBytes : Nat
  encBytes : Nat
  levels : List Nat
  embed : List (List Byte)
  initLevel : Nat
  cells : List CellP
  layers : List LayerP
  fuses : List FuseP
  tileFmts : List WFmt
  kioskTiles : List (List Nat)
  input : InP
  pxv8 : Bool
  initState : List Byte
  prevLevelOff : Nat
  haloOff : Nat
  causal : Bool
  deriving DecidableEq, Repr, Inhabited

opaque readParams : List Byte → ImgParams

/-- The random list of a subgraph (0 step, 1 frame, 2 chunk) (06 R156). -/
opaque readRand : List Byte → Nat → List RandEntry

/-- The rows a task of a fused group works on (08 R202 to R204): the group, the stripe, the layer's place in the group, and
the row group of 64 rows it runs, or all of them. -/
structure SpanArg where
  fuse : Nat
  stripe : Nat
  layer : Nat
  group : Option Nat
  deriving DecidableEq, Repr, Inhabited

/-- A SQUARE_SEG argument block (04 R116): its first weight tile and how many, the activation rows (working address of
row 0, bytes per row, bytes per input tile), the block and segment it delivers, its layer with the number of its first input
tile in the input row and of its tile-column of outputs (08 R208, R209), and its rows in a fused group. -/
structure SegArg where
  tile0 : Nat
  tiles : Nat
  act : Nat
  rowStride : Nat
  tileStride : Nat
  block : Nat
  seg : Nat
  layer : Nat
  inTile : Nat
  outTile : Nat
  span : Option SpanArg
  deriving DecidableEq, Repr, Inhabited

opaque readSeg : List Byte → SegArg

/-- An operand of a gate operation (04 R120). -/
inductive GOpr where
  | run
  | block (b : Nat)
  | bias (addr : Nat)
  | carried (off : Nat)
  | noise (entry : Nat)
  | saved (n : Nat)
  deriving DecidableEq, Repr, Inhabited

/-- A pipeline operation (04 R120). `keep` names the running value for a later operand. -/
inductive GOp where
  | combine (b : Nat)
  | bias (a b : GOpr)
  | sig (a : GOpr)
  | tanh (a : GOpr)
  | mul (a b : GOpr)
  | fma (a b c : GOpr)
  | oms (a : GOpr)
  | noise (a : GOpr) (entry : Nat)
  | max (levels : Nat) (first : Nat) (rec : Nat)
  | out (a : GOpr) (fmt : OFmt) (sr sat : Bool) (entry : Nat) (addr rowStride : Nat)
  | outState (a : GOpr) (off : Nat)
  | keep (n : Nat)
  deriving DecidableEq, Repr, Inhabited

/-- The adaptable layer whose output a GATE task forms (07 R182): its number, and the input rows that its Squares received
(working address of row 0, bytes per row, format). -/
structure AdaptArg where
  layer : Nat
  act : Nat
  rowStride : Nat
  afmt : AFmt
  deriving DecidableEq, Repr, Inhabited

/-- The gate group of a recurrent layer (07 R172 to R174): which cell of the parameter block, its staged blocks and their
biases (working addresses) in the order of R172's table, the places of h and c in the model state, and the format, rounding
and place of the OUT of the new h. -/
structure CellArg where
  cell : Nat
  blocks : List Nat
  biases : List Nat
  hOff : Nat
  cOff : Nat
  fmt : OFmt
  sr : Bool
  sat : Bool
  entry : Nat
  addr : Nat
  rowStride : Nat
  deriving DecidableEq, Repr, Inhabited

/-- A GATE argument block: the first column of the group, how many columns it has, its program (04 R119, R120) or the cell it
evaluates, the adaptable layer it belongs to, if any, and its rows in a fused group. -/
structure GateArg where
  col0 : Nat
  cols : Nat
  prog : List GOp
  cell : Option CellArg
  adapt : Option AdaptArg
  span : Option SpanArg
  deriving DecidableEq, Repr, Inhabited

opaque readGate : List Byte → GateArg

/-- What a subgraph leaves for the stream logic: the MAX record it reads (07 R178), the conditioning or encoded frame in the
working region, and the mark outputs that are routed to host return, with their stride (08 R218). -/
structure TailArg where
  levelRec : Nat
  frameAddr : Nat
  frameLen : Nat
  rowStride : Nat
  marks : Option (Nat × Nat)
  deriving DecidableEq, Repr, Inhabited

/-- Where a subgraph leaves its results in the working share, per row (07 R171, R178, R181). -/
opaque readTail : List Byte → Nat → TailArg

/-- A MARK_DECODE argument block (08 R212). -/
structure MarkArg where
  base : Nat
  candCnt : Nat
  maxOut : Nat
  scoreMin : Nat
  iouMax : Nat
  varC : Nat
  varW : Nat
  rangeLo : Int
  rangeHi : Int
  anchorCnt : Nat
  anchors : Nat
  cands : Nat
  out : Nat
  deriving DecidableEq, Repr, Inhabited

opaque readMark : List Byte → MarkArg

/-- What the image states of an EXPAND command beside its bytes (08 R199, R201): the row of its output row 0, whose stream owns
it, and its rows in a fused group. -/
structure ExpArg where
  row : Nat
  span : Option SpanArg
  deriving DecidableEq, Repr, Inhabited

opaque readExpand : List Byte → ExpArg

/-- ACOUSTIC_STATE after a feature frame is pushed into the halo ring (07 R181), by the image's layout. -/
opaque pushHalo : ImgParams → List Byte → List Byte → List Byte

/-- The feature frame that was pushed into the halo ring of an ACOUSTIC_STATE so many pushes before the last one, by the
image's layout (07 R186). -/
opaque readHalo : ImgParams → List Byte → Nat → List Byte

end Sys2Proof.Config
end

