-- ==== Sys2Proof/Machine/Check.lean ====
section
/-! DEFINITION. The check codes the device computes: CRC-16 of memory blocks (12 R310), CRC-32C of datagrams,
records and packs (15 R376, 19 R489, 03 R95), CRC-32, and the hashes SHA-256 and SHA-384 (09 R240, 17 R437). -/

namespace Sys2Proof.Machine

/-- One bit of a CRC taken most significant bit first. -/
def crcMsbStep (w poly c : Nat) (b : Bool) : Nat :=
  let top := c.testBit (w - 1) != b
  let c2 := (c * 2) % 2 ^ w
  if top then c2 ^^^ poly else c2

def crcMsbByte (w poly c : Nat) (x : Byte) : Nat :=
  [7, 6, 5, 4, 3, 2, 1, 0].foldl (fun a i => crcMsbStep w poly a (x.getLsbD i)) c

/-- CRC-16 with generator 0x8BB7, start value 0, most significant bit first (12 R310). -/
def crc16 (bs : List Byte) : Nat := bs.foldl (crcMsbByte 16 0x8BB7) 0

/-- One byte of a reflected 32-bit CRC. -/
def crcLsbByte (poly c : Nat) (x : Byte) : Nat :=
  (List.range 8).foldl (fun a _ => if a.testBit 0 then (a / 2) ^^^ poly else a / 2) (c ^^^ x.toNat)

def crcLsb (poly : Nat) (bs : List Byte) : Nat := (bs.foldl (crcLsbByte poly) 0xFFFFFFFF) ^^^ 0xFFFFFFFF

/-- CRC-32C (Castagnoli), as KTP, packs and Tolcon use it. -/
def crc32c (bs : List Byte) : Nat := crcLsb 0x82F63B78 bs

/-- CRC-32 (IEEE 802.3). -/
def crc32 (bs : List Byte) : Nat := crcLsb 0xEDB88320 bs

/-- The number that big-endian bytes spell. -/
def beNat (bs : List Byte) : Nat := bs.foldl (fun a b => a * 256 + b.toNat) 0

/-- The `n` big-endian bytes of `v`. -/
def beBytes (n v : Nat) : List Byte := (leBytes n v).reverse

/-- Cut a list into pieces of `n`, the last one perhaps shorter; `fuel` bounds the number of pieces. -/
def chunksF {α : Type} (n : Nat) : Nat → List α → List (List α)
  | 0, _ => []
  | fuel + 1, l => if l.isEmpty then [] else l.take n :: chunksF n fuel (l.drop n)

def chunks {α : Type} (n : Nat) (l : List α) : List (List α) := chunksF n (l.length + 1) l

def shaK0 : List Nat :=
  [0x428a2f98d728ae22, 0x7137449123ef65cd, 0xb5c0fbcfec4d3b2f, 0xe9b5dba58189dbbc, 0x3956c25bf348b538,
   0x59f111f1b605d019, 0x923f82a4af194f9b, 0xab1c5ed5da6d8118, 0xd807aa98a3030242, 0x12835b0145706fbe]

def shaK1 : List Nat :=
  [0x243185be4ee4b28c, 0x550c7dc3d5ffb4e2, 0x72be5d74f27b896f, 0x80deb1fe3b1696b1, 0x9bdc06a725c71235,
   0xc19bf174cf692694, 0xe49b69c19ef14ad2, 0xefbe4786384f25e3, 0x0fc19dc68b8cd5b5, 0x240ca1cc77ac9c65]

def shaK2 : List Nat :=
  [0x2de92c6f592b0275, 0x4a7484aa6ea6e483, 0x5cb0a9dcbd41fbd4, 0x76f988da831153b5, 0x983e5152ee66dfab,
   0xa831c66d2db43210, 0xb00327c898fb213f, 0xbf597fc7beef0ee4, 0xc6e00bf33da88fc2, 0xd5a79147930aa725]

def shaK3 : List Nat :=
  [0x06ca6351e003826f, 0x142929670a0e6e70, 0x27b70a8546d22ffc, 0x2e1b21385c26c926, 0x4d2c6dfc5ac42aed,
   0x53380d139d95b3df, 0x650a73548baf63de, 0x766a0abb3c77b2a8, 0x81c2c92e47edaee6, 0x92722c851482353b]

def shaK4 : List Nat :=
  [0xa2bfe8a14cf10364, 0xa81a664bbc423001, 0xc24b8b70d0f89791, 0xc76c51a30654be30, 0xd192e819d6ef5218,
   0xd69906245565a910, 0xf40e35855771202a, 0x106aa07032bbd1b8, 0x19a4c116b8d2d0c8, 0x1e376c085141ab53]

def shaK5 : List Nat :=
  [0x2748774cdf8eeb99, 0x34b0bcb5e19b48a8, 0x391c0cb3c5c95a63, 0x4ed8aa4ae3418acb, 0x5b9cca4f7763e373,
   0x682e6ff3d6b2b8a3, 0x748f82ee5defb2fc, 0x78a5636f43172f60, 0x84c87814a1f0ab72, 0x8cc702081a6439ec]

def shaK6 : List Nat :=
  [0x90befffa23631e28, 0xa4506cebde82bde9, 0xbef9a3f7b2c67915, 0xc67178f2e372532b, 0xca273eceea26619c,
   0xd186b8c721c0c207, 0xeada7dd6cde0eb1e, 0xf57d4f7fee6ed178, 0x06f067aa72176fba, 0x0a637dc5a2c898a6]

def shaK7 : List Nat :=
  [0x113f9804bef90dae, 0x1b710b35131c471b, 0x28db77f523047d84, 0x32caab7b40c72493, 0x3c9ebe0a15c9bebc,
   0x431d67c49c100d4c, 0x4cc5d4becb3e42b6, 0x597f299cfc657e2a, 0x5fcb6fab3ad6faec, 0x6c44198c4a475817]

/-- The eighty round constants of SHA-384; the first 64, cut to their upper half, are those of SHA-256. -/
def shaK : List Nat := shaK0 ++ shaK1 ++ shaK2 ++ shaK3 ++ shaK4 ++ shaK5 ++ shaK6 ++ shaK7

def rotrW (w n x : Nat) : Nat := (x / 2 ^ n) ||| ((x * 2 ^ (w - n)) % 2 ^ w)

/-- The amounts in which SHA-256 and SHA-384 differ. -/
structure ShaCfg where
  w : Nat
  rounds : Nat
  s0 : Nat × Nat × Nat
  s1 : Nat × Nat × Nat
  m0 : Nat × Nat × Nat
  m1 : Nat × Nat × Nat
  deriving DecidableEq, Repr

def sha256Cfg : ShaCfg := ⟨32, 64, (2, 13, 22), (6, 11, 25), (7, 18, 3), (17, 19, 10)⟩
def sha384Cfg : ShaCfg := ⟨64, 80, (28, 34, 39), (14, 18, 41), (1, 8, 7), (19, 61, 6)⟩

def shaRot (c : ShaCfg) (t : Nat × Nat × Nat) (x : Nat) : Nat :=
  rotrW c.w t.1 x ^^^ rotrW c.w t.2.1 x ^^^ rotrW c.w t.2.2 x

def shaSched (c : ShaCfg) (t : Nat × Nat × Nat) (x : Nat) : Nat :=
  rotrW c.w t.1 x ^^^ rotrW c.w t.2.1 x ^^^ (x / 2 ^ t.2.2)

/-- The working words of a hash. -/
structure ShaSt where
  a : Nat
  b : Nat
  c : Nat
  d : Nat
  e : Nat
  f : Nat
  g : Nat
  h : Nat
  deriving DecidableEq, Repr

/-- One round; the schedule window `ws` holds the next sixteen words. -/
def shaRound (c : ShaCfg) (st : ShaSt × List Nat) (k : Nat) : ShaSt × List Nat :=
  let s := st.1
  let ws := st.2
  let m := 2 ^ c.w
  let wt := ws.headD 0
  let ch := (s.e &&& s.f) ^^^ ((m - 1 - s.e) &&& s.g)
  let maj := (s.a &&& s.b) ^^^ (s.a &&& s.c) ^^^ (s.b &&& s.c)
  let t1 := (s.h + shaRot c c.s1 s.e + ch + k + wt) % m
  let t2 := (shaRot c c.s0 s.a + maj) % m
  let nw := (shaSched c c.m1 (ws.getD 14 0) + ws.getD 9 0 + shaSched c c.m0 (ws.getD 1 0) + wt) % m
  (⟨(t1 + t2) % m, s.a, s.b, s.c, (s.d + t1) % m, s.e, s.f, s.g⟩, ws.drop 1 ++ [nw])

def shaBlock (c : ShaCfg) (ks : List Nat) (s : ShaSt) (blk : List Byte) : ShaSt :=
  let ws := (chunks (c.w / 8) blk).map beNat
  let r := (ks.foldl (shaRound c) (s, ws)).1
  let m := 2 ^ c.w
  ⟨(s.a + r.a) % m, (s.b + r.b) % m, (s.c + r.c) % m, (s.d + r.d) % m, (s.e + r.e) % m, (s.f + r.f) % m,
   (s.g + r.g) % m, (s.h + r.h) % m⟩

/-- The message with its padding: a 1 bit, zeros, and the bit length in the last 2·w/8 bytes. -/
def shaPad (c : ShaCfg) (bs : List Byte) : List Byte :=
  let blk := 2 * c.w
  let lenB := c.w / 4
  let n := bs.length + 1 + lenB
  bs ++ [0x80#8] ++ List.replicate ((blk - n % blk) % blk) 0#8 ++ beBytes lenB (bs.length * 8)

def shaSum (c : ShaCfg) (ks : List Nat) (init : ShaSt) (bs : List Byte) : ShaSt :=
  (chunks (2 * c.w) (shaPad c bs)).foldl (shaBlock c ks) init

/-- SHA-256. -/
def sha256 (bs : List Byte) : List Byte :=
  let r := shaSum sha256Cfg ((shaK.take 64).map (· / 2 ^ 32))
    ⟨0x6a09e667, 0xbb67ae85, 0x3c6ef372, 0xa54ff53a, 0x510e527f, 0x9b05688c, 0x1f83d9ab, 0x5be0cd19⟩ bs
  [r.a, r.b, r.c, r.d, r.e, r.f, r.g, r.h].flatMap (beBytes 4)

/-- SHA-384. -/
def sha384 (bs : List Byte) : List Byte :=
  let r := shaSum sha384Cfg shaK
    ⟨0xcbbb9d5dc1059ed8, 0x629a292a367cd507, 0x9159015a3070dd17, 0x152fecd8f70e5939,
     0x67332667ffc00b31, 0x8eb44a8768581511, 0xdb0c2e0d64f98fa7, 0x47b5481dbefa4fa4⟩ bs
  [r.a, r.b, r.c, r.d, r.e, r.f].flatMap (beBytes 8)

end Sys2Proof.Machine
end

