-- ==== Sys2Proof/Machine/Tab.lean ====
section
/-! DEFINITION. Sparse tables: lists of key and value pairs with rising keys. -/

namespace Sys2Proof.Machine

abbrev Tab (α : Type) := List (Nat × α)

/-- The entry under a key. -/
def Tab.get? {α : Type} : Tab α → Nat → Option α
  | [], _ => none
  | (k, v) :: t, n => if k = n then some v else Tab.get? t n

def Tab.getD {α : Type} (t : Tab α) (n : Nat) (d : α) : α := (Tab.get? t n).getD d

/-- The table with one entry put in key order. -/
def Tab.set {α : Type} : Tab α → Nat → α → Tab α
  | [], n, v => [(n, v)]
  | (k, w) :: t, n, v =>
    if n < k then (n, v) :: (k, w) :: t
    else if n = k then (n, v) :: t
    else (k, w) :: Tab.set t n v

/-- The table without a key. -/
def Tab.erase {α : Type} : Tab α → Nat → Tab α
  | [], _ => []
  | (k, w) :: t, n => if k = n then t else (k, w) :: Tab.erase t n

def Tab.modify {α : Type} (t : Tab α) (n : Nat) (d : α) (f : α → α) : Tab α := Tab.set t n (f (Tab.getD t n d))

/-- Change an entry that is present. -/
def Tab.adjust {α : Type} (t : Tab α) (n : Nat) (f : α → α) : Tab α :=
  t.map (fun p => if p.1 = n then (p.1, f p.2) else p)

/-- Keys strictly rise. -/
def Tab.sorted {α : Type} : Tab α → Bool
  | [] => true
  | [_] => true
  | (k, _) :: (m, w) :: t => decide (k < m) && Tab.sorted ((m, w) :: t)

end Sys2Proof.Machine
end

