-- ==== Sys2Proof/Machine/Regs.lean ====
section
/-! DEFINITION. The management registers: one name per register card, with its place (20 R507), the access type of its
fields (00 R6) and its value after a power-on reset (00 R10). The values come from the cards of the chapters. -/

namespace Sys2Proof.Machine

/-- The register cards, in the order of the chapters. -/
inductive RegName where
  | tickUptimeLo | tickUptimeHi | tickTimeStat | tickPtpSecLo | tickPtpSecHi
  | tickPtpNs | tickCtl | tickFrame | tickLimit | tickBudget
  | tickStat | tickEvt | tickCntLo | tickCntHi | tickMeasRate
  | tickDiscCnt | tickMissCnt | tickOvrCnt | tickOvrMax | tickSlipCnt
  | tickHoldCnt | tickCmd | sdirStat | sdirQdef | sdirVtBaseLo
  | sdirVtBaseHi | sdirVtStat | sdirVtMissCnt | sdirStaleCnt | sdirRefuseCnt
  | sdirEvt | sdirGrpCfg | sdirGrpSlip | sdirStoreBaseLo | sdirStoreBaseHi
  | sdirStoreCfg | sdirResStat | sdirSwapInCnt | sdirSwapOutCnt | sdirSwapLateCnt
  | sdirSwapWaitCnt | sdirSwapReclaimCnt | sdirPackExpCnt | sdirPackImpCnt | sdirPackRefCnt
  | sdirResEvt | sdirQstate | qtrRegion | qtrStat | qtrLoad
  | qtrWeight | qtrBatchCfg | qtrPassCntLo | qtrPassCntHi | qtrRowCntLo
  | qtrRowCntHi | qtrBusyCntLo | qtrBusyCntHi | qtrRegroupCnt | qtrMoveSkipCnt
  | qtrGateStallCnt | qtrGateNanCnt | qtrWprotCnt | qtrEvt | qtrNumEvt
  | qtrNonfinCnt | qtrOutOvfCnt | schedPreCfg | schedPreStat | schedPreLateCnt
  | schedPreMissCnt | schedPreRedoCnt | schedPreResizeCnt | schedPreEvt | qtrExpRowCnt
  | qtrTapskipCnt | qtrPtwiseCnt | qtrExpPadfbCnt | qtrMarkDropCnt | qtrConvEvt
  | tstlCount | tstlStat | schedTstlCmd | schedTstlArg | schedTstlErrCnt
  | schedTstlWaitCnt | schedCancelCnt | schedCancelDiscCnt | schedLoadCnt | schedLoadRefCnt
  | schedGraphEvt | schedTstlPool | schedStat | schedCtl | schedCtxSel
  | schedCtxStat | schedCtxAcctLo | schedCtxAcctHi | schedCtxShare | schedWardSplit
  | schedPitchCfg | schedPitchStat | schedBeShedCnt | schedPreemptCnt | schedEvictCnt
  | schedAdmRefCnt | schedPitchRstCnt | schedPitchEvt | qtrKskEvt | qtrKskExcCnt
  | kskStat | kskPc | kskExc | kskExcPc | kskExcAddrLo
  | kskExcAddrHi | kskDcmissCnt | kskWbCnt | memcStat | memcCrcRetry
  | memcCrcFail | memcFailAddrLo | memcFailAddrHi | memcCrcCfg | memcScrubCfg
  | memcScrubFail | memcParRefetchCnt | memcParFaultCnt | memcDirParCnt | memcDirRetired
  | memcRbCfg | memcEvt | memcRbLateCnt | memcRbBytesLo | memcRbBytesHi
  | memcChRetry | movrStat | movrHaltCnt | movrRaceCnt | movrCredit
  | movrOwner | movrChCtl | movrChCmd | movrChStat | movrChTrig
  | movrChTimer | movrChTstl | movrChDl | movrChEvt | movrChHeadLo
  | movrChHeadHi | movrChCurLo | movrChCurHi | movrChSrcLo | movrChSrcHi
  | movrChDstLo | movrChDstHi | movrChRemain | movrChListLo | movrChListHi
  | movrChErrLo | movrChErrHi | movrChDoneCnt | movrChTrigLostCnt | aprtWclkOut
  | aprtMclkStat | portCfg | portFmt | portTxMapLo | portTxMapHi
  | portRxEn | portCmd | portStat | portEvt | portSlipCnt
  | portXrunCnt | portClipCnt | portFrameErrCnt | hostKtpCfg | hostKtpPort
  | hostKtpStat | hostKtpRxCnt | hostKtpErrCnt | hostKtpRetxCnt | hostKtpLossCnt
  | hostRetDropCnt | hostEvt | hostRtpCfg | hostRtpClipCnt | hostPortCfg
  | hostPortStat | hostMacLo | hostMacHi | hostIpv4 | hostIpv6
  | hostPortErrCnt | hostPtpCfg | hostPtpOffset | hostRtpCtl | hostRtpSsrc
  | hostRtpDst | hostRtpUdp | hostRtpStat | linkId | linkCtl
  | linkEvt | linkDropCnt | linkRtIdx | linkRtData0 | linkRtData1
  | linkRtData2 | linkRtData3 | linkTwinCfg | linkTwinMirror | linkTwinStat
  | linkTwinCmd | linkTwinAreaLo | linkTwinAreaHi | linkTwinStretchCnt | linkTwinCkptLo
  | linkTwinCkptHi | linkChCfg | linkChStat | linkChErrCnt | linkChTxLo
  | linkChTxHi | devStage | devResetCause | devEpoch | devCfgStat
  | devCfgRefCnt | devWdog | devSelftest | devPitchEpoch | secStat
  | secPolicyVer | secChallenge | secRefCnt | secEvt | pwrCtl
  | pwrStat | pwrCap | pwrMeas | pwrWakeTimer | pwrStepCnt
  | pwrEvt | dbgStat | dbgTraceCtl | dbgTraceBaseLo | dbgTraceBaseHi
  | dbgKskSel | dbgKskCtl | dbgKskViewSel | dbgKskView | trecStat
  | trecCfg | trecHeadSeqLo | trecHeadSeqHi | trecTailSeqLo | trecTailSeqHi
  | trecLostCnt | trecDivergeCnt | trecEvt
  deriving DecidableEq, Repr

/-- What a card fixes: the offset of its first word, its instances (two dimensions: count and stride), the masks of its
RW, W1C and RC bits, its reset word, and how the reset word grows from one instance to the next. -/
structure RegCard where
  base : Nat
  c1 : Nat
  s1 : Nat
  c2 : Nat
  s2 : Nat
  rw : Nat
  w1c : Nat
  rc : Nat
  reset : Nat
  step : Nat
  deriving DecidableEq, Repr

/-- The cards. -/
def RegName.card : RegName → RegCard
  | .tickUptimeLo => ⟨0x10000, 1, 0, 1, 0, 0, 0, 0, 0, 0⟩
  | .tickUptimeHi => ⟨0x10004, 1, 0, 1, 0, 0, 0, 0, 0, 0⟩
  | .tickTimeStat => ⟨0x10008, 1, 0, 1, 0, 2, 0, 0, 0, 0⟩
  | .tickPtpSecLo => ⟨0x10010, 1, 0, 1, 0, 0, 0, 0, 0, 0⟩
  | .tickPtpSecHi => ⟨0x10014, 1, 0, 1, 0, 0, 0, 0, 0, 0⟩
  | .tickPtpNs => ⟨0x10018, 1, 0, 1, 0, 0, 0, 0, 0, 0⟩
  | .tickCtl => ⟨0x10100, 2, 0x100, 1, 0, 0x1fff, 0, 0, 0, 0⟩
  | .tickFrame => ⟨0x10104, 2, 0x100, 1, 0, 0x1fff, 0, 0, 0x200, 0⟩
  | .tickLimit => ⟨0x10108, 2, 0x100, 1, 0, 0x7f, 0, 0, 0x55, 0⟩
  | .tickBudget => ⟨0x1010c, 2, 0x100, 1, 0, 0, 0, 0, 0x6c8d7fb5, 0⟩
  | .tickStat => ⟨0x10110, 2, 0x100, 1, 0, 0, 0, 0, 0, 0⟩
  | .tickEvt => ⟨0x10114, 2, 0x100, 1, 0, 0, 0x3f, 0, 0, 0⟩
  | .tickCntLo => ⟨0x10118, 2, 0x100, 1, 0, 0, 0, 0, 0, 0⟩
  | .tickCntHi => ⟨0x1011c, 2, 0x100, 1, 0, 0, 0, 0, 0, 0⟩
  | .tickMeasRate => ⟨0x10120, 2, 0x100, 1, 0, 0, 0, 0, 0, 0⟩
  | .tickDiscCnt => ⟨0x10124, 2, 0x100, 1, 0, 0, 0, 0xffffffff, 0, 0⟩
  | .tickMissCnt => ⟨0x10128, 2, 0x100, 1, 0, 0, 0, 0xffffffff, 0, 0⟩
  | .tickOvrCnt => ⟨0x1012c, 2, 0x100, 1, 0, 0, 0, 0xffffffff, 0, 0⟩
  | .tickOvrMax => ⟨0x10130, 2, 0x100, 1, 0, 0, 0, 0xffffffff, 0, 0⟩
  | .tickSlipCnt => ⟨0x10134, 2, 0x100, 1, 0, 0, 0, 0xffffffff, 0, 0⟩
  | .tickHoldCnt => ⟨0x10138, 2, 0x100, 1, 0, 0, 0, 0xffff, 0, 0⟩
  | .tickCmd => ⟨0x1013c, 2, 0x100, 1, 0, 0, 0, 0, 0, 0⟩
  | .sdirStat => ⟨0x20000, 1, 0, 1, 0, 0, 0, 0, 0, 0⟩
  | .sdirQdef => ⟨0x20004, 1, 0, 1, 0, 0x7ff07ff, 0, 0, 0x400080, 0⟩
  | .sdirVtBaseLo => ⟨0x20008, 1, 0, 1, 0, 0xffffffff, 0, 0, 0, 0⟩
  | .sdirVtBaseHi => ⟨0x2000c, 1, 0, 1, 0, 0xffff, 0, 0, 0, 0⟩
  | .sdirVtStat => ⟨0x20010, 1, 0, 1, 0, 0, 0, 0, 0, 0⟩
  | .sdirVtMissCnt => ⟨0x20014, 1, 0, 1, 0, 0, 0, 0xffffffff, 0, 0⟩
  | .sdirStaleCnt => ⟨0x20018, 1, 0, 1, 0, 0, 0, 0xffffffff, 0, 0⟩
  | .sdirRefuseCnt => ⟨0x2001c, 1, 0, 1, 0, 0, 0, 0xffffffff, 0, 0⟩
  | .sdirEvt => ⟨0x20020, 1, 0, 1, 0, 0, 0x7f, 0, 0, 0⟩
  | .sdirGrpCfg => ⟨0x21000, 1024, 8, 1, 0, 0xfff, 0, 0, 0x20, 0⟩
  | .sdirGrpSlip => ⟨0x21004, 1024, 8, 1, 0, 0, 0, 0xffffffff, 0, 0⟩
  | .sdirStoreBaseLo => ⟨0x20040, 1, 0, 1, 0, 0xffffffff, 0, 0, 0, 0⟩
  | .sdirStoreBaseHi => ⟨0x20044, 1, 0, 1, 0, 0xffff, 0, 0, 0, 0⟩
  | .sdirStoreCfg => ⟨0x20048, 1, 0, 1, 0, 0xff, 0, 0, 8, 0⟩
  | .sdirResStat => ⟨0x2004c, 1, 0, 1, 0, 0, 0, 0, 0, 0⟩
  | .sdirSwapInCnt => ⟨0x20050, 1, 0, 1, 0, 0, 0, 0xffffffff, 0, 0⟩
  | .sdirSwapOutCnt => ⟨0x20054, 1, 0, 1, 0, 0, 0, 0xffffffff, 0, 0⟩
  | .sdirSwapLateCnt => ⟨0x20058, 1, 0, 1, 0, 0, 0, 0xffffffff, 0, 0⟩
  | .sdirSwapWaitCnt => ⟨0x2005c, 1, 0, 1, 0, 0, 0, 0xffffffff, 0, 0⟩
  | .sdirSwapReclaimCnt => ⟨0x20060, 1, 0, 1, 0, 0, 0, 0xffffffff, 0, 0⟩
  | .sdirPackExpCnt => ⟨0x20064, 1, 0, 1, 0, 0, 0, 0xffffffff, 0, 0⟩
  | .sdirPackImpCnt => ⟨0x20068, 1, 0, 1, 0, 0, 0, 0xffffffff, 0, 0⟩
  | .sdirPackRefCnt => ⟨0x2006c, 1, 0, 1, 0, 0, 0, 0xffffffff, 0, 0⟩
  | .sdirResEvt => ⟨0x20070, 1, 0, 1, 0, 0, 0xf, 0, 0, 0⟩
  | .sdirQstate => ⟨0x20100, 16, 4, 1, 0, 0xff, 0, 0, 0x40, 0⟩
  | .qtrRegion => ⟨0x100000, 16, 0x10000, 1, 0, 0xff, 0, 0, 0x2000a0, 0⟩
  | .qtrStat => ⟨0x100004, 16, 0x10000, 1, 0, 0, 0, 0, 0, 0⟩
  | .qtrLoad => ⟨0x100008, 16, 0x10000, 1, 0, 0, 0, 0, 0, 0⟩
  | .qtrWeight => ⟨0x10000c, 16, 0x10000, 1, 0, 0, 0, 0, 0, 0⟩
  | .qtrBatchCfg => ⟨0x100010, 16, 0x10000, 1, 0, 0x3fff, 0, 0, 0x820, 0⟩
  | .qtrPassCntLo => ⟨0x100018, 16, 0x10000, 1, 0, 0, 0, 0, 0, 0⟩
  | .qtrPassCntHi => ⟨0x10001c, 16, 0x10000, 1, 0, 0, 0, 0, 0, 0⟩
  | .qtrRowCntLo => ⟨0x100020, 16, 0x10000, 1, 0, 0, 0, 0, 0, 0⟩
  | .qtrRowCntHi => ⟨0x100024, 16, 0x10000, 1, 0, 0, 0, 0, 0, 0⟩
  | .qtrBusyCntLo => ⟨0x100028, 16, 0x10000, 1, 0, 0, 0, 0, 0, 0⟩
  | .qtrBusyCntHi => ⟨0x10002c, 16, 0x10000, 1, 0, 0, 0, 0, 0, 0⟩
  | .qtrRegroupCnt => ⟨0x100030, 16, 0x10000, 1, 0, 0, 0, 0xffffffff, 0, 0⟩
  | .qtrMoveSkipCnt => ⟨0x100034, 16, 0x10000, 1, 0, 0, 0, 0xffffffff, 0, 0⟩
  | .qtrGateStallCnt => ⟨0x100038, 16, 0x10000, 1, 0, 0, 0, 0xffffffff, 0, 0⟩
  | .qtrGateNanCnt => ⟨0x10003c, 16, 0x10000, 1, 0, 0, 0, 0xffffffff, 0, 0⟩
  | .qtrWprotCnt => ⟨0x100040, 16, 0x10000, 1, 0, 0, 0, 0xffffffff, 0, 0⟩
  | .qtrEvt => ⟨0x100044, 16, 0x10000, 1, 0, 0, 0x1f, 0, 0, 0⟩
  | .qtrNumEvt => ⟨0x100048, 16, 0x10000, 1, 0, 0, 7, 0, 0, 0⟩
  | .qtrNonfinCnt => ⟨0x10004c, 16, 0x10000, 1, 0, 0, 0, 0xffffffff, 0, 0⟩
  | .qtrOutOvfCnt => ⟨0x100050, 16, 0x10000, 1, 0, 0, 0, 0xffffffff, 0, 0⟩
  | .schedPreCfg => ⟨0x30800, 16, 0x20, 1, 0, 0xff77, 0, 0, 0x4040, 0⟩
  | .schedPreStat => ⟨0x30804, 16, 0x20, 1, 0, 0, 0, 0, 4, 0⟩
  | .schedPreLateCnt => ⟨0x30808, 16, 0x20, 1, 0, 0, 0, 0xffffffff, 0, 0⟩
  | .schedPreMissCnt => ⟨0x3080c, 16, 0x20, 1, 0, 0, 0, 0xffffffff, 0, 0⟩
  | .schedPreRedoCnt => ⟨0x30810, 16, 0x20, 1, 0, 0, 0, 0xffffffff, 0, 0⟩
  | .schedPreResizeCnt => ⟨0x30814, 16, 0x20, 1, 0, 0, 0, 0xffffffff, 0, 0⟩
  | .schedPreEvt => ⟨0x30818, 16, 0x20, 1, 0, 0, 0x1f, 0, 0, 0⟩
  | .qtrExpRowCnt => ⟨0x100054, 16, 0x10000, 1, 0, 0, 0, 0xffffffff, 0, 0⟩
  | .qtrTapskipCnt => ⟨0x100058, 16, 0x10000, 1, 0, 0, 0, 0xffffffff, 0, 0⟩
  | .qtrPtwiseCnt => ⟨0x10005c, 16, 0x10000, 1, 0, 0, 0, 0xffffffff, 0, 0⟩
  | .qtrExpPadfbCnt => ⟨0x100060, 16, 0x10000, 1, 0, 0, 0, 0xffffffff, 0, 0⟩
  | .qtrMarkDropCnt => ⟨0x100064, 16, 0x10000, 1, 0, 0, 0, 0xffffffff, 0, 0⟩
  | .qtrConvEvt => ⟨0x100068, 16, 0x10000, 1, 0, 0, 0xf, 0, 0, 0⟩
  | .tstlCount => ⟨0x40000, 16384, 8, 1, 0, 0, 0, 0, 0, 0⟩
  | .tstlStat => ⟨0x40004, 16384, 8, 1, 0, 0, 0, 0, 0, 0⟩
  | .schedTstlCmd => ⟨0x30400, 1, 0, 1, 0, 0, 0, 0, 0, 0⟩
  | .schedTstlArg => ⟨0x30404, 1, 0, 1, 0, 0xffffff, 0, 0, 0, 0⟩
  | .schedTstlErrCnt => ⟨0x30408, 1, 0, 1, 0, 0, 0, 0xffffffff, 0, 0⟩
  | .schedTstlWaitCnt => ⟨0x3040c, 1, 0, 1, 0, 0, 0, 0xffffffff, 0, 0⟩
  | .schedCancelCnt => ⟨0x30410, 1, 0, 1, 0, 0, 0, 0xffffffff, 0, 0⟩
  | .schedCancelDiscCnt => ⟨0x30414, 1, 0, 1, 0, 0, 0, 0xffffffff, 0, 0⟩
  | .schedLoadCnt => ⟨0x30418, 1, 0, 1, 0, 0, 0, 0xffffffff, 0, 0⟩
  | .schedLoadRefCnt => ⟨0x3041c, 1, 0, 1, 0, 0, 0, 0xffffffff, 0, 0⟩
  | .schedGraphEvt => ⟨0x30420, 1, 0, 1, 0, 0, 0x3f, 0, 0, 0⟩
  | .schedTstlPool => ⟨0x30600, 16, 4, 1, 0, 0x7fff3fff, 0, 0, 0x4000000, 0x400⟩
  | .schedStat => ⟨0x30000, 1, 0, 1, 0, 0, 0, 0, 0, 0⟩
  | .schedCtl => ⟨0x30004, 1, 0, 1, 0, 0x7f, 0, 0, 0x32, 0⟩
  | .schedCtxSel => ⟨0x30010, 1, 0, 1, 0, 0x3ff, 0, 0, 0, 0⟩
  | .schedCtxStat => ⟨0x30014, 1, 0, 1, 0, 0, 0, 0, 0, 0⟩
  | .schedCtxAcctLo => ⟨0x30018, 1, 0, 1, 0, 0, 0, 0, 0, 0⟩
  | .schedCtxAcctHi => ⟨0x3001c, 1, 0, 1, 0, 0, 0, 0, 0, 0⟩
  | .schedCtxShare => ⟨0x30020, 1, 0, 1, 0, 0, 0, 0, 0, 0⟩
  | .schedWardSplit => ⟨0x30040, 4, 4, 1, 0, 0, 0, 0, 0, 0⟩
  | .schedPitchCfg => ⟨0x30100, 16, 0x20, 1, 0, 0xff07, 0, 0, 0, 0⟩
  | .schedPitchStat => ⟨0x30104, 16, 0x20, 1, 0, 0, 0, 0, 0, 0⟩
  | .schedBeShedCnt => ⟨0x30108, 16, 0x20, 1, 0, 0, 0, 0xffffffff, 0, 0⟩
  | .schedPreemptCnt => ⟨0x3010c, 16, 0x20, 1, 0, 0, 0, 0xffffffff, 0, 0⟩
  | .schedEvictCnt => ⟨0x30110, 16, 0x20, 1, 0, 0, 0, 0xffffffff, 0, 0⟩
  | .schedAdmRefCnt => ⟨0x30114, 16, 0x20, 1, 0, 0, 0, 0xffffffff, 0, 0⟩
  | .schedPitchRstCnt => ⟨0x30118, 16, 0x20, 1, 0, 0, 0, 0xffffffff, 0, 0⟩
  | .schedPitchEvt => ⟨0x3011c, 16, 0x20, 1, 0, 0, 0x3f, 0, 0, 0⟩
  | .qtrKskEvt => ⟨0x10006c, 16, 0x10000, 1, 0, 0, 1, 0, 0, 0⟩
  | .qtrKskExcCnt => ⟨0x100070, 16, 0x10000, 1, 0, 0, 0, 0xffffffff, 0, 0⟩
  | .kskStat => ⟨0x100100, 16, 0x10000, 16, 0x20, 0, 0, 0, 0, 0⟩
  | .kskPc => ⟨0x100104, 16, 0x10000, 16, 0x20, 0, 0, 0, 0, 0⟩
  | .kskExc => ⟨0x100108, 16, 0x10000, 16, 0x20, 0, 0x80000000, 0, 0, 0⟩
  | .kskExcPc => ⟨0x10010c, 16, 0x10000, 16, 0x20, 0, 0, 0, 0, 0⟩
  | .kskExcAddrLo => ⟨0x100110, 16, 0x10000, 16, 0x20, 0, 0, 0, 0, 0⟩
  | .kskExcAddrHi => ⟨0x100114, 16, 0x10000, 16, 0x20, 0, 0, 0, 0, 0⟩
  | .kskDcmissCnt => ⟨0x100118, 16, 0x10000, 16, 0x20, 0, 0, 0xffffffff, 0, 0⟩
  | .kskWbCnt => ⟨0x10011c, 16, 0x10000, 16, 0x20, 0, 0, 0xffffffff, 0, 0⟩
  | .memcStat => ⟨0xa0000, 1, 0, 1, 0, 0, 0, 0, 0, 0⟩
  | .memcCrcRetry => ⟨0xa0004, 1, 0, 1, 0, 0, 0, 0xffffffff, 0, 0⟩
  | .memcCrcFail => ⟨0xa0008, 1, 0, 1, 0, 0, 0, 0xffffffff, 0, 0⟩
  | .memcFailAddrLo => ⟨0xa000c, 1, 0, 1, 0, 0, 0, 0, 0, 0⟩
  | .memcFailAddrHi => ⟨0xa0010, 1, 0, 1, 0, 0, 0, 0, 0, 0⟩
  | .memcCrcCfg => ⟨0xa0014, 1, 0, 1, 0, 0xffff, 0, 0, 0x3e8, 0⟩
  | .memcScrubCfg => ⟨0xa0018, 1, 0, 1, 0, 0xff01, 0, 0, 0x1801, 0⟩
  | .memcScrubFail => ⟨0xa001c, 1, 0, 1, 0, 0, 0, 0xffffffff, 0, 0⟩
  | .memcParRefetchCnt => ⟨0xa0020, 1, 0, 1, 0, 0, 0, 0xffffffff, 0, 0⟩
  | .memcParFaultCnt => ⟨0xa0024, 1, 0, 1, 0, 0, 0, 0xffffffff, 0, 0⟩
  | .memcDirParCnt => ⟨0xa0028, 1, 0, 1, 0, 0, 0, 0xffffffff, 0, 0⟩
  | .memcDirRetired => ⟨0xa002c, 1, 0, 1, 0, 0, 0, 0, 0, 0⟩
  | .memcRbCfg => ⟨0xa0030, 1, 0, 1, 0, 0x3f, 0, 0, 5, 0⟩
  | .memcEvt => ⟨0xa0034, 1, 0, 1, 0, 0, 0x1f, 0, 0, 0⟩
  | .memcRbLateCnt => ⟨0xa0040, 4, 0x10, 1, 0, 0, 0, 0xffffffff, 0, 0⟩
  | .memcRbBytesLo => ⟨0xa0044, 4, 0x10, 1, 0, 0, 0, 0, 0, 0⟩
  | .memcRbBytesHi => ⟨0xa0048, 4, 0x10, 1, 0, 0, 0, 0, 0, 0⟩
  | .memcChRetry => ⟨0xa0100, 64, 4, 1, 0, 0, 0, 0xffffffff, 0, 0⟩
  | .movrStat => ⟨0x60000, 1, 0, 1, 0, 0, 0, 0, 0, 0⟩
  | .movrHaltCnt => ⟨0x60004, 1, 0, 1, 0, 0, 0, 0xffffffff, 0, 0⟩
  | .movrRaceCnt => ⟨0x60008, 1, 0, 1, 0, 0, 0, 0xffffffff, 0, 0⟩
  | .movrCredit => ⟨0x60010, 4, 4, 1, 0, 0, 0, 0, 0, 0⟩
  | .movrOwner => ⟨0x60400, 256, 4, 1, 0, 0x1f, 0, 0, 0x10, 0⟩
  | .movrChCtl => ⟨0x61000, 256, 0x80, 1, 0, 0x1f3ff7, 0, 0, 0x800, 0⟩
  | .movrChCmd => ⟨0x61004, 256, 0x80, 1, 0, 0, 0, 0, 0, 0⟩
  | .movrChStat => ⟨0x61008, 256, 0x80, 1, 0, 0, 0, 0, 0, 0⟩
  | .movrChTrig => ⟨0x6100c, 256, 0x80, 1, 0, 0xffff0f, 0, 0, 0, 0⟩
  | .movrChTimer => ⟨0x61010, 256, 0x80, 1, 0, 0xffffff, 0, 0, 0x3e8, 0⟩
  | .movrChTstl => ⟨0x61014, 256, 0x80, 1, 0, 0x3fff3fff, 0, 0, 0, 0⟩
  | .movrChDl => ⟨0x61018, 256, 0x80, 1, 0, 0xffffffff, 0, 0, 0, 0⟩
  | .movrChEvt => ⟨0x6101c, 256, 0x80, 1, 0, 0, 0xf, 0, 0, 0⟩
  | .movrChHeadLo => ⟨0x61020, 256, 0x80, 1, 0, 0xffffffff, 0, 0, 0, 0⟩
  | .movrChHeadHi => ⟨0x61024, 256, 0x80, 1, 0, 0xffff, 0, 0, 0, 0⟩
  | .movrChCurLo => ⟨0x61028, 256, 0x80, 1, 0, 0, 0, 0, 0, 0⟩
  | .movrChCurHi => ⟨0x6102c, 256, 0x80, 1, 0, 0, 0, 0, 0, 0⟩
  | .movrChSrcLo => ⟨0x61030, 256, 0x80, 1, 0, 0, 0, 0, 0, 0⟩
  | .movrChSrcHi => ⟨0x61034, 256, 0x80, 1, 0, 0, 0, 0, 0, 0⟩
  | .movrChDstLo => ⟨0x61038, 256, 0x80, 1, 0, 0, 0, 0, 0, 0⟩
  | .movrChDstHi => ⟨0x6103c, 256, 0x80, 1, 0, 0, 0, 0, 0, 0⟩
  | .movrChRemain => ⟨0x61040, 256, 0x80, 1, 0, 0, 0, 0, 0, 0⟩
  | .movrChListLo => ⟨0x61044, 256, 0x80, 1, 0, 0, 0, 0, 0, 0⟩
  | .movrChListHi => ⟨0x61048, 256, 0x80, 1, 0, 0, 0, 0, 0, 0⟩
  | .movrChErrLo => ⟨0x61050, 256, 0x80, 1, 0, 0, 0, 0, 0, 0⟩
  | .movrChErrHi => ⟨0x61054, 256, 0x80, 1, 0, 0, 0, 0, 0, 0⟩
  | .movrChDoneCnt => ⟨0x61058, 256, 0x80, 1, 0, 0, 0, 0xffffffff, 0, 0⟩
  | .movrChTrigLostCnt => ⟨0x6105c, 256, 0x80, 1, 0, 0, 0, 0xffffffff, 0, 0⟩
  | .aprtWclkOut => ⟨0x70000, 1, 0, 1, 0, 0x1f, 0, 0, 5, 0⟩
  | .aprtMclkStat => ⟨0x70004, 1, 0, 1, 0, 0, 0, 0, 0, 0⟩
  | .portCfg => ⟨0x70100, 8, 0x40, 1, 0, 0x7ff, 0, 0, 0x10, 0⟩
  | .portFmt => ⟨0x70104, 8, 0x40, 1, 0, 0xf1f03, 0, 0, 0x60700, 0⟩
  | .portTxMapLo => ⟨0x70108, 8, 0x40, 1, 0, 0xffffffff, 0, 0, 0, 0⟩
  | .portTxMapHi => ⟨0x7010c, 8, 0x40, 1, 0, 0xffffffff, 0, 0, 0, 0⟩
  | .portRxEn => ⟨0x70110, 8, 0x40, 1, 0, 0xffffffff, 0, 0, 0, 0⟩
  | .portCmd => ⟨0x70114, 8, 0x40, 1, 0, 0, 0, 0, 0, 0⟩
  | .portStat => ⟨0x70118, 8, 0x40, 1, 0, 0, 0, 0, 0, 0⟩
  | .portEvt => ⟨0x7011c, 8, 0x40, 1, 0, 0, 0x3f, 0, 0, 0⟩
  | .portSlipCnt => ⟨0x70120, 8, 0x40, 1, 0, 0, 0, 0xffffffff, 0, 0⟩
  | .portXrunCnt => ⟨0x70124, 8, 0x40, 1, 0, 0, 0, 0xffffffff, 0, 0⟩
  | .portClipCnt => ⟨0x70128, 8, 0x40, 1, 0, 0, 0, 0xffffffff, 0, 0⟩
  | .portFrameErrCnt => ⟨0x7012c, 8, 0x40, 1, 0, 0, 0, 0xffffffff, 0, 0⟩
  | .hostKtpCfg => ⟨0x80000, 1, 0, 1, 0, 0xfffffff, 0, 0, 0x14803e8, 0⟩
  | .hostKtpPort => ⟨0x80004, 1, 0, 1, 0, 0x70000, 0, 0, 0x2b86a, 0⟩
  | .hostKtpStat => ⟨0x80008, 1, 0, 1, 0, 0, 0, 0, 0, 0⟩
  | .hostKtpRxCnt => ⟨0x8000c, 1, 0, 1, 0, 0, 0, 0xffffffff, 0, 0⟩
  | .hostKtpErrCnt => ⟨0x80010, 1, 0, 1, 0, 0, 0, 0xffffffff, 0, 0⟩
  | .hostKtpRetxCnt => ⟨0x80014, 1, 0, 1, 0, 0, 0, 0xffffffff, 0, 0⟩
  | .hostKtpLossCnt => ⟨0x80018, 1, 0, 1, 0, 0, 0, 0xffffffff, 0, 0⟩
  | .hostRetDropCnt => ⟨0x8001c, 1, 0, 1, 0, 0, 0, 0xffffffff, 0, 0⟩
  | .hostEvt => ⟨0x80020, 1, 0, 1, 0, 0, 0x7f, 0, 0, 0⟩
  | .hostRtpCfg => ⟨0x80040, 1, 0, 1, 0, 0xffffff3f, 0, 0, 0x1022, 0⟩
  | .hostRtpClipCnt => ⟨0x80044, 1, 0, 1, 0, 0, 0, 0xffffffff, 0, 0⟩
  | .hostPortCfg => ⟨0x80100, 2, 0x40, 1, 0, 0, 0, 0, 1, 0⟩
  | .hostPortStat => ⟨0x80104, 2, 0x40, 1, 0, 0, 0, 0, 0, 0⟩
  | .hostMacLo => ⟨0x80108, 2, 0x40, 1, 0, 0, 0, 0, 0, 0⟩
  | .hostMacHi => ⟨0x8010c, 2, 0x40, 1, 0, 0, 0, 0, 0, 0⟩
  | .hostIpv4 => ⟨0x80110, 2, 0x40, 1, 0, 0, 0, 0, 0, 0⟩
  | .hostIpv6 => ⟨0x80114, 2, 0x40, 4, 4, 0, 0, 0, 0, 0⟩
  | .hostPortErrCnt => ⟨0x80124, 2, 0x40, 1, 0, 0, 0, 0xffffffff, 0, 0⟩
  | .hostPtpCfg => ⟨0x80128, 2, 0x40, 1, 0, 0x3fff07, 0, 0, 0x2e7f02, 0⟩
  | .hostPtpOffset => ⟨0x8012c, 2, 0x40, 1, 0, 0, 0, 0, 0, 0⟩
  | .hostRtpCtl => ⟨0x81000, 1024, 0x20, 1, 0, 0x7f03ff, 0, 0, 0x620060, 0⟩
  | .hostRtpSsrc => ⟨0x81004, 1024, 0x20, 1, 0, 0xffffffff, 0, 0, 0, 0⟩
  | .hostRtpDst => ⟨0x81008, 1024, 0x20, 4, 4, 0xffffffff, 0, 0, 0, 0⟩
  | .hostRtpUdp => ⟨0x81018, 1024, 0x20, 1, 0, 0xffff, 0, 0, 0x138c, 0⟩
  | .hostRtpStat => ⟨0x8101c, 1024, 0x20, 1, 0, 0, 0, 0xffff0000, 0, 0⟩
  | .linkId => ⟨0x90000, 1, 0, 1, 0, 0, 0, 0, 0, 0⟩
  | .linkCtl => ⟨0x90004, 1, 0, 1, 0, 0xffff00ff, 0, 0, 0x27100010, 0⟩
  | .linkEvt => ⟨0x90008, 1, 0, 1, 0, 0, 7, 0, 0, 0⟩
  | .linkDropCnt => ⟨0x9000c, 1, 0, 1, 0, 0, 0, 0xffffffff, 0, 0⟩
  | .linkRtIdx => ⟨0x90020, 1, 0, 1, 0, 0xfff, 0, 0, 0, 0⟩
  | .linkRtData0 => ⟨0x90024, 1, 0, 1, 0, 0xffffffff, 0, 0, 0, 0⟩
  | .linkRtData1 => ⟨0x90028, 1, 0, 1, 0, 0xffffffff, 0, 0, 0, 0⟩
  | .linkRtData2 => ⟨0x9002c, 1, 0, 1, 0, 0xffffffff, 0, 0, 0, 0⟩
  | .linkRtData3 => ⟨0x90030, 1, 0, 1, 0, 0, 0, 0, 0, 0⟩
  | .linkTwinCfg => ⟨0x90040, 1, 0, 1, 0, 0, 0, 0, 0x120000, 0⟩
  | .linkTwinMirror => ⟨0x90044, 1, 0, 1, 0, 0, 0, 0, 0, 0⟩
  | .linkTwinStat => ⟨0x90048, 1, 0, 1, 0, 0, 0, 0, 0, 0⟩
  | .linkTwinCmd => ⟨0x9004c, 1, 0, 1, 0, 0, 0, 0, 0, 0⟩
  | .linkTwinAreaLo => ⟨0x90050, 1, 0, 1, 0, 0, 0, 0, 0, 0⟩
  | .linkTwinAreaHi => ⟨0x90054, 1, 0, 1, 0, 0, 0, 0, 0, 0⟩
  | .linkTwinStretchCnt => ⟨0x90058, 1, 0, 1, 0, 0, 0, 0xffffffff, 0, 0⟩
  | .linkTwinCkptLo => ⟨0x9005c, 1, 0, 1, 0, 0, 0, 0, 0, 0⟩
  | .linkTwinCkptHi => ⟨0x90060, 1, 0, 1, 0, 0, 0, 0, 0, 0⟩
  | .linkChCfg => ⟨0x90100, 64, 0x20, 1, 0, 7, 0, 0, 0, 0⟩
  | .linkChStat => ⟨0x90104, 64, 0x20, 1, 0, 0, 0, 0, 0, 0⟩
  | .linkChErrCnt => ⟨0x90108, 64, 0x20, 1, 0, 0, 0, 0xffffffff, 0, 0⟩
  | .linkChTxLo => ⟨0x9010c, 64, 0x20, 1, 0, 0, 0, 0, 0, 0⟩
  | .linkChTxHi => ⟨0x90110, 64, 0x20, 1, 0, 0, 0, 0, 0, 0⟩
  | .devStage => ⟨0x10, 1, 0, 1, 0, 0, 0, 0, 0, 0⟩
  | .devResetCause => ⟨0x14, 1, 0, 1, 0, 0, 0, 0, 8, 0⟩
  | .devEpoch => ⟨0x20, 1, 0, 1, 0, 0, 0, 0, 0, 0⟩
  | .devCfgStat => ⟨0x24, 1, 0, 1, 0, 0, 0, 0, 0, 0⟩
  | .devCfgRefCnt => ⟨0x28, 1, 0, 1, 0, 0, 0, 0xffffffff, 0, 0⟩
  | .devWdog => ⟨0x30, 1, 0, 1, 0, 0xffff, 0, 0, 0x7d0, 0⟩
  | .devSelftest => ⟨0x34, 1, 0, 1, 0, 0, 0, 0, 0, 0⟩
  | .devPitchEpoch => ⟨0x100, 16, 4, 1, 0, 0, 0, 0, 0, 0⟩
  | .secStat => ⟨0xb0000, 1, 0, 1, 0, 0, 0, 0, 0, 0⟩
  | .secPolicyVer => ⟨0xb0004, 1, 0, 1, 0, 0, 0, 0, 0, 0⟩
  | .secChallenge => ⟨0xb0010, 8, 4, 1, 0, 0, 0, 0, 0, 0⟩
  | .secRefCnt => ⟨0xb0030, 1, 0, 1, 0, 0, 0, 0xffffffff, 0, 0⟩
  | .secEvt => ⟨0xb0034, 1, 0, 1, 0, 0, 7, 0, 0, 0⟩
  | .pwrCtl => ⟨0xc0000, 1, 0, 1, 0, 0x100, 0, 0, 0, 0⟩
  | .pwrStat => ⟨0xc0004, 1, 0, 1, 0, 0, 0, 0, 0, 0⟩
  | .pwrCap => ⟨0xc0008, 1, 0, 1, 0, 0x3ff, 0, 0, 0x258, 0⟩
  | .pwrMeas => ⟨0xc000c, 1, 0, 1, 0, 0, 0, 0, 0, 0⟩
  | .pwrWakeTimer => ⟨0xc0010, 1, 0, 1, 0, 0xffffffff, 0, 0, 0, 0⟩
  | .pwrStepCnt => ⟨0xc0014, 1, 0, 1, 0, 0, 0, 0xffffffff, 0, 0⟩
  | .pwrEvt => ⟨0xc0018, 1, 0, 1, 0, 0, 0xf, 0, 0, 0⟩
  | .dbgStat => ⟨0xe0000, 1, 0, 1, 0, 0, 0, 0, 0, 0⟩
  | .dbgTraceCtl => ⟨0xe0004, 1, 0, 1, 0, 1, 0, 0, 0, 0⟩
  | .dbgTraceBaseLo => ⟨0xe0008, 1, 0, 1, 0, 0xffffffff, 0, 0, 0, 0⟩
  | .dbgTraceBaseHi => ⟨0xe000c, 1, 0, 1, 0, 0xffffffff, 0, 0, 0x100000, 0⟩
  | .dbgKskSel => ⟨0xe0020, 1, 0, 1, 0, 0xff, 0, 0, 0, 0⟩
  | .dbgKskCtl => ⟨0xe0024, 1, 0, 1, 0, 5, 0, 0, 0, 0⟩
  | .dbgKskViewSel => ⟨0xe0028, 1, 0, 1, 0, 0x11f7f, 0, 0, 0, 0⟩
  | .dbgKskView => ⟨0xe002c, 1, 0, 1, 0, 0xffffffff, 0, 0, 0, 0⟩
  | .trecStat => ⟨0xd0000, 1, 0, 1, 0, 0, 0, 0, 0, 0⟩
  | .trecCfg => ⟨0xd0004, 1, 0, 1, 0, 1, 0, 0, 0, 0⟩
  | .trecHeadSeqLo => ⟨0xd0008, 1, 0, 1, 0, 0, 0, 0, 0, 0⟩
  | .trecHeadSeqHi => ⟨0xd000c, 1, 0, 1, 0, 0, 0, 0, 0, 0⟩
  | .trecTailSeqLo => ⟨0xd0010, 1, 0, 1, 0, 0, 0, 0, 0, 0⟩
  | .trecTailSeqHi => ⟨0xd0014, 1, 0, 1, 0, 0, 0, 0, 0, 0⟩
  | .trecLostCnt => ⟨0xd0018, 1, 0, 1, 0, 0, 0, 0xffffffff, 0, 0⟩
  | .trecDivergeCnt => ⟨0xd001c, 1, 0, 1, 0, 0, 0, 0xffffffff, 0, 0⟩
  | .trecEvt => ⟨0xd0020, 1, 0, 1, 0, 0, 0xf, 0, 0, 0⟩

def regNames0 : List RegName :=
  [.tickUptimeLo, .tickUptimeHi, .tickTimeStat, .tickPtpSecLo, .tickPtpSecHi, .tickPtpNs,
   .tickCtl, .tickFrame, .tickLimit, .tickBudget, .tickStat, .tickEvt,
   .tickCntLo, .tickCntHi, .tickMeasRate, .tickDiscCnt, .tickMissCnt, .tickOvrCnt,
   .tickOvrMax, .tickSlipCnt, .tickHoldCnt, .tickCmd, .sdirStat, .sdirQdef,
   .sdirVtBaseLo, .sdirVtBaseHi, .sdirVtStat, .sdirVtMissCnt, .sdirStaleCnt, .sdirRefuseCnt]

def regNames1 : List RegName :=
  [.sdirEvt, .sdirGrpCfg, .sdirGrpSlip, .sdirStoreBaseLo, .sdirStoreBaseHi, .sdirStoreCfg,
   .sdirResStat, .sdirSwapInCnt, .sdirSwapOutCnt, .sdirSwapLateCnt, .sdirSwapWaitCnt, .sdirSwapReclaimCnt,
   .sdirPackExpCnt, .sdirPackImpCnt, .sdirPackRefCnt, .sdirResEvt, .sdirQstate, .qtrRegion,
   .qtrStat, .qtrLoad, .qtrWeight, .qtrBatchCfg, .qtrPassCntLo, .qtrPassCntHi,
   .qtrRowCntLo, .qtrRowCntHi, .qtrBusyCntLo, .qtrBusyCntHi, .qtrRegroupCnt, .qtrMoveSkipCnt]

def regNames2 : List RegName :=
  [.qtrGateStallCnt, .qtrGateNanCnt, .qtrWprotCnt, .qtrEvt, .qtrNumEvt, .qtrNonfinCnt,
   .qtrOutOvfCnt, .schedPreCfg, .schedPreStat, .schedPreLateCnt, .schedPreMissCnt, .schedPreRedoCnt,
   .schedPreResizeCnt, .schedPreEvt, .qtrExpRowCnt, .qtrTapskipCnt, .qtrPtwiseCnt, .qtrExpPadfbCnt,
   .qtrMarkDropCnt, .qtrConvEvt, .tstlCount, .tstlStat, .schedTstlCmd, .schedTstlArg,
   .schedTstlErrCnt, .schedTstlWaitCnt, .schedCancelCnt, .schedCancelDiscCnt, .schedLoadCnt, .schedLoadRefCnt]

def regNames3 : List RegName :=
  [.schedGraphEvt, .schedTstlPool, .schedStat, .schedCtl, .schedCtxSel, .schedCtxStat,
   .schedCtxAcctLo, .schedCtxAcctHi, .schedCtxShare, .schedWardSplit, .schedPitchCfg, .schedPitchStat,
   .schedBeShedCnt, .schedPreemptCnt, .schedEvictCnt, .schedAdmRefCnt, .schedPitchRstCnt, .schedPitchEvt,
   .qtrKskEvt, .qtrKskExcCnt, .kskStat, .kskPc, .kskExc, .kskExcPc,
   .kskExcAddrLo, .kskExcAddrHi, .kskDcmissCnt, .kskWbCnt, .memcStat, .memcCrcRetry]

def regNames4 : List RegName :=
  [.memcCrcFail, .memcFailAddrLo, .memcFailAddrHi, .memcCrcCfg, .memcScrubCfg, .memcScrubFail,
   .memcParRefetchCnt, .memcParFaultCnt, .memcDirParCnt, .memcDirRetired, .memcRbCfg, .memcEvt,
   .memcRbLateCnt, .memcRbBytesLo, .memcRbBytesHi, .memcChRetry, .movrStat, .movrHaltCnt,
   .movrRaceCnt, .movrCredit, .movrOwner, .movrChCtl, .movrChCmd, .movrChStat,
   .movrChTrig, .movrChTimer, .movrChTstl, .movrChDl, .movrChEvt, .movrChHeadLo]

def regNames5 : List RegName :=
  [.movrChHeadHi, .movrChCurLo, .movrChCurHi, .movrChSrcLo, .movrChSrcHi, .movrChDstLo,
   .movrChDstHi, .movrChRemain, .movrChListLo, .movrChListHi, .movrChErrLo, .movrChErrHi,
   .movrChDoneCnt, .movrChTrigLostCnt, .aprtWclkOut, .aprtMclkStat, .portCfg, .portFmt,
   .portTxMapLo, .portTxMapHi, .portRxEn, .portCmd, .portStat, .portEvt,
   .portSlipCnt, .portXrunCnt, .portClipCnt, .portFrameErrCnt, .hostKtpCfg, .hostKtpPort]

def regNames6 : List RegName :=
  [.hostKtpStat, .hostKtpRxCnt, .hostKtpErrCnt, .hostKtpRetxCnt, .hostKtpLossCnt, .hostRetDropCnt,
   .hostEvt, .hostRtpCfg, .hostRtpClipCnt, .hostPortCfg, .hostPortStat, .hostMacLo,
   .hostMacHi, .hostIpv4, .hostIpv6, .hostPortErrCnt, .hostPtpCfg, .hostPtpOffset,
   .hostRtpCtl, .hostRtpSsrc, .hostRtpDst, .hostRtpUdp, .hostRtpStat, .linkId,
   .linkCtl, .linkEvt, .linkDropCnt, .linkRtIdx, .linkRtData0, .linkRtData1]

def regNames7 : List RegName :=
  [.linkRtData2, .linkRtData3, .linkTwinCfg, .linkTwinMirror, .linkTwinStat, .linkTwinCmd,
   .linkTwinAreaLo, .linkTwinAreaHi, .linkTwinStretchCnt, .linkTwinCkptLo, .linkTwinCkptHi, .linkChCfg,
   .linkChStat, .linkChErrCnt, .linkChTxLo, .linkChTxHi, .devStage, .devResetCause,
   .devEpoch, .devCfgStat, .devCfgRefCnt, .devWdog, .devSelftest, .devPitchEpoch,
   .secStat, .secPolicyVer, .secChallenge, .secRefCnt, .secEvt, .pwrCtl]

def regNames8 : List RegName :=
  [.pwrStat, .pwrCap, .pwrMeas, .pwrWakeTimer, .pwrStepCnt, .pwrEvt,
   .dbgStat, .dbgTraceCtl, .dbgTraceBaseLo, .dbgTraceBaseHi, .dbgKskSel, .dbgKskCtl,
   .dbgKskViewSel, .dbgKskView, .trecStat, .trecCfg, .trecHeadSeqLo, .trecHeadSeqHi,
   .trecTailSeqLo, .trecTailSeqHi, .trecLostCnt, .trecDivergeCnt, .trecEvt]

/-- Every register name. -/
def regNames : List RegName := regNames0 ++ regNames1 ++ regNames2 ++ regNames3 ++ regNames4 ++ regNames5 ++ regNames6 ++ regNames7 ++ regNames8

/-- The offset (block plus register) of instance `i` of a card, `j` in its second dimension. -/
def RegName.off (r : RegName) (i : Nat) (j : Nat := 0) : Nat := r.card.base + i * r.card.s1 + j * r.card.s2

/-- The index of an offset among the instances of a card. -/
def RegCard.find (c : RegCard) (off : Nat) : Option (Nat × Nat) :=
  if off < c.base then none else
    let d := off - c.base
    let i := if c.s1 = 0 then 0 else min (d / c.s1) (c.c1 - 1)
    let e := d - i * c.s1
    let j := if c.s2 = 0 then 0 else min (e / c.s2) (c.c2 - 1)
    if e = j * c.s2 then some (i, j) else none

/-- The register at an offset, with its indices; none where no card defines it (00 R8). -/
def regAt (off : Nat) : Option (RegName × Nat × Nat) :=
  (regNames.filterMap (fun r => (r.card.find off).map (fun p => (r, p.1, p.2)))).head?

/-- The word after a power-on reset of instance `i`. -/
def RegName.resetWord (r : RegName) (i : Nat) : Nat := r.card.reset + i * r.card.step

/-- Bits no write of `v` to a card may touch: what the word holds after a plain write (00 R6, R8). -/
def RegCard.merge (c : RegCard) (old v : Nat) : Nat :=
  (old &&& (0xFFFFFFFF ^^^ c.rw ^^^ c.w1c)) ||| (v &&& c.rw) ||| ((old &&& c.w1c) &&& (0xFFFFFFFF ^^^ v))

/-- The word after a read: RC fields are zero (00 R6). -/
def RegCard.afterRead (c : RegCard) (old : Nat) : Nat := old &&& (0xFFFFFFFF ^^^ c.rc)

end Sys2Proof.Machine
end

