-- ==== Sys2Proof/Machine/Mem.lean ====
section
/-! DEFINITION. Memory: one list of (address, byte) pairs over LPDDR5X and Quarter SRAM (12 R305), addresses strictly
rising, no listed byte equal to 0, which is what an unlisted address reads as. -/

namespace Sys2Proof.Machine

abbrev Memory := List Host.Cell

/-- The canonical form, seen from a lower bound: every address is at least `lo`, they rise, no byte is 0. -/
def Memory.wfFrom : Nat → Memory → Bool
  | _, [] => true
  | lo, (a, b) :: t => decide (lo ≤ a) && decide (b ≠ 0#8) && Memory.wfFrom (a + 1) t

/-- The canonical form of memory. -/
def Memory.wf (m : Memory) : Bool := Memory.wfFrom 0 m

/-- The byte at an address: 0 where nothing is listed (12 R315, 10 R248). -/
def Memory.read : Memory → Nat → Byte
  | [], _ => 0#8
  | (k, b) :: t, a => if k = a then b else Memory.read t a

/-- Bytes placed one after another from an address, zero bytes left out. -/
def Memory.cellsAt : Nat → List Byte → Memory
  | _, [] => []
  | a, b :: bs => if b = 0#8 then Memory.cellsAt (a + 1) bs else (a, b) :: Memory.cellsAt (a + 1) bs

/-- Replace the `len` addresses from `a` by `cells`. -/
def Memory.splice (m : Memory) (a len : Nat) (cells : Memory) : Memory :=
  m.filter (fun c => decide (c.1 < a)) ++ cells ++ m.filter (fun c => decide (a + len ≤ c.1))

/-- Store bytes from an address on. -/
def Memory.write (m : Memory) (a : Nat) (bs : List Byte) : Memory := m.splice a bs.length (Memory.cellsAt a bs)

/-- Set `len` bytes from `a` to zero. -/
def Memory.zero (m : Memory) (a len : Nat) : Memory := m.splice a len []

/-- The listed cells of a range. -/
def Memory.slice (m : Memory) (a len : Nat) : Memory := m.filter (fun c => decide (a ≤ c.1) && decide (c.1 < a + len))

/-- The `n` bytes from an address on. -/
def Memory.readN (m : Memory) (a n : Nat) : List Byte :=
  let sl := m.slice a n
  (List.range n).map (fun i => Memory.read sl (a + i))

/-- Copy `len` bytes from `src` to `dst`. -/
def Memory.copy (m : Memory) (src dst len : Nat) : Memory :=
  m.splice dst len ((m.slice src len).map (fun c => (c.1 - src + dst, c.2)))

def Memory.leN (m : Memory) (a n : Nat) : Nat := leNat (m.readN a n)

/-- Store a little-endian number (00 R2). -/
def Memory.writeLe (m : Memory) (a n v : Nat) : Memory := m.write a (leBytes n v)

end Sys2Proof.Machine
end

