-- ==== Sys2Proof/Machine/State.lean ====
section
/-! DEFINITION. The state of the device as plain data, and the state right after a power-on reset. Management registers
that are no part of a typed record below are held in `State.regs`, by their offset; an offset not listed holds the card's
reset value. -/

namespace Sys2Proof.Machine

/-- There is no fault: no command stops the device (00 R9, 15 R384). -/
inductive Fault where
  /-- Raised by nothing; kept so that the type has a name for a stop. Safe. -/
  | none
  deriving DecidableEq, Repr

/-- Why a command has no meaning here. -/
inductive Refusal where
  /-- Raised by `exec` for a command whose meaning is not written. Safe: nothing is claimed of the command. -/
  | notModelled (mnemonic : String)
  deriving DecidableEq, Repr

/-- A message whose reply comes later, and the epoch under which it was admitted (15 R383). -/
structure PendMsg where
  msg : Instr
  epoch : Nat
  deriving DecidableEq, Repr

/-! ### Tick domains (01) -/

/-- Monitor states (01 R31). -/
inductive Mon where
  | off | acquire | locked | holdover | stepPending | stopped
  deriving DecidableEq, Repr

/-- A source in use or chosen: SRC, WCLK_MULT and LINK_SEL (01 R25, R28). -/
structure TickSrc where
  src : Nat
  mult : Nat
  link : Nat
  deriving DecidableEq, Repr

/-- One tick domain (01 R11, R22, R26 to R33). `next` is the index of the next tick, which after a stop is the F of R33;
rates are in 1/16 Hz; `mark` is the tick index of the last LINK marker (01 R27), `skipEdge` says that its edge goes with a
discarded marker. `edgeNs` is the uptime of the last tick. `base16` is the source's rate that the generator follows and
`phaseErr` the phase error in ns that it slews away (01 R26). `hist` holds the rates of the last 1,024 ticks, newest first, each
with how many ticks ran at it (01 R32), and `ivFrom` the index at which the monitor's interval began, if one runs (01 R30). -/
structure TickDom where
  mon : Mon
  next : Nat
  issued : Bool
  frameDiv : Nat
  framePend : Option Nat
  stopReq : Bool
  srcUse : TickSrc
  srcPend : Option TickSrc
  freeRun : Bool
  runOpen : Bool
  run : Nat
  missed : Nat
  edges : Nat
  outRange : Bool
  divOn : Bool
  divPh : Nat
  rate16 : Nat
  held16 : Nat
  clamp : Bool
  ovrFrame : Nat
  mark : Option Nat
  skipEdge : Bool
  base16 : Nat
  phaseErr : Nat
  hist : List (Nat × Nat)
  ivFrom : Option Nat
  edgeNs : Nat
  deriving DecidableEq, Repr

def TickDom.reset : TickDom :=
  { mon := .off, next := 0, issued := false, frameDiv := 512, framePend := none, stopReq := false,
    srcUse := ⟨0, 0, 0⟩, srcPend := none, freeRun := false, runOpen := false, run := 0, missed := 0, edges := 0,
    outRange := false, divOn := false, divPh := 0, rate16 := 768000, held16 := 768000, clamp := false, ovrFrame := 0,
    mark := none, skipEdge := false, base16 := 768000, phaseErr := 0, hist := [], ivFrom := none, edgeNs := 0 }

/-! ### Streams and residency (02, 03, 07) -/

/-- Stream states (02 R56); their codes are `SState.code`. -/
inductive SState where
  | free | idle | run | paused | ended | drain | faulted
  deriving DecidableEq, Repr

/-- LOC of STATE_LOC (03 R81). -/
inductive Loc where
  | initial | resident | stored | moving
  deriving DecidableEq, Repr

/-- The fields of a directory record that name the stream and place it (02 R60, 03 R81). -/
structure SRec where
  gen : Nat
  state : SState
  be : Bool
  laneCompat : Bool
  endSeen : Bool
  voice : Nat
  pitch : Nat
  domain : Nat
  d : Nat
  phase : Nat
  sampleIdx : Nat
  seed : Nat
  loc : Loc
  cls : Nat
  quarter : Nat
  slot : Nat
  group : Option Nat
  qdepth : Nat
  dest : Nat
  epoch : Nat
  deriving DecidableEq, Repr

/-- The counters of a record and its retired mark (02 R60, R61, 12 R321). -/
structure SCnt where
  ovr : Nat
  slip : Nat
  under : Nat
  qfull : Nat
  fault : Nat
  retired : Bool
  deriving DecidableEq, Repr

/-- Delivery: output queue, takes, holding and the host-return buffer (02 R65 to R71, 15 R386); `skip` counts samples that
are still to be computed and not queued after a takeover, `heldFrom` the tick since which its takes were held (16 R422), `bad`
that a word of the output queue has bad parity (12 R319). -/
structure SDel where
  queue : List Nat
  prime : Nat
  startTick : Nat
  taking : Bool
  takes : Nat
  hold : Bool
  fresh : Bool
  slot : Nat
  sess : Nat
  hostBuf : List Nat
  hostFirst : Nat
  flush : Bool
  underSent : Bool
  skip : Nat
  heldFrom : Option Nat
  bad : Bool
  deriving DecidableEq, Repr

/-- A chunk of feature frames cut for encoding (07 R185), or one of the parts into which restart marks split it (07 R192), which
share `whole`, the chunk's first frame: its frames, whether it is encoded, the execution that encodes it, and its deadline. -/
structure Chunk where
  f0 : Nat
  n : Nat
  whole : Nat
  encoded : Bool
  exec : Option Nat
  deadline : Nat
  deriving DecidableEq, Repr

/-- Feature input and conditioning (07 R169 to R193, 15 R385). Positions are sample indices, frames are frame numbers; `bad` says
that a word of a conditioning frame has bad parity (12 R319). -/
structure SFeat where
  marks : List (Nat × Option Nat)
  frames : Tab (List Byte)
  nextE : Nat
  endAt : Option Nat
  cut : Nat
  chunks : List Chunk
  encoded : Tab (List Byte)
  cond : Tab (List Byte)
  fNext : Nat
  bounds : List Nat
  seeds : List (Nat × Nat)
  bad : Bool
  deriving DecidableEq, Repr

/-- How a stream is closing (02 R56, 03 R98). -/
inductive Closing where
  | no | abort | move
  deriving DecidableEq, Repr

/-- A pending export (03 R98, R99, 16 R412). -/
structure Export where
  move : Bool
  toDevice : Bool
  device : Nat
  session : Nat
  tag : Nat
  opn : List Byte
  capAt : Option Nat
  queue : List Nat
  pack : List Byte
  deriving DecidableEq, Repr

/-- A pending group change (02 R531). -/
structure GrpChange where
  group : Option Nat
  batch : Option Nat
  phase : Nat
  deriving DecidableEq, Repr

/-- The rest of a stream's life (02, 03); frame work of the frames below `deferred` was counted if it was deferred (07 R180). -/
structure SLife where
  closing : Closing
  exec : Option Nat
  idleFrames : Nat
  dep : Bool
  batch : Option Nat
  deferred : Nat
  adapterOk : Bool
  exportP : Option Export
  grpPend : Option GrpChange
  deriving DecidableEq, Repr

structure Stream where
  dir : SRec
  cnt : SCnt
  del : SDel
  feat : SFeat
  life : SLife
  deriving DecidableEq, Repr

/-- A directory entry nothing has used since reset: generation 1, FREE, all else zero (02 R44, R45). -/
def Stream.blank : Stream :=
  { dir := { gen := 1, state := .free, be := false, laneCompat := false, endSeen := false, voice := 0, pitch := 0,
             domain := 0, d := 0, phase := 0, sampleIdx := 0, seed := 0, loc := .initial, cls := 0, quarter := 0,
             slot := 0, group := none, qdepth := 0, dest := 0, epoch := 0 },
    cnt := { ovr := 0, slip := 0, under := 0, qfull := 0, fault := 0, retired := false },
    del := { queue := [], prime := 0, startTick := 0, taking := false, takes := 0, hold := false, fresh := false, slot := 0,
             sess := 0, hostBuf := [], hostFirst := 0, flush := false, underSent := false, skip := 0,
             heldFrom := none, bad := false },
    feat := { marks := [], frames := [], nextE := 0, endAt := none, cut := 0, chunks := [], encoded := [], cond := [],
              fNext := 0, bounds := [], seeds := [], bad := false },
    life := { closing := .no, exec := none, idleFrames := 0, dep := false,
              batch := none, deferred := 0, adapterOk := false, exportP := none, grpPend := none } }

/-- An alignment group's settings in force and its hold (02 R70 to R75). -/
structure Group where
  lockstep : Bool
  fill : Nat
  holding : Bool
  held : Nat
  deriving DecidableEq, Repr

def Group.blank : Group := ⟨false, 16, false, 0⟩

/-- A page of a state region: its class and its allocated slots (03 R79, R80). -/
structure PageUse where
  cls : Nat
  used : List Nat
  deriving DecidableEq, Repr

/-- One operation of a swap engine (03 R83 to R90, 04 R127, R129); `fresh` when LOC was 0 (03 R90). Deadlines are in ns of
uptime (12 R322). -/
inductive SwapOp where
  | swapIn (i : Nat) (lc : Bool) (deadline : Nat) (q : Nat) (fresh : Bool)
  | copy (i : Nat) (q : Nat) (page slot : Nat) (lc : Bool) (deadline : Nat)
  | swapOut (i : Nat)
  | capture (i : Nat)
  deriving DecidableEq, Repr

/-- A swap engine (03 R83, R86): its queue, the operation it performs, the stream whose swap-in waits for room, whether
EVT_SWAP_STALL was sent since the last frame tick, and the stream that it has evicted to make room. -/
structure SwapEng where
  queue : List SwapOp
  cur : Option SwapOp
  waiting : Option Nat
  stallSent : Bool
  evicting : Option Nat
  deriving DecidableEq, Repr

def SwapEng.idle : SwapEng := ⟨[], none, none, false, none⟩

/-! ### Batches, Pitches, contexts, models and executions (04, 07, 09, 10) -/

/-- A standing LC batch (04 R124, R125). -/
structure Batch where
  id : Nat
  pitch : Nat
  model : Nat
  domain : Nat
  d : Nat
  phase : Nat
  quarter : Nat
  members : List Nat
  reserved : List Nat
  bw : Nat
  deriving DecidableEq, Repr

/-- An LC frame batch (07 R171, R180). -/
structure FBatch where
  pitch : Nat
  quarter : Nat
  model : Nat
  members : List Nat
  k : Nat
  bw : Nat
  deriving DecidableEq, Repr

/-- A Pitch (10 R247 to R251, R262 to R277, 07 R190). Settings in force; the registers hold what was written last. -/
structure Pitch where
  built : Bool
  building : Bool
  domain : Nat
  qmask : Nat
  shares : Bool
  waitMode : Bool
  teardown : Bool
  chunkCur : Nat
  calm : Nat
  beOrder : List Nat
  shed : Option Bool
  ovrFrame : Nat
  lateFrame : Nat
  stopCycle : Option Nat
  sparse : Nat
  num : Nat × Nat × Nat
  epoch : Nat
  roll : Bool
  resetMsg : Option PendMsg
  deriving DecidableEq, Repr

def Pitch.blank : Pitch :=
  { built := false, building := false, domain := 0, qmask := 0, shares := false, waitMode := false, teardown := false,
    chunkCur := 4, calm := 0, beOrder := [], shed := none, ovrFrame := 0, lateFrame := 0,
    stopCycle := none, sparse := 0, num := (0, 0, 0), epoch := 0, roll := false,
    resetMsg := none }

/-- Context states (10 R257). -/
inductive CState where
  | free | registered | arriving | resident | leaving | faulted
  deriving DecidableEq, Repr

/-- A job context (10 R252 to R271). `granting` holds the promised weight and working bases of a context that waits for others
to leave (10 R260, R262). -/
structure Ctx where
  state : CState
  be : Bool
  pitch : Nat
  weight : Nat
  wPages : Nat
  kPages : Nat
  wBase : Nat
  kBase : Nat
  spill : Nat
  granting : Option (Nat × Nat)
  everSpilled : Bool
  restored : Bool
  runnable : Bool
  waitF : Nat
  blockF : Nat
  resF : Nat
  busy : Bool
  frameAcct : Nat
  acct : Nat
  vtime : Nat
  fault : Nat
  deriving DecidableEq, Repr

def Ctx.blank : Ctx :=
  { state := .free, be := false, pitch := 0, weight := 0, wPages := 0, kPages := 0, wBase := 0, kBase := 0, spill := 0,
    granting := none, everSpilled := false, restored := false, runnable := false, waitF := 0, blockF := 0, resF := 0,
    busy := false, frameAcct := 0, acct := 0, vtime := 0, fault := 0 }

/-- How far a loaded model is (09 R244, R246). -/
inductive MStage where
  | queued | copying | copied | usable | unloading
  deriving DecidableEq, Repr

/-- A loaded model (09 R239 to R246). `pages` are its pages in the weight region, `staging` in the working share; `staged` says
for each Quarter up to which over-budget byte the staging pages were filled last (09 R242). -/
structure Model where
  pitch : Nat
  id : Nat
  acoustic : Bool
  ctx : Nat
  addr : Nat
  len : Nat
  hash : List Byte
  stateBytes : Nat
  w : Nat
  we : Nat
  chain : Nat
  pages : List Nat
  staging : List Nat
  staged : Tab Nat
  split : Bool
  overBytes : Nat
  stage : MStage
  first : Bool
  unload : Bool
  deriving DecidableEq, Repr

/-- A load that waits for its context (09 R239). -/
structure LoadReq where
  msg : PendMsg
  pitch : Nat
  ctx : Nat
  addr : Nat
  deriving DecidableEq, Repr

/-- Which subgraph an execution runs (09 R224). -/
inductive Sub where
  | step | frame | chunk
  deriving DecidableEq, Repr

/-- One row of an execution: its stream, the sample or frame it computes, and whether it still commits. `set` is the
advanced generator set of its noise fill. -/
structure Row where
  stream : Nat
  pos : Nat
  live : Bool
  set : List Nat
  deriving DecidableEq, Repr

/-- How far a task is (09 R225, R226). -/
inductive TPhase where
  | waiting | ready | running | between | retired | done
  deriving DecidableEq, Repr

/-- A decoded candidate of a mark decoder: score, index, start, end, clipped (08 R215). -/
structure Cand where
  score : Nat
  idx : Nat
  st : Int
  en : Int
  clipped : Bool
  deriving DecidableEq, Repr

/-- What a MARK_DECODE task holds between its tiles (08 R213): its parameters and anchors (centre, width), the survivors in
score order that are still to be taken, the marks kept, and the counts of candidates decoded and dropped. -/
structure MarkWork where
  arg : Config.MarkArg
  anchors : List (Int × Int)
  decoded : Nat
  dropped : Nat
  found : List Cand
  order : List Cand
  kept : List Cand
  deriving DecidableEq, Repr

/-- A task of an execution: `saved` holds A1 to A31 of a KIOSK task and `mark` the values of a MARK_DECODE task between their
tiles (11 R283, 08 R213), and `direct` says that an EXPAND task left its command undone because the Squares read the input
rows (08 R209). -/
structure TaskSt where
  pend : Nat
  tile : Nat
  phase : TPhase
  unit : Option Nat
  saved : List (BitVec 64)
  waitT : Option Nat
  mark : Option MarkWork
  direct : Bool
  deriving DecidableEq, Repr

/-- One execution (09 R224 to R238). Deadlines are ticks of the Pitch's domain, `missAt` the cycle of a deadline edge that
passed. `before` holds the carried values that its rows' slots held before its first tile, with their addresses: what a restart
after a cancellation continues from (10 R278; log 115). -/
structure Exec where
  id : Nat
  sub : Sub
  pitch : Nat
  ctx : Nat
  model : Nat
  quarter : Nat
  be : Bool
  rows : List Row
  released : Bool
  waited : Bool
  relTick : Nat
  relCycle : Nat
  deadline : Nat
  tasks : List TaskSt
  bound : List Nat
  fetches : Nat
  cancelled : Bool
  firstTile : Option Nat
  preempts : Nat
  cycles : Nat
  missAt : Option Nat
  before : List (Nat × Nat × List Byte)
  deriving DecidableEq, Repr

/-- Square results waiting for their gate program (04 R116, R119): keyed by execution, the GATE task of their group, block and
segment. -/
structure Part where
  exec : Nat
  group : Nat
  block : Nat
  seg : Nat
  pipe : Nat
  rows : List (List Nat)
  deriving DecidableEq, Repr

/-- A unit that runs a tile, or a Square's accumulator set that a task holds (09 R226, R227); `stall` is the cycle up to which
its wait for staging has been counted (04 R119). -/
structure UnitRun where
  quarter : Nat
  kind : UnitKind
  unit : Nat
  exec : Nat
  task : Nat
  running : Bool
  start : Nat
  acc : List (List Nat)
  stall : Option Nat
  deriving DecidableEq, Repr

/-- A Turnstile (09 R231). -/
structure Tstl where
  count : BitVec 32
  target : BitVec 24
  armed : Bool
  met : Bool
  ovf : Bool
  bound : Option Nat
  deriving DecidableEq, Repr

def Tstl.reset : Tstl := ⟨0, 0, false, false, false, none⟩

/-! ### Kiosks (11, 18) -/

/-- Kiosk run states (11 KSK_STAT). -/
inductive KRun where
  | idle | run | wait | release | exc
  deriving DecidableEq, Repr

/-- What a release ends in (11 R297). -/
inductive KRel where
  | pass (t n : Nat) | yield | fin | fence
  deriving DecidableEq, Repr

/-- A data cache line or write-buffer entry: its address, bytes and dirty flag per byte (11 R293), and the words, 0 to 7, whose
parity is bad (12 R318). -/
structure CLine where
  addr : Nat
  data : List Byte
  dirty : List Bool
  bad : List Nat
  deriving DecidableEq, Repr

/-- A Kiosk (11 R282, R283, R293, 18 R474, R475). `flight` holds write-backs that were
started and have not landed; `haltAt` is the cycle at which it was halted, `held` the cause of an
exception that waits for RELEASE. -/
structure Kiosk where
  a : List (BitVec 64)
  v : List (List (BitVec 32))
  m : List (BitVec 32)
  opr : List (BitVec 64)
  pc : Nat
  run : KRun
  exec : Option Nat
  task : Nat
  start : Nat
  tick : Nat
  waitT : Nat
  rel : Option KRel
  lines : List CLine
  wbuf : List CLine
  flight : List CLine
  haltAt : Nat
  halt : Bool
  haltExc : Bool
  held : Option Nat
  deriving DecidableEq, Repr

def Kiosk.reset : Kiosk :=
  { a := List.replicate 32 0, v := List.replicate 32 (List.replicate 32 0), m := List.replicate 8 0,
    opr := List.replicate 64 0, pc := 0, run := .idle, exec := none, task := 0, start := 0, tick := 0, waitT := 0,
    rel := none, lines := [], wbuf := [], flight := [], haltAt := 0, halt := false, haltExc := false, held := none }

/-! ### Memory checks (12) -/

/-- A parity error waiting for its re-fetch: the bad word, its Quarter, the execution that waits and the deadline that the
re-fetch carries (12 R320, R322). -/
structure Refetch where
  quarter : Nat
  addr : Nat
  exec : Option Nat
  deadline : Option Nat
  deriving DecidableEq, Repr

/-- Retries within one second of uptime: the second, its retries so far, and 1 plus the last second reported (12 R317, 16 R402). -/
structure Retries where
  sec : Nat
  count : Nat
  warned : Nat
  deriving DecidableEq, Repr

def Retries.zero : Retries := ⟨0, 0, 0⟩

/-- `k` more in second `now`. -/
def Retries.add (r : Retries) (now k : Nat) : Retries :=
  if r.sec = now then { r with count := r.count + k } else { r with sec := now, count := k }

/-- Whether the second's retries are to be reported: more than the threshold, unless that is 0, and not reported yet. -/
def Retries.due (r : Retries) (warn : Nat) : Bool := warn != 0 && decide (warn < r.count) && r.warned != r.sec + 1

def Retries.report (r : Retries) : Retries := { r with warned := r.sec + 1 }

/-- What the checks hold beside the bytes (12 R310 to R321): blocks whose data and check value do not match (block
indices), SRAM words and directory words with bad parity (word addresses), and the patrol: the block it reads next, and, of the
pass begun last, the uptime it began at and its PERIOD (R316). -/
structure MemX where
  badBlocks : List Nat
  badWords : List Nat
  refetch : List Refetch
  filled : Bool
  trained : Bool
  retries : Retries
  patrol : Nat
  scrubbing : Bool
  passAt : Option Nat
  passHours : Nat
  deriving DecidableEq, Repr

/-! ### Movers (13) -/

/-- Channel states (13 R332). -/
inductive ChState where
  | off | idle | run | waitTrig | waitPreq | empty | paused | halted
  deriving DecidableEq, Repr

/-- A fetched descriptor's snapshot (13 R328 to R330). -/
structure Desc where
  next : Nat
  src : Nat
  dst : Nat
  ctrl : Nat
  status : Nat
  deriving DecidableEq, Repr

/-- A mover channel (13 R328 to R350). `pos` is the stream offset below which every byte is written; `list` and `lpos`
are the current list entry and the offset inside it; `gen` is the fetch generation (an execution) if not 0; `trigs` holds the
pending triggers, oldest first, with the generation and the uptime each brings. -/
structure Chan where
  state : ChState
  back : ChState
  trigs : List (Option Nat × Nat)
  cur : Nat
  desc : Option Desc
  pos : Nat
  list : Nat
  lpos : Nat
  wprot : Bool
  gen : Option Nat
  trigTime : Option Nat
  enTime : Nat
  timerK : Nat
  request : Bool
  burst : Bool
  late : Bool
  dry : Option Nat
  held : List Byte
  cause : Nat
  kind : Nat
  dir : Bool
  err : Nat
  deriving DecidableEq, Repr

def Chan.reset : Chan :=
  { state := .off, back := .idle, trigs := [], cur := 0, desc := none, pos := 0, list := 0, lpos := 0, wprot := false,
    gen := none, trigTime := none, enTime := 0, timerK := 0, request := false, burst := false, late := false, dry := none,
    held := [], cause := 0, kind := 0,
    dir := false, err := 0 }

/-! ### Audio ports (14) -/

/-- An assembled frame entry: one word per slot, 0 where the slot is no stream slot (14 R357). -/
abbrev Entry := List Nat

/-- What a port puts on its pins for one frame (14 R351): the pins it drives, the slot words in slot order, and for each BCLK
period from the first bit of slot 0 on the level of FSYNC and the data bit. With no period, the driven pins are held low. -/
structure PortFrame where
  pins : List PortPin
  words : List Nat
  wire : List (Bool × Bool)
  deriving DecidableEq, Repr

/-- An audio port (14 R351 to R368). `fifo` is the crossing FIFO, or with CLK = DOMAIN the entries on their way, oldest
first; `tx` and `rx` are the mover FIFOs; `delivered` is the last sample each slot delivered (14 R357). -/
structure Port where
  fifo : List Entry
  primed : Bool
  lastEntry : Entry
  lastMov : List Nat
  tx : List Nat
  rx : List Nat
  rot : Nat
  rxRot : Nat
  slotLost : Bool
  rxSlotLost : Bool
  noclk : Bool
  rateErr : Bool
  pinFault : Bool
  contend : Bool
  good : Nat
  restart : Bool
  off : List PortPin
  txReq : Nat
  rxReq : Nat
  repeated : Bool
  delivered : Tab Nat
  deriving DecidableEq, Repr

def Port.reset : Port :=
  { fifo := [], primed := false, lastEntry := [], lastMov := [], tx := [], rx := [], rot := 0, rxRot := 0,
    slotLost := false, rxSlotLost := false, noclk := false, rateErr := false, pinFault := false, contend := false,
    good := 0, restart := false, off := [], txReq := 0, rxReq := 0, repeated := false,
    delivered := [] }

/-! ### Host transport (15) -/

/-- One KTP datagram (15 R376), as it is sent; its bytes are given by `Dgram.bytes`. -/
structure Dgram where
  flags : Nat
  session : Nat
  seq : Nat
  ack : Nat
  typ : Nat
  status : Nat
  tag : Nat
  epoch : Nat
  payload : List Byte
  deriving DecidableEq, Repr

/-- One event record (15 R388). -/
structure EvRec where
  code : Nat
  flags : Nat
  subject : Nat
  uptime : Nat
  tick : Nat
  ptpSec : Nat
  ptpNs : Nat
  arg0 : Nat
  arg1 : Nat
  deriving DecidableEq, Repr

/-- A message whose fragments are arriving (15 R381). `bad` holds the status it is to be refused with. -/
structure Partial where
  typ : Nat
  tag : Nat
  epoch : Nat
  data : List Byte
  bad : Nat
  count : Nat
  deriving DecidableEq, Repr

/-- One KTP session (15 R378 to R389). -/
structure Session where
  num : Nat
  peer : Peer
  evtMask : Nat
  maxPayload : Nat
  openTag : Nat
  openedAt : Nat
  gotSeq : Bool
  rxNext : Nat
  txNext : Nat
  unacked : List Dgram
  waiting : List Dgram
  rto : Nat
  expiries : Nat
  ackOwed : Bool
  part : Option Partial
  evq : List EvRec
  evLost : Nat
  lastRx : Nat
  timerAt : Nat
  owedAt : Nat
  deriving DecidableEq, Repr

/-- Who or what a datagram or frame of another protocol is sent to, with what it says (15 R373, R391). -/
inductive NetMsg where
  | arpReply (p : EthNo) (dest : Peer) (addr : Nat)
  | neighbourAdvert (p : EthNo) (dest : Peer) (addr : Nat)
  | echoReply (p : EthNo) (dest : Peer) (data : List Byte)
  | delayReq (p : EthNo) (dscp : Nat) (v6 : Bool) (seq : Nat)
  deriving DecidableEq, Repr

/-- Where and how an RTP packet goes (15 R393). -/
structure RtpRoute where
  port : Nat
  v6 : Bool
  dst : Nat
  udp : Nat
  dscp : Nat
  hop : Nat
  deriving DecidableEq, Repr

/-- What leaves the module, newest first in `State.out`. -/
inductive Out where
  | ktp (peer : Peer) (d : Dgram)
  | net (m : NetMsg)
  | rtp (r : Nat) (route : RtpRoute) (seq : Nat) (ts : Nat) (samples : List Byte)
  | port (p : PortNo) (f : PortFrame)
  | periph (code : Nat) (bytes : List Byte)
  | flit (n : LinkNo) (bytes : List Byte)
  | train (n : LinkNo) (bytes : List Byte)
  | jtag (v : Nat)
  deriving DecidableEq, Repr

/-- A PTP instance (15 R391, R392). `phc` is the distance of PTP time from uptime, in ns (log 45). -/
structure Ptp where
  locked : Bool
  master : Option Nat
  underRun : Nat
  overRun : Nat
  pendSync : Option (Nat × Int)
  t1 : Int
  t2 : Int
  delaySeq : Nat
  t3 : Int
  pathDelay : Int
  phc : Int
  tracked : Bool
  deriving DecidableEq, Repr

def Ptp.blank : Ptp :=
  { locked := false, master := none, underRun := 0, overRun := 0, pendSync := none, t1 := 0, t2 := 0, delaySeq := 0,
    t3 := 0, pathDelay := 0, phc := 0, tracked := false }

/-- An RTP stream (15 R393 to R395): `ts` is the media clock index of the next sample to enter the packet `pkt`. -/
structure Rtp where
  running : Bool
  free : Bool
  seq : Nat
  fifo : List (List Nat)
  primed : Bool
  last : List Nat
  pkt : List (List Nat)
  ts : Nat
  deriving DecidableEq, Repr

def Rtp.start : Rtp :=
  { running := true, free := false, seq := 0, fifo := [], primed := false, last := [], pkt := [], ts := 0 }

/-- An Ethernet port's light and lanes (15 R375). -/
structure EthPort where
  link : Bool
  lanes : Nat
  mac : Nat
  deriving DecidableEq, Repr

def EthPort.blank : EthPort := ⟨false, 0, 0⟩

/-! ### Recorder and replay (19) -/

/-- The Tolcon ring's header words (19 R488); the records themselves lie in LPDDR5X. -/
structure Trec where
  head : Nat
  tail : Nat
  headSeq : Nat
  tailSeq : Nat
  drainSeq : Nat
  drainOff : Nat
  wraps : Nat
  startSeq : Option Nat
  lost : Bool
  wrapSent : Bool
  deriving DecidableEq, Repr

/-- A record read back from a recording (19 R489). -/
structure RecIn where
  kind : Nat
  flags : Nat
  seq : Nat
  tick : Nat
  subject : Nat
  body : List Byte
  deriving DecidableEq, Repr

/-- REPLAY mode (19 R494 to R498): `applied` is the SEQ of the record applied last, `stopped` the domains that stand still
until their recorded RESTART. -/
structure Replay where
  active : Bool
  session : Nat
  queue : List RecIn
  lastSeq : Option Nat
  bytes : Nat
  diverged : Bool
  stopped : List Nat
  applied : Nat
  deriving DecidableEq, Repr

/-! ### Chip links and the twin (16) -/

/-- Link states (16 R403). -/
inductive LState where
  | off | seek | align | exchange | up | down | loopback
  deriving DecidableEq, Repr

/-- A flit, as its fields (16 R397). -/
structure Flit where
  dst : Nat
  src : Nat
  typ : Nat
  flags : Nat
  hops : Nat
  seq : Nat
  ack : Nat
  msgId : Nat
  payload : List Byte
  deriving DecidableEq, Repr

/-- A message whose flits are arriving (16 R411). -/
structure LAsm where
  src : Nat
  msgId : Nat
  cls : Nat
  data : List Byte
  deriving DecidableEq, Repr

/-- A flit that waits for a flit boundary: where it came from (64: the device itself) and the flit (16 R410). -/
structure LQueued where
  source : Nat
  flit : Flit
  deriving DecidableEq, Repr

/-- A chip link (16 R399 to R411). In ns of uptime: `since`, when it entered its state or last toggled CROSSED; `ackAt`, when ACK last
advanced, flits became outstanding or were resent; `trainAt`, when it sent its last TRAIN flit (R401, R403, R404). -/
structure Link where
  state : LState
  crossed : Bool
  inverted : Bool
  peerId : Nat
  peerLink : Nat
  seen : Bool
  txSeq : Nat
  unacked : List Flit
  rxNext : Nat
  nakSent : Bool
  nakOwed : Bool
  resends : Nat
  queue : List LQueued
  lastSrc : List Nat
  busySrc : List (Nat × Nat)
  sent : Nat
  retries : Retries
  since : Nat
  ackAt : Nat
  trainAt : Option Nat
  train : List Byte
  asm : List LAsm
  pinned : List (Nat × Nat × Nat)
  deriving DecidableEq, Repr

def Link.reset : Link :=
  { state := .off, crossed := false, inverted := false, peerId := 0, peerLink := 0, seen := false, txSeq := 0,
    unacked := [], rxNext := 0, nakSent := false, nakOwed := false, resends := 0, queue := [], lastSrc := [],
    busySrc := [], sent := 0, retries := Retries.zero, since := 0, ackAt := 0, trainAt := none, train := [], asm := [], pinned := [] }

/-- A pack captured and not delivered (03 R100), or sent to a device and not answered (16 R412). -/
structure Xfer where
  idx : Nat
  handle : Nat
  toDevice : Bool
  srcTick : Nat
  dest : Nat
  tag : Nat
  session : Nat
  move : Bool
  pack : List Byte
  msg : Option Nat
  sentAt : Nat
  delivered : Bool
  answers : Nat
  deriving DecidableEq, Repr

/-- Twin states (16 LINK_TWIN_STAT). -/
inductive TwState where
  | none | attaching | attached | lost | taking | alone | detached | refused
  deriving DecidableEq, Repr

/-- The twin (16 R414 to R425). On the primary `capture` holds the streams whose checkpoint capture waits, each with its
frame tick, `captured` how many packs were sent, `ckptRow` is 1 after a frame tick with a capture, and `inTime` counts
checkpoints in a row that were not late. On the standby `packs` is the checkpoint that arrives and `complete` the one of
`fc`, by handle; `wr` is the write position in the receiving half. -/
structure Twin where
  state : TwState
  refuse : Nat
  stretched : Bool
  changed : Bool
  fc : Nat
  half : Bool
  packs : List (Nat × List Byte)
  complete : List (Nat × List Byte)
  inputs : List RecIn
  fwdWait : List (Nat × Nat × Dgram)
  wr : Nat
  abandoned : Bool
  capture : List (Nat × Nat)
  captured : Nat
  ckptF : Nat
  ckptOpen : Bool
  ckptEnd : Option (Nat × Nat)
  ckptRow : Nat
  inTime : Nat
  hbSent : List (Nat × Nat)
  hbAcked : List (Nat × Nat)
  hbMissed : Nat
  lastHb : List (Nat × Nat)
  detach : Bool
  deriving DecidableEq, Repr

/-! ### Start, images and configuration (17) -/

/-- The causes of a device-wide reset (17 R450). -/
inductive Cause where
  | por | pin | mgmt | wdog | twin
  deriving DecidableEq, Repr

/-- An image upload in progress (17 R436). -/
structure Upload where
  session : Nat
  kind : Nat
  total : Nat
  data : List Byte
  deriving DecidableEq, Repr

/-- One configuration record (17 R440, R441). -/
structure CfgRec where
  tag : Nat
  val : List Byte
  deriving DecidableEq, Repr

/-- An area of LPDDR5X (17 R441): base and size in bytes. -/
structure Area where
  base : Nat
  size : Nat
  deriving DecidableEq, Repr

/-- The stage and what surrounds it (17 R426 to R439, 21). `runFw` and `runCfg` are the images that run. -/
structure Dev where
  stage : Nat
  hold : Nat
  holdStep : Nat
  starting : Bool
  cause : Cause
  ringKept : Bool
  oldRing : Option Area
  startMs : Nat
  rstLow : Bool
  supplies : Bool
  pwrGood : Bool
  trip : Bool
  wdogArmed : Bool
  upd : Nat
  upload : Option Upload
  program : Option (PendMsg × Upload)
  mgmtReset : Option Nat
  fetchAt : Nat
  bootPorts : List (Nat × PortFrame)
  selftest : Nat
  wclkShort : Bool
  mclk : Option Nat
  runFw : List Byte
  runCfg : List Byte
  deriving DecidableEq, Repr

/-- A committed Pitch roll or a commit that waits (17 R446 to R448). -/
structure Commit where
  recs : List (Nat × CfgRec)
  epoch : Nat
  since : Nat
  deriving DecidableEq, Repr

/-- Configuration (17 R440 to R448). -/
structure Cfg where
  epoch : Nat
  inForce : List CfgRec
  staged : List CfgRec
  stagedBytes : Nat
  commit : Option Commit
  toApply : List (Nat × CfgRec)
  rolling : Bool
  rollEpoch : Nat
  nextPitch : Nat
  drainFrom : Option Nat
  feature : Option Area
  trec : Option Area
  update : Option Area
  twinArea : Option Area
  twin : Option (List Byte)
  deriving DecidableEq, Repr

/-- The boot flash (17 R433, 18 R458, R463): whether it answers, its directory, its image partitions and records. -/
structure Flash where
  present : Bool
  mib : Nat
  dirOk : Bool
  counterAuth : Bool
  config : List Byte
  firmware : List Byte
  ctr0 : Nat
  ctr1 : Nat
  ctr2 : Nat
  recA : List Byte
  recB : List Byte
  areaB : Bool
  keys : Bool
  serial : List Byte
  mac : Nat
  deriving DecidableEq, Repr

/-! ### Security, debug and power (18) -/

/-- What the signer works on: a report, for the message that asked (18 R460, R461). -/
structure SignJob where
  msg : PendMsg
  report : List Byte
  deriving DecidableEq, Repr

/-- Protection and debug (18 R458 to R475). -/
structure Sec where
  lifecycle : Nat
  policy : Option (List Byte)
  idOk : Bool
  pufOk : Bool
  signer : Option SignJob
  refused : List Nat
  challenge : List Byte
  level : Nat
  maxSeen : Nat
  tracePos : Nat
  deriving DecidableEq, Repr

/-- Cap shedding in a tick domain (18 R482): a measurement at the floor exceeded the cap in the frame that runs, shedding is
in force, for how many frames, and the frame that runs is a trial. -/
structure CapDom where
  seen : Bool
  shed : Bool
  run : Nat
  trial : Bool
  deriving DecidableEq, Repr

def CapDom.reset : CapDom := ⟨false, false, 0, false⟩

/-- Power states and the cap (18 R476 to R482). -/
structure Pwr where
  state : Nat
  target : Option Nat
  step : Nat
  calm : Nat
  atFloor : Bool
  cap0 : CapDom
  cap1 : CapDom
  capMiss : Bool
  capSec : Nat
  entered : Nat
  wake : Nat
  wakePend : Option Nat
  waking : Bool
  refuse : Nat
  stoppedDoms : List Nat
  wakeMsgs : List Instr
  ingress : Nat
  deriving DecidableEq, Repr

/-! ### The whole state -/

/-- The time base and outputs. -/
structure State where
  pending : List Instr
  free : Nat
  cycle : Nat
  uptime : Nat
  phase : Nat
  regs : Tab Nat
  shadows : List (Requester × Nat × Nat)
  td0 : TickDom
  td1 : TickDom
  streams : Tab Stream
  groups : Tab Group
  vcache : List Nat
  pages : Tab PageUse
  swap : Tab SwapEng
  batches : List Batch
  fbatches : List FBatch
  nextId : Nat
  pitches : Tab Pitch
  ctxs : Tab Ctx
  models : List Model
  loads : List LoadReq
  execs : List Exec
  parts : List Part
  units : List UnitRun
  tstl : Tab Tstl
  kiosks : Tab Kiosk
  mem : Memory
  memx : MemX
  chans : Tab Chan
  ports : Tab Port
  sessions : List Session
  nextSession : Nat
  eth : Tab EthPort
  ptp : Tab Ptp
  rtp : Tab Rtp
  links : Tab Link
  routes : Tab (List Byte)
  msgId : Nat
  xfers : List Xfer
  twin : Twin
  dev : Dev
  cfg : Cfg
  flash : Flash
  sec : Sec
  pwr : Pwr
  trec : Trec
  replay : Replay
  faultSec : List (Nat × Nat × Nat)
  out : List Out
  deriving DecidableEq, Repr

def Twin.reset : Twin :=
  { state := .none, refuse := 0, stretched := false, changed := false, fc := 0, half := false, packs := [],
    complete := [], inputs := [], fwdWait := [], wr := 0, abandoned := false, capture := [], captured := 0, ckptF := 0,
    ckptOpen := false, ckptEnd := none, ckptRow := 0, inTime := 0, hbSent := [], hbAcked := [], hbMissed := 0, lastHb := [], detach := false }

/-- After POR the supplies are good and PWR_GOOD is high, which is what a POR is (17 R450, 21 R514). -/
def Dev.reset : Dev :=
  { stage := 0, hold := 0, holdStep := 0, starting := true, cause := .por, ringKept := false, oldRing := none,
    startMs := 0, rstLow := false, supplies := true, pwrGood := true, trip := false, wdogArmed := false, upd := 0,
    upload := none, program := none, mgmtReset := none, fetchAt := 0, bootPorts := [], selftest := 0, wclkShort := false, mclk := none, runFw := [],
    runCfg := [] }

def Cfg.reset : Cfg :=
  { epoch := 0, inForce := [], staged := [], stagedBytes := 0, commit := none, toApply := [], rolling := false,
    rollEpoch := 0, nextPitch := 0, drainFrom := none, feature := none, trec := none, update := none, twinArea := none,
    twin := none }

/-- A flash with a good directory and erased partitions (log 8). -/
def Flash.reset : Flash :=
  { present := true, mib := 64, dirOk := true, counterAuth := true, config := [], firmware := [], ctr0 := 0, ctr1 := 0,
    ctr2 := 0, recA := [], recB := [], areaB := false, keys := false, serial := List.replicate 16 0#8, mac := 0 }

/-- Protection at reset (18 R458 to R475). The spec gives SEC_CHALLENGE no value before the first is drawn: none is held, and its
words read 0 (log 9). -/
def Sec.reset : Sec :=
  { lifecycle := 0, policy := none, idOk := false, pufOk := true, signer := none, refused := [], challenge := [],
    level := 0, maxSeen := 0, tracePos := 0 }

def Pwr.reset : Pwr :=
  { state := 0, target := none, step := 0, calm := 0, atFloor := false, cap0 := CapDom.reset, cap1 := CapDom.reset,
    capMiss := false, capSec := 0, entered := 0, wake := 0, wakePend := none, waking := false,
    refuse := 0, stoppedDoms := [], wakeMsgs := [], ingress := 0 }

def Trec.reset : Trec :=
  { head := 0x10000, tail := 0x10000, headSeq := 0, tailSeq := 0, drainSeq := 0, drainOff := 0x10000, wraps := 0,
    startSeq := none, lost := false, wrapSent := false }

def Replay.reset : Replay :=
  { active := false, session := 0, queue := [], lastSeq := none, bytes := 0, diverged := false, stopped := [], applied := 0 }

def MemX.reset : MemX :=
  { badBlocks := [], badWords := [], refetch := [], filled := false, trained := false, retries := Retries.zero,
    patrol := 0, scrubbing := false, passAt := none, passHours := 24 }

/-- The device right after a power-on reset (17 R426, R450, R454): Groundsheet, nothing built, loaded or open. -/
def State.reset : State :=
  { pending := [], free := 0, cycle := 0, uptime := 0, phase := 0, regs := [], shadows := [], td0 := TickDom.reset,
    td1 := TickDom.reset, streams := [], groups := [], vcache := [], pages := [], swap := [], batches := [],
    fbatches := [], nextId := 1, pitches := [], ctxs := [], models := [], loads := [], execs := [], parts := [],
    units := [], tstl := [], kiosks := [], mem := [], memx := MemX.reset, chans := [], ports := [], sessions := [],
    nextSession := 1, eth := [], ptp := [], rtp := [], links := [], routes := [], msgId := 0, xfers := [],
    twin := Twin.reset, dev := Dev.reset, cfg := Cfg.reset, flash := Flash.reset, sec := Sec.reset, pwr := Pwr.reset,
    trec := Trec.reset, replay := Replay.reset, faultSec := [], out := [] }

end Sys2Proof.Machine
end

