-- ==== Sys2Proof/Machine/Ops.lean ====
section
/-! DEFINITION. The shared operations: register fields, counters and flags (00 R6), tick domains and time (01), events and
KTP output (15), Tolcon records (19), links out (16) and free values. -/

namespace Sys2Proof.Machine

/-! ### Registers -/

/-- The word a register holds: what was stored last, or its value after POR (00 R10). -/
def State.rg (s : State) (r : RegName) (i : Nat := 0) (j : Nat := 0) : Nat := Tab.getD s.regs (r.off i j) (r.resetWord i)

def State.setRg (s : State) (r : RegName) (i : Nat) (v : Nat) (j : Nat := 0) : State :=
  { s with regs := Tab.set s.regs (r.off i j) (v % 2 ^ 32) }

/-- A word with one field replaced. -/
def putField (old hi lo v : Nat) : Nat := old - bitsOf old hi lo * 2 ^ lo + (v % 2 ^ (hi + 1 - lo)) * 2 ^ lo

/-- A field of a register (00 R3). -/
def State.fld (s : State) (r : RegName) (i hi lo : Nat) : Nat := bitsOf (s.rg r i) hi lo

def State.setFld (s : State) (r : RegName) (i hi lo v : Nat) : State := s.setRg r i (putField (s.rg r i) hi lo v)

/-- Raise a saturating counter field by `n`. -/
def State.cnt (s : State) (r : RegName) (i hi lo n : Nat) : State :=
  s.setFld r i hi lo (satAdd (hi + 1 - lo) (s.fld r i hi lo) n)

/-- Raise a 32-bit saturating counter by one. -/
def State.inc (s : State) (r : RegName) (i : Nat := 0) : State := s.cnt r i 31 0 1

/-- Set a sticky flag (00 R6). -/
def State.flag (s : State) (r : RegName) (i bit : Nat) : State := s.setRg r i (s.rg r i ||| 2 ^ bit)

/-- One bit of a register. -/
def State.bit (s : State) (r : RegName) (i n : Nat) : Bool := (s.rg r i).testBit n

/-- Do `f` if the condition holds. -/
def State.cond (s : State) (b : Bool) (f : State → State) : State := if b then f s else s

/-- Do `f` for each element, in order. -/
def State.each {α : Type} (s : State) (l : List α) (f : State → α → State) : State := l.foldl f s

/-! ### Storing (12 R311, R318) -/

/-- Store bytes: blocks and words that the store covers whole get a valid check (12 R311, R318). -/
def State.poke (s : State) (a : Nat) (bs : List Byte) : State :=
  let whole := fun (lo n : Nat) => decide (a ≤ lo) && decide (lo + n ≤ a + bs.length)
  { s with mem := s.mem.write a bs,
           memx := { s.memx with badBlocks := s.memx.badBlocks.filter (fun b => !whole (b * 64) 64),
                                 badWords := s.memx.badWords.filter (fun w => !whole w 8) } }

/-- Set a range to zero with valid checks. -/
def State.wipe (s : State) (a n : Nat) : State :=
  let whole := fun (lo k : Nat) => decide (a ≤ lo) && decide (lo + k ≤ a + n)
  { s with mem := s.mem.zero a n,
           memx := { s.memx with badBlocks := s.memx.badBlocks.filter (fun b => !whole (b * 64) 64),
                                 badWords := s.memx.badWords.filter (fun w => !whole w 8) } }

/-- Copy a range, with valid checks at the target. -/
def State.move (s : State) (src dst n : Nat) : State :=
  let whole := fun (lo k : Nat) => decide (dst ≤ lo) && decide (lo + k ≤ dst + n)
  { s with mem := s.mem.copy src dst n,
           memx := { s.memx with badBlocks := s.memx.badBlocks.filter (fun b => !whole (b * 64) 64),
                                 badWords := s.memx.badWords.filter (fun w => !whole w 8) } }

/-! ### Free values -/

/-- One draw of a free value (log 1). -/
def State.draw (s : State) : Nat × State := (Config.freeNat s.free, { s with free := s.free + 1 })

/-! ### Tick domains and time -/

def State.td (s : State) (d : Nat) : TickDom := if d = 0 then s.td0 else s.td1

def State.setTd (s : State) (d : Nat) (t : TickDom) : State := if d = 0 then { s with td0 := t } else { s with td1 := t }

def State.updTd (s : State) (d : Nat) (f : TickDom → TickDom) : State := s.setTd d (f (s.td d))

/-- The index of the most recent tick issued (TICK_CNT; 01). -/
def TickDom.cnt (t : TickDom) : Nat := t.next - 1

def State.tick (s : State) (d : Nat) : Nat := (s.td d).cnt

/-- Whether a domain issues ticks (01 R31, R32). -/
def TickDom.ticking (t : TickDom) : Bool :=
  match t.mon with
  | .locked | .holdover | .stepPending => true
  | .acquire => t.freeRun
  | .off | .stopped => false

def Mon.code : Mon → Nat
  | .off => 0 | .acquire => 1 | .locked => 2 | .holdover => 3 | .stepPending => 4 | .stopped => 5

/-- The base rate in Hz (01 R12). -/
def State.baseRate (s : State) (d : Nat) : Nat := if s.bit .tickCtl d 1 then 44100 else 48000

/-- TICK_BUDGET (01 R16). -/
def State.budget (s : State) (d : Nat) : Nat := 1600000000 / s.baseRate d - 640

def State.lcPct (s : State) (d : Nat) : Nat := s.fld .tickLimit d 6 0

/-- LC_LIMIT_CYC (01 R17). -/
def State.lcLimit (s : State) (d : Nat) : Nat := s.budget d * s.lcPct d / 100

/-- Whether the time basis is PTP (01 R41). -/
def State.timeBasis (s : State) : Bool :=
  match Tab.get? s.ptp (if s.bit .tickTimeStat 0 1 then 1 else 0) with
  | some p => p.locked
  | none => false

/-- PTP time of the port in TICK_TIME_STAT, in ns (01 R41). -/
def State.ptpTime (s : State) : Nat :=
  if s.timeBasis then
    match Tab.get? s.ptp (if s.bit .tickTimeStat 0 1 then 1 else 0) with
    | some p => (p.phc + s.uptime).toNat
    | none => 0
  else 0

/-- A MGMT reset follows 10 ms from now (17 R452). -/
def State.resetSoon (s : State) : State := { s with dev := { s.dev with mgmtReset := some (s.dev.mgmtReset.getD s.uptime) } }

def State.second (s : State) : Nat := s.uptime / 1000000000

/-! ### Small list helpers -/

/-- Change the elements a test holds of. -/
def updWhere {α : Type} (p : α → Bool) (f : α → α) (l : List α) : List α := l.map (fun x => if p x then f x else x)

def find1 {α : Type} (l : List α) (p : α → Bool) : Option α := (l.filter p).head?

/-! ### KTP datagrams (15 R376) -/

def Dgram.header (d : Dgram) (crc : Nat) : List Byte :=
  leBytes 2 0x544B ++ leBytes 1 1 ++ leBytes 1 d.flags ++ leBytes 4 d.session ++ leBytes 4 d.seq ++ leBytes 4 d.ack
    ++ leBytes 2 d.typ ++ leBytes 2 d.status ++ leBytes 4 d.tag ++ leBytes 4 d.epoch ++ leBytes 2 d.payload.length
    ++ leBytes 2 0 ++ leBytes 4 crc ++ leBytes 4 0

/-- The bytes of a datagram, with its CRC-32C (15 R376). -/
def Dgram.bytes (d : Dgram) : List Byte := d.header (crc32c (d.header 0 ++ d.payload)) ++ d.payload

def State.sess (s : State) (n : Nat) : Option Session := find1 s.sessions (fun x => x.num == n)

def State.updSess (s : State) (n : Nat) (f : Session → Session) : State :=
  { s with sessions := updWhere (fun x => x.num == n) f s.sessions }

def State.emit (s : State) (o : Out) : State := { s with out := o :: s.out }

/-- ACK fields as every datagram of a session carries them (15 R379). -/
def Session.stamp (x : Session) (d : Dgram) : Dgram := { d with ack := x.rxNext, flags := d.flags ||| 1 }

/-- Send from the waiting list while fewer than 256 datagrams are unacknowledged (15 R380): the datagrams that go out,
in order, and the session after. The retransmission timer starts with the first. -/
def Session.transmit (x : Session) (now : Nat) : List Dgram × Session :=
  let n := 256 - x.unacked.length
  let go := (x.waiting.take n).map x.stamp
  (go, { x with unacked := x.unacked ++ go, waiting := x.waiting.drop n, ackOwed := x.ackOwed && go.isEmpty,
                timerAt := if x.unacked.isEmpty && !go.isEmpty then now else x.timerAt })

/-- Cut a message into the fragments of 15 R381 and queue them, numbered (15 R378). -/
def Session.queueMsg (x : Session) (typ status tag epoch : Nat) (pay : List Byte) : Session :=
  let parts := if pay.isEmpty then [[]] else chunks (max 1 x.maxPayload) pay
  let n := parts.length
  let ds := parts.zipIdx.map (fun p =>
    ({ flags := if p.2 + 1 < n then 4 else 0, session := x.num, seq := (x.txNext + p.2) % 2 ^ 32, ack := 0, typ := typ,
       status := status, tag := tag, epoch := epoch, payload := p.1 } : Dgram))
  { x with waiting := x.waiting ++ ds, txNext := (x.txNext + n) % 2 ^ 32 }

/-- Let a session send what its window allows. -/
def State.pump (s : State) (n : Nat) : State :=
  match s.sess n with
  | none => s
  | some x =>
    let r := x.transmit s.uptime
    (s.updSess n (fun _ => r.2)).cond true (fun t => { t with out := (r.1.map (fun d => Out.ktp x.peer d)).reverse ++ t.out })

/-- Send a message on a session; nothing if it is not open. -/
def State.sendMsg (s : State) (n typ status tag epoch : Nat) (pay : List Byte) : State :=
  (s.updSess n (fun x => x.queueMsg typ status tag epoch pay)).pump n

/-- The configuration epoch in force (17). -/
def State.epoch (s : State) : Nat := s.cfg.epoch

/-! ### Events (15 R388 to R390) -/

def EvRec.bytes (e : EvRec) : List Byte :=
  leBytes 2 e.code ++ leBytes 1 e.flags ++ leBytes 1 0 ++ leBytes 4 e.subject ++ leBytes 8 e.uptime ++ leBytes 8 e.tick
    ++ leBytes 8 e.ptpSec ++ leBytes 4 e.ptpNs ++ leBytes 4 0 ++ leBytes 8 e.arg0 ++ leBytes 8 e.arg1

/-- An event record as of now, for a domain (01 R42, 15 R388). -/
def State.evRec (s : State) (code subject dom arg0 arg1 : Nat) : EvRec :=
  { code := code, flags := (if s.timeBasis then 1 else 0) + (if dom = 0 then 0 else 2), subject := subject,
    uptime := s.uptime, tick := s.tick dom, ptpSec := s.ptpTime / 1000000000, ptpNs := s.ptpTime % 1000000000,
    arg0 := arg0, arg1 := arg1 }

/-- Put a record on a session's queue; the oldest goes when 4,096 are held (15 R389). -/
def Session.pushEv (x : Session) (e : EvRec) : Session :=
  if x.evq.length < 4096 then { x with evq := x.evq ++ [e] }
  else { x with evq := x.evq.drop 1 ++ [e], evLost := x.evLost + 1 }

/-- Whether a session is subscribed to a code's group (15 R389). -/
def Session.wants (x : Session) (code : Nat) : Bool := x.evtMask.testBit (code / 256)

/-- Send an event to the subscribed sessions that a test holds of. -/
def State.eventIf (s : State) (p : Session → Bool) (code subject dom arg0 arg1 : Nat) : State :=
  let e := s.evRec code subject dom arg0 arg1
  let hit := fun (x : Session) => x.wants code && p x
  let lost := (s.sessions.filter (fun x => hit x && decide (4096 ≤ x.evq.length))).length
  let s1 := { s with sessions := updWhere hit (fun x => x.pushEv e) s.sessions }
  if lost = 0 then s1 else (s1.cnt .hostKtpLossCnt 0 31 16 lost).flag .hostEvt 0 3

/-- Send an event to every subscribed session; the domain gives its tick (01 R42). -/
def State.event (s : State) (code subject : Nat) (dom : Nat := 0) (arg0 : Nat := 0) (arg1 : Nat := 0) : State :=
  s.eventIf (fun _ => true) code subject dom arg0 arg1

/-- How many event records one datagram of a session holds (15 R388). -/
def Session.evPer (x : Session) : Nat := max 1 ((x.maxPayload - 8) / 56)

def eventPayload (es : List EvRec) : List Byte :=
  leBytes 2 es.length ++ leBytes 6 0 ++ es.flatMap EvRec.bytes

/-- Send queued event records while the window has room (15 R380, R389). -/
def flushSess (ep : Nat) : Nat → Session → Session
  | 0, x => x
  | f + 1, x =>
    if x.evq.isEmpty || !x.waiting.isEmpty || decide (256 ≤ x.unacked.length + x.waiting.length) then x
    else
      let es := x.evq.take x.evPer
      flushSess ep f (({ x with evq := x.evq.drop x.evPer }).queueMsg 0xF0 0 0 ep (eventPayload es))

/-- Report lost records once the queue has room (15 R389). -/
def State.reportLost (s : State) (x : Session) : Session :=
  if x.evLost ≠ 0 && decide (x.evq.length < 4096) then
    { x with evq := x.evq ++ [s.evRec 0x0903 x.num 0 x.evLost 0], evLost := 0 }
  else x

/-- Whether a reply of a session waits for the twin's acknowledgement (16 R416). -/
def State.replyHeld (s : State) (x : Session) : Bool := s.twin.fwdWait.any (fun w => w.2.2.session == x.num)

/-- A session's events on their way: what the report adds, one message after another; none before a held reply
(15 R382, 16 R416). -/
def State.flushOne (s : State) (x : Session) : Session :=
  if s.replyHeld x then x else flushSess s.epoch 64 (s.reportLost x)

/-- End of a command: queued events leave after its reply (15 R382). -/
def finish (s : State) : State :=
  let ss := s.sessions.map (fun x => (s.flushOne x).transmit s.uptime)
  let outs := ss.flatMap (fun r => r.1.map (fun d => Out.ktp r.2.peer d))
  { s with sessions := ss.map (fun r => r.2), out := outs.reverse ++ s.out }

/-! ### Messages onto a chip link (16 R397, R410, R411) -/

def State.link (s : State) (n : Nat) : Link := Tab.getD s.links n Link.reset

def State.updLink (s : State) (n : Nat) (f : Link → Link) : State := { s with links := Tab.modify s.links n Link.reset f }

/-- UP links that the configuration marks as twin links (16 R414). -/
def State.twinLinks (s : State) : List Nat :=
  (List.range 64).filter (fun n => s.bit .linkChCfg n 3 && (s.link n).state == .up)

def State.ownId (s : State) : Nat := s.fld .linkId 0 15 0

/-- The MSG flits of one message from this device (16 R411). -/
def msgFlits (dst src cls hops msgId kind tag : Nat) (body : List Byte) : List Flit :=
  let parts := chunks 236 (leBytes 2 kind ++ leBytes 2 0 ++ leBytes 4 body.length ++ leBytes 4 tag ++ leBytes 4 0 ++ body)
  parts.zipIdx.map (fun p =>
    { dst := dst, src := src, typ := 4, hops := hops, seq := 0, ack := 0, msgId := msgId, payload := p.1,
      flags := cls + (if p.2 = 0 then 4 else 0) + (if p.2 + 1 = parts.length then 8 else 0) })

def State.queueFlits (s : State) (n source : Nat) (fs : List Flit) : State :=
  s.updLink n (fun l => { l with queue := l.queue ++ fs.map (fun f => ⟨source, f⟩) })

/-- Queue a message on one link, one hop taken (16 R407); the answer is its MSG_ID (16 R411). Source 64 is the device
itself. -/
def State.sendOn (s : State) (n dst cls kind tag : Nat) (body : List Byte) : Nat × State :=
  let id := s.msgId
  (id, ({ s with msgId := (id + 1) % 65536 }).queueFlits n 64
         (msgFlits dst s.ownId cls (s.fld .linkCtl 0 7 0 - 1) id kind tag body))

/-- Whether this module is an attached primary, which forwards its records (16 R416). -/
def State.forwarding (s : State) : Bool := s.twin.state == .attached && !s.bit .linkTwinCfg 0 16

/-- Forward one record as TWIN_INPUT on the lowest UP twin link (16 R416; log 20). -/
def State.forward (s : State) (bs : List Byte) : Option (Nat × Nat) × State :=
  match s.twinLinks.head? with
  | none => (none, s)
  | some n =>
    let r := s.sendOn n (s.fld .linkTwinCfg 0 15 0) 1 3 0 bs
    (some (n, r.1), r.2)

/-! ### Device faults (19 R485) -/

/-- EVT_DEVICE_FAULT, at most once per code and second; further ones are counted for the next event. -/
def State.deviceFault (s : State) (code arg0 : Nat) : State :=
  match find1 s.faultSec (fun r => r.1 == code) with
  | some r =>
    if r.2.1 = s.second + 1 then { s with faultSec := updWhere (fun x => x.1 == code) (fun x => (x.1, x.2.1, x.2.2 + 1)) s.faultSec }
    else
      ({ s with faultSec := updWhere (fun x => x.1 == code) (fun x => (x.1, s.second + 1, 0)) s.faultSec }).event
        0x0D01 code 0 arg0 r.2.2
  | none => ({ s with faultSec := s.faultSec ++ [(code, s.second + 1, 0)] }).event 0x0D01 code 0 arg0 0

/-! ### Block checks (12 R310 to R313) -/

/-- Blocks of LPDDR5X that a range touches and that fail their check (12 R310, R313). -/
def State.badIn (s : State) (a n : Nat) : List Nat :=
  s.memx.badBlocks.filter (fun b => decide (b * 64 + 64 > a) && decide (b * 64 < a + n))

/-- The channel of an address (12 R308). -/
def chanOf (addr : Nat) : Nat := ((addr / 256) ^^^ (addr / 16384)) % 64

/-- A failed read: counted, latched, reported, and bad until the block is written whole (12 R313). -/
def State.readFailed (s : State) (addr code : Nat) : State :=
  let b := addr / 64
  let c := chanOf addr
  let s1 := ((s.inc .memcCrcFail).cnt .memcChRetry c 31 16 1).setRg .memcFailAddrLo 0 (b * 64)
  let s2 := s1.setRg .memcFailAddrHi 0 (b * 64 / 2 ^ 32 % 65536 + c * 2 ^ 16 + code * 2 ^ 24)
  let s3 : State := if s2.memx.badBlocks.contains b then s2
    else { s2 with memx := { s2.memx with badBlocks := s2.memx.badBlocks ++ [b] } }
  (s3.flag .memcEvt 0 0).event 0x0601 c 0 (b * 64) code

/-- The read of a range by a requester that stops at the first block that fails (12 R313). -/
def State.failedRead (s : State) (a n code : Nat) : State :=
  match (s.badIn a n).head? with
  | some b => s.readFailed (b * 64) code
  | none => s

/-- Words of Quarter SRAM that a range touches and whose parity is bad (12 R318). -/
def State.badWordsIn (s : State) (a n : Nat) : List Nat :=
  s.memx.badWords.filter (fun w => decide (w + 8 > a) && decide (w < a + n))

/-- A block that a store covers only in part is read first (12 R311): the first such block that fails its check. -/
def State.partBad (s : State) (a n : Nat) : Option Nat :=
  ((s.badIn a n).filter (fun b => decide (b * 64 < a) || decide (a + n < b * 64 + 64))).head?

/-- A store cut at the boundaries of blocks. -/
def blockPieces (a : Nat) (bs : List Byte) : List (Nat × List Byte) :=
  (List.range ((a + bs.length + 63) / 64 - a / 64)).map (fun k =>
    let lo := max a ((a / 64 + k) * 64)
    (lo, (bs.drop (lo - a)).take (min (a + bs.length) ((a / 64 + k + 1) * 64) - lo)))

/-- A store to LPDDR5X by a requester: where it covers a block only in part and that block fails its check, that part is not
performed (12 R311). -/
def State.storePart (s : State) (a : Nat) (bs : List Byte) (code : Nat) : State :=
  if (s.partBad a bs.length).isNone then s.poke a bs
  else s.each (blockPieces a bs) (fun s p =>
    if p.2.length < 64 && !(s.badIn p.1 p.2.length).isEmpty then s.readFailed p.1 code else s.poke p.1 p.2)

/-- A store by the management core; a read-modify-write that fails is FLT_MGMT_READ (19 R487). -/
def State.mgmtStore (s : State) (a : Nat) (bs : List Byte) : State :=
  match s.partBad a bs.length with
  | none => s.poke a bs
  | some b => (s.storePart a bs 7).deviceFault 0x22 (b * 64)

/-! ### The Tolcon ring (19 R488 to R492) -/

/-- The ring header of 64 bytes (19 R488). -/
def Trec.header (t : Trec) : List Byte :=
  let b := leBytes 4 0x43455254 ++ leBytes 2 1 ++ leBytes 2 0 ++ leBytes 8 t.head ++ leBytes 8 t.tail ++ leBytes 8 t.headSeq
    ++ leBytes 8 t.tailSeq ++ leBytes 8 t.drainSeq ++ leBytes 4 t.wraps ++ leBytes 4 0
  b ++ leBytes 4 (crc32c b) ++ leBytes 4 0

/-- A record's bytes (19 R489). A PAD shorter than a header is the start of one (log 18). -/
def recBytes (len kind flags seq uptime tick ptpSec ptpNs epoch subject : Nat) (body : List Byte) : List Byte :=
  let padded := body ++ List.replicate ((16 - body.length % 16) % 16) 0#8
  let h := leBytes 4 len ++ leBytes 2 kind ++ leBytes 2 flags ++ leBytes 8 seq ++ leBytes 8 uptime
    ++ leBytes 8 tick ++ leBytes 8 ptpSec ++ leBytes 4 ptpNs ++ leBytes 4 epoch ++ leBytes 4 subject ++ leBytes 8 0
  h ++ leBytes 4 (crc32c (h ++ leBytes 4 0 ++ padded)) ++ padded

/-- The length of a record with a body of `n` bytes. -/
def recLen (n : Nat) : Nat := 64 + (n + 15) / 16 * 16

/-- The stamped domain when a record names none (19 R489). -/
def State.defaultDom (s : State) : Nat := if s.td0.ticking then 0 else if s.td1.ticking then 1 else 0

/-- Overwrite the oldest records whose bytes the next write reaches: [at, at + len) (19 R492). -/
def trecDrop (m : Memory) (base size lo len : Nat) : Nat → Trec → Trec
  | 0, t => t
  | f + 1, t =>
    if t.tailSeq < t.headSeq && decide (lo ≤ t.tail) && decide (t.tail < lo + len) then
      let l := max 16 (Memory.leN m (base + t.tail) 4)
      let nt := if t.tail + l < size then t.tail + l else 0x10000
      trecDrop m base size lo len f
        { t with tail := nt, tailSeq := t.tailSeq + 1, wraps := min (t.wraps + 1) 0xFFFFFFFF,
                 drainSeq := max t.drainSeq (t.tailSeq + 1),
                 drainOff := if t.drainSeq ≤ t.tailSeq then nt else t.drainOff }
    else t

/-- Bytes that may be written before the first protected record (19 R492). -/
def Trec.room (t : Trec) (size : Nat) : Nat :=
  if t.drainSeq = t.headSeq then size - 0x10000
  else if t.drainOff ≤ t.head then (size - 0x10000) - (t.head - t.drainOff) else t.drainOff - t.head

/-- The bytes a record of `len` takes, its PAD included (19 R489). -/
def Trec.need (t : Trec) (size len : Nat) : Nat := if t.head + len ≤ size then len else (size - t.head) + len

/-- COMPLETE: the START record of the run is held (19 R491). -/
def Trec.complete (t : Trec) : Bool := match t.startSeq with | some q => decide (t.tailSeq ≤ q) | none => false

def State.ring (s : State) : Option Area := s.cfg.trec

def State.protect (s : State) : Bool := s.bit .trecCfg 0 0

/-- Whether a KTP record of `len` bytes has room; the last 1 MiB is kept for kinds 3 to 10 (19 R492). -/
def State.trecRoom (s : State) (len : Nat) : Bool :=
  match s.ring with
  | none => true
  | some a => s.replay.active || !s.protect || decide (s.trec.need a.size len + 2 ^ 20 ≤ s.trec.room a.size)

/-- Store one record at the head and move the head on. -/
def State.trecPut (s : State) (a : Area) (bs : List Byte) (len : Nat) : State :=
  let t := s.trec
  let t1 := trecDrop s.mem a.base a.size t.head len (t.headSeq - t.tailSeq) t
  let wrapped := t1.wraps ≠ t.wraps
  let nh := if t1.head + len < a.size then t1.head + len else 0x10000
  let t2 := { t1 with head := nh, headSeq := t1.headSeq + 1, wrapSent := t1.wrapSent || wrapped }
  let t3 := if t1.tailSeq = t1.headSeq then { t2 with tail := t1.head } else t2
  let t4 := if t1.drainSeq = t1.headSeq then { t3 with drainOff := t1.head } else t3
  let s0 := (s.mgmtStore (a.base + t.head) bs).mgmtStore a.base t4.header
  let s1 := { s0 with trec := t4 }
  let s2 := if wrapped then s1.flag .trecEvt 0 0 else s1
  if wrapped && !t.wrapSent then s2.event 0x0D02 0 0 t4.wraps t4.tailSeq else s2

/-- The bytes of a record made now (19 R489). -/
def State.mkRecord (s : State) (len kind subject dom : Nat) (body : List Byte) : List Byte :=
  recBytes len kind ((if s.timeBasis then 1 else 0) + (if dom = 0 then 0 else 2)) s.trec.headSeq s.uptime (s.tick dom)
    (s.ptpTime / 1000000000) (s.ptpTime % 1000000000) s.epoch subject body

/-- Put one record into the ring (19 R490 to R492); nothing without a ring, before full function or in REPLAY. -/
def State.ringRecord (s : State) (kind subject dom : Nat) (body : List Byte) : State :=
  match s.ring with
  | none => s
  | some a =>
    if s.replay.active || s.dev.stage != 2 then s
    else
      let len := recLen body.length
      if s.protect && decide (s.trec.room a.size < s.trec.need a.size len) then
        if 3 ≤ kind then
          (((s.inc .trecLostCnt).flag .trecEvt 0 2).cond true
            (fun t => { t with trec := { t.trec with lost := true } })).deviceFault 0x23 1
        else s
      else
        let s1 := if s.trec.head + len ≤ a.size then s
          else
            let rem := a.size - s.trec.head
            s.trecPut a ((s.mkRecord rem 0xFFFF 0 dom (List.replicate (rem - 64) 0#8)).take rem) rem
        s1.trecPut a (s1.mkRecord len kind subject dom body) len

/-- A replay diverges at a record (19 R498). -/
def State.diverge (s : State) (seq : Nat) : State :=
  let s1 := (s.inc .trecDivergeCnt).flag .trecEvt 0 3
  if s.replay.diverged then s1
  else ({ s1 with replay := { s1.replay with diverged := true } }).deviceFault 0x24 seq

/-- Whether a queued FAULT record names an owner and a code (19 R498). -/
def Replay.names (r : Replay) (subject : Nat) (body : List Byte) : Bool :=
  r.queue.any (fun x => x.kind == 7 && x.subject == subject && x.body.take 2 == body.take 2)

/-- Make one record, and forward it to an attached standby (16 R416, 19 R490). -/
def State.record (s : State) (kind subject dom : Nat) (body : List Byte) : State :=
  let s1 := if s.forwarding && !s.replay.active then
      (s.forward (s.mkRecord (recLen body.length) kind subject dom body)).2 else s
  let s2 := if s.replay.active && kind == 7 && !s.replay.names subject body then s1.diverge s.replay.applied else s1
  s2.ringRecord kind subject dom body

/-! ### Sessions' helpers -/

/-- The session that opened or claimed something, if it is still open. -/
def State.open (s : State) (n : Nat) : Bool := (s.sess n).isSome

def statusOk : Nat := 0

/-- What a message's processing answers: its status, its reply payload and the state after (15 R384). -/
structure Rep where
  st : Nat
  pay : List Byte
  s : State
  later : Bool
  deriving DecidableEq, Repr

def Rep.ok (s : State) (pay : List Byte := []) : Rep := ⟨0, pay, s, false⟩

def Rep.no (s : State) (st : Nat) : Rep := ⟨st, [], s, false⟩

/-- The reply follows a later command. -/
def Rep.wait (s : State) : Rep := ⟨0, [], s, true⟩

/-- The first check that fails gives the status (0: all pass). -/
def firstFail : List (Bool × Nat) → Nat
  | [] => 0
  | (ok, st) :: t => if ok then firstFail t else st

/-- The answer of a command: its effect, then the events it queued leave. -/
def done (s : State) : Host.Outcome State Fault Refusal := .next (finish s)

end Sys2Proof.Machine
end

