-- ==== Sys2Proof/Machine/Base.lean ====
section
/-! DEFINITION. Streams, voices, models, Pitches and contexts as the other files reach them, the tick load (01 R18), the
placement of LC streams (04 R126) and their admission (01 R19, 10 R267, R268). -/

namespace Sys2Proof.Machine

/-! ### Choosing -/

/-- Lexicographic order of keys. -/
def lexLt : List Nat → List Nat → Bool
  | [], [] => false
  | [], _ :: _ => true
  | _ :: _, [] => false
  | a :: x, b :: y => if a < b then true else if b < a then false else lexLt x y

/-- The first element with the smallest key. -/
def pickMin {α : Type} (key : α → List Nat) : List α → Option α
  | [] => none
  | a :: t =>
    match pickMin key t with
    | none => some a
    | some b => if lexLt (key b) (key a) then some b else some a

/-- Insertion by key. -/
def insertBy {α : Type} (key : α → List Nat) (a : α) : List α → List α
  | [] => [a]
  | b :: t => if lexLt (key a) (key b) then a :: b :: t else b :: insertBy key a t

def sortBy {α : Type} (key : α → List Nat) (l : List α) : List α := l.foldl (fun acc a => insertBy key a acc) []

/-! ### Streams -/

def State.stream (s : State) (i : Nat) : Stream := Tab.getD s.streams i Stream.blank

def State.setStream (s : State) (i : Nat) (x : Stream) : State := { s with streams := Tab.set s.streams i x }

def State.updStream (s : State) (i : Nat) (f : Stream → Stream) : State := s.setStream i (f (s.stream i))

def SState.code : SState → Nat
  | .free => 0 | .idle => 1 | .run => 2 | .paused => 3 | .ended => 4 | .drain => 5 | .faulted => 6

def Loc.code : Loc → Nat
  | .initial => 0 | .resident => 1 | .stored => 2 | .moving => 3

def Stream.isOpen (x : Stream) : Bool := x.dir.state != .free

/-- The handle of an entry (02 R44). -/
def Stream.handle (x : Stream) (i : Nat) : Nat := x.dir.gen * 2 ^ 17 + i

def State.handle (s : State) (i : Nat) : Nat := (s.stream i).handle i

/-- The entry a handle names (02 R44, R46). -/
def State.findHandle (s : State) (h : Nat) : Option Nat :=
  let x := s.stream (h % 2 ^ 17)
  if x.isOpen && x.dir.gen == h / 2 ^ 17 then some (h % 2 ^ 17) else none

/-- Open streams with their indices, ascending. -/
def State.openStreams (s : State) : List (Nat × Stream) := s.streams.filter (fun e => e.2.isOpen)

def State.streamsWhere (s : State) (p : Stream → Bool) : List Nat := (s.openStreams.filter (fun e => p e.2)).map (fun e => e.1)

/-- The lowest free entry that is not retired (02 R45, 12 R321). -/
def State.freeIndex (s : State) : Option Nat :=
  let i := s.streams.foldl (fun c e => if e.1 = c ∧ (e.2.isOpen ∨ e.2.cnt.retired) then c + 1 else c) 0
  if i < 131072 then some i else none

def State.retired (s : State) : Nat := (s.streams.filter (fun e => e.2.cnt.retired)).length

/-- The answer to a handle that names no stream (02 R46). -/
def State.stale (s : State) : State := (s.inc .sdirStaleCnt).flag .sdirEvt 0 0

/-- Saturating counters of a record (02 R60). -/
def SCnt.addOvr (c : SCnt) : SCnt := { c with ovr := satAdd 32 c.ovr 1 }
def SCnt.addSlip (c : SCnt) : SCnt := { c with slip := satAdd 32 c.slip 1 }
def SCnt.addUnder (c : SCnt) : SCnt := { c with under := satAdd 32 c.under 1 }
def SCnt.addQfull (c : SCnt) : SCnt := { c with qfull := satAdd 16 c.qfull 1 }

/-! ### Voices (02 R47 to R52) -/

structure Voice where
  valid : Bool
  rate : Nat
  policy : Nat
  rank : Nat
  acoustic : Nat
  vocoder : Nat
  embedAddr : Nat
  embedLen : Nat
  embedFmt : Nat
  adapterLen : Nat
  adapterAddr : Nat
  seed : Nat
  gen : Nat
  refcnt : Nat
  hash : List Byte
  deriving DecidableEq, Repr

def byteAt (b : List Byte) (i : Nat) : Nat := (b.getD i 0#8).toNat

def numAt (b : List Byte) (i n : Nat) : Nat := leNat ((b.drop i).take n)

/-- A voice entry from its 128 bytes (02 R48). -/
def parseVoice (b : List Byte) : Voice :=
  { valid := (b.getD 0 0#8).getLsbD 0, rate := byteAt b 1, policy := byteAt b 2, rank := byteAt b 3, acoustic := numAt b 4 2,
    vocoder := numAt b 6 2, embedAddr := numAt b 8 8, embedLen := numAt b 0x10 2, embedFmt := byteAt b 0x12,
    adapterLen := numAt b 0x14 4, adapterAddr := numAt b 0x18 8, seed := numAt b 0x20 8, gen := numAt b 0x28 4,
    refcnt := numAt b 0x2C 4, hash := (b.drop 0x30).take 32 }

def State.vtBase (s : State) : Nat := s.rg .sdirVtBaseLo + s.fld .sdirVtBaseHi 0 15 0 * 2 ^ 32

def State.voiceAddr (s : State) (v : Nat) : Nat := s.vtBase + 128 * v

def State.voice (s : State) (v : Nat) : Voice := parseVoice (s.mem.readN (s.voiceAddr v) 128)

/-- Whether a rate class code is defined, whether its base rate is 44,100 Hz, and its d (02 R49). -/
def rateOk (c : Nat) : Bool := [0, 1, 2, 4, 5, 6].contains c
def rate441 (c : Nat) : Bool := decide (4 ≤ c)
def rateDiv (c : Nat) : Nat := c % 4 + 1

/-- REFCNT of an entry, written by the stream logic. -/
def State.setRefcnt (s : State) (v n : Nat) : State := s.storePart (s.voiceAddr v + 0x2C) (leBytes 4 n) 9

/-- One use of a voice more (02 R48, R54). -/
def State.addRef (s : State) (v : Nat) : State := s.setRefcnt v ((s.voice v).refcnt + 1)

/-- One use less; an entry whose count returns to 0 goes behind the other unused ones in the cache (02 R51). -/
def State.dropRef (s : State) (v : Nat) : State :=
  let n := (s.voice v).refcnt - 1
  let s1 := s.setRefcnt v n
  if n = 0 && s.vcache.contains v then { s1 with vcache := s.vcache.filter (fun x => x != v) ++ [v] } else s1

/-- A use of a voice's entry and embedding: a hit, or a fetch that may take a cache place (02 R51). -/
def State.fetchVoice (s : State) (v : Nat) : State :=
  if s.vcache.contains v then s
  else
    let s1 := s.inc .sdirVtMissCnt
    if s.vcache.length < 1024 then { s1 with vcache := s.vcache ++ [v] }
    else
      match find1 s.vcache (fun x => (s.voice x).refcnt == 0) with
      | some o => { s1 with vcache := s.vcache.filter (fun x => x != o) ++ [v] }
      | none => s1

/-- What the read of an uncached voice's entry and embedding does where a block fails (02 R51, 12 R313, R314). -/
def State.readVoice (s : State) (v : Nat) : State :=
  if !(s.badIn (s.voiceAddr v) 128).isEmpty then s.failedRead (s.voiceAddr v) 128 9
  else s.failedRead (s.voice v).embedAddr (2 * (s.voice v).embedLen) 9

/-- Blocks that a fetch of the entry and embedding reads and that fail (12 R314). -/
def State.voiceBad (s : State) (v : Nat) : Bool :=
  !s.vcache.contains v && (!(s.badIn (s.voiceAddr v) 128).isEmpty
    || !(s.badIn (s.voice v).embedAddr (2 * (s.voice v).embedLen)).isEmpty)

/-- The stream seed (02 R52). -/
def streamSeed (v : Voice) (seed : Nat) : Nat := if v.policy = 0 then v.seed else if v.policy = 1 then seed else v.seed ^^^ seed

/-- LPDDR5X holds [a, a + n) (12 R305). -/
def lpddrTop : Nat := 0x3E00000000
def inLpddr (a n : Nat) : Bool := decide (a + n ≤ lpddrTop)

/-! ### Pitches, Quarters, contexts, models -/

def State.pitch (s : State) (p : Nat) : Pitch := Tab.getD s.pitches p Pitch.blank

def State.updPitch (s : State) (p : Nat) (f : Pitch → Pitch) : State := { s with pitches := Tab.modify s.pitches p Pitch.blank f }

/-- Whether the dispatcher of a Pitch starts nothing because its roll drains it (17 R448). -/
def State.draining (s : State) (p : Nat) : Bool := s.cfg.drainFrom.isSome && s.cfg.nextPitch == p

def State.builtPitches (s : State) : List Nat := (s.pitches.filter (fun e => e.2.built)).map (fun e => e.1)

def bitsTo (n m : Nat) : List Nat := (List.range n).filter (fun k => m.testBit k)

def State.quarters (s : State) (p : Nat) : List Nat := bitsTo 16 (s.pitch p).qmask

/-- The Pitch that holds a Quarter, built or being built (10 R248). -/
def State.quarterPitch (s : State) (q : Nat) : Option Nat :=
  (s.pitches.filter (fun e => (e.2.built || e.2.building) && e.2.qmask.testBit q)).head?.map (fun e => e.1)

def State.powered (s : State) (q : Nat) : Bool := (s.quarterPitch q).isSome

/-- Pages of the state, weight and working regions (03 R78, 04 R110, R111). -/
def State.statePages (s : State) (q : Nat) : Nat := s.fld .sdirQstate q 7 0
def State.weightPages (s : State) (q : Nat) : Nat := s.fld .qtrRegion q 7 0
def State.regionBad (s : State) (q : Nat) : Bool := decide (240 < s.statePages q + s.weightPages q)
def State.workPages (s : State) (q : Nat) : Nat := if s.regionBad q then 0 else 256 - s.statePages q - s.weightPages q

def listMin : List Nat → Nat
  | [] => 0
  | [a] => a
  | a :: b :: t => min a (listMin (b :: t))

/-- Pitch weight and working regions (10 R249). -/
def State.pitchWeight (s : State) (p : Nat) : Nat := listMin ((s.quarters p).map s.weightPages)
def State.pitchWork (s : State) (p : Nat) : Nat := listMin ((s.quarters p).map s.workPages)

def qBase (q : Nat) : Nat := 0x100000000000 + q * 0x1000000

/-- First byte of the working and weight regions of a Quarter (04 R110). -/
def State.workBase (s : State) (q : Nat) : Nat := qBase q + s.statePages q * 65536
def State.weightBase (s : State) (q : Nat) : Nat := qBase q + (256 - s.weightPages q) * 65536

def State.ctx (s : State) (c : Nat) : Ctx := Tab.getD s.ctxs c Ctx.blank

def State.updCtx (s : State) (c : Nat) (f : Ctx → Ctx) : State := { s with ctxs := Tab.modify s.ctxs c Ctx.blank f }

def CState.code : CState → Nat
  | .free => 0 | .registered => 1 | .arriving => 2 | .resident => 3 | .leaving => 4 | .faulted => 5

/-- Contexts that hold or are granted shares (10 R258). -/
def Ctx.holds (c : Ctx) : Bool :=
  c.state == .arriving || c.state == .resident || c.state == .leaving || c.state == .faulted

def State.ctxOf (s : State) (p : Nat) (f : Ctx → Bool) : List Nat :=
  (s.ctxs.filter (fun e => e.2.pitch == p && f e.2)).map (fun e => e.1)

/-- First byte of a context's working share on a Quarter (10 R255). -/
def State.shareBase (s : State) (c q : Nat) : Nat := s.workBase q + (s.ctx c).kBase * 65536

def State.model (s : State) (p id : Nat) : Option Model := find1 s.models (fun m => m.pitch == p && m.id == id)

/-- From the frame tick after its first copy until its unload is accepted (09 R244). -/
def Model.usable (m : Model) : Bool := (m.stage == .usable || !m.first) && !m.unload

def State.updModel (s : State) (p id : Nat) (f : Model → Model) : State :=
  { s with models := updWhere (fun m => m.pitch == p && m.id == id) f s.models }

/-- The bytes of a loaded image, where they lie in LPDDR5X (09 R219). -/
def State.image (s : State) (m : Model) : List Byte := s.mem.readN m.addr m.len

/-- The parameter block of an image (09 R219; log 12). -/
def State.params (s : State) (m : Model) : Config.ImgParams :=
  Config.readParams ((s.image m).drop (numAt (s.image m) 0x30 4))

/-- Base models of a voice in a Pitch: acoustic, then vocoder. -/
def State.voiceModels (s : State) (p v : Nat) : Option (Model × Model) :=
  match s.model p (s.voice v).acoustic, s.model p (s.voice v).vocoder with
  | some a, some b => if a.acoustic && !b.acoustic then some (a, b) else none
  | _, _ => none

/-- The context of a stream: that of its voice's vocoder model (10 R254). -/
def State.streamCtx (s : State) (x : Stream) : Option Nat := (s.voiceModels x.dir.pitch x.dir.voice).map (fun m => m.2.ctx)

def State.streamHop (s : State) (x : Stream) : Nat :=
  match s.voiceModels x.dir.pitch x.dir.voice with
  | some m => (s.params m.1).hop
  | none => 0

def State.frameDiv (s : State) (d : Nat) : Nat := (s.td d).frameDiv

/-- K of a stream (07 R171). -/
def State.kOf (s : State) (dom d hop : Nat) : Nat := ceilDiv (s.frameDiv dom) (d * hop)

/-! ### Tick load and the clock floor -/

def State.pitchDom (s : State) (p : Nat) : Nat := (s.pitch p).domain

def State.batchW (s : State) (b : Batch) : Nat := ((s.model b.pitch b.model).map (fun m => m.w)).getD 0

def State.frameWe (s : State) (f : FBatch) : Nat := ((s.model f.pitch f.model).map (fun m => m.we)).getD 0

def State.frameCharge (s : State) (p we k : Nat) : Nat := ceilDiv (k * we) (s.frameDiv (s.pitchDom p))

/-- The tick load of a Quarter (01 R18). A reserved place of a group change keeps its batch's charge (02 R531). -/
def State.tickLoad (s : State) (q : Nat) : Nat :=
  ((s.batches.filter (fun b => b.quarter == q)).map (fun b => ceilDiv (s.batchW b) b.d)).sum
    + ((s.fbatches.filter (fun f => f.quarter == q)).map (fun f => s.frameCharge f.pitch (s.frameWe f) f.k)).sum

/-- Quarters of the Pitches of a domain. -/
def State.domQuarters (s : State) (dom : Nat) : List Nat :=
  (s.builtPitches.filter (fun p => s.pitchDom p == dom)).flatMap s.quarters

/-- Whether R21 lets ACLK run at step `k` (01 R21, 18 R480). -/
def State.stepOk (s : State) (k : Nat) : Bool :=
  s.builtPitches.all (fun p => (s.quarters p).all (fun q =>
    decide (s.tickLoad q ≤ ((1600000000 - 50000000 * k) / s.baseRate (s.pitchDom p) - 640) * s.lcPct (s.pitchDom p) / 100)))

/-- The floor: the highest step that R21 allows (18 R480). -/
def State.clockFloor (s : State) : Nat := ((List.range 17).filter (fun k => k == 0 || s.stepOk k)).foldl max 0

/-- ACLK steps up before an admission or a limit change takes effect (18 R480). -/
def State.fitClock (s : State) : State :=
  let f := s.clockFloor
  if f < s.pwr.step then
    ((s.cnt .pwrStepCnt 0 31 0 (s.pwr.step - f)).flag .pwrEvt 0 2).cond true
      (fun t => { t with pwr := { t.pwr with step := f } })
  else s

/-! ### Placement and admission -/

/-- A position for an LC stream: an existing batch, or a new one on a Quarter and phase (04 R126). -/
structure Place where
  batch : Option Nat
  quarter : Nat
  phase : Nat
  deriving DecidableEq, Repr

/-- The frame batch of an acoustic model on a Quarter (07 R180). -/
def State.fbatch (s : State) (p q aco : Nat) : Option FBatch :=
  find1 s.fbatches (fun f => f.pitch == p && f.quarter == q && f.model == aco)

/-- Frame charge that a join with K = `k` adds on a Quarter (04 R126). -/
def State.frameDelta (s : State) (p q : Nat) (aco : Model) (k : Nat) : Nat :=
  match s.fbatch p q aco.id with
  | some f => s.frameCharge p aco.we (max f.k k) - s.frameCharge p aco.we f.k
  | none => s.frameCharge p aco.we k

/-- First condition of R19 with `extra` more on Quarter `q`: every Quarter of the domain within LC_LIMIT_CYC. -/
def State.loadFits (s : State) (dom q extra : Nat) : Bool :=
  (s.domQuarters dom).all (fun q' => decide (s.tickLoad q' + (if q' = q then extra else 0) ≤ s.lcLimit dom))

/-- The phase load of a Quarter (04 R126). -/
def State.phaseLoad (s : State) (q d ph : Nat) : Nat :=
  ((s.batches.filter (fun b => b.quarter == q && b.d == d && b.phase == ph)).map s.batchW).sum

def Batch.rows (b : Batch) : Nat := b.members.length + b.reserved.length

/-- A position for an LC stream by the rules of 04 R126; `ph` fixes the phase for an alignment group with members. -/
def State.place (s : State) (p dom d : Nat) (aco voc : Model) (ph : Option Nat) : Option Place :=
  let k := s.kOf dom d (s.params aco).hop
  let phOk := fun (x : Nat) => match ph with | some y => x == y | none => true
  let joins := s.batches.filter (fun b => b.pitch == p && b.model == voc.id && b.domain == dom && b.d == d && phOk b.phase
    && decide (b.rows < 64) && !s.regionBad b.quarter && s.loadFits dom b.quarter (s.frameDelta p b.quarter aco k))
  match pickMin (fun b => [64 - b.rows, b.quarter, b.phase]) joins with
  | some b => some ⟨some b.id, b.quarter, b.phase⟩
  | none =>
    let pairs := (s.quarters p).flatMap (fun q => ((List.range d).filter phOk).map (fun x => (q, x)))
    let cands := pairs.filter (fun c => !s.regionBad c.1
      && s.loadFits dom c.1 (ceilDiv voc.w d + s.frameDelta p c.1 aco k))
    (pickMin (fun c => [s.phaseLoad c.1 d c.2, c.1, c.2]) cands).map (fun c => ⟨none, c.1, c.2⟩)

/-- Split bandwidth, in bytes per second, of a step batch and of a frame batch (10 R268). -/
def State.stepBw (s : State) (dom d : Nat) (voc : Model) : Nat := s.baseRate dom * voc.overBytes / d
def State.frameBw (s : State) (dom k : Nat) (aco : Model) : Nat := k * s.baseRate dom * aco.overBytes / s.frameDiv dom

/-- The split reservation of a Ward (10 R268). -/
def State.wardSplit (s : State) (w : Nat) : Nat :=
  ((s.batches.filter (fun b => b.quarter / 4 == w)).map (fun b => b.bw)).sum
    + ((s.fbatches.filter (fun f => f.quarter / 4 == w)).map (fun f => f.bw)).sum

/-- What a placement would reserve beyond what stands (10 R268). -/
def State.addedBw (s : State) (p dom d : Nat) (aco voc : Model) (pl : Place) : Nat :=
  let k := s.kOf dom d (s.params aco).hop
  (if pl.batch.isNone then s.stepBw dom d voc else 0)
    + (match s.fbatch p pl.quarter aco.id with
       | some f => s.frameBw dom (max f.k k) aco - f.bw
       | none => s.frameBw dom k aco)

/-- The outcome of an LC admission. -/
inductive Adm where
  | ok (pl : Place)
  | no (st : Nat) (bw : Bool)
  deriving DecidableEq, Repr

def stTickFull : Nat := 0x10A
def stChainBound : Nat := 0x10B

/-- LC admission (01 R19, 04 R126, 10 R267, R268). -/
def State.admission (s : State) (p dom d : Nat) (aco voc : Model) (ph : Option Nat) : Adm :=
  if (s.pitch p).shares then .no stTickFull false
  else if d * s.lcLimit dom < voc.chain then .no stChainBound false
  else
    match s.place p dom d aco voc ph with
    | none => .no stTickFull false
    | some pl =>
      let add := s.addedBw p dom d aco voc pl
      if add ≠ 0 && decide (s.fld .schedCtl 0 6 0 * 3072000000 < s.wardSplit (pl.quarter / 4) + add) then .no stTickFull true
      else .ok pl

/-- What a refused admission counts (10 R267, R268). -/
def State.admRefused (s : State) (p : Nat) (bw : Bool) : State :=
  let s1 := (s.cnt .schedAdmRefCnt p 15 0 1).flag .schedPitchEvt p 0
  if bw then (s1.cnt .schedAdmRefCnt p 31 16 1).flag .schedPitchEvt p 1 else s1

/-- The frame batch of a Quarter refitted to its members: its K and reservation, gone when empty (07 R171). -/
def State.refitFrame (s : State) (f : FBatch) : FBatch :=
  match s.model f.pitch f.model with
  | none => f
  | some aco =>
    let k := (f.members.map (fun i => s.kOf (s.pitchDom f.pitch) (s.stream i).dir.d (s.params aco).hop)).foldl max 0
    { f with k := k, bw := s.frameBw (s.pitchDom f.pitch) k aco }

def State.refitFrames (s : State) : State :=
  { s with fbatches := (s.fbatches.filter (fun f => !f.members.isEmpty)).map s.refitFrame }

def addMember (i : Nat) (l : List Nat) : List Nat := insertBy (fun x => [x]) i (l.filter (fun x => x != i))

/-- Put a stream into the frame batch of its acoustic model on a Quarter. -/
def State.joinFrame (s : State) (i p q aco : Nat) : State :=
  let s1 : State :=
    match s.fbatch p q aco with
    | some _ =>
      let fs := updWhere (fun f => f.pitch == p && f.quarter == q && f.model == aco)
        (fun f => { f with members := addMember i f.members }) s.fbatches
      { s with fbatches := fs }
    | none => { s with fbatches := s.fbatches ++ [⟨p, q, aco, [i], 0, 0⟩] }
  s1.refitFrames

/-- Take a stream out of every frame batch. -/
def State.leaveFrame (s : State) (i : Nat) : State :=
  ({ s with fbatches := s.fbatches.map (fun (f : FBatch) => { f with members := f.members.filter (fun x => x != i) }) }).refitFrames

/-- The batch of a placement, formed if it is new (04 R125, R126). -/
def State.formBatch (s : State) (p dom d : Nat) (voc : Model) (pl : Place) : Nat × State :=
  match pl.batch with
  | some b => (b, s)
  | none =>
    let b : Batch :=
      { id := s.nextId, pitch := p, model := voc.id, domain := dom, d := d, phase := pl.phase, quarter := pl.quarter,
        members := [], reserved := [], bw := s.stepBw dom d voc }
    (s.nextId, { s with nextId := s.nextId + 1, batches := s.batches ++ [b] })

def State.updBatch (s : State) (b : Nat) (f : Batch → Batch) : State := { s with batches := updWhere (fun x => x.id == b) f s.batches }

def State.batch (s : State) (b : Nat) : Option Batch := find1 s.batches (fun x => x.id == b)

/-- Batches with neither a member nor a reserved place cease (04 R125). -/
def State.dropBatches (s : State) : State :=
  { s with batches := s.batches.filter (fun b => !(b.members.isEmpty && b.reserved.isEmpty)) }

/-- A stream becomes a row of a batch and of the frame batch there. -/
def State.joinBatch (s : State) (i b aco : Nat) : State :=
  match s.batch b with
  | none => s
  | some x =>
    let s1 := s.updBatch b (fun y => { y with members := addMember i y.members, reserved := y.reserved.filter (fun r => r != i) })
    let s2 := s1.updStream i (fun (st : Stream) =>
      { st with dir := { st.dir with phase := x.phase, d := x.d }, life := { st.life with batch := some b } })
    s2.joinFrame i x.pitch x.quarter aco

/-- A stream leaves its batch, its reserved places and its frame batch (04 R125). -/
def State.leaveBatch (s : State) (i : Nat) : State :=
  let drop := fun (b : Batch) =>
    { b with members := b.members.filter (fun x => x != i), reserved := b.reserved.filter (fun x => x != i) }
  let s1 := { s with batches := s.batches.map drop }
  ((s1.updStream i (fun st => { st with life := { st.life with batch := none } })).dropBatches).leaveFrame i

/-! ### Alignment groups (02 R70) -/

def State.group (s : State) (g : Nat) : Group := Tab.getD s.groups g Group.blank

def State.members (s : State) (g : Nat) : List Nat := s.streamsWhere (fun x => x.dir.group == some g)

/-- Streams whose accepted STREAM_SET_GROUP into the group waits for its frame tick (02 R531). -/
def State.joining (s : State) (g : Nat) : List Nat :=
  s.streamsWhere (fun x => x.dir.group != some g && (match x.life.grpPend with | some c => c.group == some g | none => false))

/-- Members of a group and those accepted into it, but for `i` (02 R70, R531). -/
def State.groupWith (s : State) (g i : Nat) : List Nat := (s.members g ++ s.joining g).filter (fun j => j != i)

/-- Phase of a group with members other than `i`, or with streams accepted into it (02 R70, R531). -/
def State.groupPhase (s : State) (g i : Nat) : Option Nat :=
  (s.groupWith g i).head?.map (fun j =>
    if (s.stream j).dir.group = some g then (s.stream j).dir.phase
    else match (s.stream j).life.grpPend with | some c => c.phase | none => (s.stream j).dir.phase)

/-- Whether group `g` accepts a stream (02 R70); streams accepted by STREAM_SET_GROUP count before they join. -/
def State.groupOk (s : State) (g i dom d dest : Nat) : Bool :=
  let others := s.groupWith g i
  decide (g < 1024) && (others.isEmpty
    || (others.all (fun j => (s.stream j).dir.domain == dom && (s.stream j).dir.d == d) && dest != 0x100
        && decide (others.length < 64)))

/-! ### Slots and pages (03 R79, R80) -/

def slotsPer (c : Nat) : Nat := 2 ^ (4 - c)

def State.page (s : State) (q n : Nat) : Option PageUse := Tab.get? s.pages (q * 256 + n)

def State.slotsUsed (s : State) : Nat := (s.pages.map (fun e => e.2.used.length)).sum

/-- A free slot of class `c` in Quarter `q`: page and place (03 R80). -/
def State.findSlot (s : State) (q c : Nat) : Option (Nat × Nat) :=
  let ns := List.range (s.statePages q)
  let mine := ns.filterMap (fun n =>
    match s.page q n with
    | some u => if u.cls = c then ((List.range (slotsPer c)).filter (fun k => !u.used.contains k)).head?.map (fun k => (n, k)) else none
    | none => none)
  match mine.head? with
  | some r => some r
  | none => ((ns.filter (fun n => (s.page q n).isNone)).head?).map (fun n => (n, 0))

def State.takeSlot (s : State) (q c n k : Nat) : State :=
  { s with pages := Tab.modify s.pages (q * 256 + n) ⟨c, []⟩ (fun u => { u with used := u.used ++ [k] }) }

/-- Free a slot; its page returns to free with its last slot (03 R80). -/
def State.freeSlot (s : State) (q n k : Nat) : State :=
  match s.page q n with
  | none => s
  | some u =>
    let l := u.used.filter (fun x => x != k)
    if l.isEmpty then { s with pages := Tab.erase s.pages (q * 256 + n) }
    else { s with pages := Tab.set s.pages (q * 256 + n) { u with used := l } }

/-- SLOT of STATE_LOC, in 4 KiB units, from a page and a place (03 R81). -/
def slotUnits (c n k : Nat) : Nat := n * 16 + k * 2 ^ c
def slotPage (slot : Nat) : Nat := slot / 16
def slotPlace (c slot : Nat) : Nat := slot % 16 / 2 ^ c

def State.slotAddr (_s : State) (x : Stream) : Nat := qBase x.dir.quarter + x.dir.slot * 4096

def slotBytes (c : Nat) : Nat := 2 ^ (12 + c)

/-- The class of a state need (03 R79). -/
def classOf (need : Nat) : Nat := if need ≤ 4096 then 0 else if need ≤ 8192 then 1 else if need ≤ 16384 then 2
  else if need ≤ 32768 then 3 else 4

def State.storeBase (s : State) : Nat := s.rg .sdirStoreBaseLo + s.fld .sdirStoreBaseHi 0 15 0 * 2 ^ 32

def State.storeAddr (s : State) (i : Nat) : Nat := s.storeBase + i * 0x10000

/-- Free the slot a stream holds, if it holds one. -/
def State.releaseSlot (s : State) (i : Nat) : State :=
  let x := s.stream i
  if x.dir.loc == .resident || x.dir.loc == .moving then
    s.freeSlot x.dir.quarter (slotPage x.dir.slot) (slotPlace x.dir.cls x.dir.slot)
  else s

end Sys2Proof.Machine
end

