-- ==== Sys2Proof/Machine/Wire.lean ====
section
/-! DEFINITION. KTP requests as bytes (15 R384, R385, 19 R493): the message code and payload of a command, and the command a
payload spells. -/

namespace Sys2Proof.Machine

/-- Message codes (15 R384). -/
def msgType : Instr → Option Nat
  | .sessionOpen .. => some 0x01 | .sessionClose _ => some 0x02 | .ping _ => some 0x03 | .status _ => some 0x10
  | .identity _ => some 0x11 | .imageUpload .. => some 0x12 | .resetMgmt _ => some 0x13 | .resetPitch .. => some 0x13
  | .regRead .. => some 0x20 | .regWrite .. => some 0x21 | .memRead .. => some 0x22 | .memWrite .. => some 0x23
  | .pitchBuild .. => some 0x30 | .pitchDissolve .. => some 0x31 | .ctxRegister .. => some 0x32 | .ctxAdmit .. => some 0x33
  | .ctxTeardown .. => some 0x34 | .graphLoad .. => some 0x40 | .graphUnload .. => some 0x41 | .voiceSet .. => some 0x48
  | .voiceClear .. => some 0x49 | .streamOpen .. => some 0x50 | .streamCloseDrain .. => some 0x51
  | .streamCloseAbort .. => some 0x51 | .streamPause .. => some 0x52 | .streamResume .. => some 0x53
  | .streamSetGroup .. => some 0x54 | .streamStats .. => some 0x55 | .feature .. => some 0x58
  | .packExportSnapshot .. => some 0x60 | .packExportMove .. => some 0x60 | .packImport .. => some 0x61
  | .configStage .. => some 0x70 | .configCommit _ => some 0x71 | .configRead _ => some 0x72 | .authPolicy .. => some 0x80
  | .attest .. => some 0x81 | .debugLevel .. => some 0x82 | .twinDetach _ => some 0x90 | .trecStatus _ => some 0xA0
  | .trecRead .. => some 0xA0 | .trecAck .. => some 0xA0 | .trecClear _ => some 0xA0 | .replayBegin _ => some 0xA0
  | .replayData .. => some 0xA0 | .replayEnd _ => some 0xA0
  | _ => none

/-- The header fields of a message command. -/
def msgHdr : Instr → Option Hdr
  | .sessionClose h | .ping h | .status h | .identity h | .resetMgmt h | .configCommit h | .configRead h | .twinDetach h
  | .trecStatus h | .trecClear h | .replayBegin h | .replayEnd h => some h
  | .imageUpload h .. | .resetPitch h .. | .regRead h .. | .regWrite h .. | .memRead h .. | .memWrite h .. | .pitchBuild h ..
  | .pitchDissolve h .. | .ctxRegister h .. | .ctxAdmit h .. | .ctxTeardown h .. | .graphLoad h .. | .graphUnload h ..
  | .voiceSet h .. | .voiceClear h .. | .streamOpen h .. | .streamCloseDrain h .. | .streamCloseAbort h .. | .streamPause h ..
  | .streamResume h .. | .streamSetGroup h .. | .streamStats h .. | .feature h .. | .packExportSnapshot h ..
  | .packExportMove h .. | .packImport h .. | .configStage h .. | .authPolicy h .. | .attest h .. | .debugLevel h ..
  | .trecRead h .. | .trecAck h .. | .replayData h .. => some h
  | _ => none

def leV {w : Nat} (n : Nat) (v : BitVec w) : List Byte := leBytes n v.toNat

/-- The 32 bytes of a STREAM_OPEN payload (15 R384). -/
def openBytes (p : OpenParams) : List Byte :=
  leV 2 p.voice ++ leV 1 p.domain ++ leV 1 p.pitch ++ leV 1 p.cls ++ leBytes 1 0 ++ leV 2 p.dest ++ leV 2 p.qdepth
    ++ leV 2 p.prime ++ leV 2 p.group ++ leBytes 2 0 ++ leV 8 p.seed ++ leV 8 p.startTick

def tokenBytes (ts : List (List Byte)) : List Byte := ts.flatMap (fun t => leBytes 2 t.length ++ t)

/-- FEATURE's payload (15 R385). -/
def featureBytes (m : FeatureMsg) : List Byte :=
  leV 4 m.handle ++ leBytes 2 (if m.endFlag then 1 else 0) ++ leBytes 2 m.marks.length ++ leV 8 m.first
    ++ leBytes 4 m.frames.length ++ leV 4 m.frameBytes ++ m.marks.flatMap (fun k => leV 8 k.1 ++ leV 8 k.2)
    ++ m.frames.flatMap (fun f => f)

def exportBytes (mode : Nat) (e : ExportParams) : List Byte :=
  leV 4 e.handle ++ leBytes 1 mode ++ leBytes 1 (if e.toDevice then 1 else 0) ++ leBytes 2 0 ++ leV 4 e.device ++ leBytes 4 0
    ++ openBytes e.op

/-- TREC_CTL's payload (19 R493). -/
def trecBytes (op seq count : Nat) (data : List Byte) : List Byte :=
  leBytes 1 op ++ leBytes 3 0 ++ leBytes 8 seq ++ leBytes 4 count ++ leBytes 4 0 ++ data

/-- The request payload a message command stands for. -/
def msgPayload : Instr → List Byte
  | .sessionOpen _ _ _ m mp => leV 4 m ++ leV 2 mp ++ leBytes 2 0
  | .imageUpload _ k o t d => leV 1 k ++ leBytes 3 0 ++ leV 4 o ++ leV 4 t ++ leBytes 4 0 ++ d
  | .resetMgmt _ => leBytes 4 0
  | .resetPitch _ p => leBytes 1 1 ++ leV 1 p ++ leBytes 2 0
  | .regRead _ as => leBytes 2 as.length ++ leBytes 6 0 ++ as.flatMap (leV 8)
  | .regWrite _ es => leBytes 2 es.length ++ leBytes 6 0 ++ es.flatMap (fun e => leV 8 e.1 ++ leV 4 e.2 ++ leBytes 4 0)
  | .memRead _ a l => leV 8 a ++ leV 4 l ++ leBytes 4 0
  | .memWrite _ a d => leV 8 a ++ leBytes 4 d.length ++ leBytes 4 0 ++ d
  | .pitchBuild _ b => leV 1 b.pitch ++ leV 1 b.domain ++ leV 1 b.mode ++ leV 1 b.acct ++ leV 1 b.fault ++ leBytes 1 0
      ++ leV 2 b.qmask
  | .pitchDissolve _ p => leV 1 p ++ leBytes 3 0
  | .ctxRegister _ c => leV 2 c.ctx ++ leV 1 c.pitch ++ leV 1 c.cls ++ leV 1 c.weight ++ leV 1 c.weightPages
      ++ leV 1 c.workPages ++ leBytes 1 0 ++ leV 8 c.spill
  | .ctxAdmit _ c => leV 2 c ++ leBytes 2 0
  | .ctxTeardown _ c => leV 2 c ++ leBytes 2 0
  | .graphLoad _ p c a => leV 1 p ++ leBytes 1 0 ++ leV 2 c ++ leBytes 4 0 ++ leV 8 a
  | .graphUnload _ p m => leV 1 p ++ leBytes 1 0 ++ leV 2 m
  | .voiceSet _ v e => leV 2 v ++ leBytes 6 0 ++ e
  | .voiceClear _ v => leV 2 v ++ leBytes 2 0
  | .streamOpen _ p => openBytes p
  | .streamCloseDrain _ x => leV 4 x ++ leBytes 1 0 ++ leBytes 3 0
  | .streamCloseAbort _ x => leV 4 x ++ leBytes 1 1 ++ leBytes 3 0
  | .streamPause _ x => leV 4 x
  | .streamResume _ x => leV 4 x
  | .streamSetGroup _ x g => leV 4 x ++ leV 2 g ++ leBytes 2 0
  | .streamStats _ x c => leV 4 x ++ leBytes 1 (if c then 1 else 0) ++ leBytes 3 0
  | .feature _ m => featureBytes m
  | .packExportSnapshot _ e => exportBytes 0 e
  | .packExportMove _ e => exportBytes 1 e
  | .packImport _ l op pack => leV 1 l ++ leBytes 7 0 ++ openBytes op ++ pack
  | .configStage _ d => d
  | .configCommit _ => leBytes 4 0
  | .authPolicy _ p ts => leBytes 4 p.length ++ leBytes 1 ts.length ++ leBytes 3 0 ++ p ++ tokenBytes ts
  | .attest _ n => n
  | .debugLevel _ l ts => leV 1 l ++ leBytes 1 ts.length ++ leBytes 2 0 ++ tokenBytes ts
  | .twinDetach _ => leBytes 4 0
  | .trecStatus _ => trecBytes 0 0 0 []
  | .trecRead _ q c => trecBytes 1 q.toNat c.toNat []
  | .trecAck _ q => trecBytes 2 q.toNat 0 []
  | .trecClear _ => trecBytes 3 0 0 []
  | .replayBegin _ => trecBytes 4 0 0 []
  | .replayData _ d => trecBytes 5 0 0 d
  | .replayEnd _ => trecBytes 6 0 0 []
  | _ => []

/-! ### Reading a payload -/

/-- Bytes `off` to `off + n` as a number. -/
def leAt (bs : List Byte) (off n : Nat) : Nat := leNat ((bs.drop off).take n)

/-- Whether bytes `off` to `off + n` are zero. -/
def zeroAt (bs : List Byte) (off n : Nat) : Bool := ((bs.drop off).take n).all (fun b => b == 0#8)

def bvAt (w : Nat) (bs : List Byte) (off n : Nat) : BitVec w := BitVec.ofNat w (leAt bs off n)

/-- The STREAM_OPEN payload that 32 bytes spell; none if a reserved byte is set. -/
def parseOpen (b : List Byte) : Option OpenParams :=
  if b.length = 32 ∧ zeroAt b 5 1 ∧ zeroAt b 14 2 then
    some { voice := bvAt 16 b 0 2, domain := bvAt 8 b 2 1, pitch := bvAt 8 b 3 1, cls := bvAt 8 b 4 1, dest := bvAt 16 b 6 2,
           qdepth := bvAt 16 b 8 2, prime := bvAt 16 b 10 2, group := bvAt 16 b 12 2, seed := bvAt 64 b 16 8,
           startTick := bvAt 64 b 24 8 }
  else none

/-- `n` tokens, each after its 2-byte length, which must end the bytes (15 R384). -/
def parseTokens : Nat → List Byte → Option (List (List Byte))
  | 0, b => if b.isEmpty then some [] else none
  | n + 1, b =>
    let l := leAt b 0 2
    if b.length < 2 + l then none else (parseTokens n (b.drop (2 + l))).map (fun r => (b.drop 2).take l :: r)

/-- Pieces of equal length. -/
def pieces (n : Nat) : Nat → List Byte → List (List Byte)
  | 0, _ => []
  | k + 1, b => b.take n :: pieces n k (b.drop n)

def parseFeature (b : List Byte) : Option FeatureMsg :=
  let mc := leAt b 6 2
  let fc := leAt b 16 4
  let fb := leAt b 20 4
  if 24 ≤ b.length ∧ leAt b 4 2 < 2 ∧ b.length = 24 + 16 * mc + fc * fb then
    some { handle := bvAt 32 b 0 4, endFlag := leAt b 4 2 == 1, first := bvAt 64 b 8 8, frameBytes := bvAt 32 b 20 4,
           marks := (pieces 16 mc (b.drop 24)).map (fun m => (bvAt 64 m 0 8, bvAt 64 m 8 8)),
           frames := pieces fb fc (b.drop (24 + 16 * mc)) }
  else none

def parseExport (b : List Byte) : Option ExportParams :=
  if b.length = 48 ∧ leAt b 5 1 < 2 ∧ zeroAt b 6 2 ∧ zeroAt b 10 6 then
    (parseOpen (b.drop 16)).map (fun o =>
      { handle := bvAt 32 b 0 4, toDevice := leAt b 5 1 == 1, device := bvAt 16 b 8 2, op := o })
  else none

def parseTrec (h : Hdr) (b : List Byte) : Option Instr :=
  if b.length < 20 ∨ ¬ zeroAt b 1 3 ∨ ¬ zeroAt b 16 4 then none
  else
    let d := b.drop 20
    match leAt b 0 1 with
    | 0 => if d.isEmpty then some (.trecStatus h) else none
    | 1 => if d.isEmpty then some (.trecRead h (bvAt 64 b 4 8) (bvAt 32 b 12 4)) else none
    | 2 => if d.isEmpty then some (.trecAck h (bvAt 64 b 4 8)) else none
    | 3 => if d.isEmpty then some (.trecClear h) else none
    | 4 => if d.isEmpty then some (.replayBegin h) else none
    | 5 => some (.replayData h d)
    | 6 => if d.isEmpty then some (.replayEnd h) else none
    | _ => none

/-- Whether a code is in the message table as a request (15 R384). -/
def knownType (t : Nat) : Bool :=
  [0x01, 0x02, 0x03, 0x10, 0x11, 0x12, 0x13, 0x20, 0x21, 0x22, 0x23, 0x30, 0x31, 0x32, 0x33, 0x34, 0x40, 0x41, 0x48, 0x49, 0x50,
   0x51, 0x52, 0x53, 0x54, 0x55, 0x58, 0x60, 0x61, 0x70, 0x71, 0x72, 0x80, 0x81, 0x82, 0x90, 0xA0].contains t

/-- The command a request payload spells (15 R384); none is BAD_MSG. -/
def parseMsg (h : Hdr) (t : Nat) (b : List Byte) : Option Instr :=
  match t with
  | 0x02 => if b.isEmpty then some (.sessionClose h) else none
  | 0x03 => if b.isEmpty then some (.ping h) else none
  | 0x10 => if b.isEmpty then some (.status h) else none
  | 0x11 => if b.isEmpty then some (.identity h) else none
  | 0x12 => if 16 ≤ b.length ∧ zeroAt b 1 3 ∧ zeroAt b 12 4 then
      some (.imageUpload h (bvAt 8 b 0 1) (bvAt 32 b 4 4) (bvAt 32 b 8 4) (b.drop 16)) else none
  | 0x13 => if b.length = 4 ∧ zeroAt b 2 2 then
      (if leAt b 0 1 = 0 then some (.resetMgmt h) else if leAt b 0 1 = 1 then some (.resetPitch h (bvAt 8 b 1 1)) else none)
      else none
  | 0x20 => if 8 ≤ b.length ∧ zeroAt b 2 6 ∧ b.length = 8 + 8 * leAt b 0 2 then
      some (.regRead h ((pieces 8 (leAt b 0 2) (b.drop 8)).map (fun p => bvAt 64 p 0 8))) else none
  | 0x21 => if 8 ≤ b.length ∧ zeroAt b 2 6 ∧ b.length = 8 + 16 * leAt b 0 2
        ∧ (pieces 16 (leAt b 0 2) (b.drop 8)).all (fun p => zeroAt p 12 4) then
      some (.regWrite h ((pieces 16 (leAt b 0 2) (b.drop 8)).map (fun p => (bvAt 64 p 0 8, bvAt 32 p 8 4)))) else none
  | 0x22 => if b.length = 16 ∧ zeroAt b 12 4 then some (.memRead h (bvAt 64 b 0 8) (bvAt 32 b 8 4)) else none
  | 0x23 => if 16 ≤ b.length ∧ zeroAt b 12 4 ∧ b.length = 16 + leAt b 8 4 then
      some (.memWrite h (bvAt 64 b 0 8) (b.drop 16)) else none
  | 0x30 => if b.length = 8 ∧ zeroAt b 5 1 then
      some (.pitchBuild h { pitch := bvAt 8 b 0 1, domain := bvAt 8 b 1 1, mode := bvAt 8 b 2 1, acct := bvAt 8 b 3 1,
                            fault := bvAt 8 b 4 1, qmask := bvAt 16 b 6 2 }) else none
  | 0x31 => if b.length = 4 ∧ zeroAt b 1 3 then some (.pitchDissolve h (bvAt 8 b 0 1)) else none
  | 0x32 => if b.length = 16 ∧ zeroAt b 7 1 then
      some (.ctxRegister h { ctx := bvAt 16 b 0 2, pitch := bvAt 8 b 2 1, cls := bvAt 8 b 3 1, weight := bvAt 8 b 4 1,
                             weightPages := bvAt 8 b 5 1, workPages := bvAt 8 b 6 1, spill := bvAt 64 b 8 8 }) else none
  | 0x33 => if b.length = 4 ∧ zeroAt b 2 2 then some (.ctxAdmit h (bvAt 16 b 0 2)) else none
  | 0x34 => if b.length = 4 ∧ zeroAt b 2 2 then some (.ctxTeardown h (bvAt 16 b 0 2)) else none
  | 0x40 => if b.length = 16 ∧ zeroAt b 1 1 ∧ zeroAt b 4 4 then
      some (.graphLoad h (bvAt 8 b 0 1) (bvAt 16 b 2 2) (bvAt 64 b 8 8)) else none
  | 0x41 => if b.length = 4 ∧ zeroAt b 1 1 then some (.graphUnload h (bvAt 8 b 0 1) (bvAt 16 b 2 2)) else none
  | 0x48 => if b.length = 48 ∧ zeroAt b 2 6 then some (.voiceSet h (bvAt 16 b 0 2) (b.drop 8)) else none
  | 0x49 => if b.length = 4 ∧ zeroAt b 2 2 then some (.voiceClear h (bvAt 16 b 0 2)) else none
  | 0x50 => (parseOpen b).map (fun o => .streamOpen h o)
  | 0x51 => if b.length = 8 ∧ zeroAt b 5 3 then
      (if leAt b 4 1 = 0 then some (.streamCloseDrain h (bvAt 32 b 0 4))
       else if leAt b 4 1 = 1 then some (.streamCloseAbort h (bvAt 32 b 0 4)) else none) else none
  | 0x52 => if b.length = 4 then some (.streamPause h (bvAt 32 b 0 4)) else none
  | 0x53 => if b.length = 4 then some (.streamResume h (bvAt 32 b 0 4)) else none
  | 0x54 => if b.length = 8 ∧ zeroAt b 6 2 then some (.streamSetGroup h (bvAt 32 b 0 4) (bvAt 16 b 4 2)) else none
  | 0x55 => if b.length = 8 ∧ leAt b 4 1 < 2 ∧ zeroAt b 5 3 then
      some (.streamStats h (bvAt 32 b 0 4) (leAt b 4 1 == 1)) else none
  | 0x58 => (parseFeature b).map (fun m => .feature h m)
  | 0x60 => (parseExport b).bind (fun e =>
      if leAt b 4 1 = 0 then some (.packExportSnapshot h e) else if leAt b 4 1 = 1 then some (.packExportMove h e) else none)
  | 0x61 => if 40 ≤ b.length ∧ zeroAt b 1 7 then
      (parseOpen ((b.drop 8).take 32)).map (fun o => .packImport h (bvAt 8 b 0 1) o (b.drop 40)) else none
  | 0x70 => some (.configStage h b)
  | 0x71 => if b.length = 4 ∧ zeroAt b 0 4 then some (.configCommit h) else none
  | 0x72 => if b.isEmpty then some (.configRead h) else none
  | 0x80 => if 8 ≤ b.length ∧ zeroAt b 5 3 ∧ 8 + leAt b 0 4 ≤ b.length then
      (parseTokens (leAt b 4 1) (b.drop (8 + leAt b 0 4))).map (fun ts => .authPolicy h ((b.drop 8).take (leAt b 0 4)) ts)
      else none
  | 0x81 => if b.length = 32 then some (.attest h b) else none
  | 0x82 => if 4 ≤ b.length ∧ zeroAt b 2 2 then
      (parseTokens (leAt b 1 1) (b.drop 4)).map (fun ts => .debugLevel h (bvAt 8 b 0 1) ts) else none
  | 0x90 => if b.length = 4 ∧ zeroAt b 0 4 then some (.twinDetach h) else none
  | 0xA0 => parseTrec h b
  | _ => none

end Sys2Proof.Machine
end

