-- ==== Sys2Proof/WellFormed.lean ====
section
/-! DEFINITION. Well-formed commands: what a payload can carry (15 R381, R384, R385). -/

namespace Sys2Proof

def OpenParams.wf (_ : OpenParams) : Bool := true

/-- Every frame has the stated size and the counts fit their fields (15 R385). -/
def FeatureMsg.wf (m : FeatureMsg) : Bool :=
  m.frames.all (fun f => f.length == m.frameBytes.toNat) && decide (m.marks.length < 2 ^ 16) && decide (m.frames.length < 2 ^ 32)

def tokensWf (ts : List (List Byte)) : Bool :=
  decide (ts.length < 256) && ts.all (fun t => decide (t.length < 2 ^ 16))

/-- A command whose operands the layouts of 15 R384 can carry. -/
def Instr.wf : Instr → Bool
  | .feature _ m => m.wf
  | .voiceSet _ _ e => e.length == 40
  | .attest _ n => n.length == 32
  | .regRead _ as => decide (as.length < 2 ^ 16)
  | .regWrite _ es => decide (es.length < 2 ^ 16)
  | .memWrite _ _ d => decide (d.length < 2 ^ 32)
  | .authPolicy _ p ts => decide (p.length < 2 ^ 32) && tokensWf ts
  | .debugLevel _ _ ts => tokensWf ts
  | _ => true

end Sys2Proof
end

