-- ==== Sys2Proof/Machine/Msg.lean ====
section
/-! DEFINITION. The processing of one KTP message around its own rule: what may be processed (15 R374, R383, R384, 16 R416,
18 R464, R471, R478, 19 R492, R494), its Tolcon record, its reply (15 R382). -/

namespace Sys2Proof.Machine

/-! ### Which message it is -/

def msgCode (i : Instr) : Nat := (msgType i).getD 0

/-- Messages marked G (15 R384). -/
def isG (i : Instr) : Bool := [1, 2, 3, 0x10, 0x11, 0x12, 0x13].contains (msgCode i)

/-- PING, STATUS, IDENTITY, SESSION_OPEN and SESSION_CLOSE, which need no wake (18 R478). -/
def noWake (i : Instr) : Bool := [1, 2, 3, 0x10, 0x11].contains (msgCode i)

/-- Whether the message makes a Tolcon KTP record (19 R490). -/
def recorded : Instr → Bool
  | .ping _ | .status _ | .identity _ | .regRead .. | .memRead .. | .configRead _ | .attest .. | .trecStatus _ | .trecRead ..
  | .trecAck .. | .trecClear _ | .replayBegin _ | .replayData .. | .replayEnd _ => false
  | .streamStats _ _ c => c
  | _ => true

/-- State-changing messages: the recorded ones but for those of sessions (16 R414, R416, 19 R494; log 21). -/
def changing : Instr → Bool
  | .sessionOpen .. | .sessionClose _ => false
  | i => recorded i

/-- The Pitch a message names, by itself or by a handle or context (16 R416). -/
def State.namedPitch (s : State) : Instr → Option Nat
  | .pitchBuild _ b => some b.pitch.toNat
  | .pitchDissolve _ p | .graphLoad _ p _ _ | .graphUnload _ p _ | .resetPitch _ p => some p.toNat
  | .ctxRegister _ c => some c.pitch.toNat
  | .ctxAdmit _ c | .ctxTeardown _ c => if (s.ctx c.toNat).state == .free then none else some (s.ctx c.toNat).pitch
  | .streamOpen _ p | .packImport _ _ p _ => some p.pitch.toNat
  | .streamCloseDrain _ h | .streamCloseAbort _ h | .streamPause _ h | .streamResume _ h | .streamSetGroup _ h _
  | .streamStats _ h _ => (s.findHandle h.toNat).map (fun i => (s.stream i).dir.pitch)
  | .feature _ m => (s.findHandle m.handle.toNat).map (fun i => (s.stream i).dir.pitch)
  | .packExportSnapshot _ e | .packExportMove _ e => (s.findHandle e.handle.toNat).map (fun i => (s.stream i).dir.pitch)
  | _ => none

def State.mirrors (s : State) (p : Nat) : Bool := (s.rg .linkTwinMirror).testBit p

def State.standby (s : State) : Bool := s.bit .linkTwinCfg 0 31 && s.bit .linkTwinCfg 0 16

/-- Whether this module is a standby that has not taken over (16 R416, R420). -/
def State.standingBy (s : State) : Bool :=
  s.standby && (s.twin.state == .attached || s.twin.state == .lost || s.twin.state == .taking)

/-- Whether a mirrored Pitch is bound to the domain. -/
def State.mirrorsDom (s : State) (d : Nat) : Bool := s.builtPitches.any (fun p => s.mirrors p && s.pitchDom p == d)

/-- Whether this module is a standby that has not taken over and whose twin has not ended (16 R420, R425). -/
def State.quiet (s : State) : Bool :=
  s.standby && !(s.twin.state == .taking || s.twin.state == .alone || s.twin.state == .detached)

/-- Whether this standby keeps the outputs of a domain silent (16 R420). -/
def State.silenced (s : State) (d : Nat) : Bool := s.quiet && s.mirrorsDom d

/-- Whether an attached primary may perform what belongs to tick `t` of a domain (16 R419). -/
def State.hbOk (s : State) (d t : Nat) : Bool := !s.forwarding || !s.mirrorsDom d || s.twin.hbAcked.contains (d, t)

/-- Whether nothing of a Pitch is released: a roll drains it (17 R448), or this standby only mirrors it (16 R416). -/
def State.heldPitch (s : State) (p : Nat) : Bool := s.draining p || (s.standingBy && s.mirrors p)

/-- Whether no step and no frame work of a Pitch is released: also while its domain issues no ticks (01 R33). -/
def State.noRelease (s : State) (p : Nat) : Bool := s.heldPitch p || !(s.td (s.pitchDom p)).ticking

/-- Do something for a Pitch; a standby sends no event for a mirrored one (16 R416). -/
def State.muted (s : State) (p : Nat) (f : State → State) : State :=
  if s.standingBy && s.mirrors p then
    let t := f { s with sessions := s.sessions.map (fun x => { x with evtMask := 0 }) }
    { t with sessions := t.sessions.map (fun x => { x with evtMask := ((s.sess x.num).map (fun y => y.evtMask)).getD x.evtMask }) }
  else f s

/-! ### Field codes (15 R384) -/

def openCodes (p : OpenParams) : Bool := decide (p.domain.toNat < 2) && decide (p.cls.toNat < 2)

/-- Whether every field holds a defined code and every reserved bit is zero; otherwise BAD_MSG (15 R384, 02 R50). -/
def fieldsOk : Instr → Bool
  | .streamOpen _ p => openCodes p
  | .packImport _ l p _ => openCodes p && decide (l.toNat < 2)
  | .packExportSnapshot _ e | .packExportMove _ e => openCodes e.op
  | .imageUpload _ k _ _ _ => decide (k.toNat < 2)
  | .memRead _ _ l => l != 0
  | .memWrite _ _ d => !d.isEmpty
  | .regRead _ as => !as.isEmpty && decide (as.length ≤ 256)
  | .voiceSet _ _ e => decide ((e.getD 0 0#8).toNat < 2) && e.getD 0x13 0#8 == 0
  | .sessionOpen _ _ _ _ m => m == 1024 || m == 8192
  | _ => true

/-! ### Permission -/

def regSpace : Nat := 0x200000000000

/-- Offset in the register space, if the address lies there (12 R305). -/
def regOff (a : Nat) : Option Nat := if regSpace ≤ a ∧ a < regSpace + 2 ^ 32 then some (a - regSpace) else none

def inDbg (a : Nat) : Bool := match regOff a with | some o => o / 65536 == 0xE | none => false
def inDbgTrace (a : Nat) : Bool := match regOff a with | some o => decide (0xE0004 ≤ o) && decide (o < 0xE0010) | none => false

/-- The debug level a message needs (18 R471, 19 R493). -/
def needLevel : Instr → Nat
  | .regRead _ as => if as.any (fun a => inDbg a.toNat) then 1 else 0
  | .regWrite _ es =>
    if es.any (fun e => inDbg e.1.toNat && !inDbgTrace e.1.toNat) then 2
    else if es.any (fun e => inDbg e.1.toNat) then 1 else 0
  | i => if msgCode i = 0xA0 then 1 else 0

def pwrCtlOff : Nat := 0xC0000
def pwrTimerOff : Nat := 0xC0010

/-- What a RETIRED device serves (18 R464). -/
def retiredOk : Instr → Bool
  | .regWrite _ es => es.all (fun e => regOff e.1.toNat == some pwrCtlOff || regOff e.1.toNat == some pwrTimerOff)
  | i => noWake i

def State.isRetired (s : State) : Bool := s.sec.lifecycle == 3

/-- Whether a message raises the debug level to DBG1, DBG2 or DBG3, which a RETIRED device refuses with LIFECYCLE (18 R483). -/
def raisesLevel : Instr → Bool
  | .debugLevel _ l _ => decide (1 ≤ l.toNat) && decide (l.toNat ≤ 3)
  | _ => false

/-- The Tolcon payload of a message: of IMAGE_UPLOAD only its first 16 bytes (19 R490). -/
def recPayload (i : Instr) : List Byte :=
  match i with
  | .imageUpload .. => (msgPayload i).take 16
  | _ => msgPayload i

def epochOf (i : Instr) : Nat := match msgHdr i with | some h => h.epoch.toNat | none => 0

/-- The status that keeps a message from being processed; 0 if none does (log 22 for the order). -/
def State.gate (s : State) (i : Instr) : Nat :=
  firstFail [
    (decide ((msgPayload i).length ≤ 262144), 0x03),
    (i.wf && fieldsOk i, 0x01),
    (!(s.isRetired && raisesLevel i), 0x606),
    (!s.isRetired || retiredOk i, 0x06),
    (s.dev.stage == 2 || isG i || s.isRetired, 0x05),
    (decide (needLevel i ≤ s.sec.level), 0x06),
    (!(s.standingBy && changing i && ((s.namedPitch i).any s.mirrors)), 0x702),
    (!(s.replay.active && changing i), 0x804),
    (epochOf i == 0 || epochOf i == s.epoch, 0x04),
    (!recorded i || s.trecRoom (recLen (32 + (recPayload i).length)), 0x801)]

/-! ### P1 conditions (18 R476) -/

def Chan.quiet (c : Chan) : Bool := c.state == .off || c.state == .idle || c.state == .empty

/-- The conditions under which P1, P2 and P3 are accepted (18 R476). -/
def State.p1Ok (s : State) : Bool :=
  s.openStreams.all (fun e => e.2.dir.state != .run && e.2.dir.state != .drain)
    && s.execs.isEmpty && s.units.all (fun u => !u.running)
    && s.models.all (fun m => m.stage == .usable && !m.unload) && s.loads.isEmpty
    && s.swap.all (fun e => e.2.queue.isEmpty && e.2.cur.isNone)
    && s.ctxs.all (fun e => e.2.state != .arriving && e.2.state != .leaving)
    && s.dev.upload.isNone && s.dev.program.isNone
    && s.chans.all (fun e => e.2.quiet)
    && s.kiosks.all (fun e => !e.2.halt && e.2.held.isNone)

/-- A wake cause: the wake is pending, and starts at once in P1 to P3 (18 R478, R479). -/
def State.wake (s : State) (cause : Nat) : State :=
  if s.pwr.waking || s.pwr.wakePend.isSome then s
  else if s.pwr.state = 0 && s.pwr.target.isNone then s
  else { s with pwr := { s.pwr with wakePend := some cause, waking := decide (s.pwr.state ≠ 0) } }

/-- The device enters no lower state when a message breaks a P1 condition on the way (18 R479). -/
def State.entryCheck (s : State) : State :=
  if s.pwr.target.isSome && s.pwr.state == 0 && !s.p1Ok then
    { s with pwr := { s.pwr with target := none, refuse := 0x60B, wakePend := none, waking := false } }
  else s

/-! ### Record, reply -/

/-- The body of a KTP record (19 R490). -/
def ktpBody (i : Instr) (st : Nat) (pay : List Byte) : List Byte :=
  let tag := match msgHdr i with | some h => h.tag.toNat | none => match i with | .sessionOpen _ t .. => t.toNat | _ => 0
  let p := recPayload i
  leBytes 2 (msgCode i) ++ leBytes 2 st ++ leBytes 4 tag ++ (pay ++ List.replicate 16 0#8).take 16 ++ leBytes 4 p.length
    ++ leBytes 4 0 ++ p

/-- The domain a message's record is stamped in (19 R489). -/
def State.msgDom (s : State) (i : Instr) : Nat :=
  match s.namedPitch i with
  | some p => if (s.pitch p).built then s.pitchDom p else s.defaultDom
  | none => s.defaultDom

/-- Whether the primary forwards the message (16 R416). -/
def State.forwards (s : State) (i : Instr) : Bool :=
  s.forwarding && recorded i && (match i with
    | .sessionOpen .. | .sessionClose _ | .imageUpload .. | .twinDetach _ => false
    | _ => match s.namedPitch i with | some p => s.mirrors p | none => true)

/-- The message's record, and where its copy goes if it is forwarded. -/
def State.recordMsg (s : State) (i : Instr) (n st : Nat) (pay : List Byte) : Option (Nat × Nat) × State :=
  if recorded i then
    let body := ktpBody i st pay
    let fw := if s.forwards i then s.forward (s.mkRecord (recLen body.length) 2 n (s.msgDom i) body) else (none, s)
    (fw.1, fw.2.ringRecord 2 n (s.msgDom i) body)
  else (none, s)

/-- Send a reply, or hold it until the forwarded record is acknowledged (15 R382, 16 R416). -/
def State.reply (s : State) (i : Instr) (h : Hdr) (held : Option (Nat × Nat)) (st epoch : Nat) (pay : List Byte) : State :=
  match held with
  | none => s.sendMsg h.session (msgCode i + 0x8000) st h.tag.toNat epoch pay
  | some w =>
    let d : Dgram := { flags := 0, session := h.session, seq := 0, ack := 0, typ := msgCode i + 0x8000, status := st,
                       tag := h.tag.toNat, epoch := epoch, payload := pay }
    { s with twin := { s.twin with fwdWait := s.twin.fwdWait ++ [(w.1, w.2, d)] } }

/-- The end of a message's processing: its record, then its reply. -/
def State.conclude (s : State) (i : Instr) (h : Hdr) (epoch st : Nat) (pay : List Byte) : State :=
  let s1 := if changing i then
      let t := s.fitClock.entryCheck
      { t with twin := { t.twin with changed := true } }
    else s
  let r := s1.recordMsg i h.session st pay
  r.2.reply i h r.1 st epoch pay

/-- The conclusion of a message whose reply was put off. -/
def State.concludeLater (s : State) (m : PendMsg) (st : Nat) (pay : List Byte) : State :=
  match msgHdr m.msg with
  | some h => s.conclude m.msg h m.epoch st pay
  | none => s

/-- Process a message that reaches its own rule, or refuse it. -/
def State.process (s : State) (i : Instr) (h : Hdr) (f : State → Rep) : State :=
  let g := s.gate i
  if g ≠ 0 then
    (if g = 0x801 then s.flag .trecEvt 0 1 else s).reply i h none g s.epoch []
  else
    let r := f s
    if r.later then r.s else r.s.conclude i h s.epoch r.st r.pay

/-- Whether the message waits until the device is back in P0 (18 R478). -/
def State.mustWake (s : State) (i : Instr) : Bool := s.pwr.state != 0 && !noWake i

/-- A message command: nothing without its session; a wake first in P1 to P3 and during entry (18 R478, R479); then its
processing. -/
def runMsg (i : Instr) (f : State → Rep) (s : State) : State :=
  match msgHdr i with
  | none => s
  | some h =>
    if !s.open h.session then s
    else if s.mustWake i then
      let t := s.wake 2
      { t with pwr := { t.pwr with wakeMsgs := t.pwr.wakeMsgs ++ [i] } }
    else (s.cond (s.pwr.state == 1 || (s.pwr.target.isSome && !noWake i)) (fun t => t.wake 2)).process i h f

end Sys2Proof.Machine
end

