-- ==== Sys2Proof/Machine/Access.lean ====
section
/-! DEFINITION. The address map (12 R305, R306), directory records as bytes (02 R59, R60), permitted ranges (18 R466), and
stores with their block checks and parity (12 R311, R318). -/

namespace Sys2Proof.Machine

/-! ### Where an address lies -/

inductive Zone where
  | lpddr
  | sram (q off : Nat)
  | dir (off : Nat)
  | reg (off : Nat)
  | none
  deriving DecidableEq, Repr

def dirBase : Nat := 0x180000000000

/-- The region of an address (12 R305). -/
def zoneOf (a : Nat) : Zone :=
  if a < lpddrTop then .lpddr
  else if 0x100000000000 ≤ a ∧ a < 0x100010000000 then .sram (a / 0x1000000 % 16) (a % 0x1000000)
  else if dirBase ≤ a ∧ a < dirBase + 0x800000 then .dir (a - dirBase)
  else match regOff a with
    | some o => .reg o
    | none => .none

/-! ### Directory records (02 R60, 03 R81) -/

def firstMark (x : Stream) : Nat :=
  match x.feat.marks with
  | [] => 0xFFFFFFFFFFFFFFFF
  | m :: _ => m.1

def b2n (b : Bool) : Nat := if b then 1 else 0

/-- STATE_LOC (03 R81). -/
def Stream.locWord (x : Stream) : Nat :=
  (if x.dir.loc == .resident || x.dir.loc == .moving then x.dir.slot + x.dir.quarter * 2 ^ 20 else 0)
    + x.dir.cls * 2 ^ 16 + x.dir.loc.code * 2 ^ 29

/-- The 64 bytes of a record. -/
def Stream.record (x : Stream) : List Byte :=
  let d := x.dir
  let flags := b2n d.be + 2 * b2n (d.loc == .resident) + 4 * b2n (!x.feat.marks.isEmpty) + 8 * b2n d.laneCompat
    + 16 * b2n d.group.isSome + 32 * b2n d.endSeen
  leBytes 2 d.gen ++ leBytes 1 d.state.code ++ leBytes 1 flags ++ leBytes 2 d.voice ++ leBytes 1 d.pitch
    ++ leBytes 1 (d.d + 4 * d.phase + 16 * d.domain) ++ leBytes 8 d.sampleIdx ++ leBytes 8 d.seed ++ leBytes 4 x.locWord
    ++ leBytes 2 (d.group.getD 0xFFFF) ++ leBytes 2 d.qdepth ++ leBytes 2 x.del.queue.length ++ leBytes 2 d.dest
    ++ leBytes 4 d.epoch ++ leBytes 8 (firstMark x) ++ leBytes 4 x.cnt.ovr ++ leBytes 4 x.cnt.slip ++ leBytes 4 x.cnt.under
    ++ leBytes 2 x.cnt.qfull ++ leBytes 2 x.cnt.fault

/-- The byte at an address of memory or of the directory window. -/
def State.byteOf (s : State) (a : Nat) : Byte :=
  match zoneOf a with
  | .dir off => (s.stream (off / 64)).record.getD (off % 64) 0#8
  | _ => Memory.read s.mem a

/-- `n` bytes, as a reader of the window or of memory gets them. -/
def State.bytesAt (s : State) (a n : Nat) : List Byte :=
  match zoneOf a with
  | .dir _ => (List.range n).map (fun k => s.byteOf (a + k))
  | _ => s.mem.readN a n

/-! ### Permission (18 R466) -/

def State.isolate (s : State) : Bool :=
  match s.sec.policy with
  | some b => byteAt b 0xE == 1
  | none => false

/-- The ranges of the policy in force that hold an address: their masks and HOST bits (18 R465). -/
def State.rangesAt (s : State) (a : Nat) : List (Nat × Bool) :=
  match s.sec.policy with
  | none => []
  | some b => (List.range (byteAt b 0xF)).filterMap (fun r =>
      let o := 0xE40 + 16 * r
      if numAt b o 8 ≤ a ∧ a < numAt b o 8 + numAt b (o + 8) 4 * 0x200000 then
        some (numAt b (o + 12) 2, (numAt b (o + 14) 2).testBit 0) else none)

def State.pitchMay (s : State) (p a : Nat) : Bool := !s.isolate || (s.rangesAt a).any (fun r => r.1.testBit p)

/-- Whether host messages and unowned channels reach an LPDDR5X address. -/
def State.hostMay (s : State) (a : Nat) : Bool :=
  !s.isolate || s.sec.level == 3 || (s.rangesAt a).isEmpty || (s.rangesAt a).any (fun r => r.2)

def State.inWeight (s : State) (q off : Nat) : Bool := decide ((256 - s.weightPages q) * 65536 ≤ off)

/-! ### Storing -/

/-- A store dropped at the weight region (04 R112). -/
def State.wprot (s : State) (q : Nat) : State := (s.inc .qtrWprotCnt q).flag .qtrEvt q 1

/-- A tick of a domain in ns of uptime, by its current tick period (12 R322). -/
def State.tickNs (s : State) (d t : Nat) : Nat :=
  let x := s.td d
  x.edgeNs + (t - x.cnt) * 16000000000 / max 1 x.rate16

/-- A request of a Ward whose last block is issued now: late if its deadline has passed (12 R324). -/
def State.rbLate (s : State) (w : Nat) (deadline : Option Nat) : State :=
  match deadline with
  | some d => if d < s.uptime then s.inc .memcRbLateCnt w else s
  | none => s

/-- The deadline of an execution's requests; BE work has none (12 R322). -/
def State.execNs (s : State) (e : Exec) : Option Nat := if e.be || (s.ctx e.ctx).be then none else some (s.tickNs (s.pitchDom e.pitch) e.deadline)

/-- Bytes a Ward's Roundabout issues: whole blocks (12, MEMC_RB_BYTES; the count wraps). -/
def State.rbBytes (s : State) (w n : Nat) : State :=
  let v := s.rg .memcRbBytesLo w + s.rg .memcRbBytesHi w * 2 ^ 32 + n
  (s.setRg .memcRbBytesLo w v).setRg .memcRbBytesHi w (v / 2 ^ 32)

end Sys2Proof.Machine
end

