-- ==== Sys2Proof/Machine/Chans.lean ====
section
/-! DEFINITION. Mover channels as other units reach them (13): what a channel may access, triggers, the conditional STATUS
write, abort and cancellation; and Turnstiles (09 R231 to R236). -/

namespace Sys2Proof.Machine

def State.chan (s : State) (n : Nat) : Chan := Tab.getD s.chans n Chan.reset

def State.updChan (s : State) (n : Nat) (f : Chan → Chan) : State := { s with chans := Tab.modify s.chans n Chan.reset f }

/-- The Pitch that owns a channel (13 R325). -/
def State.chanOwner (s : State) (n : Nat) : Option Nat :=
  if s.bit .movrOwner n 4 then none else some (s.fld .movrOwner n 3 0)

def State.chanDom (s : State) (n : Nat) : Nat :=
  match s.chanOwner n with
  | some p => s.pitchDom p
  | none => s.defaultDom

def State.chanHead (s : State) (n : Nat) : Nat := s.rg .movrChHeadLo n + s.fld .movrChHeadHi n 15 0 * 2 ^ 32

/-- BURST in bytes and the peripheral code (13 MOVR_CH_CTL). -/
def State.chanBurst (s : State) (n : Nat) : Nat := 64 * 2 ^ s.fld .movrChCtl n 7 6
def State.chanPeriph (s : State) (n : Nat) : Nat := s.fld .movrChCtl n 20 16
def State.chanPause (s : State) (n : Nat) : Bool := s.bit .movrChCtl n 1

def ChState.code : ChState → Nat
  | .off => 0 | .idle => 1 | .run => 2 | .waitTrig => 3 | .waitPreq => 4 | .empty => 5 | .paused => 6 | .halted => 7

/-! ### What a channel may reach (13 R326) -/

inductive Acc where
  | ok | drop | bus | access
  deriving DecidableEq, Repr

def State.moverAcc (s : State) (n a : Nat) (wr : Bool) : Acc :=
  match zoneOf a with
  | .lpddr =>
    match s.chanOwner n with
    | some p => if s.pitchMay p a then .ok else .access
    | none => if s.hostMay a then .ok else .access
  | .sram q off =>
    if !s.powered q then .bus
    else
      let mine := match s.chanOwner n with
        | some p => s.quarterPitch q == some p
        | none => s.sec.level == 3
      if !mine then .access else if wr && s.inWeight q off then .drop else .ok
  | .dir _ => if wr then .drop else .ok
  | _ => .bus

/-- A write of a descriptor that was dropped: WPROT, and the weight region's count (04 R112, 13 R326). -/
def State.chanDrop (s : State) (n a : Nat) : State :=
  let s1 := (s.updChan n (fun c => { c with wprot := true })).flag .movrChEvt n 2
  match zoneOf a with
  | .sram q _ => s1.wprot q
  | _ => s1

/-! ### The STATUS write (13 R343) -/

def Desc.len (d : Desc) : Nat := bitsOf d.ctrl 19 0
def Desc.list (d : Desc) : Nat := bitsOf d.ctrl 21 20
def Desc.swap (d : Desc) : Nat := bitsOf d.ctrl 23 22
def Desc.waitTrig (d : Desc) : Bool := d.ctrl.testBit 24
def Desc.preq (d : Desc) : Bool := d.ctrl.testBit 25
def Desc.pass (d : Desc) : Bool := d.ctrl.testBit 26
def Desc.evt (d : Desc) : Bool := d.ctrl.testBit 27

/-- The STATUS word a finished descriptor carries: OWN = 0 (13 R330). -/
def statusWord (d : Desc) (cause len : Nat) (wprot : Bool) : Nat :=
  len + cause * 2 ^ 20 + bitsOf d.status 29 24 * 2 ^ 24 + b2n wprot * 2 ^ 30

/-- Why and where a channel halts (13 R346). -/
structure Halt where
  cause : Nat
  kind : Nat
  wr : Bool
  addr : Nat
  deriving DecidableEq, Repr

/-- A word of Quarter SRAM that a store covers only in part, and whose parity is bad (12 R318). -/
def State.partWord (s : State) (a n : Nat) : Option Nat :=
  ((s.badWordsIn a n).filter (fun w => decide (w < a) || decide (a + n < w + 8))).head?

/-- Why a write of `len` bytes at `a` halts the channel, if it does: it cannot reach them, or the read of its
read-modify-write fails (12 R311, R318, 13 R326, R346). -/
def State.writeHalt (s : State) (n a len kind : Nat) : Option Halt :=
  match s.moverAcc n a true with
  | .bus => some ⟨1, kind, true, a⟩
  | .access => some ⟨2, kind, true, a⟩
  | .drop => none
  | .ok =>
    match s.partBad a len with
    | some b => some ⟨3, kind, true, b * 64⟩
    | none => (s.partWord a len).map (fun w => ⟨4, kind, true, w⟩)

/-- Why the STATUS write at `a` halts the channel, if it does. -/
def State.statusHalt (s : State) (n a : Nat) : Option Halt := s.writeHalt n a 4 3

/-- Whether the STATUS write would fail. -/
def State.statusFails (s : State) (n a : Nat) : Bool := (s.statusHalt n a).isSome

/-- What a request to the Ward's Roundabout puts through it: its blocks in LPDDR5X (MEMC_RB_BYTES). -/
def State.chanBytes (s : State) (n a : Nat) : State := if a < lpddrTop then s.rbBytes (n / 64) 64 else s

/-- The conditional write. -/
def State.statusWrite (s0 : State) (n : Nat) (d : Desc) (cause len : Nat) : State :=
  let c := s0.chan n
  let a := c.cur + 0x1C
  let s := s0.chanBytes n a
  if s.mem.leN a 4 = d.status then
    (if s.moverAcc n a true = .drop then s.chanDrop n a
     else s.poke a (leBytes 4 (statusWord d cause len c.wprot)))
  else
    let s1 := (s.inc .movrRaceCnt).flag .movrChEvt n 0
    if s.bit .movrChEvt n 0 then s1 else s1.event 0x0704 n (s.chanDom n)

/-! ### Peripheral requests (13 R338, R339) -/

def State.port (s : State) (p : Nat) : Port := Tab.getD s.ports p Port.reset

def State.updPort (s : State) (p : Nat) (f : Port → Port) : State := { s with ports := Tab.modify s.ports p Port.reset f }

/-- A pending request's reservation is released. -/
def State.withdraw (s : State) (n : Nat) : State :=
  let c := s.chanPeriph n
  let s1 := s.updChan n (fun x => { x with request := false })
  if 1 ≤ c ∧ c ≤ 8 then s1.updPort (c - 1) (fun p => { p with txReq := 0 })
  else if 9 ≤ c ∧ c ≤ 16 then s1.updPort (c - 9) (fun p => { p with rxReq := 0 })
  else s1

/-- The enabled channel that serves a peripheral (13 R338). -/
def State.servedBy (s : State) (code : Nat) : Option Nat :=
  ((s.chans.filter (fun e => e.2.state != .off && s.chanPeriph e.1 == code)).head?).map (fun e => e.1)

/-- The peripheral side of a PREQ descriptor is its destination. -/
def periphIsDst (c : Nat) : Bool := decide (c ≤ 8) || decide (17 ≤ c)

/-- The frame rate of a port's settings: its DOMAIN, PDIV and slots (14 R352, PORT_CFG, PORT_FMT). -/
def State.portDom (s : State) (p : Nat) : Nat := s.fld .portCfg p 3 3
def State.portPdiv (s : State) (p : Nat) : Nat := s.fld .portCfg p 5 4
def State.portSlots (s : State) (p : Nat) : Nat := s.fld .portFmt p 12 8 + 1

/-- TX_MAP of a slot (14 PORT_TX_MAP). -/
def State.txMap (s : State) (p k : Nat) : Nat :=
  if k < 16 then s.fld .portTxMapLo p (2 * k + 1) (2 * k) else s.fld .portTxMapHi p (2 * (k - 16) + 1) (2 * (k - 16))

def State.slotsWith (s : State) (p code : Nat) : List Nat := (List.range (s.portSlots p)).filter (fun k => s.txMap p k == code)

/-- The dry time a transmit FIFO reports with its request: uptime plus floor(words held / k) frame periods (14 R361). -/
def State.dryTime (s : State) (p : Nat) : Option Nat :=
  let k := (s.slotsWith p 2).length
  if k = 0 then none
  else some (s.uptime + (s.port p).tx.length / k * 1000000000 * s.portPdiv p / s.baseRate (s.portDom p))

/-- A request of a channel is raised (13 R339). -/
def Chan.asked (c : Chan) (dry : Option Nat) : Chan :=
  { c with request := true, dry := dry, state := if c.state == .waitPreq then .run else c.state }

/-- BURST bytes of room for the channel that serves a transmit FIFO are secured: its request is raised. -/
def State.raiseTx (s : State) (p : Nat) : State :=
  match s.servedBy (p + 1) with
  | none => s
  | some n =>
    let x := s.port p
    if s.bit .portCfg p 0 && !x.noclk && x.txReq == 0 && decide (s.chanBurst n ≤ 4 * (1024 - x.tx.length)) then
      (s.updPort p (fun x => { x with txReq := s.chanBurst n })).updChan n (fun c => c.asked (s.dryTime p))
    else s

/-- As `raiseTx` for a receive FIFO that holds BURST bytes. -/
def State.raiseRx (s : State) (p : Nat) : State :=
  match s.servedBy (p + 9) with
  | none => s
  | some n =>
    let x := s.port p
    if s.bit .portCfg p 0 && !x.noclk && x.rxReq == 0 && decide (s.chanBurst n ≤ 4 * x.rx.length) then
      (s.updPort p (fun x => { x with rxReq := s.chanBurst n })).updChan n (fun c => c.asked none)
    else s

/-- An RTP packetiser or host return, of which the spec gives no FIFO, has secured a full burst by now or not: a free value
(log 26). -/
def State.raiseFree (s : State) (n : Nat) : State :=
  let s1 : State := { s with free := s.free + 1 }
  if Config.periphReady s.free then s1.updChan n (fun c => c.asked none) else s1

/-- The request of a channel's own peripheral. -/
def State.raiseFor (s : State) (n : Nat) : State :=
  let c := s.chanPeriph n
  if 1 ≤ c ∧ c ≤ 8 then s.raiseTx (c - 1) else if 9 ≤ c ∧ c ≤ 16 then s.raiseRx (c - 9) else if 17 ≤ c then s.raiseFree n else s

/-- A descriptor with its trigger consumed goes on: to a burst that has started, or once one is requested (13 R332). -/
def State.goChan (s : State) (n : Nat) : State :=
  match (s.chan n).desc with
  | none => s
  | some d =>
    if d.preq && !(s.chan n).burst then
      let s1 := (s.updChan n (fun c => { c with state := if c.request then .run else .waitPreq }))
      if (s.chan n).request then s1 else s1.raiseFor n
    else s.updChan n (fun c => { c with state := .run })

/-! ### Abort and cancellation (13 R348, R350) -/

/-- End what a channel does, with a STATUS write if a descriptor it owns was fetched. -/
def State.endChan (s : State) (n cause : Nat) : State :=
  let c := s.chan n
  let s1 := match c.desc with
    | some d =>
      if !d.status.testBit 31 then s
      else
        match s.statusHalt n (c.cur + 0x1C) with
        | none => s.statusWrite n d cause c.pos
        | some h => s.cond (h.cause == 3) (fun s => s.readFailed h.addr 3)
    | none => s
  (s1.withdraw n).updChan n (fun c =>
    { c with state := .idle, back := .idle, trigs := [], cur := s.chanHead n, desc := none, pos := 0, wprot := false,
             gen := none, trigTime := none, burst := false, held := [] })

/-- Descriptors of owned channels that run under a retired generation are ended (13 R327, R350). -/
def State.cancelGen (s : State) (e : Nat) : State :=
  let hit := s.chans.filter (fun c => c.2.gen == some e && (s.chanOwner c.1).isSome && (match c.2.state with
    | .run | .waitPreq | .halted => true
    | .paused => c.2.back != .waitTrig
    | _ => false))
  hit.foldl (fun s c => s.endChan c.1 1) s

/-! ### Triggers (13 R333, R334) -/

/-- A channel starts: it fetches CUR. `trig` is the uptime of the trigger that started it, if one did (13 R341). -/
def Chan.start (c : Chan) (gen : Option Nat) (trig : Option Nat := none) : Chan :=
  { c with state := .run, desc := none, pos := 0, wprot := false, gen := gen, trigTime := trig }

/-- START by PEND with AUTO = 1 (13 R332): under the generation of the oldest pending trigger. -/
def State.autoStart (s : State) (n : Nat) : State :=
  let c := s.chan n
  match c.trigs with
  | [] => s
  | t :: _ =>
    if s.bit .movrChCtl n 2 && (c.state == .idle || c.state == .empty) then s.updChan n (fun c => c.start t.1 (some t.2))
    else s

/-- One trigger of a channel. A descriptor that waits consumes it at once, unless PAUSE holds the channel (13 R332, R345). -/
def State.trigger (s : State) (n : Nat) (gen : Option Nat) : State :=
  let c := s.chan n
  if c.state = .off then s
  else if c.state = .waitTrig ∧ ¬ s.chanPause n then
    (s.updChan n (fun c => { c with gen := gen, trigTime := some s.uptime })).goChan n
  else if c.trigs.length = 15 then
    let s1 := (s.inc .movrChTrigLostCnt n).flag .movrChEvt n 1
    if s.bit .movrChEvt n 1 then s1 else s1.event 0x0703 n (s.chanDom n)
  else (s.updChan n (fun c => { c with trigs := c.trigs ++ [(gen, s.uptime)] })).autoStart n

/-- Channels with trigger source `src` that a test of their TRIG fields (domain, ARG, PHASE) holds of. -/
def State.triggerAll (s : State) (src : Nat) (p : Nat → Bool) (gen : Option Nat) : State :=
  let hit := (s.chans.filter (fun c => s.fld .movrChTrig c.1 2 0 == src && p c.1)).map (fun c => c.1)
  hit.foldl (fun s n => s.trigger n gen) s

/-- TICK and FRAME triggers at tick `t` of a domain. -/
def State.tickTriggers (s : State) (dom t : Nat) (frame : Bool) : State :=
  let s1 := s.triggerAll 1 (fun n => s.fld .movrChTrig n 3 3 == dom
    && t % s.fld .movrChTrig n 15 8 == s.fld .movrChTrig n 23 16) none
  if frame then s1.triggerAll 2 (fun n => s.fld .movrChTrig n 3 3 == dom) none else s1

/-- CHAIN triggers of a completion of channel `n`. -/
def State.chainTriggers (s : State) (n : Nat) (gen : Option Nat) : State :=
  s.triggerAll 4 (fun m => s.fld .movrChTrig m 15 8 == n) gen

/-! ### Turnstiles -/

def State.tst (s : State) (n : Nat) : Tstl := Tab.getD s.tstl n Tstl.reset

def State.setTst (s : State) (n : Nat) (t : Tstl) : State := { s with tstl := Tab.set s.tstl n t }

/-- The pool of a Pitch (09 R234). -/
def State.poolBase (s : State) (p : Nat) : Nat := s.fld .schedTstlPool p 13 0
def State.poolSize (s : State) (p : Nat) : Nat := s.fld .schedTstlPool p 30 16
def State.inPool (s : State) (p n : Nat) : Bool := decide (s.poolBase p ≤ n) && decide (n < s.poolBase p + s.poolSize p)

/-- A Turnstile's new value; a change to MET triggers the channels that name it (13 R333). -/
def State.putTst (s : State) (n : Nat) (t : Tstl) : State :=
  let old := s.tst n
  let s1 := s.setTst n t
  if t.met && !old.met then s1.triggerAll 5 (fun m => s.fld .movrChTstl m 29 16 == n) t.bound else s1

/-- ARM(t) (09 R231). -/
def Tstl.armed' (x : Tstl) (t : BitVec 24) : Tstl :=
  { x with count := 0, target := t, armed := true, met := t == 0#24, ovf := false }

/-- PASS(k) on an armed Turnstile. -/
def Tstl.passed (x : Tstl) (k : Nat) : Tstl :=
  let c := min (x.count.toNat + k) 0xFFFFFFFF
  { x with count := BitVec.ofNat 32 c, met := x.met || decide (x.target.toNat ≤ c), ovf := x.ovf || decide (x.target.toNat < c) }

/-- RESET; the binding stays. -/
def Tstl.cleared (x : Tstl) : Tstl := { x with count := 0, target := 0, armed := false, met := false, ovf := false }

def State.armTst (s : State) (n : Nat) (t : BitVec 24) : State := s.putTst n ((s.tst n).armed' t)

def State.resetTst (s : State) (n : Nat) : State := s.putTst n (s.tst n).cleared

/-- PASS(k) (09 R231, R236). -/
def State.passTst (s : State) (n k : Nat) : State :=
  let x := s.tst n
  if !x.armed then (s.inc .schedTstlErrCnt).flag .schedGraphEvt 0 1
  else
    let y := x.passed k
    let s1 := s.putTst n y
    if y.ovf then s1.flag .schedGraphEvt 0 2 else s1

/-- An operation dropped for its range (09 R235). -/
def State.tstRange (s : State) : State := (s.inc .schedTstlErrCnt).flag .schedGraphEvt 0 0

/-- A host operation: dropped on a bound Turnstile (09 R235). -/
def State.hostTst (s : State) (n : Nat) (f : State → State) : State :=
  if (s.tst n).bound.isSome then s.tstRange else f s

/-- SCHED_TSTL_ARG. -/
def State.tstArg (s : State) : Nat := s.fld .schedTstlArg 0 23 0

def State.hostArm (s : State) (n : Nat) : State := s.hostTst n (fun s => s.armTst n (BitVec.ofNat 24 s.tstArg))
def State.hostPass (s : State) (n : Nat) : State :=
  if s.tstArg = 0 then s else s.hostTst n (fun s => s.passTst n s.tstArg)
def State.hostReset (s : State) (n : Nat) : State := s.hostTst n (fun s => s.resetTst n)

/-- TSTL_ARM (09 R231). -/
def execTstlArm (n : BitVec 14) (s : State) : Host.Outcome State Fault Refusal := done (s.hostArm n.toNat)
/-- TSTL_PASS (09 R231). -/
def execTstlPass (n : BitVec 14) (s : State) : Host.Outcome State Fault Refusal := done (s.hostPass n.toNat)
/-- TSTL_RESET (09 R231). -/
def execTstlReset (n : BitVec 14) (s : State) : Host.Outcome State Fault Refusal := done (s.hostReset n.toNat)

end Sys2Proof.Machine
end

