-- ==== Sys2Proof/Machine/Image.lean ====
section
/-! DEFINITION. An Ngasyn image as the device reads it (09 R219 to R223), the worst cases the loader re-derives (09 R240),
and the making of executions (09 R224). -/

namespace Sys2Proof.Machine

abbrev Img := List Byte

def imgKind (b : Img) : Nat := numAt b 6 2
def imgLen (b : Img) : Nat := numAt b 8 4
def imgModel (b : Img) : Nat := numAt b 0xC 2
def imgTasks (b : Img) : Nat := numAt b 0xE 2
def imgState (b : Img) : Nat := numAt b 0x10 4
def imgW (b : Img) : Nat := numAt b 0x14 4
def imgWe (b : Img) : Nat := numAt b 0x18 4
def imgChain (b : Img) : Nat := numAt b 0x1C 4
def imgTiles (b : Img) : Nat := numAt b 0x20 4
def imgDStep (b : Img) : Nat := numAt b 0x24 4
def imgDFrame (b : Img) : Nat := numAt b 0x28 4
def imgTstlCnt (b : Img) : Nat := numAt b 0x2C 2
def imgParamOff (b : Img) : Nat := numAt b 0x30 4
def imgSubOff (b : Img) : Nat := numAt b 0x34 4
def imgTaskOff (b : Img) : Nat := numAt b 0x38 4
def imgSuccOff (b : Img) : Nat := numAt b 0x3C 4
def imgTstlOff (b : Img) : Nat := numAt b 0x40 4
def imgRandOff (b : Img) : Nat := numAt b 0x44 4
def imgArgOff (b : Img) : Nat := numAt b 0x48 4
def imgWgtOff (b : Img) : Nat := numAt b 0x4C 4

/-- A task record (09 R221). -/
structure TaskRec where
  kind : Nat
  unit : Nat
  pred : Nat
  wcet : Nat
  succ : Nat
  succCnt : Nat
  waitT : Nat
  passT : Nat
  passN : Nat
  arg : Nat
  argLen : Nat
  tiles : Nat
  deriving DecidableEq, Repr

def imgTask (b : Img) (t : Nat) : TaskRec :=
  let r := (b.drop (imgTaskOff b + 32 * t)).take 32
  { kind := numAt r 0 1, unit := numAt r 1 1, pred := numAt r 2 2, wcet := numAt r 4 4, succ := numAt r 8 4,
    succCnt := numAt r 0xC 2, waitT := numAt r 0xE 2, passT := numAt r 0x10 2, passN := numAt r 0x12 2, arg := numAt r 0x14 4,
    argLen := numAt r 0x18 4, tiles := numAt r 0x1C 2 }

/-- The unit kind a task's tiles run on (09 R221, R229): MARK_DECODE and NOISE_FILL run on Kiosks (06, 08). -/
def TaskRec.unitKind (r : TaskRec) : UnitKind :=
  match r.kind with
  | 0 => .square
  | 1 => .gate
  | 2 => .expand
  | _ => .kiosk

def subNo : Sub → Nat
  | .step => 0
  | .frame => 1
  | .chunk => 2

/-- A subgraph's first task, count and roots (09 R220). -/
def imgSub (b : Img) (k : Nat) : Nat × Nat × Nat :=
  let r := (b.drop (imgSubOff b + 8 * k)).take 8
  (numAt r 0 2, numAt r 2 2, numAt r 4 2)

def imgSuccs (b : Img) (t : Nat) : List Nat :=
  let r := imgTask b t
  (List.range r.succCnt).map (fun k => numAt b (imgSuccOff b + r.succ + 2 * k) 2)

/-- A logical Turnstile entry: TARGET_KIND and TARGET (09 R223). -/
def imgTstl (b : Img) (i : Nat) : Nat × Nat := (numAt b (imgTstlOff b + 8 * i) 1, numAt b (imgTstlOff b + 8 * i + 4) 4)

def imgArg (b : Img) (t : Nat) : List Byte :=
  let r := imgTask b t
  (b.drop (imgArgOff b + r.arg)).take r.argLen

def imgParams (b : Img) : Config.ImgParams := Config.readParams (b.drop (imgParamOff b))

def imgRand (b : Img) (k : Nat) : List RandEntry := Config.readRand (b.drop (imgRandOff b)) k

/-- Bytes of a weight tile in the tile format (04 R114). -/
def tileBytes (f : Config.WFmt) : Nat :=
  match f with
  | .e4m3 | .e5m2 | .int8 => 4096
  | .mxe2m3 | .mxe3m2 => 6400
  | .mxfp4 => 4352
  | .bf16 | .fp16 => 8192

/-- The format of weight tile `k` (05 R134, R135). -/
def tileFmt (p : Config.ImgParams) (k : Nat) : Config.WFmt := p.tileFmts.getD k .e4m3

/-- Where weight tile `k` begins behind WGT_OFF: tiles lie in image tile order (09 R219). -/
def tileOff (p : Config.ImgParams) (k : Nat) : Nat := ((List.range k).map (fun j => tileBytes (tileFmt p j))).sum

/-- Bytes of all weight tiles. -/
def imgWgtBytes (b : Img) : Nat := tileOff (imgParams b) (imgTiles b)

/-- The layer of a number, and its convolution parameters. -/
def layerOf (p : Config.ImgParams) (l : Nat) : Option Config.LayerP := find1 p.layers (fun y => y.id == l)
def convOf (p : Config.ImgParams) (l : Nat) : Option Config.ConvP := (layerOf p l).bind (fun y => y.conv)

/-- The backward and the forward reach of the layers of a fused group from place `n` on (08 R202): A and B of the layer before
it. -/
def reachFrom (p : Config.ImgParams) (f : Config.FuseP) (n : Nat) : Nat × Nat :=
  let cs := (f.layers.drop n).filterMap (convOf p)
  ((cs.map (fun c => c.centre * c.dil)).sum, (cs.map (fun c => (c.taps - 1 - c.centre) * c.dil)).sum)

/-- The GATE task that a segment's results go to (04 R119), by its place in the task table. -/
def segGate (b : Img) (g : Nat) : Option Nat := ((imgSuccs b g).filter (fun t => (imgTask b t).kind == 1)).head?

/-- The EXPAND tasks whose rows a segment reads (08 R197, R199): those that list it as a successor. -/
def segFeeds (b : Img) (g : Nat) : List Nat :=
  (List.range (imgTasks b)).filter (fun t => (imgTask b t).kind == 2 && (imgSuccs b t).contains g)

/-! ### Worst cases (09 R240) -/

/-- The worst case of a task; of a MARK_DECODE task, 2,048 cycles for each tile (08 R212). -/
def TaskRec.worst (r : TaskRec) : Nat := if r.kind = 4 then 2048 * r.tiles else r.wcet

/-- Longest path weight to each task of a subgraph, in ascending index (R222 makes that a valid order). -/
def longest (b : Img) (first : Nat) : List Nat → List Nat → List Nat
  | [], acc => acc
  | t :: ts, acc =>
    let own := acc.getD (t - first) 0 + (imgTask b t).worst
    let bump := fun (k v : Nat) => if (imgSuccs b t).contains (first + k) then max v own else v
    longest b first ts ((acc.zipIdx.map (fun p => if p.2 = t - first then own else bump p.2 p.1)))

/-- The worst case of a subgraph: the longest path through its tasks, weighted by WCET. -/
def subWorst (b : Img) (k : Nat) : Nat :=
  let g := imgSub b k
  ((longest b g.1 ((List.range g.2.1).map (fun i => g.1 + i)) (List.replicate g.2.1 0))).foldl max 0

/-! ### Executions -/

def State.exec? (s : State) (id : Nat) : Option Exec := find1 s.execs (fun e => e.id == id)

def State.updExec (s : State) (id : Nat) (f : Exec → Exec) : State := { s with execs := updWhere (fun e => e.id == id) f s.execs }

def State.execImg (s : State) (e : Exec) : Img :=
  match s.model e.pitch e.model with
  | some m => s.image m
  | none => []

/-- The task states of a fresh execution. -/
def freshTasks (b : Img) (k : Sub) : List TaskSt :=
  let g := imgSub b (subNo k)
  (List.range g.2.1).map (fun i =>
    { pend := (imgTask b (g.1 + i)).pred, tile := 0, phase := .waiting, unit := none, saved := [], waitT := none,
      mark := none, direct := false })

/-- An execution that waits for its release. -/
def State.newExec (s : State) (k : Sub) (m : Model) (q : Nat) (be : Bool) (rows : List Row) (deadline : Nat) : State :=
  let e : Exec :=
    { id := s.nextId, sub := k, pitch := m.pitch, ctx := m.ctx, model := m.id, quarter := q, be := be, rows := rows,
      released := false, waited := false, relTick := s.tick (s.pitchDom m.pitch), relCycle := s.cycle, deadline := deadline,
      tasks := freshTasks (s.image m) k, bound := [], fetches := 0, cancelled := false, firstTile := none,
      preempts := 0, cycles := 0, missAt := none, before := [] }
  { s with nextId := s.nextId + 1, execs := s.execs ++ [e] }

/-- Tiles of an execution that run now. -/
def State.runningOf (s : State) (id : Nat) : List UnitRun := s.units.filter (fun u => u.exec == id && u.running)

/-- RESET the Turnstiles of an execution and return them to the pool (09 R234). -/
def State.freeTsts (s : State) (l : List Nat) : State :=
  l.foldl (fun s n => let t := s.resetTst n; t.setTst n { (t.tst n) with bound := none }) s

/-- The execution is gone: its Turnstiles and buffers are free. -/
def State.removeExec (s : State) (id : Nat) : State :=
  match s.exec? id with
  | none => s
  | some e =>
    let s1 := s.freeTsts e.bound
    { s1 with execs := s1.execs.filter (fun x => x.id != id), parts := s1.parts.filter (fun x => x.exec != id),
              units := s1.units.filter (fun u => u.exec != id) }

/-- Rows of a stream commit nothing any more (09 R237). -/
def State.deadRows (s : State) (i : Nat) : State :=
  let kill := fun (r : Row) => if r.stream = i then { r with live := false } else r
  { s with execs := s.execs.map (fun (e : Exec) => { e with rows := e.rows.map kill }) }

/-- The streams of an execution have no work in flight there any more. -/
def State.unflight (s : State) (e : Exec) : State :=
  (e.rows.map (fun r => r.stream)).eraseDups.foldl (fun s i =>
    if (s.stream i).isOpen then
      s.updStream i (fun x =>
        let chunks := x.feat.chunks.map (fun (c : Chunk) => if c.exec = some e.id then { c with exec := none } else c)
        { x with life := { x.life with exec := if x.life.exec = some e.id then none else x.life.exec },
                 feat := { x.feat with chunks := chunks } })
    else s) s

/-- The next frame tick of a domain. -/
def State.nextFrameTick (s : State) (d : Nat) : Nat := ceilDiv (s.td d).next (s.frameDiv d) * s.frameDiv d

/-- The frame tick at which frame work would first need frame `f0` (07 R188). -/
def State.chunkDeadline (s : State) (i f0 : Nat) : Nat :=
  let x := s.stream i
  let k := max 1 (s.kOf x.dir.domain x.dir.d (s.streamHop x))
  s.nextFrameTick x.dir.domain + s.frameDiv x.dir.domain * ((f0 - x.feat.fNext) / k)

/-- New executions for the chunks of a cancelled one (10 R265, R278): new work with its own deadline. -/
def State.recut (s : State) (e : Exec) : State :=
  match s.model e.pitch e.model with
  | none => s
  | some m =>
    s.each ((e.rows.filter (fun r => r.live)).map (fun r => r.stream)).eraseDups (fun s i =>
      s.each ((s.stream i).feat.chunks.filter (fun c => c.exec == some e.id)) (fun s c =>
        let rows := e.rows.filter (fun r => r.stream == i && r.live && decide (c.f0 ≤ r.pos) && decide (r.pos < c.f0 + c.n))
        let dl := s.chunkDeadline i c.f0
        let s1 := s.newExec .chunk m e.quarter e.be rows dl
        s1.updStream i (fun x => { x with feat := { x.feat with chunks := x.feat.chunks.map (fun d =>
          if d = c then { d with exec := some s.nextId, deadline := dl } else d) } })))

/-- What makes the work of an execution that is to be cancelled start again from committed state (10 R265, R278): the carried
values of its live rows return to what its first tile found, and chunks get new executions. Steps and frames are released again
by their own rules. -/
def State.cutOff (s : State) (id : Nat) : State :=
  match s.exec? id with
  | none => s
  | some e =>
    if e.cancelled then s
    else if e.sub = .chunk then s.recut e
    else s.each (e.before.filter (fun v => e.rows.any (fun r => r.stream == v.1 && r.live))) (fun s v => s.poke v.2.1 v.2.2)

/-- Cancel an execution: steps 1 to 3 of 09 R238. Running tiles finish; step 4 is the CANCEL_COMPLETE command. -/
def State.cancelExec (s : State) (id : Nat) : State :=
  match s.exec? id with
  | none => s
  | some e =>
    if e.cancelled then s
    else
      let stop := fun (t : TaskSt) => if t.phase == .running || t.phase == .done then t else { t with phase := .retired }
      let s1 := s.updExec id (fun e => { e with cancelled := true, tasks := e.tasks.map stop })
      let s2 := { s1 with units := s1.units.filter (fun u => u.exec != id || u.running), parts := s1.parts.filter (fun x => x.exec != id) }
      (s2.unflight e).cancelGen id

/-- Step 4 of 09 R238. -/
def State.completeCancel (s : State) (id : Nat) : State :=
  match s.exec? id with
  | none => s
  | some e =>
    if e.cancelled && (s.runningOf id).isEmpty && e.fetches == 0 then (s.removeExec id).inc .schedCancelCnt else s

/-- A cancelled execution whose tiles are stopped at once (10 R277 step 2). -/
def State.killExec (s : State) (id : Nat) : State :=
  let s1 := s.cancelExec id
  let s2 := s1.updExec id (fun e => { e with tasks := e.tasks.map (fun (t : TaskSt) =>
    if t.phase == .running then { t with phase := .retired } else t) })
  ({ s2 with units := s2.units.filter (fun u => u.exec != id) }).completeCancel id

/-- Executions of a context or of a Pitch, by number. -/
def State.execsWhere (s : State) (p : Exec → Bool) : List Nat := (s.execs.filter p).map (fun e => e.id)

end Sys2Proof.Machine
end

