-- ==== Sys2Proof/Machine/Owners.lean ====
section
/-! DEFINITION. Owners that stop: closing a stream (02 R56, 03 R94), stream faults and context faults (10 R277 to R280, 19
R485, R486), teardown (10 R259), Pitch reset, and parity errors (12 R319). -/

namespace Sys2Proof.Machine

/-! ### Closing -/

/-- Whether a swap engine works on the stream now. -/
def SwapOp.stream : SwapOp → Nat
  | .swapIn i .. => i
  | .copy i .. => i
  | .swapOut i => i
  | .capture i => i

def State.engine (s : State) (w : Nat) : SwapEng := Tab.getD s.swap w SwapEng.idle

def State.updEngine (s : State) (w : Nat) (f : SwapEng → SwapEng) : State := { s with swap := Tab.modify s.swap w SwapEng.idle f }

def State.swapping (s : State) (i : Nat) : Bool :=
  s.swap.any (fun e => match e.2.cur with | some o => o.stream == i | none => false)

/-- Step executions of a stream in flight, in order of release. -/
def State.flights (s : State) (i : Nat) : List Exec :=
  s.execs.filter (fun e => e.sub == .step && !e.cancelled && e.rows.any (fun r => r.stream == i && r.live))

/-- Queued operations on the stream are withdrawn; a copy's reserved slot is freed. -/
def State.dropSwaps (s : State) (i : Nat) : State :=
  let ops := s.swap.flatMap (fun e => e.2.queue.filter (fun o => o.stream == i))
  let s1 := ops.foldl (fun s o => match o with | .copy _ q pg sl _ _ => s.freeSlot q pg sl | _ => s) s
  { s1 with swap := s1.swap.map (fun e => (e.1, { e.2 with queue := e.2.queue.filter (fun o => o.stream != i),
                                                           waiting := if e.2.waiting = some i then none else e.2.waiting })) }

/-- Whether an export of the stream is past its frame tick F and its capture copy is still to be made (03 R99, R100). -/
def Stream.capturing (x : Stream) : Bool := match x.life.exportP with | some e => e.capAt.isSome | none => false

/-- A pending export is cancelled with CLOSED before its frame tick F (03 R100; 15 R530), and after it where the state to be
captured is lost (`lost`). -/
def State.cancelExport (s : State) (i : Nat) (lost : Bool := false) : State :=
  let x := s.stream i
  match x.life.exportP with
  | none => s
  | some e =>
    if e.capAt.isSome && !lost then s
    else
      (s.updStream i (fun x => { x with life := { x.life with exportP := none } })).event 0x0304 (x.handle i) x.dir.domain 0x0112
        (if e.toDevice then e.device else e.tag)

/-- A group without members holds nothing. -/
def State.groupTidy (s : State) (g : Option Nat) : State :=
  match g with
  | none => s
  | some g =>
    if (s.members g).isEmpty && (s.group g).holding then
      { s with groups := Tab.modify s.groups g Group.blank (fun x => { x with holding := false, held := 0 }) }
    else s

def nextGen (g : Nat) : Nat := if g = 32767 then 1 else g + 1

/-- The entry of a closed stream: FREE, generation one up, its last contents kept (02 R45, R61). -/
def Stream.freed (x : Stream) : Stream :=
  { x with dir := { x.dir with state := .free, gen := nextGen x.dir.gen },
           del := { x.del with queue := [], hostBuf := [], taking := false, hold := false },
           feat := { Stream.blank.feat with marks := x.feat.marks },
           life := Stream.blank.life }

/-- The close completes (02 R54, R56, 03 R94, 04 R125). `quiet` leaves out EVT_STREAM_CLOSED (12 R321). -/
def State.finishClose (s : State) (i : Nat) (quiet : Bool := false) : State :=
  let x := s.stream i
  if !x.isOpen then s
  else
    let s1 := (s.cancelExport i true).dropSwaps i
    let s2 := ((s1.releaseSlot i).leaveBatch i).deadRows i
    let s3 := (s2.dropRef x.dir.voice).updStream i Stream.freed
    let s4 := s3.groupTidy x.dir.group
    if quiet then s4 else s4.event 0x0203 (x.handle i) x.dir.domain

/-- The slot that a copy under way has reserved on its target Quarter is freed. -/
def State.dropTarget (s : State) (i : Nat) : State :=
  (s.swap.filterMap (fun e => e.2.cur)).foldl (fun s o => match o with
    | .copy j q pg sl _ _ => if j = i then s.freeSlot q pg sl else s
    | _ => s) s

/-- A close as by ABORT that ends at once: what its work in flight leaves is dropped with it. -/
def State.closeNow (s : State) (i : Nat) (quiet : Bool := false) : State :=
  let stop := fun (e : SwapEng) => match e.cur with
    | some o => if o.stream = i then { e with cur := none } else e
    | none => e
  let s0 := s.dropTarget i
  let s1 : State := { s0 with swap := s0.swap.map (fun (e : Nat × SwapEng) => (e.1, stop e.2)) }
  s1.finishClose i quiet

/-! ### Stream faults (19 R485, R486) -/

def State.faultRecord (s : State) (subject dom code cls idx : Nat) : State :=
  s.record 7 subject dom (leBytes 2 code ++ leBytes 1 cls ++ leBytes 5 0 ++ leBytes 8 idx)

/-- A member of a LOCKSTEP group leaves by fault (02 R74). -/
def State.memberLost (s : State) (i code : Nat) : State :=
  let x := s.stream i
  match x.dir.group with
  | none => s
  | some g =>
    if (s.group g).lockstep then
      let s1 := s.updStream i (fun y => { y with dir := { y.dir with group := none } })
      (s1.groupTidy (some g)).event 0x0209 g x.dir.domain (x.handle i) code
    else s

/-- The stream becomes FAULTED; `quiet` for the streams of a faulted context (10 R277). A capture whose frame tick has passed is
still made (03 R100). -/
def State.faultStream (s : State) (i code : Nat) (quiet : Bool := false) : State :=
  let x := s.stream i
  if !x.isOpen then s
  else
    let s1 := s.updStream i (fun y => { y with cnt := { y.cnt with fault := code } })
    if x.dir.state = .faulted then (if quiet then s1 else s1.faultRecord (x.handle i) x.dir.domain code 0 x.dir.sampleIdx)
    else
      let s2 := s1.updStream i (fun y =>
        { y with dir := { y.dir with state := .faulted }, life := { y.life with exec := none, dep := y.life.dep && x.capturing } })
      let s3 := (((if x.capturing then s2.deadRows i else (s2.deadRows i).dropSwaps i)).memberLost i code).cancelExport i
      if quiet then s3
      else (s3.event 0x0204 (x.handle i) x.dir.domain code x.dir.sampleIdx).faultRecord (x.handle i) x.dir.domain code 0 x.dir.sampleIdx

/-- The streams of an execution's rows fault and it is cancelled (12 R314, R319). -/
def State.faultExec (s : State) (id code : Nat) : State :=
  match s.exec? id with
  | none => s
  | some e => ((e.rows.filter (fun r => r.live)).map (fun r => r.stream)).eraseDups.foldl (fun s i => s.faultStream i code) (s.cancelExec id)

/-! ### Contexts and Pitches that stop -/

def State.ctxStreams (s : State) (c : Nat) : List Nat := s.streamsWhere (fun x => s.streamCtx x == some c)

/-- A model leaves: its pages are free on every Quarter (09 R246). -/
def State.removeModel (s : State) (p id : Nat) : State :=
  ({ s with models := s.models.filter (fun m => !(m.pitch == p && m.id == id)) }).event 0x0503 p (s.pitchDom p)

/-- A load that waits is refused (09 R239). -/
def State.refuseLoad (s : State) (p st : Nat) : State :=
  ((s.inc .schedLoadRefCnt).flag .schedGraphEvt 0 4).event 0x0502 p (s.pitchDom p) st

def State.dropLoads (s : State) (c : Nat) : State :=
  let hit := s.loads.filter (fun l => l.ctx == c)
  hit.foldl (fun s l => (s.refuseLoad l.pitch 0x407).concludeLater l.msg 0x407 [])
    { s with loads := s.loads.filter (fun l => l.ctx != c) }

def State.pitchModels (s : State) (p : Nat) : List Model := s.models.filter (fun m => m.pitch == p)

/-- The oldest queued load of a Pitch starts its copy when none runs, once its context holds its shares (09 R244). -/
def State.nextCopy (s : State) (p : Nat) : State :=
  if (s.pitchModels p).any (fun m => m.stage == .copying) then s
  else
    let here := fun (c : Ctx) => c.state == .resident || c.state == .arriving
    match (s.pitchModels p).filter (fun m => m.stage == .queued && m.first && here (s.ctx m.ctx)) with
    | [] => s
    | m :: _ => s.updModel p m.id (fun m => { m with stage := .copying })

/-- Teardown (10 R259): streams, executions, models, shares; only its account stays. -/
def State.teardown (s : State) (c : Nat) : State :=
  let p := (s.ctx c).pitch
  let s1 := (s.ctxStreams c).foldl (fun s i => s.closeNow i) s
  let s2 := (s1.execsWhere (fun e => e.ctx == c)).foldl (fun s id => s.cancelExec id) s1
  let ms := (s2.models.filter (fun m => m.ctx == c)).map (fun m => m.id)
  let s3 := (ms.foldl (fun s m => s.removeModel p m) s2).dropLoads c
  (s3.updCtx c (fun x => { Ctx.blank with acct := x.acct })).nextCopy p

def kioskOf (q k : Nat) : Nat := q * 16 + k

/-- A Kiosk after a reset as a unit: registers and caches cleared, dirty lines discarded; the debug unit's settings
stay. -/
def Kiosk.cleared (k : Kiosk) : Kiosk := { Kiosk.reset with halt := k.halt, haltExc := k.haltExc }

/-- Whether a Kiosk is halted by the debug unit: its current instruction has completed, or its exception is held
(18 R474, R475). -/
def Kiosk.halted (k : Kiosk) : Bool := k.held.isSome || (k.halt && (k.run == .idle || k.run == .run))

/-- Steps 1 to 3 of a Pitch reset (10 R277, R281); HALT and HALT_ON_EXC of its Kiosks clear (18 R475). The work of contexts
other than those in `bad` starts again from committed state (10 R278). `arg` is the event's context. -/
def State.resetPitch (s : State) (p code arg : Nat) (bad : List Nat) : State :=
  let s1 := (s.cnt .schedPitchRstCnt p 15 0 1).event 0x0506 p (s.pitchDom p) code arg
  let es := s1.execs.filter (fun e => e.pitch == p)
  let s2 := s1.each es (fun s e => (if bad.contains e.ctx then s else s.cutOff e.id).killExec e.id)
  let qs := s2.quarters p
  let ks : Tab Kiosk := s2.kiosks.map (fun e => if qs.contains (e.1 / 16) then (e.1, Kiosk.reset) else e)
  let s3 : State := { s2 with units := s2.units.filter (fun u => !qs.contains u.quarter), kiosks := ks }
  let pool := (s3.tstl.filter (fun t => s3.inPool p t.1)).map (fun t => t.1)
  let s4 := s3.each pool (fun s n => s.resetTst n)
  s4.updPitch p (fun x => { x with stopCycle := some s.cycle })

/-- Units that hold values of an execution of context `c`: they run one of its tiles. -/
def State.ctxUnits (s : State) (c : Nat) : List UnitRun :=
  s.units.filter (fun u => u.running && ((s.exec? u.exec).map (fun e => e.ctx)) == some c)

/-- Executions of other contexts with values in a reset unit (10 R279): an accumulator set of the Square, or a block
staged in the gate pipeline. -/
def State.collateral (s : State) (c : Nat) (us : List UnitRun) : List Nat :=
  let inUnit := fun (u : UnitRun) (e : Exec) =>
    s.units.any (fun v => v.exec == e.id && v.quarter == u.quarter && v.kind == u.kind && v.unit == u.unit)
      || (u.kind == .gate && e.quarter == u.quarter && s.parts.any (fun x => x.exec == e.id && x.pipe == u.unit))
  s.execsWhere (fun e => e.ctx != c && !e.cancelled && us.any (fun u => inUnit u e))

def State.ctxFaultEvent (s : State) (c code p torn : Nat) : State :=
  ((s.flag .schedPitchEvt p 4).event 0x050A c (s.pitchDom p) code (p + 256 * torn)).faultRecord c (s.pitchDom p) code 1 0

/-- A context fault (10 R277, R279, 19 R486). -/
def State.contextFault (s : State) (c code : Nat) : State :=
  let x := s.ctx c
  let p := x.pitch
  if x.state = .faulted || x.state = .free then s
  else if (s.pitch p).teardown then
    let us := s.ctxUnits c
    let col := s.collateral c us
    let s1 := s.each (s.execsWhere (fun e => e.ctx == c)) State.cancelExec
    let same := fun (v u : UnitRun) => v.quarter == u.quarter && v.kind == u.kind && v.unit == u.unit
    let isK := fun (k : Nat) (u : UnitRun) => u.kind == UnitKind.kiosk && kioskOf u.quarter u.unit == k
    let ks : Tab Kiosk := s1.kiosks.map (fun e => if us.any (isK e.1) then (e.1, e.2.cleared) else e)
    let s2 : State := { s1 with units := s1.units.filter (fun v => !us.any (same v)), kiosks := ks }
    let s3 := s2.each col (fun s id => ((s.cutOff id).cancelExec id).cnt .schedPitchRstCnt p 31 16 1)
    let gone := (s3.execsWhere (fun e => e.ctx == c))
    let s4 := s3.each gone (fun s id => s.killExec id)
    (s4.teardown c).ctxFaultEvent c code p 1
  else
    let s1 := s.resetPitch p code c [c]
    if x.state = .resident then
      let s2 := s1.updCtx c (fun y => { y with state := .faulted, fault := code })
      ((s2.ctxStreams c).foldl (fun s i => s.faultStream i code true) s2).ctxFaultEvent c code p 0
    else s1

/-- A fault charged to the context of an execution. -/
def State.execFault (s : State) (id code : Nat) : State :=
  match s.exec? id with
  | some e => s.contextFault e.ctx code
  | none => s

/-! ### Parity (12 R319) -/

inductive ParRes where
  | fixed | wait | fault
  deriving DecidableEq, Repr

/-- The stream that owns the slot at an offset of a Quarter's state region. -/
def State.slotOwner (s : State) (q off : Nat) : Option Nat :=
  (s.streamsWhere (fun x => (x.dir.loc == .resident || x.dir.loc == .moving) && x.dir.quarter == q
    && decide (x.dir.slot * 4096 ≤ off) && decide (off < x.dir.slot * 4096 + slotBytes x.dir.cls))).head?

/-- A resident or staging page of a model. -/
def State.tilePage (s : State) (p q off : Nat) : Bool :=
  let wb := s.weightBase q - qBase q
  let inPages := fun (l : List Nat) (base : Nat) => decide (base ≤ off) && l.contains ((off - base) / 65536)
  s.models.any (fun m => m.pitch == p && (inPages m.pages wb || inPages m.staging (s.shareBase m.ctx q - qBase q)))

/-- Whether an offset of the working region lies in the share of a context. -/
def State.shareOwner (s : State) (p q off : Nat) : Bool :=
  !(s.ctxOf p (fun c => c.holds)).all (fun c =>
    let b := s.shareBase c q - qBase q
    !(decide (b ≤ off) && decide (off < b + (s.ctx c).kPages * 65536)))

/-- A bad word in a buffer of one stream, its output queue or its conditioning frames, is read (12 R319). -/
def State.bufParity (s : State) (i : Nat) : State :=
  (((s.flag .memcEvt 0 2).inc .memcParFaultCnt).updStream i (fun x =>
    { x with del := { x.del with bad := false }, feat := { x.feat with bad := false } })).faultStream i 3

/-- The error at a bad word read for an execution, or for none. -/
def State.parity (s : State) (w : Nat) (reader : Option Nat) : State × ParRes :=
  let q := w / 0x1000000 % 16
  let off := w % 0x1000000
  let s0 := s.flag .memcEvt 0 2
  let p := (s.quarterPitch q).getD 0
  let zeroed := fun (s : State) => s.wipe w 8
  if s.memx.refetch.any (fun r => r.addr == w && r.exec == reader) then (s, .wait)
  else if s.tilePage p q off then
    let s1 := s0.inc .memcParRefetchCnt
    ({ s1 with memx := { s1.memx with refetch := s1.memx.refetch ++ [⟨q, w, reader, (reader.bind s.exec?).bind s.execNs⟩] } }, .wait)
  else if s.inWeight q off then (zeroed (s0.inc .memcParRefetchCnt), .fixed)
  else if decide (off < s.statePages q * 65536) then
    match s.slotOwner q off with
    | some i => ((s0.inc .memcParFaultCnt).faultStream i 2, .fault)
    | none => (zeroed (s0.inc .memcParFaultCnt), .fixed)
  else if s.shareOwner p q off then
    match reader with
    | some id => ((s0.inc .memcParFaultCnt).faultExec id 3, .fault)
    | none => (zeroed (s0.inc .memcParFaultCnt), .fixed)
  else (zeroed (s0.inc .memcParFaultCnt), .fixed)

/-! ### Directory parity (12 R321) -/

def State.dirErr (s : State) : State := (s.inc .memcDirParCnt).flag .memcEvt 0 3

/-- An error in word 0: the entry is retired, and a stream it held is closed without EVT_STREAM_CLOSED. -/
def State.retireEntry (s : State) (i : Nat) : State :=
  let x := s.stream i
  let s1 := if x.isOpen then (s.closeNow i true).event 0x0204 (x.handle i) x.dir.domain 4 x.dir.sampleIdx else s
  let s2 := s1.updStream i (fun x => { x with cnt := { x.cnt with retired := true } })
  s2.setRg .memcDirRetired 0 s2.retired

/-- The stream logic reads word `w` of record `i` and finds bad parity. -/
def State.dirParity (s : State) (i w : Nat) : State :=
  let a := dirBase + 64 * i + 8 * w
  let s1 : State := { s.dirErr with memx := { s.memx with badWords := s.memx.badWords.filter (fun x => x != a) } }
  let faulted := (s.stream i).dir.state == .faulted
  if w = 0 then s1.retireEntry i
  else if w = 6 then s1.updStream i (fun x => { x with cnt := { x.cnt with ovr := 0, slip := 0 } })
  else if w = 7 then s1.updStream i (fun x => { x with cnt := { x.cnt with under := 0, qfull := 0, fault := if faulted then 4 else 0 } })
  else
    let zero := fun (x : Stream) => match w with
      | 1 => { x with dir := { x.dir with sampleIdx := 0 } }
      | 2 => { x with dir := { x.dir with seed := 0 } }
      | 3 => { x with dir := { x.dir with loc := .initial, cls := 0, slot := 0, quarter := 0, group := x.dir.group.map (fun _ => 0),
                                          qdepth := 0 } }
      | 4 => { x with dir := { x.dir with dest := 0, epoch := 0 }, del := { x.del with queue := [] } }
      | _ => { x with feat := { x.feat with marks := [] } }
    let s2 := s1.faultStream i 4
    (if w = 3 then s2.releaseSlot i else s2).updStream i zero

/-- The stream logic's next read of a record acts on every error found there. -/
def State.dirCheck (s : State) (i : Nat) : State :=
  s.each ((List.range 8).filter (fun w => s.memx.badWords.contains (dirBase + 64 * i + 8 * w))) (fun s w => s.dirParity i w)

/-- The entries that an open reads on its way to the lowest free one (12 R321). -/
def State.openReads (s : State) : State :=
  let bad := (s.memx.badWords.filter (fun w => decide (dirBase ≤ w) && w % 64 == 0)).map (fun w => (w - dirBase) / 64)
  s.each (sortBy (fun i => [i]) bad) (fun s i => if i ≤ s.freeIndex.getD 131072 then s.dirParity i 0 else s)

/-- A record written whole has valid parity (12 R318). -/
def State.dirWritten (s : State) (i : Nat) : State :=
  { s with memx := { s.memx with badWords := s.memx.badWords.filter (fun w => decide (w < dirBase + 64 * i) || decide (dirBase + 64 * i + 64 ≤ w)) } }

end Sys2Proof.Machine
end

