-- ==== Sys2Proof/Machine/Movers.lean ====
section
/-! DEFINITION. Mover commands (13): enable, start, pause, descriptor fetch, data, completion, halts. -/

namespace Sys2Proof.Machine

def State.haltChan (s : State) (n : Nat) (h : Halt) : State :=
  ((s.updChan n (fun c => { c with state := .halted, cause := h.cause, kind := h.kind, dir := h.wr, err := h.addr })).inc
    .movrHaltCnt).event 0x0702 n (s.chanDom n)

/-! ### Enable, start, pause -/

/-- Credits that the enabled channels of a Ward hold (13 R340). -/
def State.wardCredits (s : State) (w : Nat) : Nat :=
  ((s.chans.filter (fun c => c.1 / 64 == w && c.2.state != .off)).map (fun c => s.fld .movrChCtl c.1 13 8)).sum

/-- Credits that the enabled channels of its Ward would hold with channel `n` among them (13 R340). -/
def State.creditsWith (s : State) (n : Nat) : Nat :=
  s.wardCredits (n / 64) + (if (s.chan n).state == .off then s.fld .movrChCtl n 13 8 else 0)

/-- Whether another enabled channel serves the channel's peripheral (13 R338). -/
def State.periphTaken (s : State) (n : Nat) : Bool :=
  s.chans.any (fun e => e.1 != n && e.2.state != .off && s.chanPeriph e.1 == s.chanPeriph n)

def State.trigOk (s : State) (n : Nat) : Bool :=
  match s.fld .movrChTrig n 2 0 with
  | 0 => true
  | 1 => decide (s.fld .movrChTrig n 23 16 < s.fld .movrChTrig n 15 8)
  | 2 => true
  | 3 => decide (0 < s.fld .movrChTimer n 23 0)
  | 4 => s.chanOwner (s.fld .movrChTrig n 15 8) == s.chanOwner n
  | 5 => (match s.chanOwner n with | some p => s.inPool p (s.fld .movrChTstl n 29 16) | none => true)
  | _ => false

/-- Whether the channel's settings allow EN = 1 (13 R338, R340). -/
def State.enOk (s : State) (n : Nat) : Bool :=
  let cr := s.fld .movrChCtl n 13 8
  decide (1 ≤ cr) && decide (s.chanBurst n ≤ 64 * cr) && decide (s.creditsWith n ≤ 2048) && s.trigOk n
    && decide (s.chanPeriph n ≤ 20) && s.fld .movrChCtl n 5 4 != 3
    && (s.chanPeriph n == 0 || !s.periphTaken n)

/-- EN written 1 (13 R332, R340). -/
def State.movrEn (s : State) (n : Nat) : State :=
  if (s.chan n).state ≠ .off then s
  else if s.enOk n then
    ((s.setFld .movrChCtl n 0 0 1).updChan n (fun c =>
      { Chan.reset with state := .idle, cur := s.chanHead n, enTime := s.uptime, cause := c.cause, kind := c.kind, dir := c.dir,
                        err := c.err })).raiseFor n
  else s.flag .movrChEvt n 3

/-- ABORT (13 R348). -/
def State.movrAbort (s : State) (n : Nat) : State :=
  let c := s.chan n
  if c.state == .off || c.state == .idle then s else s.endChan n 2

/-- EN written 0 (13 R332). -/
def State.movrDis (s : State) (n : Nat) : State :=
  if (s.chan n).state = .off then s
  else (((s.movrAbort n).withdraw n).setFld .movrChCtl n 0 0 0).updChan n (fun c => { c with state := .off })

/-- The generation a START gives (13 R334). -/
def State.startGen (s : State) : Requester → Option Nat
  | .kiosk k => (Tab.getD s.kiosks k.val Kiosk.reset).exec
  | _ => none

/-- Whether a requester may start the channel (13 R327). -/
def State.startOk (s : State) (n : Nat) : Requester → Bool
  | .kiosk k => (match s.chanOwner n with | some p => s.quarterPitch (k.val / 16) == some p | none => false)
  | _ => true

/-- START (13 R332). -/
def State.movrStart (s : State) (n : Nat) (rq : Requester) : State :=
  let c := s.chan n
  if (c.state == .idle || c.state == .empty) && s.startOk n rq then s.updChan n (fun c => c.start (s.startGen rq)) else s

/-- RESUME (13 R347); a descriptor that halted the channel is fetched again. -/
def State.movrResume (s : State) (n : Nat) : State :=
  let c := s.chan n
  if c.state = .halted then
    s.updChan n (fun c => { c with state := if s.chanPause n then .paused else .run, back := .run,
                                   desc := if c.kind = 1 then none else c.desc })
  else s

/-- The channel has drained under PAUSE = 1: no burst is under way and all that was read is written (13 R345). -/
def State.movrPaused (s : State) (n : Nat) : State :=
  let c := s.chan n
  if s.chanPause n && (c.state == .run || c.state == .waitTrig || c.state == .waitPreq) && !c.burst && c.held.isEmpty then
    s.updChan n (fun c => { c with state := .paused, back := c.state })
  else s

/-- PAUSE written 0 (13 R345): the state before the pause, with what came meanwhile. -/
def State.movrUnpause (s : State) (n : Nat) : State :=
  let s1 := s.setFld .movrChCtl n 1 1 0
  let c := s.chan n
  match if c.state = .paused then c.back else c.state, c.trigs with
  | .waitTrig, t :: ts => (s1.updChan n (fun c => { c with trigs := ts, gen := t.1, trigTime := some t.2 })).goChan n
  | b, _ =>
    if c.state = .paused then
      (if b = .waitTrig then s1.updChan n (fun c => { c with state := b })
       else (s1.updChan n (fun c => { c with state := .run })).goChan n)
    else s1

def State.movrPause (s : State) (n : Nat) : State := s.setFld .movrChCtl n 1 1 1

/-- The TIMER trigger: uptime has reached EN time + k × PERIOD µs (13 R333). -/
def State.movrTimer (s : State) (n : Nat) : State :=
  let c := s.chan n
  if c.state != .off && s.fld .movrChTrig n 2 0 == 3
      && decide (c.enTime + (c.timerK + 1) * s.fld .movrChTimer n 23 0 * 1000 ≤ s.uptime) then
    (s.updChan n (fun c => { c with timerK := c.timerK + 1 })).trigger n none
  else s

/-! ### The descriptor fetch (13 R328 to R331) -/

def accHalt (a : Acc) : Nat := if a = .bus then 1 else 2

/-- Why a read of `len` bytes at `a` halts the channel, if it does: it cannot reach them, or they fail their block's check or
their parity (13 R346). A record of the directory is returned as it is stored (12 R321). -/
def State.readHalt (s : State) (n a len kind : Nat) : Option Halt :=
  match s.moverAcc n a false with
  | .bus => some ⟨1, kind, false, a⟩
  | .access => some ⟨2, kind, false, a⟩
  | _ =>
    match zoneOf a with
    | .dir _ => none
    | _ =>
      match (s.badIn a len).head? with
      | some b => some ⟨3, kind, false, b * 64⟩
      | none => (s.badWordsIn a len).head?.map (fun w => ⟨4, kind, false, w⟩)

/-- An access that fails. A block that fails its check is recorded (12 R313); a parity error goes to its word's owner first, and
one that is repaired halts nothing (12 R319, 13 R346). -/
def State.badAccess (s : State) (n : Nat) (h : Halt) : State :=
  if h.cause = 4 then
    let r := s.parity h.addr (s.chan n).gen
    match r.2 with
    | .fault => if (r.1.chan n).state = .run then r.1.haltChan n h else r.1
    | _ => r.1
  else if h.cause = 3 then (s.readFailed h.addr 3).haltChan n h
  else s.haltChan n h

def Desc.unit (d : Desc) : Nat := match d.swap with | 0 => 1 | 1 => 2 | _ => 4

/-- Whether an owned descriptor obeys 13 R331. -/
def Desc.ok (d : Desc) (periph : Nat) : Bool :=
  let per := if periphIsDst periph then d.dst else d.src
  d.next &&& 0xFFFF00000000001E == 0 && decide (d.src < 2 ^ 48) && decide (d.dst < 2 ^ 48) && decide (d.ctrl < 2 ^ 28)
    && d.len != 0 && d.len % d.unit == 0 && d.list != 3
    && (!d.preq || (periph != 0 && per == 0 && d.list != (if periphIsDst periph then 2 else 1)))

def State.readDesc (s : State) (a : Nat) : Desc :=
  let b := s.bytesAt a 32
  { next := numAt b 0 8, src := numAt b 8 8, dst := numAt b 16 8, ctrl := numAt b 24 4, status := numAt b 28 4 }

/-- The snapshot is taken; a WAIT_TRIG descriptor consumes a trigger or waits (13 R332). -/
def State.takeDesc (s : State) (n : Nat) (d : Desc) : State :=
  let s1 := s.updChan n (fun c =>
    { c with desc := some d, pos := 0, list := if d.list = 1 then d.src else d.dst, lpos := 0, wprot := false, burst := false, held := [] })
  if d.waitTrig then
    match (s.chan n).trigs with
    | [] => s1.updChan n (fun c => { c with state := .waitTrig })
    | t :: ts => (s1.updChan n (fun c => { c with trigs := ts, gen := t.1, trigTime := some t.2 })).goChan n
  else s1.goChan n

/-- The fetch of CUR. -/
def State.descFetch (s : State) (n : Nat) : State :=
  let c := s.chan n
  if c.state == .run && c.desc.isNone && !s.chanPause n then
    match s.readHalt n c.cur 32 1 with
    | some h => s.badAccess n h
    | none =>
      let d := s.readDesc c.cur
      let s1 := s.chanBytes n c.cur
      if !d.status.testBit 31 then (s1.updChan n (fun c => { c with state := .empty })).autoStart n
      else if d.ok (s.chanPeriph n) then s1.takeDesc n d
      else (s1.updChan n (fun c => { c with desc := some d, pos := 0 })).haltChan n ⟨5, 1, false, c.cur⟩
  else s

/-! ### Data (13 R335 to R337) -/

/-- One list entry: element address, bytes, LAST (13 R337). -/
def State.listEntry (s : State) (n a : Nat) : Except Halt (Nat × Nat × Bool) :=
  if a % 16 ≠ 0 then .error ⟨6, 2, false, a⟩
  else
    match s.readHalt n a 16 2 with
    | some h => .error h
    | none =>
      let b := s.bytesAt a 16
      if numAt b 0 8 < 2 ^ 48 ∧ numAt b 8 4 ≠ 0 ∧ numAt b 12 4 < 2 then .ok (numAt b 0 8, numAt b 8 4, numAt b 12 4 == 1)
      else .error ⟨6, 2, false, a⟩

/-- The next byte of the listed side, at entry and byte `c`: its address, the element's bytes from it on, and LAST. -/
def State.listAt (s : State) (n : Nat) (c : Nat × Nat) : Except Halt (Nat × Nat × Bool) :=
  match s.listEntry n c.1 with
  | .error h => .error h
  | .ok e => if c.2 < e.2.1 then .ok (e.1 + c.2, e.2.1 - c.2, e.2.2) else .error ⟨6, 2, false, c.1⟩

/-- The list position `k` bytes on in an element with `left` bytes: at its end, the next entry's first byte (13 R345). -/
def listOn (c : Nat × Nat) (k left : Nat) (last : Bool) : Nat × Nat := if k < left ∨ last then (c.1, c.2 + k) else (c.1 + 16, 0)

/-- What one command has read: the bytes, the blocks of LPDDR5X they took, and the list position after them. -/
structure Fetched where
  bytes : List Byte
  blocks : List Nat
  at_ : Nat × Nat
  deriving DecidableEq, Repr

/-- A block that a read touches, once for bytes that follow one another. -/
def Fetched.touch (f : Fetched) (a : Nat) : Fetched :=
  if a < lpddrTop ∧ f.blocks.getLast? ≠ some (a / 64) then { f with blocks := f.blocks ++ [a / 64] } else f

/-- The byte at an address; the read covers the whole block that holds it (13 R335). -/
def State.readAt (s : State) (n : Nat) (f : Fetched) (a : Nat) : Except Halt Fetched :=
  match s.readHalt n (a / 64 * 64) 64 0 with
  | some h => .error h
  | none => .ok { f.touch a with bytes := f.bytes ++ [s.byteOf a] }

/-- The source byte at stream offset `off`, where the command's first is at `from_`. -/
def State.srcByte (s : State) (n : Nat) (d : Desc) (from_ off : Nat) (f : Fetched) : Except Halt Fetched :=
  if d.preq && !periphIsDst (s.chanPeriph n) then
    let w := (s.port (s.chanPeriph n - 9)).rx.getD (off / 4 - from_ / 4) 0
    .ok { f with bytes := f.bytes ++ [BitVec.ofNat 8 (w / 256 ^ (off % 4))] }
  else if d.list = 1 then
    match s.listAt n f.at_ with
    | .error h => .error h
    | .ok e =>
      let g := if f.at_.2 = 0 then f.touch f.at_.1 else f
      s.readAt n { g with at_ := listOn f.at_ 1 e.2.1 e.2.2 } e.1
  else s.readAt n f (d.src + off)

/-- `k` bytes from `off` on. -/
def State.srcBytes (s : State) (n : Nat) (d : Desc) (from_ : Nat) : Nat → Nat → Fetched → Except Halt Fetched
  | 0, _, f => .ok f
  | k + 1, off, f =>
    match s.srcByte n d from_ off f with
    | .error h => .error h
    | .ok g => State.srcBytes s n d from_ k (off + 1) g

/-- A swap unit after its swap (13 R336). -/
def swapUnit (m : Nat) (l : List Byte) : List Byte :=
  match m with
  | 1 => l.reverse
  | 2 => l.reverse
  | 3 => l.drop 2 ++ l.take 2
  | _ => l

/-- `k` swap units from `off` on, swapped; at a failing read, those before it. -/
def State.srcUnits (s : State) (n : Nat) (d : Desc) (from_ : Nat) : Nat → Nat → Fetched → Fetched × Option Halt
  | 0, _, f => (f, none)
  | k + 1, off, f =>
    match s.srcBytes n d from_ d.unit off { f with bytes := [] } with
    | .error h => (f, some h)
    | .ok g => State.srcUnits s n d from_ k (off + d.unit) { g with bytes := f.bytes ++ swapUnit d.swap g.bytes }

/-- The deadline of a channel's reads (13 R341). -/
def State.chanDeadline (s : State) (n : Nat) (d : Desc) : Option Nat :=
  match s.fld .movrChCtl n 5 4 with
  | 1 => (s.chan n).trigTime.map (fun t => t + s.rg .movrChDl n)
  | 2 => if d.preq then (s.chan n).dry else none
  | _ => none

/-- The reads are issued: their blocks pass the Ward's Roundabout, and a read issued after its deadline counts, a burst once
(12 R324). -/
def State.readsIssued (s : State) (n : Nat) (d : Desc) (blocks : List Nat) : State :=
  if blocks.isEmpty then s
  else
    let s1 := s.rbBytes (n / 64) (64 * blocks.length)
    if d.preq && (s.chan n).late then s1
    else
      let s2 := s1.rbLate (n / 64) (s.chanDeadline n d)
      let late := (s.chanDeadline n d).any (fun t => decide (t < s.uptime))
      s2.updChan n (fun c => { c with late := late })

/-- What was read is in the mover buffer, and gone from a receive FIFO. -/
def State.readInto (s : State) (n : Nat) (d : Desc) (f : Fetched) : State :=
  let c := s.chan n
  let r := c.pos + c.held.length
  let e := r + f.bytes.length
  let s1 := (s.readsIssued n d f.blocks).updChan n (fun c =>
    let h := { c with held := c.held ++ f.bytes }
    if d.list = 1 then { h with list := f.at_.1, lpos := f.at_.2 } else h)
  if d.preq && !periphIsDst (s.chanPeriph n) then
    s1.updPort (s.chanPeriph n - 9) (fun x => { x with rx := x.rx.drop ((if e = d.len then (e + 3) / 4 else e / 4) - r / 4) })
  else s1

/-- Where the next bytes go: an address, or none at a peripheral; and the bytes up to the end of that block or element. -/
def State.dstSpan (s : State) (n : Nat) (d : Desc) : Except Halt (Option Nat × Nat × Bool × Nat) :=
  let c := s.chan n
  if d.preq && periphIsDst (s.chanPeriph n) then .ok (none, 0, false, 64 - c.pos % 64)
  else if d.list = 2 then
    match s.listAt n (c.list, c.lpos) with
    | .error h => .error h
    | .ok e => .ok (some e.1, e.2.1, e.2.2, min e.2.1 (64 - e.1 % 64))
  else .ok (some (d.dst + c.pos), 0, false, 64 - (d.dst + c.pos) % 64)

/-- Bytes from stream offset `off` on, as words of a transmit FIFO. -/
def txPut (l : List Nat) : Nat → List Byte → List Nat
  | _, [] => l
  | off, b :: bs =>
    txPut (if off % 4 = 0 then l ++ [b.toNat] else l.dropLast ++ [l.getLastD 0 + b.toNat * 256 ^ (off % 4)]) (off + 1) bs

/-- Bytes into the channel's peripheral. -/
def State.periphPut (s : State) (n : Nat) (bs : List Byte) : State :=
  let p := s.chanPeriph n
  if p ≤ 8 then s.updPort (p - 1) (fun x => { x with tx := txPut x.tx (s.chan n).pos bs }) else s.emit (.periph p bs)

/-- One write: bytes that lie within one block. -/
def State.dstPut (s : State) (n : Nat) (dst : Option Nat) (bs : List Byte) : Except Halt State :=
  match dst with
  | none => .ok (s.periphPut n bs)
  | some a =>
    match s.writeHalt n a bs.length 0 with
    | some h => .error h
    | none => .ok ((if s.moverAcc n a true = .drop then s.chanDrop n a else s.poke a bs).chanBytes n a)

/-- The first `k` held bytes are written, and the channel's position moves on. -/
def State.writeHeld (s : State) (n : Nat) (d : Desc) (span : Option Nat × Nat × Bool × Nat) (k : Nat) : Except Halt State :=
  let c := s.chan n
  match if k = 0 then .ok s else s.dstPut n span.1 (c.held.take k) with
  | .error h => .error h
  | .ok t => .ok ((t.cond (k != 0 && d.list == 2 && c.lpos == 0) (fun t => t.chanBytes n c.list)).updChan n (fun x =>
      let x1 := { x with pos := c.pos + k, held := c.held.drop k }
      if d.list = 2 ∧ k ≠ 0 then
        let l := listOn (c.list, c.lpos) k span.2.1 span.2.2.1
        { x1 with list := l.1, lpos := l.2 }
      else x1))

/-- A burst has ended: its reservation is released, and the next one needs a request (13 R339). -/
def State.burstEnd (s : State) (n : Nat) (d : Desc) : State :=
  let c := s.chan n
  if d.preq && (c.pos % s.chanBurst n == 0 || c.pos == d.len) then
    let s1 := (s.withdraw n).updChan n (fun c => { c with burst := false })
    if c.pos = d.len then s1
    else (s1.updChan n (fun c => { c with state := .waitPreq })).raiseFor n
  else s

/-- The bytes of one piece: to the end of the block or element at the destination, of the burst and of the descriptor. -/
def State.pieceLen (s : State) (n : Nat) (d : Desc) (span : Nat) : Nat :=
  let c := s.chan n
  let k := min span (d.len - c.pos)
  if d.preq then min k (s.chanBurst n - c.pos % s.chanBurst n) else k

/-- The next piece of a descriptor's data (log 27): the units it needs are read, then it is written as one write. -/
def State.movePiece (s : State) (n : Nat) (d : Desc) : State :=
  match s.dstSpan n d with
  | .error h => s.badAccess n h
  | .ok span =>
    let c := s.chan n
    let k := s.pieceLen n d span.2.2.2
    let r := c.pos + c.held.length
    let units := (k - c.held.length + d.unit - 1) / d.unit
    let f := s.srcUnits n d r (if s.chanPause n && !d.preq then 0 else units) r ⟨[], [], (c.list, c.lpos)⟩
    let s1 := s.readInto n d f.1
    match s1.writeHeld n d span (min k (s1.chan n).held.length) with
    | .error h => s1.badAccess n h
    | .ok t =>
      match f.2 with
      | some h => t.badAccess n h
      | none => t.burstEnd n d

/-- MOVR_READ_DATA: a channel whose burst is requested or has started moves its next piece. One that waits for an RTP
packetiser or host return asks it again. -/
def State.readData (s : State) (n : Nat) : State :=
  let c := s.chan n
  match c.desc with
  | none => s
  | some d =>
    if c.state == .waitPreq && decide (17 ≤ s.chanPeriph n) && !s.chanPause n then s.raiseFree n
    else if c.state == .run && decide (c.pos < d.len) && (!s.chanPause n || c.burst || !c.held.isEmpty)
        && (!d.preq || c.request || c.burst) then
      (s.cond (d.preq && !c.burst) (fun s => s.updChan n (fun c => { c with request := false, burst := true, late := false })))
        |>.movePiece n d
    else s

/-! ### Completion (13 R342) -/

/-- PASS(1) by a channel: the state after and whether the Turnstile was out of range (09 R235). -/
def State.chanPass (s : State) (n : Nat) : State × Bool :=
  let t := s.fld .movrChTstl n 13 0
  match s.chanOwner n with
  | some p => if s.inPool p t then (s.passTst t 1, false) else (s.tstRange, true)
  | none => (s.hostTst t (fun s => s.passTst t 1), false)

def State.descDone (s : State) (n : Nat) : State :=
  let c := s.chan n
  match c.desc with
  | none => s
  | some d =>
    if c.state == .run && c.pos == d.len then
      if s.statusFails n (c.cur + 0x1C) then s.each (s.statusHalt n (c.cur + 0x1C)).toList (fun s h => s.badAccess n h)
      else
        let s1 := s.statusWrite n d 0 d.len
        let ps := if d.pass then s1.chanPass n else (s1, false)
        let s2 := ps.1.chainTriggers n c.gen
        let s3 := if d.evt then s2.event 0x0701 n (s.chanDom n) else s2
        let s4 := s3.inc .movrChDoneCnt n
        let s5 := if d.next.testBit 0 then
            (s4.updChan n (fun x => { x with state := .idle, cur := s.chanHead n, desc := none, pos := 0, gen := none,
                                              trigTime := none })).autoStart n
          else s4.updChan n (fun x => { x with cur := d.next, desc := none, pos := 0, trigTime := none })
        match ps.2, c.gen with
        | true, some e => s5.execFault e 0x11
        | _, _ => s5
    else s

/-- MOVR_EN_SET (13 R332, R340). -/
def execMovrEnSet (n : ChanNo) (s : State) : Host.Outcome State Fault Refusal := done (s.movrEn n.val)
/-- MOVR_EN_CLEAR (13 R332). -/
def execMovrEnClear (n : ChanNo) (s : State) : Host.Outcome State Fault Refusal := done (s.movrDis n.val)
/-- MOVR_PAUSE_SET (13 R345). -/
def execMovrPauseSet (n : ChanNo) (s : State) : Host.Outcome State Fault Refusal := done (s.movrPause n.val)
/-- MOVR_PAUSE_CLEAR (13 R345). -/
def execMovrPauseClear (n : ChanNo) (s : State) : Host.Outcome State Fault Refusal := done (s.movrUnpause n.val)
/-- MOVR_PAUSED (13 R345). -/
def execMovrPaused (n : ChanNo) (s : State) : Host.Outcome State Fault Refusal := done (s.movrPaused n.val)
/-- MOVR_START (13 R332, R334). -/
def execMovrStart (n : ChanNo) (rq : Requester) (s : State) : Host.Outcome State Fault Refusal := done (s.movrStart n.val rq)
/-- MOVR_RESUME (13 R347). -/
def execMovrResume (n : ChanNo) (s : State) : Host.Outcome State Fault Refusal := done (s.movrResume n.val)
/-- MOVR_ABORT (13 R348). -/
def execMovrAbort (n : ChanNo) (s : State) : Host.Outcome State Fault Refusal := done (s.movrAbort n.val)
/-- MOVR_TIMER_TRIGGER (13 R333). -/
def execMovrTimerTrigger (n : ChanNo) (s : State) : Host.Outcome State Fault Refusal := done (s.movrTimer n.val)
/-- MOVR_DESC_FETCH (13 R328 to R331). -/
def execMovrDescFetch (n : ChanNo) (s : State) : Host.Outcome State Fault Refusal := done (s.descFetch n.val)
/-- MOVR_READ_DATA (13 R335). -/
def execMovrReadData (n : ChanNo) (s : State) : Host.Outcome State Fault Refusal := done (s.readData n.val)
/-- MOVR_DESC_COMPLETE (13 R342). -/
def execMovrDescComplete (n : ChanNo) (s : State) : Host.Outcome State Fault Refusal := done (s.descDone n.val)

end Sys2Proof.Machine
end

