-- ==== Sys2Proof/Machine/Ports.lean ====
section
/-! DEFINITION. Audio ports (14): entries, slots, slips, mover slots, clocks and pins. -/

namespace Sys2Proof.Machine

/-! ### Port settings -/

def State.portClk (s : State) (p : Nat) : Nat := s.fld .portCfg p 2 1
def State.portHold (s : State) (p : Nat) : Bool := s.bit .portCfg p 6
def State.portFollow (s : State) (p : Nat) : Bool := s.bit .portCfg p 7
def State.portLeader (s : State) (p : Nat) : Nat := s.fld .portCfg p 10 8
def bitsCode (c : Nat) : Nat := match c with | 0 => 16 | 1 => 24 | _ => 32
def State.slotBits (s : State) (p : Nat) : Nat := bitsCode (s.fld .portFmt p 17 16)
def State.dataBits (s : State) (p : Nat) : Nat := bitsCode (s.fld .portFmt p 19 18)

def State.rxSlots (s : State) (p : Nat) : List Nat := (List.range (s.portSlots p)).filter (fun k => s.bit .portRxEn p k)

/-- BCLK rate of a port (14 R352). -/
def State.bclkRate (s : State) (p : Nat) : Nat := s.portSlots p * s.slotBits p * s.baseRate (s.portDom p) / s.portPdiv p

/-- Whether a leader suits a follower (14 R360). -/
def State.followOk (s : State) (p : Nat) : Bool :=
  let l := s.portLeader p
  !s.portFollow l && s.portClk l == s.portClk p && s.portDom l == s.portDom p && s.portPdiv l == s.portPdiv p
    && s.portSlots l == s.portSlots p && s.fld .portFmt l 17 16 == s.fld .portFmt p 17 16

/-- The rate of MCLK_IN in Hz: one of the four it accepts, of which APRT_MCLK_STAT shows the whole kHz (14 R370). -/
def State.mclkRate (s : State) : Nat :=
  match s.dev.mclk with
  | some 22579 => 22579200
  | some 24576 => 24576000
  | some 45158 => 45158400
  | some 49152 => 49152000
  | _ => 0

/-- Whether MCLK_IN is present and gives the BCLK rate by an integer (14 R354). -/
def State.mclkOk (s : State) (p : Nat) : Bool :=
  s.dev.mclk.isSome && s.bclkRate p != 0 && s.mclkRate != 0 && s.mclkRate % s.bclkRate p == 0

/-- N of a port clocked by MCLK: BCLK = MCLK_IN ÷ N (14 R353). -/
def State.mclkDiv (s : State) (p : Nat) : Nat := s.mclkRate / max 1 (s.bclkRate p)

/-- FSYNC in each BCLK period of a frame from the first bit of slot 0 on (14 R351): high in that period (TDM_D0), in the one
before it, the last of the frame before (TDM_D1), or one period ahead of slot 1 (I2S). -/
def fsyncLevels (fmt slots bits : Nat) : List Bool :=
  let n := slots * bits
  (List.range n).map (fun k =>
    match fmt with
    | 0 => k + 1 == n
    | 1 => k == 0
    | _ => decide (bits ≤ k + 1) && decide (k + 1 < n))

/-- The bits of the slot words, the most significant first (14 R351). -/
def slotsBits (bits : Nat) (ws : List Nat) : List Bool := ws.flatMap (fun w => (List.range bits).map (fun k => w.testBit (bits - 1 - k)))

/-- Whether every pin of a port is high-impedance: in REPLAY (19 R499), on a standby before full function (17 R427), and on a
port that a mirrored stream could use until the standby takes over (16 R420). -/
def State.portSilent (s : State) (p : Nat) : Bool :=
  s.replay.active || (s.quiet && (s.dev.stage != 2 || (s.portClk p == 0 && s.mirrorsDom (s.portDom p))))

/-- A driven pin: SDO always, BCLK and FSYNC in master clocking (14 R351); none of a silent port. -/
def State.driven (s : State) (p : Nat) (pin : PortPin) : Bool := (pin == .sdo || s.portClk p != 2) && !s.portSilent p

/-- The pins a port drives: those not switched off by the pin protection (14 R368). -/
def State.pinsOn (s : State) (p : Nat) : List PortPin :=
  [PortPin.bclk, .fsync, .sdo].filter (fun x => s.driven p x && !(s.port p).off.contains x)

/-- The frame on the pins. -/
def State.portOut (s : State) (p : Nat) (ws : List Nat) : PortFrame :=
  ⟨s.pinsOn p, ws, (fsyncLevels (s.fld .portFmt p 1 0) (s.portSlots p) (s.slotBits p)).zip (slotsBits (s.slotBits p) ws)⟩

/-- Whether EN may be written 1 (14 R354). -/
def State.portEnOk (s : State) (p : Nat) : Bool :=
  s.portClk p != 3 && s.portPdiv p != 0 && s.fld .portFmt p 1 0 != 3 && s.fld .portFmt p 17 16 != 3 && s.fld .portFmt p 19 18 != 3
    && decide (s.dataBits p ≤ s.slotBits p) && (s.fld .portFmt p 1 0 != 2 || s.portSlots p == 2)
    && (s.slotsWith p 3).isEmpty && (!s.portFollow p || s.followOk p) && (s.portClk p != 1 || s.mclkOk p)

def State.portEn (s : State) (p : Nat) : State :=
  if s.bit .portCfg p 0 then s
  else if s.portEnOk p then
    ((s.setFld .portCfg p 0 0 1).updPort p (fun x => { x with fifo := [], primed := false, repeated := false, good := 0 })).raiseTx p
  else s.flag .portEvt p 5

/-- Requests of both FIFOs are withdrawn; a burst whose first read has issued goes on (13 R339, 14 R361). -/
def State.withdrawPort (s : State) (p : Nat) : State :=
  let hit := (s.chans.filter (fun c => !c.2.burst && (s.chanPeriph c.1 == p + 1 || s.chanPeriph c.1 == p + 9))).map (fun c => c.1)
  let on := fun (code : Nat) => s.chans.any (fun c => c.2.burst && s.chanPeriph c.1 == code)
  (s.each hit (fun s n => s.updChan n (fun c => { c with request := false, state := if c.state == .run && c.request && (match c.desc with
    | some d => d.preq
    | none => false) then .waitPreq else c.state }))).updPort p (fun x =>
      { x with txReq := if on (p + 1) then x.txReq else 0, rxReq := if on (p + 9) then x.rxReq else 0 })

/-- Words of a receive FIFO that the rest of a burst under way takes: they stay reserved (13 R339). -/
def State.reservedRx (s : State) (p : Nat) : Nat :=
  ((s.chans.filter (fun c => c.2.burst && s.chanPeriph c.1 == p + 9)).map (fun c =>
    let b := s.chanBurst c.1
    let r := c.2.pos + c.2.held.length
    match c.2.desc with
    | some d => (min d.len ((c.2.pos / b + 1) * b) + 3) / 4 - r / 4
    | none => 0)).sum

/-- EN written 0 (14 R366): driven clocks and SDO are held low; in SLAVE clocking SDO is high-impedance. -/
def State.portDis (s : State) (p : Nat) : State :=
  if s.bit .portCfg p 0 then
    ((s.withdrawPort p).setFld .portCfg p 0 0 0).emit (.port (Fin.ofNat 8 p) ⟨(s.pinsOn p).filter (fun _ => s.portClk p != 2), [], []⟩)
  else s

/-! ### Samples into slots -/

/-- q of a sample with `n` data bits, as an integer (14 R356). -/
def sampleQ (n x : Nat) : Int :=
  match fpDecode fp32 x with
  | .nan => 0
  | .inf sg => if sg then -(2 ^ n : Int) else 2 ^ n
  | .fin sg m e =>
    let k := e + ((n : Int) - 1)
    let mag := if 0 ≤ k then m * 2 ^ k.toNat
      else
        let sh := 2 ^ (-k).toNat
        let q := m / sh
        let r := m % sh
        if 2 * r > sh || (2 * r == sh && q % 2 == 1) then q + 1 else q
    if sg then -(mag : Int) else mag

def clipQ (n : Nat) (q : Int) : Int := min (max q (-(2 ^ (n - 1) : Int))) (2 ^ (n - 1) - 1)

/-- The slot word of a sample, and whether it was clipped (14 R356). -/
def slotWord (n bits x : Nat) : Nat × Bool :=
  let q := sampleQ n x
  let c := clipQ n q
  (((c % 2 ^ n).toNat) * 2 ^ (bits - n), c != q || isNan fp32 x)

/-- The stream that names a port slot, if any (14 R355). -/
def State.slotStream (s : State) (p k : Nat) : Option Nat := (s.streamsWhere (fun x => x.dir.dest == p * 32 + k)).head?

/-- Slips count on the port, its domain and every stream of its slots, and Tolcon records each (14 R360, 01 R39). -/
def State.portSlip (s : State) (p : Nat) (rep : Bool) : State :=
  let d := s.portDom p
  let ss := (s.slotsWith p 1).filterMap (fun k => s.slotStream p k)
  let s1 := ((s.inc .tickSlipCnt d).inc .portSlipCnt p).flag .portEvt p 0
  let s2 := s1.each ss (fun s i => s.updStream i (fun x => { x with cnt := x.cnt.addSlip }))
  s2.record 4 p d (leBytes 1 (b2n rep) ++ leBytes 7 0)

/-- Whether the domain of a port issues ticks, so that the port assembles and sends entries (14 R366). -/
def State.portLive (s : State) (p : Nat) : Bool :=
  match (s.td (s.portDom p)).mon with
  | .locked | .holdover | .stepPending => true
  | _ => false

/-- What a stream's take since the last assembly delivered, as a word. Where it took none the spec states no value: a free one
of the word's form (log 121). -/
def State.takenWord (s : State) (i n bits key : Nat) : Nat × Bool :=
  if (s.stream i).del.fresh then slotWord n bits (s.stream i).del.slot
  else (Config.freeNat (s.free + key) % 2 ^ n * 2 ^ (bits - n), false)

/-- The takes of these streams have been assembled. -/
def State.assembled (s : State) (is : List Nat) (draws : Nat) : State :=
  let t := s.each is (fun s i => s.updStream i (fun x => { x with del := { x.del with fresh := false } }))
  if is.all (fun i => (s.stream i).del.fresh) then t else { t with free := t.free + draws }

/-- The samples of one entry: each STREAM slot's latest take (14 R357). Clipped samples are counted. -/
def State.assemble (s : State) (p : Nat) : Entry × State :=
  let n := s.dataBits p
  let of_ := fun (k : Nat) => if s.txMap p k = 1 then s.slotStream p k else none
  let ws := (List.range (s.portSlots p)).map (fun k =>
    match of_ k with
    | some i => s.takenWord i n (s.slotBits p) k
    | none => (0, false))
  let clips := (ws.filter (fun w => w.2)).length
  (ws.map (fun w => w.1),
   (if clips = 0 then s else (s.cnt .portClipCnt p 31 0 clips).flag .portEvt p 2).assembled
     ((List.range (s.portSlots p)).filterMap of_) (s.portSlots p))

/-- Assembly at a tick of the port's domain (14 R357 to R360, R366, R367). `dropped` lists the ports that dropped. -/
def State.portAssemble (s : State) (p : Nat) (dropped : List Nat) : State × Bool :=
  let r := s.assemble p
  let x := r.2.port p
  -- at most the entries of the last three assemblies are due (14 R358)
  if s.portClk p = 0 then (r.2.updPort p (fun x => { x with fifo := x.fifo.drop (x.fifo.length - 2) ++ [r.1] }), false)
  else if x.noclk then (r.2, false)
  else
    let own := if s.portFollow p then decide (32 ≤ x.fifo.length) else decide (24 ≤ x.fifo.length)
    let drop := own || (s.portFollow p && dropped.contains (s.portLeader p) && !x.fifo.isEmpty)
    let s1 := if drop then (r.2.updPort p (fun x => { x with fifo := x.fifo.drop 1 })).portSlip p false else r.2
    let s2 := if own && s.portFollow p then s1.flag .portEvt p 4 else s1
    (s2.updPort p (fun x => { x with fifo := x.fifo ++ [r.1] }), drop)

/-- All ports of a domain that assemble at tick `t`, leaders first. -/
def State.assembleAll (s : State) (dom t : Nat) : State :=
  let ps := (List.range 8).filter (fun p => s.bit .portCfg p 0 && s.portDom p == dom && s.portPdiv p != 0 && t % s.portPdiv p == 0
    && s.portLive p)
  let order := ps.filter (fun p => !s.portFollow p) ++ ps.filter (fun p => s.portFollow p)
  (order.foldl (fun (acc : State × List Nat) p =>
    let r := acc.1.portAssemble p acc.2
    (r.1, if r.2 then p :: acc.2 else acc.2)) (s, [])).1

/-! ### A frame start (14 R358, R359, R361 to R365) -/

/-- The ports of a domain that stops issuing ticks: their crossing FIFOs are emptied, and re-prime (14 R359, R366). -/
def State.portsStop (s : State) (d : Nat) : State :=
  s.each ((List.range 8).filter (fun p => s.portDom p == d)) (fun s p =>
    s.updPort p (fun x => { x with fifo := [], primed := false, repeated := false }))

/-- PORT_CMD.RESTART acts (14 R365). -/
def State.restartNow (s : State) (p : Nat) : State :=
  (s.withdrawPort p).updPort p (fun x =>
    { x with tx := [], rx := x.rx.take (s.reservedRx p), rot := 0, rxRot := 0, slotLost := false, rxSlotLost := false, off := [], pinFault := false,
             contend := false, primed := false, restart := false })

/-- The entry a frame sends, and whether its removal repeats one (14 R358, R359). -/
def State.frameEntry (s : State) (p : Nat) (leaderRepeat : Bool) : State × Entry :=
  let x := s.port p
  let zeros := List.replicate (s.portSlots p) 0
  if !s.portLive p then ((s.updPort p (fun x => { x with fifo := [], primed := false, repeated := false })), zeros)
  else if s.portClk p = 0 then
    -- an entry is sent two frames after its assembly (14 R358)
    if 2 < x.fifo.length then
      (s.updPort p (fun x => { x with fifo := x.fifo.drop 1, lastEntry := x.fifo.headD [] }), x.fifo.headD zeros)
    else (s, zeros)
  else if !x.primed && decide (x.fifo.length < 16) then (s.updPort p (fun x => { x with repeated := false }), zeros)
  else
    let own := if s.portFollow p then x.fifo.isEmpty else decide (x.fifo.length < 8)
    let rep := own || (s.portFollow p && leaderRepeat)
    let s0 := s.updPort p (fun x => { x with primed := true, repeated := rep })
    if rep then
      let s1 := s0.portSlip p true
      (if own && s.portFollow p then s1.flag .portEvt p 4 else s1, if x.lastEntry.isEmpty then zeros else x.lastEntry)
    else (s0.updPort p (fun x => { x with fifo := x.fifo.drop 1, lastEntry := x.fifo.headD [] }), x.fifo.headD zeros)

/-- The transmit half of PORT_XRUN_CNT (14 R364). -/
def State.xrun (s : State) (p : Nat) (tx : Bool) : State :=
  let s1 := (if tx then s.cnt .portXrunCnt p 15 0 1 else s.cnt .portXrunCnt p 31 16 1).flag .portEvt p 1
  if s.bit .portEvt p 1 then s1 else s1.event 0x0802 p (s.portDom p)

def State.slotLostEvt (s : State) (p : Nat) (was : Bool) : State := if was then s else s.event 0x0801 p (s.portDom p)

/-- The words of the MOVER slots of one frame (14 R362, R363). -/
def State.moverWords (s : State) (p : Nat) : State × List Nat :=
  let x := s.port p
  let k := (s.slotsWith p 2).length
  if k = 0 then (s, [])
  else if s.portHold p then
    if k ≤ x.tx.length then
      (s.updPort p (fun x => { x with tx := x.tx.drop k, lastMov := x.tx.take k }), x.tx.take k)
    else (s.xrun p true, (x.lastMov ++ List.replicate k 0).take k)
  else
    let have_ := x.tx.take k
    let miss := k - have_.length
    let s1 := s.updPort p (fun x => { x with tx := x.tx.drop k })
    let ws := have_ ++ List.replicate miss 0
    if miss = 0 then (s1, ws)
    else
      let s2 := s1.updPort p (fun x => { x with rot := (x.rot + miss) % k, slotLost := true })
      ((s2.slotLostEvt p x.slotLost).xrun p true, ws)

/-- The slots of a frame as they are sent, in slot order. -/
def State.frameWords (s : State) (p : Nat) (e : Entry) (mov : List Nat) : List Nat :=
  ((List.range (s.portSlots p)).foldl (fun (acc : List Nat × List Nat) k =>
    match s.txMap p k with
    | 1 => (acc.1 ++ [e.getD k 0], acc.2)
    | 2 => (acc.1 ++ [acc.2.headD 0 / 2 ^ (32 - s.slotBits p)], acc.2.drop 1)
    | _ => (acc.1 ++ [0], acc.2)) ([], mov)).1

/-- One frame starts. A follower repeats in the frames in which its leader repeats (`lead`); a leader's frame start is given
before its followers' (log 36). -/
def State.portFrame (s : State) (p : Nat) (lead : Bool) : State :=
  if !s.bit .portCfg p 0 then
    -- before full function an enabled master port sends zeros from the clock it has (17 R427)
    match Tab.get? s.dev.bootPorts p with
    | some f => s.emit (.port (Fin.ofNat 8 p) f)
    | none => s
  else
    let s0 := if (s.port p).restart then s.restartNow p else s
    if (s0.port p).noclk && s.portClk p != 0 then s0
    else
      let r := s0.frameEntry p lead
      let m := r.1.moverWords p
      let d := s.portDom p
      let gated := s.portClk p == 0 && !s.hbOk d (s.tick d)
      let ws := s.frameWords p (if gated then [] else r.2) m.2
      (if s.portSilent p then m.1 else m.1.emit (.port (Fin.ofNat 8 p) (m.1.portOut p ws))).raiseTx p

/-- Whether the leader of a follower repeats at this frame start (14 R359, R360). -/
def State.leaderRepeats (s : State) (p : Nat) : Bool :=
  s.portFollow p && (s.port (s.portLeader p)).repeated

/-! ### Received frames (14 R361 to R364, R367) -/

/-- Store the received words of a frame. -/
def State.rxFrame (s : State) (p bclks : Nat) (slots : List Nat) : State :=
  if !s.bit .portCfg p 0 then s
  else
    let bad := s.portClk p == 2 && bclks != s.portSlots p * s.slotBits p
    if bad then ((s.inc .portFrameErrCnt p).flag .portEvt p 3).updPort p (fun x => { x with good := 0 })
    -- a port without its clock only counts the good frames (14 R366, R367)
    else if (s.port p).noclk then s.updPort p (fun x => { x with good := x.good + 1 })
    else
      let x := s.port p
      let ws := (s.rxSlots p).map (fun k => (slots.getD k 0 % 2 ^ s.slotBits p) * 2 ^ (32 - s.slotBits p))
      let room := 1024 - x.rx.length
      let s0 := s.updPort p (fun x => { x with good := x.good + 1 })
      if ws.length ≤ room then (s0.updPort p (fun x => { x with rx := x.rx ++ ws })).raiseRx p
      else if s.portHold p then s0.xrun p false
      else
        let lost := ws.length - room
        let s1 := s0.updPort p (fun x => { x with rx := x.rx ++ ws.take room, rxRot := (x.rxRot + lost) % max 1 ws.length, rxSlotLost := true })
        (((s1.slotLostEvt p x.rxSlotLost).xrun p false)).raiseRx p

/-! ### Clocks and pins (14 R367, R368) -/

def State.portClockLost (s : State) (p : Nat) : State :=
  if s.bit .portCfg p 0 && s.portClk p != 0 && !(s.port p).noclk then
    ((s.withdrawPort p).updPort p (fun x => { x with noclk := true, good := 0, fifo := [], repeated := false })).event 0x0803 p (s.portDom p) 0
  else s

def State.portClockBack (s : State) (p : Nat) : State :=
  if (s.port p).noclk && decide (64 ≤ (s.port p).good) then
    ((s.updPort p (fun x => { x with noclk := false, primed := false })).event 0x0803 p (s.portDom p) 1).raiseTx p |>.raiseRx p
  else s

/-- 1,024 frames measured: the rate in 1/16 Hz against ±2 % of nominal. -/
def State.portRate (s : State) (p rate16 : Nat) : State :=
  if s.bit .portCfg p 0 && s.portPdiv p != 0 then
    let nom := 16 * s.baseRate (s.portDom p) / s.portPdiv p
    let out := decide (100 * rate16 < 98 * nom) || decide (102 * nom < 100 * rate16)
    let s1 := s.updPort p (fun x => { x with rateErr := out })
    if out then s1.event 0x0803 p (s.portDom p) 2 rate16 else s1
  else s

def State.pinShort (s : State) (p : Nat) (pin : PortPin) : State :=
  if s.driven p pin then
    (s.updPort p (fun x => { x with pinFault := true, off := if x.off.contains pin then x.off else x.off ++ [pin] })).event
      0x0804 p (s.portDom p)
  else s

def State.contention (s : State) (p : Nat) : State :=
  (s.updPort p (fun x =>
    { x with contend := true, off := if x.off.contains .sdo then x.off else x.off ++ [.sdo] })).event 0x0804 p (s.portDom p)

/-- What WCLK_OUT does: high-impedance, held low, or a square wave of a rate in Hz, with its rising edges on the ticks of a domain
or from the internal oscillator (14 R369). -/
inductive WclkOut where
  | highZ
  | low
  | ticks (dom rate : Nat)
  | internal (rate : Nat)
  deriving DecidableEq, Repr

/-- WCLK_OUT (14 R369): not driven while shorted (19 R503), in REPLAY (19 R499), and on a standby whose mirrored streams' domain
it follows (16 R420). -/
def State.wclkOut (s : State) : WclkOut :=
  let src := s.fld .aprtWclkOut 0 2 1
  let k := 2 ^ s.fld .aprtWclkOut 0 4 3
  if s.dev.wclkShort || s.replay.active || (decide (src < 2) && s.silenced src) then .highZ
  else if !s.bit .aprtWclkOut 0 0 then .low
  else if src < 2 then
    if (s.td src).ticking then .ticks src (s.baseRate src * k) else .internal (s.baseRate src * k)
  else .internal ((if src = 2 then 48000 else 44100) * k)

/-- WCLK_OUT shorted (19 R503, R506). -/
def State.wclkShorted (s : State) : State :=
  ({ s with dev := { s.dev with wclkShort := true } }).event 0x0D03 1

/-- PORT_EN_SET (14 R354). -/
def execPortEnSet (p : PortNo) (s : State) : Host.Outcome State Fault Refusal := done (s.portEn p.val)
/-- PORT_EN_CLEAR (14 R361, R366). -/
def execPortEnClear (p : PortNo) (s : State) : Host.Outcome State Fault Refusal := done (s.portDis p.val)
/-- PORT_RESTART: acts at the next frame start (14 R365); ignored while EN = 0. -/
def execPortRestart (p : PortNo) (s : State) : Host.Outcome State Fault Refusal :=
  done (s.cond (s.bit .portCfg p.val 0) (fun s => s.updPort p.val (fun x => { x with restart := true })))
/-- PORT_FRAME_START (14 R358 to R365). -/
def execPortFrameStart (p : PortNo) (s : State) : Host.Outcome State Fault Refusal :=
  done (s.portFrame p.val (s.leaderRepeats p.val))
/-- PORT_RX_FRAME (14 R361 to R364, R367). -/
def execPortRxFrame (p : PortNo) (bclks : Nat) (slots : List Word) (s : State) : Host.Outcome State Fault Refusal :=
  done (s.rxFrame p.val bclks (slots.map (fun w => w.toNat)))
/-- PORT_CLOCK_LOST (14 R367). -/
def execPortClockLost (p : PortNo) (s : State) : Host.Outcome State Fault Refusal := done (s.portClockLost p.val)
/-- PORT_CLOCK_REGAINED (14 R367). -/
def execPortClockRegained (p : PortNo) (s : State) : Host.Outcome State Fault Refusal := done (s.portClockBack p.val)
/-- PORT_RATE_MEASURE (14 R367). -/
def execPortRateMeasure (p : PortNo) (rate16 : Nat) (s : State) : Host.Outcome State Fault Refusal := done (s.portRate p.val rate16)
/-- PORT_PIN_SHORT (14 R368). -/
def execPortPinShort (p : PortNo) (pin : PortPin) (s : State) : Host.Outcome State Fault Refusal := done (s.pinShort p.val pin)
/-- SDO_CONTENTION (14 R368). -/
def execSdoContention (p : PortNo) (s : State) : Host.Outcome State Fault Refusal := done (s.contention p.val)
/-- WCLK_OUT_SHORT (19 R503, R506). -/
def execWclkOutShort (s : State) : Host.Outcome State Fault Refusal := done s.wclkShorted

end Sys2Proof.Machine
end

