-- ==== Sys2Proof/Machine/Residency.lean ====
section
/-! DEFINITION. State residency (03 R76 to R94): carried state in slots and store entries, residency dependences, the swap
queues and the swap engines. -/

namespace Sys2Proof.Machine

/-! ### Carried state (03 R77) -/

/-- STATE_BYTES of a stream's two images. -/
def State.stateLens (s : State) (x : Stream) : Nat × Nat :=
  match s.voiceModels x.dir.pitch x.dir.voice with
  | some m => (m.1.stateBytes, m.2.stateBytes)
  | none => (0, 0)

def lanesOf (compat : Bool) : Nat := if compat then 16 else 64

/-- GEN_STATE: the lanes, zero-padded to 256 bytes. -/
def genBytes (lanes : List Nat) : List Byte :=
  let b := lanes.flatMap (leBytes 4)
  b ++ List.replicate (256 - b.length) 0#8

/-- The 512-byte header. -/
def stateHeader (x : Stream) (handle : Nat) (lanes : List Nat) (featurePos seed alen vlen : Nat) : List Byte :=
  genBytes lanes ++ leBytes 8 x.dir.sampleIdx ++ leBytes 8 featurePos ++ leBytes 8 seed ++ leBytes 4 alen ++ leBytes 4 vlen
    ++ leBytes 4 handle ++ leBytes 2 (lanesOf x.dir.laneCompat) ++ List.replicate 218 0#8

def fitTo (n : Nat) (b : List Byte) : List Byte := b.take n ++ List.replicate (n - b.length) 0#8

/-- Bytes replaced inside a list. -/
def spliceBytes (b : List Byte) (off : Nat) (v : List Byte) : List Byte := b.take off ++ v ++ b.drop (off + v.length)

/-- Model state of a freshly opened stream: what the image states, with INIT_LEVEL as the previous level (07 R170, R175)
and an empty halo ring. -/
def initVocoder (p : Config.ImgParams) (n : Nat) : List Byte :=
  fitTo n (spliceBytes (fitTo n p.initState) p.prevLevelOff (leBytes 2 p.initLevel))

def initAcoustic (p : Config.ImgParams) (n : Nat) : List Byte :=
  fitTo n (spliceBytes (fitTo n p.initState) p.haloOff (leBytes 2 0))

def State.initModelState (s : State) (x : Stream) : List Byte × List Byte :=
  match s.voiceModels x.dir.pitch x.dir.voice with
  | some m => (initAcoustic (s.params m.1) m.1.stateBytes, initVocoder (s.params m.2) m.2.stateBytes)
  | none => ([], [])

/-- The state of a stream whose LOC was 0 (03 R90, 06 R154). -/
def State.freshState (s : State) (i : Nat) : List Byte :=
  let x := s.stream i
  let l := s.stateLens x
  let m := s.initModelState x
  stateHeader x (x.handle i) (seedSet (lanesOf x.dir.laneCompat) x.dir.seed 0 0) 0 x.dir.seed l.1 l.2 ++ m.1 ++ m.2

/-- Where the carried state of a stream lies: its slot, or its store entry. -/
def State.stateAddr (s : State) (i : Nat) : Option Nat :=
  let x := s.stream i
  match x.dir.loc with
  | .initial => none
  | .stored => some (s.storeAddr i)
  | _ => some (s.slotAddr x)

def State.stateNum (s : State) (i off n : Nat) : Nat :=
  match s.stateAddr i with
  | some a => s.mem.leN (a + off) n
  | none => 0

def State.setStateNum (s : State) (i off n v : Nat) : State :=
  match s.stateAddr i with
  | some a => s.poke (a + off) (leBytes n v)
  | none => s

def State.featurePos (s : State) (i : Nat) : Nat := s.stateNum i 0x108 8

/-- A restart mark due at SAMPLE_IDX is applied to resident state (02 R62, 06 R154, 07 R179). -/
def State.applyDue (s : State) (i : Nat) : State :=
  let x := s.stream i
  match x.feat.marks with
  | [] => s
  | m :: ms =>
    if m.1 == x.dir.sampleIdx && x.dir.loc == .resident then
      let a := s.slotAddr x
      let l := s.stateLens x
      let voc := (s.initModelState x).2
      let s1 := s.poke (a + 0x200 + l.1) voc
      let s2 := match m.2 with
        | some sd => (s1.poke a (genBytes (seedSet (lanesOf x.dir.laneCompat) sd 0 m.1))).poke (a + 0x110) (leBytes 8 sd)
        | none => s1
      s2.updStream i (fun x => { x with feat := { x.feat with marks := ms } })
    else s

/-! ### Queues (03 R86, R89) -/

/-- The first tick at or after the current one on which a stream may release a step (01 R14). -/
def nextRelease (t d ph : Nat) : Nat := if d = 0 then t else t + (ph + d - t % d) % d

/-- Deadline of the first step an LC stream would release, in ns of uptime (03 R89, 12 R322). -/
def State.swapDeadline (s : State) (i : Nat) : Nat :=
  let x := s.stream i
  s.tickNs x.dir.domain (nextRelease (s.tick x.dir.domain) x.dir.d x.dir.phase + x.dir.d)

/-- Order of a swap queue: LC swap-ins by deadline, BE swap-ins, captures and copies by arrival, swap-outs (03 R89). -/
def SwapOp.key : SwapOp → List Nat
  | .swapIn i lc dl _ _ => if lc then [0, dl, i] else [1]
  | .copy i _ _ _ lc dl => if lc then [0, dl, i] else [1]
  | .capture _ => [1]
  | .swapOut _ => [2]

def State.enqueue (s : State) (w : Nat) (o : SwapOp) : State :=
  s.updEngine w (fun e => { e with queue := insertBy SwapOp.key o e.queue })

/-- Whether a swap or copy of the stream is queued. -/
def State.queuedFor (s : State) (i : Nat) : Bool :=
  s.swap.any (fun e => e.2.queue.any (fun o => o.stream == i && o != SwapOp.capture i))

/-- The Quarter to which a queued or running copy takes a stream (04 R127, R129). -/
def State.copyTarget (s : State) (i : Nat) : Option Nat :=
  (s.swap.flatMap (fun e => (e.2.cur.toList ++ e.2.queue).filterMap (fun o => match o with
    | .copy j q .. => if j = i then some q else none
    | _ => none))).head?

/-- The Quarter on which a stream's slot is to be allocated (03 R89). -/
def State.homeQuarter (s : State) (i : Nat) : Nat :=
  let x := s.stream i
  match x.life.batch.bind s.batch with
  | some b => b.quarter
  | none => x.dir.quarter

/-- A BE context that has work becomes runnable (10 R261). -/
def State.wakeCtx (s : State) (c : Nat) : State :=
  let x := s.ctx c
  if x.be && (x.state == .registered || x.state == .leaving) && !x.runnable then s.updCtx c (fun x => { x with runnable := true, waitF := 0 }) else s

def State.wakeCtxOf (s : State) (i : Nat) : State :=
  match s.streamCtx (s.stream i) with
  | some c => s.wakeCtx c
  | none => s

/-- A residency dependence on a stream (03 R88, R89, R92): a queued swap-in, a swap under way joined, or a queued swap-out
withdrawn. -/
def State.openDep (s : State) (i : Nat) : State :=
  let x := s.stream i
  match x.dir.loc with
  | .resident =>
    { s.wakeCtxOf i with swap := s.swap.map (fun e => (e.1, { e.2 with queue := e.2.queue.filter (fun o => o != SwapOp.swapOut i) })) }
  | .moving => (s.updStream i (fun x => { x with life := { x.life with dep := true } })).wakeCtxOf i
  | _ =>
    let s1 := (s.updStream i (fun x => { x with life := { x.life with dep := true } })).wakeCtxOf i
    if s.queuedFor i then s1
    else
      let q := s.homeQuarter i
      s1.enqueue (q / 4) (.swapIn i (!x.dir.be) (if x.dir.be then 0 else s.swapDeadline i) q (x.dir.loc == .initial))

/-! ### Candidates (03 R84 to R86) -/

/-- Eviction candidates (03 R84). A copy waits for the step in flight to commit (06 R165). -/
def State.candidate (s : State) (i : Nat) : Bool :=
  let x := s.stream i
  x.dir.loc == .resident && !x.life.dep && x.life.exportP.isNone && !s.swapping i
    && (match x.dir.state with
        | .idle | .paused | .ended | .faulted => true
        | .run => x.dir.be && x.life.exec.isNone
        | _ => false)

def candRank (x : Stream) : Nat :=
  match x.dir.state with
  | .faulted => 0
  | .ended => 1
  | .paused => 2
  | _ => if x.dir.be then 3 else 4

def State.candKey (s : State) (i : Nat) : List Nat :=
  let x := s.stream i
  [candRank x, 0xFFFFFFFF - x.life.idleFrames, i]

def State.residentOn (s : State) (q : Nat) : List Nat := s.streamsWhere (fun x =>
  (x.dir.loc == .resident || x.dir.loc == .moving) && x.dir.quarter == q)

/-- The stream to evict so that Quarter `q` gets room for class `c` (03 R86). -/
def State.victim (s : State) (q c : Nat) : Option Nat :=
  let here := s.residentOn q
  let cands := here.filter s.candidate
  match pickMin s.candKey (cands.filter (fun i => (s.stream i).dir.cls == c)) with
  | some v => some v
  | none =>
    let onPage := fun (n : Nat) => here.filter (fun i => slotPage (s.stream i).dir.slot == n)
    let pages := (s.pages.filter (fun e => e.1 / 256 == q)).map (fun e => e.1 % 256)
    let full := pages.filter (fun n => (onPage n).all s.candidate && !(onPage n).isEmpty
      && ((s.page q n).map (fun u => u.used.length)).getD 0 == (onPage n).length)
    match pickMin (fun n => [((s.page q n).map (fun u => u.used.length)).getD 0, n]) full with
    | some n => (onPage n).head?
    | none => none

/-- The first candidate of the device (03 R86). -/
def State.anyVictim (s : State) : Option Nat :=
  pickMin s.candKey ((s.streamsWhere (fun x => x.dir.loc == .resident)).filter s.candidate)

/-! ### Starting an operation -/

def State.setLoc (s : State) (i : Nat) (l : Loc) : State := s.updStream i (fun x => { x with dir := { x.dir with loc := l } })

/-- The engine of a Ward starts the swap-out of a stream. -/
def State.startOut (s : State) (w i : Nat) : State :=
  (s.updEngine w (fun e => { e with cur := some (.swapOut i), queue := e.queue.filter (fun o => o != .swapOut i) })).setLoc i .moving

/-- An eviction, made by the engine of the evicted slot's Ward: now if that engine is free and no step of the stream is in
flight (06 R165), else ahead of its queue. -/
def State.evict (s : State) (v : Nat) : State :=
  let w := (s.stream v).dir.quarter / 4
  if (s.engine w).cur.isNone && (s.flights v).isEmpty then s.startOut w v
  else s.updEngine w (fun e => { e with queue := SwapOp.swapOut v :: e.queue.filter (fun o => o != .swapOut v) })

/-- A slot for a swap-in: its page and place, the eviction that makes room, or neither (03 R80, R86). -/
inductive Room where
  | slot (n k : Nat)
  | evict (v : Nat)
  | none
  deriving DecidableEq, Repr

def State.roomFor (s : State) (q c : Nat) : Room :=
  match s.findSlot q c with
  | some r => if s.slotsUsed < 8192 then .slot r.1 r.2
    else match s.anyVictim with | some v => .evict v | none => .none
  | none => match s.victim q c with | some v => .evict v | none => .none

/-- EVT_SWAP_STALL of a Ward, at most once between frame ticks (03 R86). -/
def State.swapStall (s : State) (w : Nat) : State :=
  if (s.engine w).stallSent then s else (s.updEngine w (fun e => { e with stallSent := true })).event 0x0301 w

/-- The swap-in of a stream waits for room: each wait counts once (03 R86). -/
def State.swapWait (s : State) (w i : Nat) : State :=
  (if (s.engine w).waiting = some i then s
   else ((s.inc .sdirSwapWaitCnt).flag .sdirResEvt 0 0).updEngine w (fun e => { e with waiting := some i })).swapStall w

/-- Whether the eviction that an engine has ordered is still to come. -/
def State.evictPending (s : State) (w : Nat) : Bool :=
  match (s.engine w).evicting with
  | some v => s.swap.any (fun e => e.2.cur == some (.swapOut v) || e.2.queue.contains (.swapOut v))
  | none => false

/-- Take an operation off the queue and make it current. -/
def State.beginOp (s : State) (w : Nat) (o : SwapOp) : State :=
  s.updEngine w (fun e => { e with cur := some o, queue := e.queue.filter (fun x => x != o) })

/-- Try the operations of a queue in order; `held` once a swap-in waits for room, or for the one eviction made for it. A
capture is made by PACK_CAPTURE. -/
def State.tryOps (w : Nat) : List SwapOp → Bool → State → State
  | [], _, s => s
  | o :: os, held, s =>
    match o with
    | .swapIn i _ _ q _ =>
      if held || s.evictPending w then State.tryOps w os true s
      else
        match s.roomFor q (s.stream i).dir.cls with
        | .slot n k =>
          let c := (s.stream i).dir.cls
          let s1 := ((s.takeSlot q c n k).beginOp w o).updEngine w (fun e => { e with waiting := none, evicting := none })
          s1.updStream i (fun x => { x with dir := { x.dir with loc := .moving, quarter := q, slot := slotUnits c n k } })
        | .evict v =>
          let s1 := (s.evict v).updEngine w (fun e => { e with evicting := some v })
          if (s1.engine w).cur.isSome then s1 else State.tryOps w os true s1
        | .none => State.tryOps w os true (s.swapWait w i)
    | .copy i q .. =>
      if (s.flights i).all (fun e => e.quarter == q) && (s.stream i).dir.loc == .resident then (s.beginOp w o).setLoc i .moving
      else State.tryOps w os held s
    | .swapOut i =>
      if s.candidate i then (if (s.flights i).isEmpty then s.startOut w i else State.tryOps w os held s)
      else State.tryOps w os held (s.updEngine w (fun e => { e with queue := e.queue.filter (fun x => x != o) }))
    | .capture _ => State.tryOps w os held s

/-- SWAP_START: an idle engine takes its next operation (03 R83, R86, R89). -/
def State.swapStart (s : State) (w : Nat) : State :=
  let e := s.engine w
  if e.cur.isSome then s else State.tryOps w e.queue false s

/-! ### Ends of operations -/

def State.engineDone (s : State) (w : Nat) : State := s.updEngine w (fun e => { e with cur := none })

def State.closeDep (s : State) (i : Nat) : State := s.updStream i (fun x => { x with life := { x.life with dep := false } })

/-- A bad word in a slot faults its stream (03 R93, 12 R319). -/
def State.slotParity (s : State) (i a n : Nat) : State :=
  if (s.badWordsIn a n).isEmpty then s
  else (((s.flag .memcEvt 0 2).inc .memcParFaultCnt).faultStream i 2)

/-- Idle engines whose swap-ins wait for room try again, since a slot was freed (03 R86). -/
def State.retryWaits (s : State) : State :=
  s.each ((s.swap.filter (fun e => e.2.waiting.isSome)).map (fun e => e.1)) State.swapStart

/-- A swap-out's copy has ended (03 R87, R92). The spec does not say whether a swap-out completes whose slot has a parity
error: the stream faults, stays resident and keeps its slot, and no swap-out is counted (log 106). -/
def State.swapOutDone (s : State) (w : Nat) : State :=
  match (s.engine w).cur with
  | some (.swapOut i) =>
    let x := s.stream i
    let n := slotBytes x.dir.cls
    let bad := !(s.badWordsIn (s.slotAddr x) n).isEmpty
    let s1 := if bad then ((s.engineDone w).setLoc i .resident).slotParity i (s.slotAddr x) n
      else ((s.move (s.slotAddr x) (s.storeAddr i) n).rbBytes w n).engineDone w
    if bad then s1.closeDep i
    else if x.life.dep then (((s1.setLoc i .resident).closeDep i).inc .sdirSwapReclaimCnt).applyDue i
    else (((s1.releaseSlot i).setLoc i .stored).inc .sdirSwapOutCnt).retryWaits
  | _ => s

/-- A swap-in whose store read failed (03 R93). A capture that waited for it has nothing to copy. -/
def State.swapInFail (s : State) (w i : Nat) : State :=
  ((((((s.engineDone w).releaseSlot i).setLoc i .stored).closeDep i).faultStream i 1).cancelExport i true).retryWaits

/-- A swap-in's copy has ended (03 R90, R93); its last block was issued now (12 R324; log 118). -/
def State.swapInDone (s : State) (w : Nat) : State :=
  match (s.engine w).cur with
  | some (.swapIn i lc dl _ fresh) =>
    let x := s.stream i
    let a := s.slotAddr x
    let n := slotBytes x.dir.cls
    if fresh then
      ((((s.poke a (s.freshState i)).engineDone w).setLoc i .resident).closeDep i |>.inc .sdirSwapInCnt).applyDue i
    else if (s.badIn (s.storeAddr i) n).isEmpty then
      ((((((((s.move (s.storeAddr i) a n).rbBytes w n).rbLate w (if lc then some dl else none)).engineDone w).setLoc i
        .resident).closeDep i).inc .sdirSwapInCnt)).applyDue i
    else (s.failedRead (s.storeAddr i) n 2).swapInFail w i
  | _ => s

/-- A copy between Quarters has ended (04 R127, R129); a restart mark that came meanwhile is applied (02 R62). With a parity
error in the slot the stream faults and stays where it is (R93; log 106). -/
def State.slotCopyDone (s : State) (w : Nat) : State :=
  match (s.engine w).cur with
  | some (.copy i q n k _ _) =>
    let x := s.stream i
    let dest := qBase q + slotUnits x.dir.cls n k * 4096
    if !(s.badWordsIn (s.slotAddr x) (slotBytes x.dir.cls)).isEmpty then
      ((((s.engineDone w).freeSlot q n k).setLoc i .resident).closeDep i).slotParity i (s.slotAddr x) (slotBytes x.dir.cls)
    else
    let s1 := ((s.move (s.slotAddr x) dest (slotBytes x.dir.cls)).engineDone w).releaseSlot i
    (((s1.updStream i (fun x =>
      { x with dir := { x.dir with quarter := q, slot := slotUnits x.dir.cls n k, loc := .resident } })).closeDep i).applyDue i).retryWaits
  | _ => s

/-- SWAP_START (03 R83). -/
def execSwapStart (w : Ward) (s : State) : Host.Outcome State Fault Refusal := done (s.swapStart w.val)
/-- SWAP_OUT_DONE (03 R87). -/
def execSwapOutDone (w : Ward) (s : State) : Host.Outcome State Fault Refusal := done (s.swapOutDone w.val)
/-- SWAP_IN_DONE (03 R90). -/
def execSwapInDone (w : Ward) (s : State) : Host.Outcome State Fault Refusal := done (s.swapInDone w.val)
/-- SLOT_COPY_DONE (04 R127). -/
def execSlotCopyDone (w : Ward) (s : State) : Host.Outcome State Fault Refusal := done (s.slotCopyDone w.val)

end Sys2Proof.Machine
end

