-- ==== Sys2Proof/Machine/Ticks.lean ====
section
/-! DEFINITION. The source monitor and the control of a tick domain (01 R22, R25 to R35). -/

namespace Sys2Proof.Machine

/-! ### Rates -/

/-- The nominal base rate in 1/16 Hz. -/
def State.nominal16 (s : State) (d : Nat) : Nat := s.baseRate d * 16

/-- The generator's rate clamped to nominal ±2 % (01 R31). -/
def clampRate (n r : Nat) : Nat := min (max r (n * 98 / 100)) (n * 102 / 100)

/-- Put a rate into the generator; PULL_CLAMP while it sits at the clamp. -/
def State.setRate (s : State) (d r : Nat) : State :=
  let n := s.nominal16 d
  let c := clampRate n r
  s.updTd d (fun t => { t with rate16 := c, clamp := decide (c ≤ n * 98 / 100 ∨ n * 102 / 100 ≤ c) })

/-- A rate at which phase is slewed away: it changes the period at rate `b` by at most 0.1 % (01 R26). -/
def slewRate (b r : Nat) : Nat := min (max r (ceilDiv (b * 1000) 1001)) (b * 1000 / 999)

/-- An accepted edge steers the generator: it follows the source's rate, and slews until the phase error is below one
reference cycle of 40.69 ns (01 R26; log 3). -/
def State.steer (s : State) (d : Nat) : State :=
  let b := clampRate (s.nominal16 d) (Config.steeredRate s.free)
  let e := Config.freeNat (s.free + 1)
  let r := if e ≤ 40 then b else slewRate b (Config.steeredRate (s.free + 2))
  (({ s with free := s.free + 3 }).updTd d (fun t => { t with base16 := b, phaseErr := e })).setRate d r

/-- The average rate over the last 1,024 ticks, or over as many as were issued (01 R32; log 3). -/
def TickDom.meanRate (t : TickDom) : Nat :=
  if t.hist.isEmpty then t.rate16 else (t.hist.map (fun h => h.1 * h.2)).sum / max 1 (t.hist.map (fun h => h.2)).sum

/-- The newest `n` ticks of a history. -/
def lastTicks : Nat → List (Nat × Nat) → List (Nat × Nat)
  | _, [] => []
  | n, h :: t => if n = 0 then [] else (h.1, min n h.2) :: lastTicks (n - min n h.2) t

/-- One tick at a rate joins the history of the last 1,024 (01 R32). -/
def histTick (r : Nat) : List (Nat × Nat) → List (Nat × Nat)
  | [] => [(r, 1)]
  | h :: t => if h.1 = r then lastTicks 1024 ((r, h.2 + 1) :: t) else lastTicks 1024 ((r, 1) :: h :: t)

/-- The held rate, once the source fails: the average before the first missed edge, or up to now if none was missed (01
R32). -/
def State.holdRate (s : State) (d : Nat) : State :=
  s.updTd d (fun t => if t.mon = .locked ∧ t.missed = 0 then { t with held16 := t.meanRate } else t)

/-! ### State changes -/

def State.flagT (s : State) (d bit : Nat) : State := s.flag .tickEvt d bit

/-- The source that the registers name. -/
def State.srcRegs (s : State) (d : Nat) : TickSrc := ⟨s.fld .tickCtl d 4 2, s.fld .tickCtl d 6 5, s.fld .tickCtl d 12 7⟩

/-- Tolcon's record of a transition of the table of R31 (19 R490). -/
def srcRecord (old s : State) (d : Nat) : State :=
  if (old.td d).mon = (s.td d).mon then s
  else s.record 3 d d (leBytes 1 (old.td d).mon.code ++ leBytes 1 (s.td d).mon.code ++ leBytes 2 0
    ++ leBytes 4 (s.rg .tickMeasRate d))

/-- Enter ACQUIRE: a new run, and a divider that waits for its first edge (01 R31, R529). -/
def State.toAcquire (s : State) (d : Nat) (free : Bool) : State :=
  let s1 := (s.portsStop d).updTd d (fun t =>
    { t with mon := .acquire, freeRun := free, runOpen := false, run := 0, missed := 0, divOn := false,
             outRange := false, mark := none, skipEdge := false })
  if free then s1 else srcRecord s s1 d

/-- Enter LOCKED. -/
def State.toLocked (s : State) (d : Nat) : State :=
  let s1 := s.updTd d (fun t => { t with mon := .locked, freeRun := false, runOpen := false, run := 0, missed := 0 })
  srcRecord s ((s1.flagT d 2).event 0x0101 d d) d

/-- LOCKED to HOLDOVER: the generator goes on at the held rate (01 R31, R32). -/
def State.toHoldover (s0 : State) (d : Nat) : State :=
  let s := s0.holdRate d
  let s1 := (s.setRate d (s.td d).held16).updTd d (fun t => { t with mon := .holdover, run := 0, missed := 0, divOn := false })
  srcRecord s (((s1.cnt .tickHoldCnt d 15 0 1).flagT d 1).event 0x0102 d d) d

/-- A rate step: STEP_PENDING until the next frame tick (01 R31, R35). -/
def State.rateStep (s0 : State) (d : Nat) : State :=
  let s := s0.holdRate d
  let s1 := (s.setRate d (s.td d).held16).updTd d (fun t => { t with mon := .stepPending, missed := 0, run := 0 })
  srcRecord s ((s1.flagT d 3).event 0x0103 d d (s.rg .tickMeasRate d)) d

/-- The domain goes to OFF at once. -/
def State.toOff (s : State) (d : Nat) : State :=
  srcRecord s ((s.portsStop d).updTd d (fun t =>
    { t with mon := .off, stopReq := false, freeRun := false, srcPend := none, run := 0, runOpen := false })) d

/-- Start at a new rate with the source the registers name (01 R28, R32). -/
def State.takeSrc (s : State) (d : Nat) : State :=
  let u := s.srcRegs d
  (s.updTd d (fun t =>
    { t with srcUse := u, srcPend := none, edges := 0, ivFrom := none, hist := [], base16 := s.nominal16 d
             held16 := s.nominal16 d, phaseErr := 0 })).setRate d (s.nominal16 d)

/-! ### Edges -/

/-- The divider of R529: whether this pin edge is an edge of the train, and the domain after. -/
def TickDom.divide (t : TickDom) : Bool × TickDom :=
  let m := 2 ^ t.srcUse.mult
  if !((t.srcUse.src == 1 || t.srcUse.src == 2) && decide (m ≠ 1)) then (true, t)
  else if !t.divOn then (true, { t with divOn := true, divPh := 0 })
  else
    let p := (t.divPh + 1) % m
    (p == 0, { t with divPh := p })

def State.discard (s : State) (d : Nat) : State := (s.inc .tickDiscCnt d).flagT d 0

def within2 (ppm : Nat) : Bool := decide (980000 ≤ ppm) && decide (ppm ≤ 1020000)

/-- Whether the source's servo lets edges be accepted (01 R27): always, but for PTP. -/
def State.srcServo (s : State) (d : Nat) : Bool :=
  match (s.td d).srcUse.src with
  | 3 => (match Tab.get? s.ptp 0 with | some p => p.locked | none => false)
  | 4 => (match Tab.get? s.ptp 1 with | some p => p.locked | none => false)
  | _ => true

/-- Whether the source is judged by its servo. -/
def State.srcPtp (s : State) (d : Nat) : Bool := (s.td d).srcUse.src == 3 || (s.td d).srcUse.src == 4

/-- An edge of the source after division (01 R27, R29, R30): `off` is its distance from the nearest predicted edge and
`iv` its interval from the edge before, both in ppm of a period. -/
def State.edge (s : State) (d : Nat) (off : Int) (iv : Nat) : State :=
  let t := s.td d
  let s1 := if t.ticking then s.updTd d (fun t => { t with edges := t.edges + 1 }) else s
  let ptp := s.srcPtp d
  let good := if ptp then s.srcServo d else within2 iv
  match t.mon with
  | .locked =>
    if (if ptp then s.srcServo d else decide (off.natAbs ≤ 50000)) then (s1.updTd d (fun t => { t with missed := 0 })).steer d
    else s1.discard d
  | .holdover =>
    if good then s1.updTd d (fun t => { t with run := t.run + 1 })
    else (s1.updTd d (fun t => { t with run := 0 })).discard d
  | .acquire =>
    s1.updTd d (fun t => if !t.runOpen then { t with runOpen := true, run := 0 }
      else if good then { t with run := t.run + 1 } else { t with run := 0 })
  | _ => s1

/-- SOURCE_EDGE. The edge of a LINK marker that was discarded on arrival is a raw edge only (01 R27, R30; log 44). -/
def State.sourceEdge (s : State) (d : Nat) (off : Int) (iv : Nat) : State :=
  let r := (s.td d).divide
  let s1 := s.setTd d r.2
  if (s.td d).srcUse.src == 5 && (s.td d).skipEdge then
    s.updTd d (fun t => { t with skipEdge := false, edges := if t.ticking then t.edges + 1 else t.edges })
  else if r.1 then s1.edge d off iv else s1

/-- A predicted edge with no accepted edge (01 R29); the held rate is taken before the first (R32). -/
def State.edgeMissed (s : State) (d : Nat) : State :=
  if (s.td d).mon = .locked then
    ((s.holdRate d).updTd d (fun t => { t with missed := t.missed + 1 })).inc .tickMissCnt d
  else s

/-- TICK_HOLDOVER. -/
def State.holdover (s : State) (d : Nat) : State :=
  if (s.td d).mon = .locked ∧ 16 ≤ (s.td d).missed then s.toHoldover d else s

/-- Source loss of a PTP or LINK source (01 R27). -/
def State.sourceLost (s : State) (d : Nat) : State := if (s.td d).mon = .locked then s.toHoldover d else s

/-- TICK_LOCKED (01 R27, R31, R32): from ACQUIRE a LINK source sets the tick index, so that the next tick follows the
last marker. The spec says only 'at lock': on relock from HOLDOVER nothing is loaded, since R26 drops and inserts no tick, and
on a lock from the ACQUIRE of R28 the index jumps to the marker's while ticks run on (log 103). -/
def State.locked (s : State) (d : Nat) : State :=
  let t := s.td d
  if 64 ≤ t.run then
    match t.mon with
    | .acquire =>
      let nx := match t.mark with | some m => if t.srcUse.src = 5 then m + 1 else t.next | none => t.next
      ((s.updTd d (fun t => { t with next := nx, issued := t.issued || t.mark.isSome })).steer d).toLocked d
    | .holdover => (s.steer d).toLocked d
    | _ => s
  else s

/-- MONITOR_INTERVAL_END: an interval of 1,024 ticks that began at an index divisible by 1,024 ends (01 R30, R31). -/
def State.intervalEnd (s : State) (d : Nat) : State :=
  let t := s.td d
  if t.ticking && t.issued && t.ivFrom == some (t.cnt - 1024) && decide (1024 ≤ t.cnt) then
    let n := s.nominal16 d
    let r := t.edges * t.rate16
    let s1 := s.setRg .tickMeasRate d (r / 1024 % 2 ^ 24)
    let out := decide (512 ≤ t.edges) && (t.mon == .locked || t.mon == .holdover)
      && (decide (r * 100 < n * 1024 * 98) || decide (n * 1024 * 102 < r * 100))
    let s2 := s1.updTd d (fun t => { t with edges := 0, outRange := out, ivFrom := some t.cnt })
    if out && t.outRange then s2.rateStep d else s2
  else s

/-! ### Control -/

/-- TICK_EN_SET (01 R31, R32). -/
def State.tickEn (s : State) (d : Nat) : State :=
  let s1 := s.setFld .tickCtl d 0 0 1
  match (s.td d).mon with
  | .off => if s.fld .tickCtl d 4 2 = 0 then (s1.takeSrc d).toLocked d else (s1.takeSrc d).toAcquire d false
  | _ => s1.updTd d (fun t => { t with stopReq := false })

/-- TICK_EN_CLEAR (01 R31, R32). -/
def State.tickDis (s : State) (d : Nat) : State :=
  let s1 := s.setFld .tickCtl d 0 0 0
  if (s.td d).ticking then s1.updTd d (fun t => { t with stopReq := true }) else s1.toOff d

/-- TICK_RESTART (01 R31). -/
def State.tickRestart (s : State) (d : Nat) : State :=
  if (s.td d).mon = .stopped then (s.takeSrc d).toAcquire d false else s

def State.tickCfgErr (s : State) (d : Nat) : State := s.flagT d 5

/-- A new source (01 R28): at the next frame tick while ticks are issued, at once in an ACQUIRE without them, else when
the domain starts (log 38). -/
def State.newSrc (s : State) (d : Nat) (u : TickSrc) : State :=
  if (s.td d).ticking then s.updTd d (fun t => { t with srcPend := some u })
  else if (s.td d).mon = .acquire then (s.takeSrc d).toAcquire d false
  else s

/-- TICK_SRC_CHANGE (01 R28, R34). -/
def State.srcChange (s : State) (d src mult link : Nat) : State :=
  if 6 ≤ src ∨ mult = 3 then s.tickCfgErr d
  else if s.srcRegs d = ⟨src, mult, link⟩ then s
  else (((s.setFld .tickCtl d 4 2 src).setFld .tickCtl d 6 5 mult).setFld .tickCtl d 12 7 link).newSrc d ⟨src, mult, link⟩

/-- The frame tick takes up a pending source: ACQUIRE with the generator running on (01 R28, R32). -/
def State.applySrc (s : State) (d : Nat) : State :=
  match (s.td d).srcPend with
  | none => s
  | some u =>
    if (s.td d).mon = .stepPending then s
    else (s.updTd d (fun t => { t with srcUse := u, srcPend := none })).toAcquire d true

def frameDivOk (v : Nat) : Bool := decide (64 ≤ v) && decide (v ≤ 4096) && v % 64 == 0

/-- TICK_FRAME_WRITE (01 R22, R34). -/
def State.frameWrite (s : State) (d v : Nat) : State :=
  let f := bitsOf v 12 0
  if frameDivOk f then
    (s.setFld .tickFrame d 12 0 f).updTd d (fun t => { t with framePend := if f = t.frameDiv then none else some f })
  else s.tickCfgErr d

/-- SOURCE_EDGE (01 R29). -/
def execSourceEdge (d : Dom) (off : Int) (iv : Nat) (s : State) : Host.Outcome State Fault Refusal :=
  done (s.sourceEdge d.val off iv)
/-- PREDICTED_EDGE_MISSED (01 R29). -/
def execPredictedEdgeMissed (d : Dom) (s : State) : Host.Outcome State Fault Refusal := done (s.edgeMissed d.val)
/-- TICK_HOLDOVER (01 R31). -/
def execTickHoldover (d : Dom) (s : State) : Host.Outcome State Fault Refusal := done (s.holdover d.val)
/-- TICK_LOCKED (01 R31). -/
def execTickLocked (d : Dom) (s : State) : Host.Outcome State Fault Refusal := done (s.locked d.val)
/-- MONITOR_INTERVAL_END (01 R30). -/
def execMonitorIntervalEnd (d : Dom) (s : State) : Host.Outcome State Fault Refusal := done (s.intervalEnd d.val)
/-- TICK_EN_SET (01 R31). -/
def execTickEnSet (d : Dom) (s : State) : Host.Outcome State Fault Refusal := done (s.tickEn d.val)
/-- TICK_EN_CLEAR (01 R32). -/
def execTickEnClear (d : Dom) (s : State) : Host.Outcome State Fault Refusal := done (s.tickDis d.val)
/-- TICK_SRC_CHANGE (01 R28). -/
def execTickSrcChange (d : Dom) (src : BitVec 3) (mult : BitVec 2) (link : BitVec 6) (s : State) :
    Host.Outcome State Fault Refusal := done (s.srcChange d.val src.toNat mult.toNat link.toNat)
/-- TICK_RESTART (01 R31). -/
def execTickRestart (d : Dom) (s : State) : Host.Outcome State Fault Refusal := done (s.tickRestart d.val)
/-- TICK_FRAME_WRITE (01 R22). -/
def execTickFrameWrite (d : Dom) (v : Word) (s : State) : Host.Outcome State Fault Refusal := done (s.frameWrite d.val v.toNat)

end Sys2Proof.Machine
end

