-- ==== Sys2Proof/Machine/Streams.lean ====
section
/-! DEFINITION. Streams and voices: opening (02 R53, R54), commands (02 R56, R73, R531, R532), features and restart marks
(02 R62, R63, 07 R185 to R193, 15 R385), and the voice table (02 R50, R51). -/

namespace Sys2Proof.Machine

/-! ### Voices -/

def voiceCount : Nat := 16384

/-- Check 2 of an open: a valid entry that is read; its block is also read for the write of REFCNT (12 R311). -/
def State.voiceOk (s : State) (v : Nat) : Bool :=
  decide (v < voiceCount) && (s.voice v).valid && !s.voiceBad v && (s.partBad (s.voiceAddr v + 0x2C) 4).isNone

/-- The fields of a VOICE_SET payload (02 R50). -/
def entryOk (x : Voice) : Bool :=
  rateOk x.rate && decide (x.policy < 3) && decide (x.embedFmt < 2)
    && (x.rank == 0 || (decide (4 ≤ x.rank) && decide (x.rank ≤ 32)))
    && decide (1 ≤ x.embedLen) && decide (x.embedLen ≤ 1024)
    && ((x.rank == 0) == (x.adapterLen == 0))
    && x.embedAddr % 64 == 0 && (x.rank == 0 || x.adapterAddr % 64 == 0)
    && inLpddr x.embedAddr (2 * x.embedLen) && (x.rank == 0 || inLpddr x.adapterAddr x.adapterLen)

/-- The bytes under CONTENT_HASH (02 R48). -/
def State.voiceBytes (s : State) (x : Voice) : List Byte :=
  s.mem.readN x.embedAddr (2 * x.embedLen) ++ (if x.rank = 0 then [] else s.mem.readN x.adapterAddr x.adapterLen)

def State.hashBad (s : State) (x : Voice) : Bool :=
  !(s.badIn x.embedAddr (2 * x.embedLen)).isEmpty || (x.rank != 0 && !(s.badIn x.adapterAddr x.adapterLen).isEmpty)

/-- The checks of VOICE_SET, in order (02 R50). -/
def State.voiceSetCheck (s : State) (v : Nat) (e : List Byte) : Nat :=
  firstFail [
    (decide (v < voiceCount), 0x103),
    ((s.voice v).refcnt == 0, 0x104),
    (entryOk (parseVoice e), 0x103),
    (!s.hashBad (parseVoice e), 0x103)]

/-- Whether a VOICE_SET passes the checks before its hash, which reads embedding and adapter (02 R50). -/
def State.voiceSetReads (s : State) (v : Nat) (e : List Byte) : Bool :=
  decide (v < voiceCount) && (s.voice v).refcnt == 0 && entryOk (parseVoice e)

/-- An accepted VOICE_SET writes the entry. -/
def State.voiceWrite (s : State) (v : Nat) (e : List Byte) : State :=
  let gen := ((s.voice v).gen + 1) % 2 ^ 32
  let bs := [1#8] ++ e.drop 1 ++ leBytes 4 gen ++ leBytes 4 0 ++ sha256 (s.voiceBytes (parseVoice e)) ++ List.replicate 48 0#8
  let s1 := s.poke (s.voiceAddr v) bs
  { s1 with vcache := s1.vcache.filter (fun x => x != v) }

def State.voiceSetRep (s : State) (v : Nat) (e : List Byte) : Rep :=
  let c := s.voiceSetCheck v e
  let x := parseVoice e
  if c ≠ 0 then
    .no (if s.voiceSetReads v e && s.hashBad x then
      (if !(s.badIn x.embedAddr (2 * x.embedLen)).isEmpty then s.failedRead x.embedAddr (2 * x.embedLen) 9
       else s.failedRead x.adapterAddr x.adapterLen 9) else s) c
  else
    let s1 := s.voiceWrite v e
    .ok s1 (leBytes 4 (s1.voice v).gen ++ leBytes 4 0 ++ (s1.voice v).hash)

/-- VOICE_CLEAR. The spec does not say what it answers where the entry's block cannot be read: VOICE_INVALID, as of VOICE_SET (log
117). -/
def State.voiceClearRep (s : State) (v : Nat) : Rep :=
  let c := firstFail [(decide (v < voiceCount), 0x103), ((s.voice v).refcnt == 0, 0x104)]
  if c ≠ 0 then .no s c
  else if !(s.voice v).valid then .ok s
  else if (s.partBad (s.voiceAddr v) 1).isSome then .no (s.failedRead (s.voiceAddr v) 1 9) 0x103
  else
    let s1 := s.poke (s.voiceAddr v) [0#8]
    .ok { s1 with vcache := s1.vcache.filter (fun x => x != v) }

/-! ### Opening (02 R53) -/

/-- The models of an open that check 3 accepts (02 R53, 10 R254). -/
def State.openModels (s : State) (p v : Nat) (be : Bool) : Option (Model × Model) :=
  match s.voiceModels p v with
  | some m =>
    if m.1.usable && m.2.usable && m.1.ctx == m.2.ctx
        && (be || (!(s.ctx m.2.ctx).be && (s.ctx m.2.ctx).state == .resident)) then some m else none
  | none => none

/-- QDEPTH and PRIME in force: 0 selects the defaults (02 SDIR_QDEF). -/
def State.openQueue (s : State) (p : OpenParams) : Nat × Nat :=
  let q := if p.qdepth = 0 then s.fld .sdirQdef 0 10 0 else p.qdepth.toNat
  (q, if p.prime = 0 then min (s.fld .sdirQdef 0 26 16) q else p.prime.toNat)

/-- Whether another open stream names the destination. -/
def State.destFree (s : State) (dest : Nat) : Bool := (s.streamsWhere (fun x => x.dir.dest == dest)).isEmpty

/-- RTP stream settings (15 HOST_RTP_CTL): enabled, domain, port, channels. -/
def State.rtpOn (s : State) (r : Nat) : Bool := s.bit .hostRtpCtl r 0
def State.rtpDom (s : State) (r : Nat) : Nat := s.fld .hostRtpCtl r 2 2
def State.rtpPort (s : State) (r : Nat) : Nat := s.fld .hostRtpCtl r 1 1
def State.rtpChannels (s : State) (r : Nat) : Nat := s.fld .hostRtpCtl r 8 6 + 1

/-- Whether a mirrored stream may name the destination (16 R419). -/
def State.mirrorDest (s : State) (dom dest : Nat) : Bool :=
  if dest < 0x100 then s.portClk (dest / 32) == 0
  else if dest = 0x100 then true
  else (s.td dom).srcUse.src == 3 + s.rtpPort ((dest - 0x8000) / 8)

/-- The destinations that check 6 accepts (02 R55, 14 R355, 15 R386, R394, 16 R419). -/
def State.destOk (s : State) (be : Bool) (p dom d dest : Nat) : Bool :=
  (!be || dest == 0x100)
    && (if dest < 0x100 then
          s.txMap (dest / 32) (dest % 32) == 1 && s.destFree dest && s.portDom (dest / 32) == dom && s.portPdiv (dest / 32) == d
        else if dest = 0x100 then true
        else if 0x8000 ≤ dest ∧ dest < 0xA000 then
          let r := (dest - 0x8000) / 8
          s.rtpOn r && decide ((dest - 0x8000) % 8 < s.rtpChannels r) && s.destFree dest && s.rtpDom r == dom && d == 1
        else false)
    && (!s.mirrors p || s.mirrorDest dom dest)

def queueOk (q pr : Nat) : Bool := decide (16 ≤ q) && decide (q ≤ 1024) && q % 16 == 0 && decide (1 ≤ pr) && decide (pr ≤ q)

def grpOf (g : Half) : Option Nat := if g = 0xFFFF#16 then none else some g.toNat

/-- Check 7 of R53. -/
def State.openGroup (s : State) (p : OpenParams) (d : Nat) : Bool :=
  match grpOf p.group with
  | none => true
  | some g => p.cls != 1#8 && s.groupOk g 131072 p.domain.toNat d p.dest.toNat

/-- The phase that an alignment group fixes for a new member. -/
def State.openPhase (s : State) (p : OpenParams) : Option Nat := (grpOf p.group).bind (fun g => s.groupPhase g 131072)

/-- What the checks of R53 find: a refusal, or what the open needs. `bw` tells a refusal by split bandwidth. -/
inductive OpenRes where
  | no (st : Nat) (bw : Bool)
  | be (aco voc : Model)
  | lc (aco voc : Model) (pl : Place)
  deriving DecidableEq, Repr

/-- Checks 1, 2, PITCH_NONE and 3. -/
def State.openHead (s : State) (p : OpenParams) : Nat :=
  firstFail [
    (s.freeIndex.isSome, 0x102),
    (s.voiceOk p.voice.toNat, 0x103),
    ((s.pitch p.pitch.toNat).built, 0x405),
    ((s.openModels p.pitch.toNat p.voice.toNat (p.cls == 1#8)).isSome, 0x105)]

/-- Checks 4 to 7. -/
def State.openTail (s : State) (p : OpenParams) : Nat :=
  let v := s.voice p.voice.toNat
  let q := s.openQueue p
  firstFail [
    (s.pitchDom p.pitch.toNat == p.domain.toNat, 0x106),
    (rate441 v.rate == s.bit .tickCtl p.domain.toNat 1, 0x107),
    (queueOk q.1 q.2 && s.destOk (p.cls == 1#8) p.pitch.toNat p.domain.toNat (rateDiv v.rate) p.dest.toNat, 0x108),
    (s.openGroup p (rateDiv v.rate), 0x109)]

/-- The checks of R53. -/
def State.openCheck (s : State) (p : OpenParams) : OpenRes :=
  let h := s.openHead p
  if h ≠ 0 then .no h false
  else
    let t := s.openTail p
    if t ≠ 0 then .no t false
    else
      match s.openModels p.pitch.toNat p.voice.toNat (p.cls == 1#8) with
      | none => .no 0x105 false
      | some m =>
        if p.cls = 1#8 then .be m.1 m.2
        else
          match s.admission p.pitch.toNat p.domain.toNat (rateDiv (s.voice p.voice.toNat).rate) m.1 m.2 (s.openPhase p) with
          | .no st bw => .no st bw
          | .ok pl => .lc m.1 m.2 pl

/-- What a refused open counts (02 R53, 10 R267). -/
def State.openRefused (s : State) (p st : Nat) (bw : Bool) : State :=
  let s1 := (s.inc .sdirRefuseCnt).flag .sdirEvt 0 1
  if st = stTickFull || st = stChainBound then s1.admRefused p bw else s1

/-- A refused open; a read of its voice that failed is reported (12 R313, R314). -/
def State.openFailed (s : State) (p : OpenParams) (st : Nat) (bw : Bool) : State :=
  let v := p.voice.toNat
  let s1 := if st = 0x103 && decide (v < voiceCount) then
      (if !s.vcache.contains v then s.readVoice v else s.failedRead (s.voiceAddr v + 0x2C) 4 9) else s
  s1.openRefused p.pitch.toNat st bw

/-- The record and settings of a new stream (02 R54, R60); its EPOCH is DEV_EPOCH (15 R383, 17 R444). -/
def State.newStream (s : State) (p : OpenParams) (i sess cls quarter seed : Nat) : Stream :=
  let old := s.stream i
  let v := s.voice p.voice.toNat
  let q := s.openQueue p
  { Stream.blank with
    dir := { gen := old.dir.gen, state := .idle, be := p.cls == 1#8, laneCompat := false, endSeen := false,
             voice := p.voice.toNat, pitch := p.pitch.toNat, domain := p.domain.toNat, d := rateDiv v.rate, phase := 0,
             sampleIdx := 0, seed := seed, loc := .initial, cls := cls, quarter := quarter, slot := 0,
             group := grpOf p.group, qdepth := q.1, dest := p.dest.toNat, epoch := s.cfg.epoch },
    del := { Stream.blank.del with prime := q.2, startTick := p.startTick.toNat, sess := sess } }

/-- An accepted open (02 R54): the entry it takes, and the state. -/
def State.openStream (s : State) (p : OpenParams) (sess : Nat) (r : OpenRes) : Nat × State :=
  let i := s.freeIndex.getD 0
  let v := p.voice.toNat
  let t := (s.fetchVoice v).addRef v |>.dirWritten i
  let mk := fun (aco voc : Model) (q : Nat) =>
    s.newStream p i sess (classOf (512 + aco.stateBytes + voc.stateBytes)) q (streamSeed (s.voice v) p.seed.toNat)
  match r with
  | .no .. => (i, s)
  | .be aco voc =>
    (i, t.setStream i (mk aco voc ((s.quarters p.pitch.toNat).headD 0)))
  | .lc aco voc pl =>
    let s1 := t.setStream i (mk aco voc pl.quarter)
    let b := s1.formBatch p.pitch.toNat p.domain.toNat (rateDiv (s.voice v).rate) voc pl
    (i, b.2.joinBatch i b.1 aco.id)

def State.openReply (s : State) (i : Nat) : List Byte := leBytes 4 (s.handle i) ++ leBytes 1 (s.stream i).dir.phase ++ leBytes 3 0

/-- STREAM_OPEN. -/
def State.streamOpenRep (s0 : State) (p : OpenParams) (sess : Nat) : Rep :=
  let s := s0.openReads
  match s.openCheck p with
  | .no st bw => .no (s.openFailed p st bw) st
  | r =>
    let o := s.openStream p sess r
    .ok o.2 (o.2.openReply o.1)

/-! ### Commands on a stream -/

/-- Whether a close by ABORT or MOVE is under way. -/
def Stream.isClosing (x : Stream) : Bool := x.life.closing != .no

/-- The answer of R532 for pause, resume and group commands, where the stream's state takes none. -/
def Stream.refuse (x : Stream) : Nat :=
  if x.dir.state = .faulted then 0x111 else if x.dir.state = .drain || x.isClosing then 0x112 else 0

/-- Run a command on the stream a handle names, or refuse the handle (02 R46). Errors in its record are met first (12 R321). -/
def State.onHandle (s : State) (h : Nat) (f : State → Nat → Rep) : Rep :=
  let t := s.dirCheck (h % 2 ^ 17)
  match t.findHandle h with
  | none => .no t.stale 0x101
  | some i => f t i

/-- Mode DRAIN (02 R56, R532). -/
def State.closeDrain (s : State) (i : Nat) : Rep :=
  let x := s.stream i
  if x.dir.state = .faulted then .no s 0x111
  else if x.dir.state = .drain || x.isClosing then .ok s
  else .ok (s.updStream i (fun x => { x with dir := { x.dir with state := .drain } }))

/-- Mode ABORT: the queue is discarded; work in flight runs to its end and commits nothing (06 R166), then the close ends. -/
def State.closeAbort (s : State) (i : Nat) : State :=
  (s.deadRows i).updStream i (fun x =>
    { x with life := { x.life with closing := if x.life.closing = .no then .abort else x.life.closing },
             del := { x.del with queue := [], hostBuf := [], taking := false } })

/-- The streams a pause or resume applies to (02 R73). -/
def State.withGroup (s : State) (i : Nat) : List Nat :=
  match (s.stream i).dir.group with
  | some g => if (s.group g).lockstep then s.members g else [i]
  | none => [i]

def Stream.canPause (x : Stream) : Bool :=
  !x.isClosing && (x.dir.state == .idle || x.dir.state == .run || x.dir.state == .ended)

def Stream.pause (x : Stream) : Stream :=
  if x.canPause then { x with dir := { x.dir with state := .paused }, del := { x.del with taking := false } } else x

def State.pauseRep (s : State) (i : Nat) : Rep :=
  let x := s.stream i
  if x.refuse ≠ 0 then .no s x.refuse
  else if x.dir.state = .paused then .ok s
  else .ok (s.each (s.withGroup i) (fun s j => s.updStream j Stream.pause))

/-- PAUSED to IDLE, with a residency dependence (03 R88). -/
def State.resume1 (s : State) (i : Nat) : State :=
  let x := s.stream i
  if x.dir.state = .paused && !x.isClosing then
    (s.updStream i (fun x => { x with dir := { x.dir with state := .idle } })).openDep i
  else s

def State.resumeRep (s : State) (i : Nat) : Rep :=
  let x := s.stream i
  if x.refuse ≠ 0 then .no s x.refuse
  else if x.dir.state = .paused then .ok (s.each (s.withGroup i) (fun s j => s.resume1 j))
  else .ok s

/-- The reserved place of a pending group change is given back. -/
def State.unreserve (s : State) (i : Nat) : State :=
  let drop := fun (b : Batch) => { b with reserved := b.reserved.filter (fun x => x != i) }
  ({ s with batches := s.batches.map drop }).dropBatches

/-- The pending change of a stream (02 R531). -/
def State.setPend (s : State) (i : Nat) (c : GrpChange) : State :=
  s.updStream i (fun x => { x with life := { x.life with grpPend := some c } })

/-- STREAM_SET_GROUP (02 R531). -/
def State.setGroupRep (s : State) (i : Nat) (g : Half) : Rep :=
  let x := s.stream i
  let d := x.dir
  if x.refuse ≠ 0 then .no s x.refuse
  else if d.be then .no s 0x109
  else
    let ok := match grpOf g with | none => true | some n => s.groupOk n i d.domain d.d d.dest
    if !ok then .no s 0x109
    else
      let ph := match (grpOf g).bind (fun n => s.groupPhase n i) with | some p => p | none => d.phase
      let s1 := s.unreserve i
      if ph = d.phase then .ok (s1.setPend i ⟨grpOf g, none, ph⟩)
      else
        match s1.voiceModels d.pitch d.voice with
        | none => .no s 0x105
        | some m =>
          match s1.admission d.pitch d.domain d.d m.1 m.2 (some ph) with
          | .no st bw => .no (s.admRefused d.pitch bw) st
          | .ok pl =>
            let b := s1.formBatch d.pitch d.domain d.d m.2 pl
            let s2 := b.2.updBatch b.1 (fun y => { y with reserved := addMember i y.reserved })
            .ok (s2.setPend i ⟨grpOf g, some b.1, ph⟩)

/-- STREAM_STATS (02 R61, 15 R386). -/
def State.statsRep (s : State) (i sess : Nat) (claim : Bool) : Rep :=
  let s1 := if claim then s.updStream i (fun x => { x with del := { x.del with sess := sess } }) else s
  .ok s1 (s1.stream i).record

/-! ### Restart marks -/

/-- A mark of a FEATURE: its position and seed (03 R97). -/
def markOf (m : DWord × DWord) : Nat × Option Nat :=
  (m.1.toNat % 2 ^ 63, if m.1.toNat / 2 ^ 63 = 1 then some m.2.toNat else none)

def putMark (m : Nat × Option Nat) : List (Nat × Option Nat) → List (Nat × Option Nat)
  | [] => [m]
  | x :: t =>
    if m.1 < x.1 then m :: x :: t
    else if m.1 = x.1 then (m.1, match m.2 with | some v => some v | none => x.2) :: t
    else x :: putMark m t

def putSeed (p sd : Nat) : List (Nat × Nat) → List (Nat × Nat)
  | [] => [(p, sd)]
  | x :: t => if p < x.1 then (p, sd) :: x :: t else if p = x.1 then (p, sd) :: t else x :: putSeed p sd t

/-- Frames of a stream from `f` on are computed afresh (07 R193). -/
def SFeat.discard (x : SFeat) (f : Nat) : SFeat :=
  let keep := fun (c : Chunk) => if f ≤ c.f0 then none else some { c with n := min c.n (f - c.f0) }
  { x with encoded := x.encoded.filter (fun e => decide (e.1 < f)), cond := x.cond.filter (fun e => decide (e.1 < f)),
           fNext := min x.fNext f, cut := min x.cut f, chunks := x.chunks.filterMap keep }

/-- Whether a chunk that covers frame `f` or a later one is encoded or in flight. -/
def State.workPast (s : State) (i f : Nat) : Bool :=
  let x := s.stream i
  let started := fun (c : Chunk) => c.encoded || (match c.exec.bind s.exec? with | some e => e.released | none => false)
  decide (f < x.feat.fNext) || x.feat.encoded.any (fun e => decide (f ≤ e.1)) || x.feat.cond.any (fun e => decide (f ≤ e.1))
    || x.feat.chunks.any (fun c => decide (f < c.f0 + c.n) && started c)

def State.redo (s : State) (p : Nat) : State := (s.inc .schedPreRedoCnt p).flag .schedPreEvt p 2

/-- Rows of frame and chunk work of a stream at frame `f` or later commit nothing. -/
def State.deadFrames (s : State) (i f : Nat) : State :=
  let kill := fun (r : Row) => if r.stream = i ∧ f ≤ r.pos then { r with live := false } else r
  let fix := fun (e : Exec) => if e.sub = .step then e else { e with rows := e.rows.map kill }
  { s with execs := s.execs.map fix }

/-- Chunk executions whose rows are all discarded end (09 R237). -/
def State.sweepChunks (s : State) : State :=
  let gone := fun (e : Exec) => e.sub == .chunk && !e.rows.any (fun r => r.live)
  let s1 : State := { s with execs := s.execs.filter (fun e => !(gone e && !e.released)) }
  s1.each (s1.execsWhere gone) (fun s id => s.cancelExec id)

/-- Where the carried state of a stream can be set: while a swap-in runs, its store entry, from which the slot is filled. -/
def State.stateHome (s : State) (i : Nat) : Option Nat :=
  let coming := s.swap.any (fun e => match e.2.cur with | some (.swapIn j _ _ _ fresh) => j == i && !fresh | _ => false)
  if (s.stream i).dir.loc == .moving && coming then some (s.storeAddr i) else s.stateAddr i

/-- FEATURE_POS goes back to a frame's first position if it was greater (07 R193), wherever the state lies. -/
def State.featureBack (s : State) (i pos : Nat) : State :=
  match s.stateHome i with
  | some a => if pos < s.mem.leN (a + 0x108) 8 then s.poke (a + 0x108) (leBytes 8 pos) else s
  | none => s

/-- The work past `S_f` is discarded (07 R193). -/
def State.redoFrames (s : State) (i f : Nat) : State :=
  if s.workPast i f then
    let s1 := ((s.deadFrames i f).sweepChunks).updStream i (fun x =>
      { x with feat := x.feat.discard f, life := { x.life with deferred := min x.life.deferred f } })
    (s1.featureBack i (f * s.streamHop (s.stream i))).redo (s.stream i).dir.pitch
  else s

/-- A chunk that is cut and not yet started is split where a restart mark falls into it: its later frames get an execution of
their own (07 R192). -/
def State.splitChunk (s : State) (i f : Nat) : State :=
  match find1 (s.stream i).feat.chunks (fun c => decide (c.f0 < f) && decide (f < c.f0 + c.n) && !c.encoded) with
  | none => s
  | some c =>
    match c.exec.bind s.exec? with
    | none => s
    | some e =>
      let past := fun (r : Row) => r.stream == i && decide (f ≤ r.pos)
      let e2 := { e with id := s.nextId, rows := e.rows.filter past }
      let fix := fun (d : Chunk) =>
        if d = c then [{ d with n := f - d.f0 }, { d with f0 := f, n := d.f0 + d.n - f, exec := some s.nextId }] else [d]
      let s1 := s.updExec e.id (fun x => { x with rows := x.rows.filter (fun r => !past r) })
      ({ s1 with nextId := s1.nextId + 1, execs := s1.execs ++ [e2] }).updStream i (fun x =>
        { x with feat := { x.feat with chunks := x.feat.chunks.flatMap fix } })

/-- Whether the step for the stream's next sample is in flight. -/
def State.stepInFlight (s : State) (i : Nat) : Bool :=
  s.execs.any (fun e => e.sub == .step && !e.cancelled && e.rows.any (fun r => r.stream == i && r.live && r.pos == (s.stream i).dir.sampleIdx))

/-- The step in flight commits nothing and is released again (07 R193). -/
def State.redoStep (s : State) (i : Nat) : State :=
  let kill := fun (r : Row) => if r.stream = i then { r with live := false } else r
  let fix := fun (e : Exec) => if e.sub = .step then { e with rows := e.rows.map kill } else e
  let s1 : State := { s with execs := s.execs.map fix }
  (s1.updStream i (fun x => { x with life := { x.life with exec := none } })).redo (s.stream i).dir.pitch

def State.markRefused (s : State) (i st pos : Nat) : State := s.event 0x0206 (s.handle i) (s.stream i).dir.domain st pos

/-- One mark of a FEATURE message (02 R63, 07 R192, R193): its status and the state. -/
def State.mark (s : State) (i : Nat) (m : Nat × Option Nat) : Nat × State :=
  let x := s.stream i
  if m.1 < x.dir.sampleIdx then (0x10C, (s.flag .sdirEvt 0 4).markRefused i 0x10C m.1)
  else if !(x.feat.marks.any (fun k => k.1 == m.1)) && decide (64 ≤ x.feat.marks.length) then (0x10D, s.markRefused i 0x10D m.1)
  else
    let h := s.streamHop x
    let sf := ceilDiv m.1 h
    let s1 := s.updStream i (fun x =>
      { x with feat := { x.feat with marks := putMark m x.feat.marks, bounds := addMember sf x.feat.bounds,
                                     seeds := match m.2 with | some v => putSeed m.1 v x.feat.seeds | none => x.feat.seeds } })
    let s2 := (s1.redoFrames i sf).splitChunk i sf
    let s3 := if m.1 = x.dir.sampleIdx && s2.stepInFlight i then s2.redoStep i else s2
    (0, s3.applyDue i)

/-- The marks in order: how many were refused, the first status, the state. -/
def State.marks (i : Nat) : List (Nat × Option Nat) → State → Nat × Nat × State
  | [], s => (0, 0, s)
  | m :: ms, s =>
    let r := s.mark i m
    let t := State.marks i ms r.2
    if r.1 = 0 then t else (t.1 + 1, r.1, t.2.2)

/-! ### Feature frames -/

def round64 (n : Nat) : Nat := (n + 63) / 64 * 64

/-- Frames a stream holds that frame work has not consumed (15 R385). -/
def SFeat.held (x : SFeat) : Nat := x.nextE - x.fNext

/-- Bytes of the feature area in use. -/
def State.featureUsed (s : State) : Nat :=
  (s.openStreams.map (fun e => e.2.feat.held * (match s.voiceModels e.2.dir.pitch e.2.dir.voice with
    | some m => round64 (s.params m.1).frameBytes
    | none => 0))).sum

def State.featureRoom (s : State) : Nat := match s.cfg.feature with | some a => a.size | none => 0

/-- FEATURE_BYTES of the acoustic image of a stream. -/
def State.frameBytes (s : State) (i : Nat) : Nat :=
  match s.voiceModels (s.stream i).dir.pitch (s.stream i).dir.voice with
  | some m => (s.params m.1).frameBytes
  | none => 0

/-- Frames of a message that are new. -/
def newFrames (e first cnt : Nat) : Nat := first + cnt - max e first

/-- The checks 2 to 5 of R385. -/
def State.featureCheck (s : State) (i : Nat) (m : FeatureMsg) : Nat :=
  let x := s.stream i
  let n := newFrames x.feat.nextE m.first.toNat m.frames.length
  firstFail [
    (x.dir.state != .faulted, 0x111),
    (x.dir.state != .drain && !x.isClosing, 0x112),
    (m.frameBytes.toNat == s.frameBytes i, 0x10F),
    (decide (m.first.toNat ≤ x.feat.nextE), 0x10E),
    (n == 0 || (decide (x.feat.held + n ≤ 131072)
      && decide (s.featureUsed + n * round64 (s.frameBytes i) ≤ s.featureRoom)), 0x110)]

/-- Store frames from number `f` on. -/
def putFrames : Nat → List (List Byte) → Tab (List Byte) → Tab (List Byte)
  | _, [], t => t
  | f, b :: bs, t => putFrames (f + 1) bs (Tab.set t f b)

/-- RUN to ENDED once the last sample before END is computed (02 R56). -/
def State.endCheck (s : State) (i : Nat) : State :=
  let x := s.stream i
  match x.feat.endAt with
  | none => s
  | some e =>
    if x.dir.state = .run ∧ e * s.streamHop x ≤ x.dir.sampleIdx then
      (s.updStream i (fun x => { x with dir := { x.dir with state := .ended } })).event 0x0202 (x.handle i) x.dir.domain
    else s

/-- The frames of a message are stored; later frames end an END in force (15 R385). -/
def State.storeFrames (s : State) (i : Nat) (m : FeatureMsg) : State :=
  let x := s.stream i
  let e := x.feat.nextE
  let fresh := m.frames.drop (e - m.first.toNat)
  if fresh.isEmpty then s
  else
    let back := if x.dir.state = .ended then SState.run else x.dir.state
    (s.updStream i (fun x =>
      { x with dir := { x.dir with state := back, endSeen := false },
               feat := { x.feat with frames := putFrames e fresh x.feat.frames, nextE := e + fresh.length, endAt := none } })).openDep i

def State.putEnd (s : State) (i : Nat) : State :=
  (s.updStream i (fun x => { x with dir := { x.dir with endSeen := true }, feat := { x.feat with endAt := some x.feat.nextE } })).endCheck i

/-- What an accepted FEATURE does (15 R385). -/
def State.featureRep (s : State) (i : Nat) (m : FeatureMsg) : Rep :=
  let c := s.featureCheck i m
  if c ≠ 0 then .no s c
  else
    let n := newFrames (s.stream i).feat.nextE m.first.toNat m.frames.length
    let r := State.marks i (m.marks.map markOf) s
    let s1 := r.2.2.storeFrames i m
    let s2 := if m.endFlag then s1.putEnd i else s1
    .ok s2 (leBytes 4 n ++ leBytes 2 r.1 ++ leBytes 2 r.2.1)

/-! ### Chunks (07 R185 to R188) -/

/-- The chunk length in force in a Pitch, in positions. -/
def State.chunkLen (s : State) (p : Nat) (aco : Model) : Nat := min (256 * 2 ^ (s.pitch p).chunkCur) (s.params aco).chunkLen

/-- Chunks cut and not yet consumed by frame work; the parts of a split chunk are one. -/
def SFeat.window (x : SFeat) : Nat := ((x.chunks.filter (fun c => decide (x.fNext < c.f0 + c.n))).map (fun c => c.whole)).eraseDups.length

/-- The length in frames of the chunk to cut now; none if no case of R185 holds. -/
def State.nextChunk (s : State) (i : Nat) : Option Nat :=
  let x := s.stream i
  match s.voiceModels x.dir.pitch x.dir.voice with
  | none => none
  | some m =>
    let h := (s.params m.1).hop
    let c := max 1 (s.chunkLen x.dir.pitch m.1 / h)
    let left := x.feat.nextE - x.feat.cut
    if !x.isOpen || x.dir.state == .faulted || x.isClosing || decide (2 ≤ x.feat.window) then none
    else if c ≤ left then some c
    else if x.feat.endAt.isSome && decide (0 < left) then some left
    else none

/-- The parts of a chunk of `n` frames from `f0` between the restart boundaries inside it, each as its first frame and length
(07 R192). -/
def chunkParts (bounds : List Nat) (f0 n : Nat) : List (Nat × Nat) :=
  let starts := f0 :: bounds.filter (fun b => decide (f0 < b) && decide (b < f0 + n))
  let ends := starts.drop 1 ++ [f0 + n]
  (starts.zip ends).map (fun p => (p.1, p.2 - p.1))

/-- A part of a chunk and its execution. -/
def State.cutPart (s : State) (i : Nat) (aco : Model) (whole dl : Nat) (p : Nat × Nat) : State :=
  let x := s.stream i
  let rows := (List.range p.2).map (fun k => ({ stream := i, pos := p.1 + k, live := true, set := [] } : Row))
  (s.newExec .chunk aco x.dir.quarter x.dir.be rows dl).updStream i (fun x =>
    { x with feat := { x.feat with cut := p.1 + p.2, chunks := x.feat.chunks ++ [⟨p.1, p.2, whole, false, some s.nextId, dl⟩] } })

/-- CHUNK_CUT: a chunk and its executions, one for each part, with a residency dependence on the halo ring (03 R88, 07 R185, R187,
R188, R192). -/
def State.chunkCut (s : State) (i : Nat) : State :=
  let x := s.stream i
  match s.nextChunk i, s.voiceModels x.dir.pitch x.dir.voice with
  | some n, some m =>
    let f0 := x.feat.cut
    (s.openDep i).each (chunkParts x.feat.bounds f0 n) (fun t p => t.cutPart i m.1 f0 (s.chunkDeadline i f0) p)
  | _, _ => s

/-! ### Ends of closes -/

/-- Whether nothing of the stream is in flight: no step, no swap, and no capture whose frame tick has passed (03 R100). -/
def State.atRest (s : State) (i : Nat) : Bool := (s.stream i).life.exec.isNone && !s.swapping i && !(s.stream i).capturing

/-- Where STREAM_DATA of a stream goes (15 R386, 19 R499). -/
def State.dataSess (s : State) (x : Stream) : Nat := if s.replay.active then s.replay.session else x.del.sess

/-- A host-return buffer as STREAM_DATA: FP32 samples, in REPLAY by sample index (15 R386, 19 R499). -/
def State.sendHostBuf (s : State) (i : Nat) : State :=
  let x := s.stream i
  let n := x.del.hostBuf.length
  if n = 0 then s
  else
    let pay := leBytes 4 (x.handle i) ++ leBytes 1 (if s.replay.active then 2 else 0) ++ leBytes 3 0 ++ leBytes 8 x.del.hostFirst ++ leBytes 4 n ++ leBytes 4 0
      ++ x.del.hostBuf.flatMap (leBytes 4)
    (s.sendMsg (s.dataSess x) 0xF1 0 0 s.epoch pay).updStream i (fun x =>
      { x with del := { x.del with hostBuf := [], hostFirst := x.del.hostFirst + n, flush := false } })

/-- STREAM_DRAINED (02 R56). -/
def State.drained (s : State) (i : Nat) : State :=
  let x := s.stream i
  if x.dir.state = .drain && x.del.queue.isEmpty && s.atRest i then (s.sendHostBuf i).finishClose i else s

/-- STREAM_ABORT_DONE (02 R56). -/
def State.abortDone (s : State) (i : Nat) : State :=
  if (s.stream i).isOpen && (s.stream i).isClosing && s.atRest i then s.finishClose i else s

/-! ### Meanings -/

/-- STREAM_OPEN (02 R53). -/
def execStreamOpen (h : Hdr) (p : OpenParams) (s : State) : Host.Outcome State Fault Refusal :=
  done (runMsg (.streamOpen h p) (fun s => s.streamOpenRep p h.session) s)
/-- STREAM_CLOSE mode DRAIN (02 R56). -/
def execStreamCloseDrain (h : Hdr) (x : Word) (s : State) : Host.Outcome State Fault Refusal :=
  done (runMsg (.streamCloseDrain h x) (fun s => s.onHandle x.toNat State.closeDrain) s)
/-- STREAM_CLOSE mode ABORT (02 R56). -/
def execStreamCloseAbort (h : Hdr) (x : Word) (s : State) : Host.Outcome State Fault Refusal :=
  done (runMsg (.streamCloseAbort h x) (fun s => s.onHandle x.toNat (fun s i => .ok (s.closeAbort i))) s)
/-- STREAM_DRAINED (02 R56). -/
def execStreamDrained (i : StreamNo) (s : State) : Host.Outcome State Fault Refusal := done (s.drained i.val)
/-- STREAM_ABORT_DONE (02 R56). -/
def execStreamAbortDone (i : StreamNo) (s : State) : Host.Outcome State Fault Refusal := done (s.abortDone i.val)
/-- STREAM_PAUSE (02 R56). -/
def execStreamPause (h : Hdr) (x : Word) (s : State) : Host.Outcome State Fault Refusal :=
  done (runMsg (.streamPause h x) (fun s => s.onHandle x.toNat State.pauseRep) s)
/-- STREAM_RESUME (02 R56). -/
def execStreamResume (h : Hdr) (x : Word) (s : State) : Host.Outcome State Fault Refusal :=
  done (runMsg (.streamResume h x) (fun s => s.onHandle x.toNat State.resumeRep) s)
/-- STREAM_SET_GROUP (02 R531). -/
def execStreamSetGroup (h : Hdr) (x : Word) (g : Half) (s : State) : Host.Outcome State Fault Refusal :=
  done (runMsg (.streamSetGroup h x g) (fun s => s.onHandle x.toNat (fun s i => s.setGroupRep i g)) s)
/-- STREAM_STATS (02 R61). -/
def execStreamStats (h : Hdr) (x : Word) (claim : Bool) (s : State) : Host.Outcome State Fault Refusal :=
  done (runMsg (.streamStats h x claim) (fun s => s.onHandle x.toNat (fun s i => s.statsRep i h.session claim)) s)
/-- VOICE_SET (02 R50). -/
def execVoiceSet (h : Hdr) (v : Half) (e : List Byte) (s : State) : Host.Outcome State Fault Refusal :=
  done (runMsg (.voiceSet h v e) (fun s => s.voiceSetRep v.toNat e) s)
/-- VOICE_CLEAR (02 R50). -/
def execVoiceClear (h : Hdr) (v : Half) (s : State) : Host.Outcome State Fault Refusal :=
  done (runMsg (.voiceClear h v) (fun s => s.voiceClearRep v.toNat) s)
/-- FEATURE (15 R385). -/
def execFeature (h : Hdr) (m : FeatureMsg) (s : State) : Host.Outcome State Fault Refusal :=
  done (runMsg (.feature h m) (fun s => s.onHandle m.handle.toNat (fun s i => s.featureRep i m)) s)
/-- CHUNK_CUT (07 R185). -/
def execChunkCut (i : StreamNo) (s : State) : Host.Outcome State Fault Refusal := done (s.chunkCut i.val)

end Sys2Proof.Machine
end

