-- ==== Sys2Proof/Machine/Tiles.lean ====
section
/-! DEFINITION. What the tiles compute: Square passes (05 R134 to R141), gate programs (04 R119 to R123), the expansion
engine (08 R195 to R201), noise fills (06 R156 to R167) and mark decoding (08 R212 to R218). Working-region addresses of
argument blocks are relative to the context's share (10 R255). -/

namespace Sys2Proof.Machine

open Sys2Proof.Config (WFmt AFmt OFmt)

/-! ### Where an execution works -/

def State.execShare (s : State) (e : Exec) : Nat := s.shareBase e.ctx e.quarter

def State.execModel (s : State) (e : Exec) : Option Model := s.model e.pitch e.model

/-- The base of the model state that the subgraph carries: the vocoder's for a step, the acoustic's otherwise (03 R77). -/
def State.rowState (s : State) (e : Exec) (r : Row) : Nat :=
  let x := s.stream r.stream
  s.slotAddr x + 0x200 + (if e.sub = .step then (s.stateLens x).1 else 0)

/-- Row number `k` with its place. -/
def Exec.rowsAt (e : Exec) : List (Row × Nat) := e.rows.zipIdx

/-! ### Square passes -/

def wIns (f : WFmt) : Nat := match f with | .mxfp4 | .mxe2m3 | .mxe3m2 => 128 | _ => 64

/-- Cycles of a pass (04 R114). -/
def passCycles (f : WFmt) : Nat := match f with | .bf16 | .fp16 => 256 | _ => 64

/-- Passes in one dispatch tile (04 R118). -/
def passesPerTile (f : WFmt) : Nat := 2048 / passCycles f

def signed (w v : Nat) : Int := if v < 2 ^ (w - 1) then (v : Int) else (v : Int) - 2 ^ w

/-- A finite value times a power of two. -/
def FVal.scale (v : FVal) (k : Int) : FVal := match v with | .fin s m e => .fin s m (e + k) | x => x

/-- W[i][j] of a tile (05 R136), its MX scale applied (05 R134). -/
def weightAt (f : WFmt) (t : List Byte) (i j : Nat) : FVal :=
  let b := fun (k : Nat) => byteAt t k
  let mx := fun (v : FVal) (base : Nat) =>
    let x := b (base + 4 * j + i / 32)
    if x = 255 then .nan else v.scale ((x : Int) - 127)
  let six := (numAt t (96 * j + 3 * (i / 4)) 3) / 2 ^ (6 * (i % 4)) % 64
  match f with
  | .e4m3 => fpDecode e4m3 (b (64 * j + i))
  | .e5m2 => fpDecode e5m2 (b (64 * j + i))
  | .int8 => ofInt (signed 8 (b (64 * j + i)))
  | .bf16 => fpDecode bf16 (numAt t (128 * j + 2 * i) 2)
  | .fp16 => fpDecode fp16 (numAt t (128 * j + 2 * i) 2)
  | .mxfp4 => mx (fpDecode e2m1 (b (64 * j + i / 2) / 16 ^ (i % 2) % 16)) 4096
  | .mxe2m3 => mx (fpDecode e2m3 six) 6144
  | .mxe3m2 => mx (fpDecode e3m2 six) 6144

/-- MX blocks of a tile whose scale is 0xFF (05 R148). -/
def nanScales (f : WFmt) (t : List Byte) : Nat :=
  let from' := fun (base : Nat) => ((t.drop base).take 256).countP (fun b => b == 255#8)
  match f with
  | .mxfp4 => from' 4096
  | .mxe2m3 | .mxe3m2 => from' 6144
  | _ => 0

def actSize (f : AFmt) : Nat := match f with | .bf16 | .fp16 => 2 | _ => 1

/-- Element `i` of an activation row. -/
def actAt (f : AFmt) (row : List Byte) (i : Nat) : FVal :=
  match f with
  | .e4m3 => fpDecode e4m3 (byteAt row i)
  | .e5m2 => fpDecode e5m2 (byteAt row i)
  | .int8 => ofInt (signed 8 (byteAt row i))
  | .bf16 => fpDecode bf16 (numAt row (2 * i) 2)
  | .fp16 => fpDecode fp16 (numAt row (2 * i) 2)

/-- One pass of one row: 64 accumulators (05 R137). -/
def passRow (wf : WFmt) (af : AFmt) (t : List Byte) (row : List Byte) (acc : List Nat) : List Nat :=
  (List.range 64).map (fun j =>
    passUpdate (acc.getD j 0) ((List.range (wIns wf)).foldl (fun x i => exMac x (weightAt wf t i j) (actAt af row i)) exZero))

/-- Bytes of a model's tiles that lie on the die (09 R241). -/
def Model.residentBytes (m : Model) (b : Img) : Nat := imgWgtBytes b - m.overBytes

/-- Where byte `o` of the tiles lies in the image. -/
def State.tileSrc (s : State) (m : Model) (o : Nat) : Nat := m.addr + imgWgtOff (s.image m) + o

/-- Where byte `o` of the tiles lies in a Quarter: a resident page, or one of the two staging pages in turn (09 R241, R242;
log 33). -/
def State.tileLoc (s : State) (m : Model) (q o : Nat) : Nat :=
  let r := m.residentBytes (s.image m)
  if o < r then match m.pages[o / 65536]? with
    | some pg => s.weightBase q + pg * 65536 + o % 65536
    | none => s.tileSrc m o
  else match m.staging[(o - r) / 65536 % 2]? with
    | some pg => s.shareBase m.ctx q + pg * 65536 + (o - r) % 65536
    | none => s.tileSrc m o

/-- The bytes of weight tile `k`: over-budget tiles as they were fetched from the image. -/
def State.tileData (s : State) (m : Model) (q k : Nat) : List Byte :=
  let p := s.params m
  let r := m.residentBytes (s.image m)
  (List.range (tileBytes (tileFmt p k) / 64)).flatMap (fun j =>
    let o := tileOff p k + 64 * j
    s.mem.readN (if o < r then s.tileLoc m q o else s.tileSrc m o) 64)

/-- What a pass of one row through one tile reads. -/
def segRowAddr (a : Config.SegArg) (share r t : Nat) : Nat := share + a.act + r * a.rowStride + t * a.tileStride

/-! ### The rows of a task (08 R195, R202 to R204) -/

/-- The valid range of a row's layer execution: from its last restart boundary, to END once received (08 R195). -/
def State.convRange (s : State) (e : Exec) (r : Row) : Int × Option Int :=
  let x := s.stream r.stream
  let u := if e.sub = .step then s.streamHop x else 1
  let lo := ((x.feat.bounds.map (fun b => b * u)).filter (fun b => decide (b ≤ r.pos))).foldl max 0
  ((lo : Int), x.feat.endAt.map (fun n => ((n * u : Nat) : Int)))

def addRun (r : Row) : List (List Row) → List (List Row)
  | (h :: t) :: rs => if r.stream = h.stream ∧ h.pos = r.pos + 1 then (r :: h :: t) :: rs else [r] :: (h :: t) :: rs
  | rs => [r] :: rs

/-- Rows in runs of consecutive positions of one stream. -/
def rowRuns (l : List Row) : List (List Row) := l.foldr addRun []

/-- The positions of a layer for a run of output positions (08 R202). Positions outside the run commit nothing. -/
def State.widenRun (s : State) (e : Exec) (ab : Nat × Nat) (run : List Row) : List Row :=
  match run with
  | [] => []
  | h :: _ =>
    let g := s.convRange e h
    let lo := max g.1 ((h.pos : Int) - ab.1)
    let hi0 : Int := h.pos + run.length + ab.2
    let hi := match g.2 with | some x => min x hi0 | none => hi0
    (List.range (hi - lo).toNat).map (fun k =>
      let p := (lo + k).toNat
      (find1 run (fun r => r.pos == p)).getD ⟨h.stream, p, false, []⟩)

/-- The rows a task works on: those of its execution, or, in a fused group, those of its stripe widened by the reach of the
layers that follow, in row groups of 64 (08 R202, R203). -/
def State.taskRows (s : State) (e : Exec) (p : Config.ImgParams) : Option Config.SpanArg → List Row
  | none => e.rows
  | some a =>
    match p.fuses[a.fuse]? with
    | none => e.rows
    | some f =>
      let full := (rowRuns ((e.rows.drop (a.stripe * f.stripeRows)).take f.stripeRows)).flatMap
        (s.widenRun e (reachFrom p f (a.layer + 1)))
      match a.group with
      | none => full
      | some g => (full.drop (64 * g)).take 64

/-- The number of a pass row among the rows of its layer. -/
def layerRow (a : Config.SegArg) (k : Nat) : Nat := ((a.span.bind (fun x => x.group)).getD 0) * 64 + k

/-! ### Expansion commands (08 R199) -/

/-- An expansion command (08 R199). -/
structure ExpCmd where
  src : Nat
  dst : Nat
  rowOff : Int
  lo : Int
  hi : Int
  rows : Nat
  cin : Nat
  stride : Nat
  dil : Nat
  taps : Nat
  centre : Nat
  layout : Nat
  esize : Nat
  pad : Nat
  maskEn : Bool
  rowLen64 : Nat
  deriving DecidableEq, Repr

def readExp (b : List Byte) : ExpCmd :=
  { src := numAt b 0 8, dst := numAt b 8 8, rowOff := signed 32 (numAt b 0x10 4), lo := signed 32 (numAt b 0x14 4),
    hi := signed 32 (numAt b 0x18 4), rows := numAt b 0x1C 2, cin := numAt b 0x1E 2, stride := numAt b 0x20 4,
    dil := numAt b 0x24 2, taps := byteAt b 0x26, centre := byteAt b 0x27, layout := byteAt b 0x28, esize := byteAt b 0x29,
    pad := byteAt b 0x2A, maskEn := (byteAt b 0x2B).testBit 0, rowLen64 := numAt b 0x2C 2 }

/-- An address of a command: relative to the share, or in the Quarter's own window (10 R255, 08 R199; log 39). -/
def State.expAddr (s : State) (e : Exec) (a : Nat) : Nat :=
  if 0x100000000000 ≤ a then qBase e.quarter + a % 0x1000000 else s.execShare e + a

/-- Whether an EXPAND task of the execution left its command to the Squares (08 R209). -/
def Exec.isDirect (e : Exec) (b : Img) (t : Nat) : Bool :=
  ((e.tasks[t - (imgSub b (subNo e.sub)).1]?).map (fun x => x.direct)).getD false

/-! ### Tap masks (08 R206 to R211) -/

/-- Whether every weight of a tile is finite and no MX scale of it is 0xFF. -/
def tileFinite (f : WFmt) (t : List Byte) : Bool :=
  (List.range 64).all (fun j => (List.range (wIns f)).all (fun i =>
    match weightAt f t i j with | .fin _ _ _ => true | _ => false))

def ofmtOf (f : OFmt) : Fmt := match f with | .f32 => fp32 | .f16 => fp16 | .bf16 => bf16 | .e4m3 => e4m3 | .e5m2 => e5m2
def ofmtSize (f : OFmt) : Nat := match f with | .f32 => 4 | .f16 | .bf16 => 2 | _ => 1

/-- Whether the weights of a layer that Kiosks run are finite (08 R210). -/
def kioskFinite (b : Img) (w : Config.KWeights) : Bool :=
  (List.range w.count).all (fun k =>
    match fpDecode (ofmtOf w.fmt) (numAt b (w.off + k * ofmtSize w.fmt) (ofmtSize w.fmt)) with | .fin _ _ _ => true | _ => false)

/-- Whether a layer is maskable: every weight of it is finite and no MX scale of it is 0xFF (08 R207, R210). -/
def layerFinite (b : Img) (l : Config.LayerP) : Bool :=
  let p := imgParams b
  let segs := ((List.range (imgTasks b)).filter (fun t => (imgTask b t).kind == 0)).map (fun t => Config.readSeg (imgArg b t))
  ((segs.filter (fun a => a.layer == l.id)).all (fun a => (List.range a.tiles).all (fun k =>
      let n := a.tile0 + k
      tileFinite (tileFmt p n) ((b.drop (imgWgtOff b + tileOff p n)).take (tileBytes (tileFmt p n))))))
    && (match l.kiosk with | some w => kioskFinite b w | none => true)

/-- Whether tap `k` of a row reads outside its range. -/
def State.tapDead (s : State) (e : Exec) (c : Config.ConvP) (r : Row) (k : Nat) : Bool :=
  let g := s.convRange e r
  let p := (r.pos : Int) + ((k : Int) - c.centre) * c.dil
  decide (p < g.1) || (match g.2 with | some h => decide (h ≤ p) | none => false)

/-- The taps masked for a pass of these rows: dead in every row, with ZERO padding (08 R206). -/
def State.maskedTaps (s : State) (e : Exec) (c : Config.ConvP) (rows : List Row) : List Nat :=
  if c.pad = 0 then (List.range c.taps).filter (fun k => rows.all (fun r => s.tapDead e c r k)) else []

/-- A SQUARE_SEG task at work: its place in the task table, its argument block, its rows, and, of a layer that masks, the
convolution parameters and the taps masked (08 R206 to R208). -/
structure Seg where
  g : Nat
  arg : Config.SegArg
  rows : List Row
  afmt : AFmt
  mask : Option (Config.ConvP × List Nat)
  deriving DecidableEq, Repr

/-- A segment masks when its layer is maskable and its expansion commands have MASK_EN = 1 (08 R207, R208). If the Squares read
the input rows of the layer, every tap but CENTRE is masked (08 R209). -/
def State.seg (s : State) (e : Exec) (b : Img) (g : Nat) : Seg :=
  let p := imgParams b
  let a := Config.readSeg (imgArg b g)
  let rows := s.taskRows e p a.span
  let feeds := segFeeds b g
  let en := !feeds.isEmpty && feeds.all (fun t => (readExp (imgArg b t)).maskEn)
  let l := layerOf p a.layer
  let masked := fun (c : Config.ConvP) =>
    if feeds.any (e.isDirect b) then (List.range c.taps).filter (fun k => k != c.centre) else s.maskedTaps e c rows
  { g := g, arg := a, rows := rows, afmt := (l.map (fun y => y.afmt)).getD .e4m3,
    mask := if en && (l.map (layerFinite b)).getD false then (convOf p a.layer).map (fun c => (c, masked c)) else none }

def Seg.fmt (g : Seg) (p : Config.ImgParams) (t : Nat) : WFmt := tileFmt p (g.arg.tile0 + t)

/-- Whether the pass of tile `t` of a segment is skipped: every tap that touches its elements is masked (08 R208). -/
def Seg.skips (g : Seg) (p : Config.ImgParams) (t : Nat) : Bool :=
  match g.mask with
  | none => false
  | some (c, m) =>
    let w := wIns (g.fmt p t)
    let i := (g.arg.inTile + t) * w
    (List.range c.taps).all (fun k => !(decide (k * c.cin < i + w) && decide (i < (k + 1) * c.cin)) || m.contains k)

/-- Whether a layer execution runs pointwise: every tap but CENTRE is masked (08 R209). -/
def Seg.pointwise (g : Seg) : Bool :=
  match g.mask with
  | none => false
  | some (c, m) => (List.range c.taps).all (fun k => k == c.centre || m.contains k)

/-- Tiles `lo` to `hi - 1` of a segment whose passes run. -/
def Seg.runTiles (g : Seg) (p : Config.ImgParams) (lo hi : Nat) : List Nat :=
  if g.rows.isEmpty then [] else ((List.range (hi - lo)).map (fun k => lo + k)).filter (fun t => !g.skips p t)

/-- The bytes that row `k` presents to tile `t`: from the activation rows, or, in a direct read, from the input row itself
(08 R209). -/
def State.segInput (s : State) (e : Exec) (b : Img) (g : Seg) (k t : Nat) : List Byte :=
  let p := imgParams b
  let w := wIns (g.fmt p t)
  let n := w * actSize g.afmt
  let i := layerRow g.arg k
  let mine := fun (x : Nat) =>
    let o := (Config.readExpand (imgArg b x)).row
    decide (o ≤ i) && decide (i < o + (readExp (imgArg b x)).rows)
  match (segFeeds b g.g).filter (fun x => e.isDirect b x && mine x) with
  | x :: _ =>
    let c := readExp (imgArg b x)
    let held := c.rowOff + (i - (Config.readExpand (imgArg b x)).row : Nat)
    let el := (g.arg.inTile + t) * w - c.centre * c.cin
    s.mem.readN ((s.expAddr e c.src : Int) + held * c.stride + (el * (c.esize + 1) : Nat)).toNat n
  | [] => s.mem.readN (segRowAddr g.arg (s.execShare e) k t) n

/-- Passes `lo` to `hi - 1` of a segment, on all its rows (04 R116). -/
def State.segPasses (s : State) (m : Model) (e : Exec) (b : Img) (g : Seg) (lo hi : Nat) (acc : List (List Nat)) : List (List Nat) :=
  let p := imgParams b
  (g.runTiles p lo hi).foldl (fun acc k =>
    let t := s.tileData m e.quarter (g.arg.tile0 + k)
    acc.zipIdx.map (fun r => passRow (g.fmt p k) g.afmt t (s.segInput e b g r.2 k) r.1)) acc

def nonFinite (v : Nat) : Bool := !isFinite32 v

/-- A 64-bit count in two words that wraps (04 QTR_PASS_CNT). -/
def State.count64 (s : State) (lo hi : RegName) (i n : Nat) : State :=
  let v := s.rg lo i + s.rg hi i * 2 ^ 32 + n
  (s.setRg lo i v).setRg hi i (v / 2 ^ 32)

/-- Add to a Pitch's numeric counts of the frame (05 R148). -/
def State.numCount (s : State) (p a b c : Nat) : State :=
  s.updPitch p (fun x => { x with num := (x.num.1 + a, x.num.2.1 + b, x.num.2.2 + c) })

/-- What the passes of one dispatch tile count, with the passes it skipped. The spec does not say how often an MX block whose
scale is 0xFF counts in EVT_NUM_EXCEPTION: it counts once in each pass that reads its tile (05 R148; log 109). -/
def State.countPasses (s : State) (e : Exec) (m : Model) (b : Img) (g : Seg) (lo hi : Nat) : State :=
  let p := imgParams b
  let ts := g.runTiles p lo hi
  let n := ts.length
  let nan := (ts.map (fun k => nanScales (g.fmt p k) (s.tileData m e.quarter (g.arg.tile0 + k)))).sum
  let s1 := ((s.count64 .qtrPassCntLo .qtrPassCntHi e.quarter n).count64 .qtrRowCntLo .qtrRowCntHi e.quarter (n * g.rows.length)).count64
    .qtrBusyCntLo .qtrBusyCntHi e.quarter ((ts.map (fun k => passCycles (g.fmt p k))).sum)
  let s2 := if g.rows.isEmpty then s1 else s1.cnt .qtrTapskipCnt e.quarter 31 0 (hi - lo - n)
  if nan = 0 then s2 else (s2.flag .qtrNumEvt e.quarter 2).numCount e.pitch 0 0 nan

/-- The result of a segment is delivered to its pipeline's staging (05 R138, R148); a pointwise layer execution counts once,
with the first segment of its first output tile (08 R209). -/
def State.deliver (s : State) (e : Exec) (b : Img) (g : Seg) (pipe : Nat) (acc : List (List Nat)) : State :=
  let bad := (acc.map (fun r => r.countP nonFinite)).sum
  let s1 := { s with parts := s.parts ++ [⟨e.id, (segGate b g.g).getD g.g, g.arg.block, g.arg.seg, pipe, acc⟩] }
  let s2 := if bad = 0 then s1 else ((s1.cnt .qtrNonfinCnt e.quarter 31 0 bad).flag .qtrNumEvt e.quarter 0).numCount e.pitch bad 0 0
  if g.arg.inTile = 0 && g.arg.outTile = 0 && g.pointwise then s2.inc .qtrPtwiseCnt e.quarter else s2

/-- The groups staged in a pipeline of a Quarter, each by its execution and GATE task (04 R119). -/
def State.staged (s : State) (q pipe : Nat) : List (Nat × Nat) :=
  ((s.parts.filter (fun p => p.pipe == pipe && (match s.exec? p.exec with | some e => e.quarter == q | none => false))).map
    (fun p => (p.exec, p.group))).eraseDups

/-- The blocks staged of a group. -/
def State.stagedBlocks (s : State) (id group : Nat) : List Nat :=
  ((s.parts.filter (fun p => p.exec == id && p.group == group)).map (fun p => p.block)).eraseDups

/-- Whether a block finds room in the staging buffer: four groups of up to four blocks (04 R119). -/
def State.stageRoom (s : State) (q pipe id group block : Nat) : Bool :=
  let bs := s.stagedBlocks id group
  if (s.staged q pipe).contains (id, group) then bs.contains block || decide (bs.length < 4)
  else decide ((s.staged q pipe).length < 4)

/-! ### Gate programs -/

/-- What one element of a gate program leaves: stores, counted NaN inputs and OUT overflows, and its logit per MAX
(levels, first, record, value). -/
structure GRes where
  stores : List (Nat × List Byte)
  nans : Nat
  ovf : Nat
  logits : List (Nat × Nat × Nat × Nat)
  deriving DecidableEq, Repr

def GRes.none : GRes := ⟨[], 0, 0, []⟩

/-- What one element reads: its row and column, the row of its noise buffers, staged parts, and memory. -/
structure GEnv where
  share : Nat
  state : Nat
  live : Bool
  row : Nat
  nrow : Nat
  col : Nat
  c : Nat
  parts : List Part
  rand : List RandEntry
  mem : Memory
  adapt : Option Nat
  deriving DecidableEq, Repr

def insertSeg (p : Part) : List Part → List Part
  | [] => [p]
  | q :: t => if p.seg < q.seg then p :: q :: t else q :: insertSeg p t

/-- COMBINE of a staged block at this element (04 R120). -/
def GEnv.block (g : GEnv) (b : Nat) : Nat :=
  combine (((g.parts.filter (fun p => p.block == b)).foldl (fun l p => insertSeg p l) []).map (fun p =>
    (p.rows.getD g.row []).getD g.c 0))

/-- Bytes per row of a random entry's buffer. The spec gives the place of an element within a row; rows follow one another
(06 R156; log 111). -/
def RandEntry.rowBytes (r : RandEntry) : Nat := match r.kind with | .srBits => ceilDiv r.count 8 | _ => 4 * r.count

def GEnv.entry (g : GEnv) (k : Nat) : RandEntry := g.rand.getD k ⟨.gumbel, 0, 0⟩

def GEnv.noise (g : GEnv) (k : Nat) : Nat :=
  let r := g.entry k
  g.mem.leN (g.share + r.target + g.nrow * r.rowBytes + 4 * g.col) 4

def GEnv.srBit (g : GEnv) (k : Nat) : Bool :=
  let r := g.entry k
  (g.mem.leN (g.share + r.target + g.nrow * r.rowBytes + g.col / 8) 1).testBit (g.col % 8)

def GEnv.opr (g : GEnv) (run : Nat) (saved : Tab Nat) : Config.GOpr → Nat
  | .run => run
  | .block b => g.block b
  | .bias a => g.mem.leN (g.share + a + 4 * g.col) 4
  | .carried o => g.mem.leN (g.state + o + 4 * g.col) 4
  | .noise k => g.noise k
  | .saved n => Tab.getD saved n 0

def nanIn (v : Nat) : Nat := if isNan fp32 v then 1 else 0

def oneF : Nat := fpOne fp32

/-- A gate program on one element, in order (04 R120 to R123, 05 R143 to R148). An OUT in FP32 or to a state slot writes its
operand's bits: the spec does not say whether a NaN with a payload, read from a carried value, a bias or a noise buffer, is
made canonical there (05 R141; log 110). -/
def GEnv.eval (g : GEnv) : List Config.GOp → Nat → Tab Nat → GRes → GRes
  | [], _, _, r => r
  | op :: ops, run, sv, r =>
    let v := fun (a : Config.GOpr) => g.opr run sv a
    match op with
    | .combine b => g.eval ops (match g.adapt with | some t => fpAdd fp32 (g.block b) t | none => g.block b) sv r
    | .bias a b => g.eval ops (fpAdd fp32 (v a) (v b)) sv r
    | .sig a => g.eval ops (sigGp (v a)) sv { r with nans := r.nans + nanIn (v a) }
    | .tanh a => g.eval ops (tanhGp (v a)) sv { r with nans := r.nans + nanIn (v a) }
    | .mul a b => g.eval ops (fpMul fp32 (v a) (v b)) sv r
    | .fma a b c => g.eval ops (fpFma fp32 (v a) (v b) (v c)) sv r
    | .oms a => g.eval ops (fpSub fp32 oneF (v a)) sv r
    | .noise a k => g.eval ops (fpAdd fp32 (v a) (g.noise k)) sv r
    | .max levels first rec => g.eval ops run sv { r with logits := r.logits ++ [(levels, first, rec, run)] }
    | .out a fmt sr sat k addr stride =>
      let x := v a
      let n := ofmtSize fmt
      let bit := if sr then g.srBit k else false
      let f := ofmtOf fmt
      let val := match fmt with | .f32 => x | _ => narrow f sr sat bit (fpDecode fp32 x)
      let ov := match fmt with | .f32 => 0 | _ => if outOverflows f sr sat bit (fpDecode fp32 x) then 1 else 0
      g.eval ops run sv { r with stores := r.stores ++ [(g.share + addr + g.row * stride + n * g.col, leBytes n val)], ovf := r.ovf + ov }
    | .outState a o =>
      g.eval ops run sv { r with stores := if g.live then r.stores ++ [(g.state + o + 4 * g.col, leBytes 4 (v a))] else r.stores }
    | .keep n => g.eval ops run (Tab.set sv n run) r

/-- A running maximum: index, value, and whether all were NaN (04 R123). -/
def maxStep (t : Nat × Nat × Bool) (i v : Nat) : Nat × Nat × Bool :=
  if isNan fp32 v then t else if t.2.2 then (i, v, false) else if fpLt fp32 false t.2.1 v then (i, v, false) else t

/-- The MAX record of a row after the logits of one group (04 R123): its bytes, and whether the row ended all NaN. -/
def maxRecord (m : Memory) (addr levels first : Nat) (vs : List Nat) : List Byte × Bool :=
  let old : Nat × Nat × Bool :=
    if first = 0 then (0, nan32, true) else (m.leN addr 2, m.leN (addr + 4) 4, (m.leN (addr + 2) 2).testBit 0)
  let t := vs.zipIdx.foldl (fun t p => maxStep t (first + p.2) p.1) old
  (leBytes 2 t.1 ++ leBytes 2 (if t.2.2 then 1 else 0) ++ leBytes 4 t.2.1, t.2.2 && decide (levels ≤ first + vs.length))

/-- The MAX operations of a row, each with the logits of its columns. -/
def rowMax (share row : Nat) (rs : List GRes) (m : Memory) : List (Nat × List Byte) × Nat :=
  let k := (rs.headD GRes.none).logits.length
  let recs := (List.range k).map (fun j =>
    let h := (((rs.headD GRes.none).logits)[j]?).getD (0, 0, 0, 0)
    let a := share + h.2.2.1 + 8 * row
    let r := maxRecord m a h.1 h.2.1 (rs.map (fun x => ((x.logits[j]?).getD (0, 0, 0, 0)).2.2.2))
    ((a, r.1), r.2))
  (recs.map (fun r => r.1), recs.countP (fun r => r.2))

/-- The units of a Quarter write to its state and working regions: bytes of the weight region stay (04 R106, R112). -/
def State.unitPoke (s : State) (q a : Nat) (bs : List Byte) : State :=
  let wb := s.weightBase q
  if wb ≤ a then (if a < qBase q + 0x1000000 then s else s.poke a bs)
  else s.poke a (if qBase q ≤ a then bs.take (wb - a) else bs)

def State.storeAll (s : State) (q : Nat) (l : List (Nat × List Byte)) : State := s.each l (fun s w => s.unitPoke q w.1 w.2)

/-! ### Adapters (07 R182 to R184) -/

/-- A layer of an adapter: where its elements lie, and its scale. -/
structure AdaptLayer where
  id : Nat
  inLen : Nat
  outLen : Nat
  off : Nat
  alpha : Nat
  deriving DecidableEq, Repr

/-- An adapter's header and layers (07 R183). -/
structure Adapter where
  cnt : Nat
  rank : Nat
  fmt : Nat
  layers : List AdaptLayer
  deriving DecidableEq, Repr

def parseAdapter (b : List Byte) : Adapter :=
  { cnt := numAt b 0 2, rank := byteAt b 2, fmt := byteAt b 3,
    layers := (List.range (min 16 (numAt b 0 2))).map (fun n =>
      { id := numAt b (0x10 + 16 * n) 2, inLen := numAt b (0x12 + 16 * n) 2, outLen := numAt b (0x14 + 16 * n) 2,
        off := numAt b (0x18 + 16 * n) 4, alpha := numAt b (0x1C + 16 * n) 4 }) }

def State.adapter (s : State) (v : Voice) : Adapter := parseAdapter (s.mem.readN v.adapterAddr 0x110)

/-- Whether a layer of an adapter names an adaptable layer of the image and fits it. -/
def adaptFits (p : Config.ImgParams) (len : Nat) (l : AdaptLayer) : Bool :=
  p.layers.any (fun y => y.adaptable && y.id == l.id && y.inLen == l.inLen && y.outLen == l.outLen) && decide (l.off < len)

/-- The check of the first frame work of a stream (07 R184). -/
def State.adapterFits (s : State) (x : Stream) : Bool :=
  let v := s.voice x.dir.voice
  let a := s.adapter v
  v.rank == 0 || (match s.voiceModels x.dir.pitch x.dir.voice with
    | some m => decide (a.fmt < 2) && a.rank == v.rank && decide (1 ≤ a.cnt) && decide (a.cnt ≤ 16)
        && a.layers.all (adaptFits (s.params m.1) v.adapterLen)
    | none => false)

/-- An element of an adapter: FP16 or BF16. -/
def State.adaptElt (s : State) (fmt base k : Nat) : FVal :=
  fpDecode (if fmt = 0 then fp16 else bf16) (s.mem.leN (base + 2 * k) 2)

/-- alpha · u of output `j` for an input row (07 R182). -/
def State.adaptTerm (s : State) (base : Nat) (a : Adapter) (l : AdaptLayer) (x : Nat → FVal) (j : Nat) : Nat :=
  let t := fun (k : Nat) => (List.range l.inLen).foldl (fun t i =>
    fpFmaV fp32 (s.adaptElt a.fmt (base + l.off) (k * l.inLen + i)) (x i) (fpDecode fp32 t)) 0
  let u := (List.range a.rank).foldl (fun u k =>
    fpFmaV fp32 (s.adaptElt a.fmt (base + l.off) (a.rank * l.inLen + j * a.rank + k)) (fpDecode fp32 (t k)) (fpDecode fp32 u)) 0
  fpMul fp32 l.alpha u

/-- What the adapter of a row's voice adds to output `j` of the layer a GATE task forms, if it names the layer. -/
def State.rowAdapt (s : State) (e : Exec) (g : Config.GateArg) (r : Row) (k j : Nat) : Option Nat :=
  match g.adapt with
  | none => none
  | some ad =>
    let v := s.voice (s.stream r.stream).dir.voice
    if v.rank = 0 ∨ e.sub ≠ .frame then none
    else
      let a := s.adapter v
      match find1 a.layers (fun l => l.id == ad.layer) with
      | none => none
      | some l =>
        let row := s.mem.readN (s.execShare e + ad.act + k * ad.rowStride) (l.inLen * actSize ad.afmt)
        some (s.adaptTerm v.adapterAddr a l (actAt ad.afmt row) j)

/-! ### Cells (07 R172 to R174) -/

/-- A staged block with its bias, named `n`; `act` is the operation after the bias. -/
def cellTerm (c : Config.CellArg) (k n : Nat) (act : List Config.GOp) : List Config.GOp :=
  [.combine (c.blocks.getD k 0), .bias .run (.bias (c.biases.getD k 0))] ++ act ++ [.keep n]

def CellArg.outH (c : Config.CellArg) : List Config.GOp :=
  [.outState .run c.hOff, .out .run c.fmt c.sr c.sat c.entry c.addr c.rowStride]

/-- The pipeline program of a cell form (07 R172, R174). -/
def cellProg (form : Nat) (c : Config.CellArg) : List Config.GOp :=
  match form with
  | 1 => cellTerm c 0 0 [.sig .run] ++ cellTerm c 1 1 [.sig .run] ++ cellTerm c 2 2 [] ++ cellTerm c 3 3 []
      ++ [.fma (.saved 0) (.saved 2) (.saved 3), .tanh .run, .keep 4, .mul (.saved 1) (.carried c.hOff), .keep 5, .oms (.saved 1),
          .fma .run (.saved 4) (.saved 5)] ++ CellArg.outH c
  | 2 => cellTerm c 0 0 [.sig .run] ++ cellTerm c 1 1 [.sig .run] ++ cellTerm c 2 2 [.tanh .run] ++ cellTerm c 3 3 [.sig .run]
      ++ [.mul (.saved 0) (.saved 2), .keep 4, .fma (.saved 1) (.carried c.cOff) (.saved 4), .keep 5, .tanh .run,
          .mul (.saved 3) .run] ++ CellArg.outH c ++ [.outState (.saved 5) c.cOff]
  | _ => cellTerm c 0 0 [.sig .run] ++ cellTerm c 1 2 [] ++ cellTerm c 2 3 []
      ++ [.fma (.saved 0) (.saved 2) (.saved 3), .tanh .run, .keep 4, .mul (.saved 0) (.saved 4), .keep 5, .oms (.saved 0),
          .fma .run (.carried c.hOff) (.saved 5)] ++ CellArg.outH c

/-- The operations of a program as 07 R172 counts them: one COMBINE, and every other operation. -/
def progLen (l : List Config.GOp) : Nat :=
  (l.filter (fun o => match o with | .combine _ | .keep _ => false | _ => true)).length
    + (if l.any (fun o => match o with | .combine _ => true | _ => false) then 1 else 0)

/-- The program of a GATE task: that of the cell it evaluates, or the image's own. -/
def gateProg (p : Config.ImgParams) (a : Config.GateArg) : List Config.GOp :=
  match a.cell with
  | some c => cellProg (((p.cells[c.cell]?).map (fun y => y.form)).getD 0) c
  | none => a.prog

/-- A GATE task on all its rows; the staging of its group is free afterwards. A tile that ends after its execution was cancelled
writes no carried value: the stream continues from committed state (10 R278; log 115). -/
def State.gateTask (s : State) (e : Exec) (b : Img) (t : Nat) : State :=
  let p := imgParams b
  let a := Config.readGate (imgArg b t)
  let prog := gateProg p a
  let rand := imgRand b (subNo e.sub)
  let share := s.execShare e
  let parts := s.parts.filter (fun p => p.exec == e.id)
  let rowRes := (s.taskRows e p a.span).zipIdx.map (fun r =>
    let nrow := e.rows.findIdx (fun y => y.stream == r.1.stream && y.pos == r.1.pos)
    let rs := (List.range a.cols).map (fun c =>
      GEnv.eval ⟨share, s.rowState e r.1, r.1.live && !e.cancelled, r.2, nrow, a.col0 + c, c, parts, rand, s.mem,
        s.rowAdapt e a r.1 r.2 (a.col0 + c)⟩ prog 0 [] GRes.none)
    let mx := rowMax share r.2 rs s.mem
    (rs.flatMap (fun x => x.stores) ++ mx.1, (rs.map (fun x => x.nans)).sum + mx.2, (rs.map (fun x => x.ovf)).sum))
  let nans := (rowRes.map (fun r => r.2.1)).sum
  let ovf := (rowRes.map (fun r => r.2.2)).sum
  let used := prog.filterMap (fun o => match o with | .combine k => some k | _ => none)
  let s1 := s.storeAll e.quarter (rowRes.flatMap (fun r => r.1))
  let s2 : State := { s1 with parts := s1.parts.filter (fun p => !(p.exec == e.id && used.contains p.block)) }
  let s3 := if nans = 0 then s2 else (s2.cnt .qtrGateNanCnt e.quarter 31 0 nans).flag .qtrEvt e.quarter 2
  if ovf = 0 then s3 else ((s3.cnt .qtrOutOvfCnt e.quarter 31 0 ovf).flag .qtrNumEvt e.quarter 1).numCount e.pitch 0 ovf 0

/-! ### The expansion engine -/

/-- Whether the engine does the command (08 R201). -/
def ExpCmd.ok (c : ExpCmd) : Bool :=
  decide (c.layout < 3) && decide (c.esize < 2) && decide (c.pad < 3) && decide (1 ≤ c.rowLen64) && decide (c.rowLen64 ≤ 1024)
    && decide (c.rowOff + c.rows - 1 < c.hi) && decide (c.lo ≤ c.rowOff)

/-- The position that a tap reads: inside the valid range, a padding source, or zero; and whether REFLECT fell back
(08 R196). -/
def ExpCmd.source (c : ExpCmd) (p : Int) : Option Int × Bool :=
  let edge := if p < c.lo then c.lo else c.hi - 1
  if c.lo ≤ p ∧ p < c.hi then (some p, false)
  else if c.pad = 0 then (none, false)
  else if c.pad = 1 then (some edge, false)
  else
    let q := if p < c.lo then 2 * c.lo - p else 2 * (c.hi - 1) - p
    if c.lo ≤ q ∧ q < c.hi then (some q, false) else (some edge, true)

/-- The byte offset of an element in its layout (08 R200). -/
def ExpCmd.offset (c : ExpCmd) (t : Int) (ch : Nat) : Int :=
  let es : Int := (c.esize + 1 : Nat)
  match c.layout with
  | 0 => t * c.stride + ch * es
  | 1 => (ch / 64 * c.stride : Nat) + (64 * t + (ch % 64 : Nat)) * es
  | _ => (ch * c.stride : Nat) + t * es

/-- One expanded row and how many of its elements fell back (08 R199). -/
def State.expRow (s : State) (c : ExpCmd) (src : Nat) (r : Nat) : List Byte × Nat :=
  let es := c.esize + 1
  let n := c.taps * c.cin
  let els := (List.range n).map (fun i =>
    let k := i / c.cin
    let so := c.source (c.rowOff + r + ((k : Int) - c.centre) * c.dil)
    let bs := match so.1 with
      | none => List.replicate es 0#8
      | some t => s.mem.readN ((src : Int) + c.offset t (i % c.cin)).toNat es
    (bs, so.2))
  (els.flatMap (fun x => x.1) ++ List.replicate ((64 * c.rowLen64 - n) * es) 0#8, els.countP (fun x => x.2))

/-- The command with the held indices of its stream's own valid range (08 R195): output row 0 is the position of row `o`. -/
def State.expValid (s : State) (e : Exec) (c : ExpCmd) (o : Row) : ExpCmd :=
  let g := s.convRange e o
  { c with lo := max c.lo (c.rowOff + (g.1 - o.pos)),
           hi := match g.2 with | some h => min c.hi (c.rowOff + (h - o.pos)) | none => c.hi }

/-- Whether the Squares read the input rows of a command themselves (08 R209): every segment that it feeds runs pointwise, and
the layout lets them. -/
def State.expDirect (s : State) (e : Exec) (b : Img) (t : Nat) (c : ExpCmd) : Bool :=
  let p := imgParams b
  let segs := ((imgSuccs b t).filter (fun g => (imgTask b g).kind == 0)).map (s.seg e b)
  !segs.isEmpty && segs.all (fun g => g.pointwise && (List.range g.arg.tiles).all (fun k => c.cin % wIns (g.fmt p k) == 0))
    && c.layout == 0 && c.cin * (c.esize + 1) % 64 == 0 && c.stride % 64 == 0

/-- An EXPAND task (08 R195, R199 to R201, R209): only positions of the valid range are computed. -/
def State.expandTask (s : State) (e : Exec) (b : Img) (t : Nat) : State :=
  let c := readExp (imgArg b t)
  let x := Config.readExpand (imgArg b t)
  let rows := s.taskRows e (imgParams b) x.span
  let o := (rows[x.row]?).getD (rows.headD ⟨0, 0, false, []⟩)
  if !c.ok then (s.flag .qtrConvEvt e.quarter 3).faultStream o.stream 7
  else if s.expDirect e b t c then
    s.updExec e.id (fun y => { y with tasks := y.tasks.zipIdx.map (fun p =>
      if p.2 = t - (imgSub b (subNo e.sub)).1 then { p.1 with direct := true } else p.1) })
  else
    let v := s.expValid e c o
    let es := c.esize + 1
    let ns := (List.range c.rows).filter (fun (r : Nat) => decide (v.lo ≤ c.rowOff + r) && decide (c.rowOff + r < v.hi))
    let out := ns.map (fun r => (s.expAddr e c.dst + r * (64 * c.rowLen64 * es), s.expRow v (s.expAddr e c.src) r))
    let s1 := s.storeAll e.quarter (out.map (fun r => (r.1, r.2.1)))
    let s2 := s1.cnt .qtrExpRowCnt e.quarter 31 0 ns.length
    let fb := (out.map (fun r => r.2.2)).sum
    if fb = 0 then s2 else (s2.cnt .qtrExpPadfbCnt e.quarter 31 0 fb).flag .qtrConvEvt e.quarter 0

/-! ### Noise fills -/

/-- The seed of frame `f` of a stream (06 R155). -/
def frameSeed (x : Stream) (pf : Nat) : Nat :=
  (x.feat.seeds.filter (fun p => decide (p.1 ≤ pf))).foldl (fun _ p => p.2) x.dir.seed

/-- The set a row starts with: the saved step set, or a fresh frame set (06 R154, R155, R165). -/
def State.startSet (s : State) (e : Exec) (r : Row) : List Nat :=
  let x := s.stream r.stream
  let n := lanesOf x.dir.laneCompat
  if e.sub = .step then (List.range n).map (fun k => s.mem.leN (s.slotAddr x + 4 * k) 4)
  else
    let pf := r.pos * s.streamHop x
    seedSet n (frameSeed x pf) 1 pf

/-- The entries of a list from a set: their bytes, and the set after (06 R157). -/
def fillList : List RandEntry → List Nat → List (RandEntry × List Byte) × List Nat
  | [], set => ([], set)
  | r :: rs, set =>
    let t := fillList rs (entryAdvance r set)
    ((r, entryBytes r set) :: t.1, t.2)

/-- A noise fill starts: each row reads its set (06 R165). -/
def State.startNoise (s : State) (e : Exec) : State :=
  s.updExec e.id (fun x => { x with rows := x.rows.map (fun r => { r with set := s.startSet e r }) })

/-- The noise fill of one row from the set it read; a lane that is 0 faults its stream (06 R167). -/
def State.fillRow (s : State) (e : Exec) (b : Img) (r : Row) (k : Nat) : State :=
  if r.live && r.set.contains 0 then s.faultStream r.stream 5
  else
    let f := fillList (imgRand b (subNo e.sub)) r.set
    let s1 := s.storeAll e.quarter (f.1.map (fun p => (s.execShare e + p.1.target + k * p.1.rowBytes, p.2)))
    s1.updExec e.id (fun x => { x with rows := x.rows.zipIdx.map (fun p => if p.2 = k then { p.1 with set := f.2 } else p.1) })

def State.noiseTask (s : State) (e : Exec) (b : Img) : State := s.each e.rowsAt (fun s r => s.fillRow e b r.1 r.2)

/-! ### Mark decoding -/

/-- An FP32 value to the nearest integer, ties to even (08 R215). -/
def rneInt (v : Nat) : Int :=
  match fpDecode fp32 v with
  | .fin s m e =>
    let r : Nat := if 0 ≤ e then m * 2 ^ e.toNat else
      let d := 2 ^ (-e).toNat
      let q := m / d
      let rem := m % d
      if 2 * rem < d then q else if d < 2 * rem then q + 1 else q + q % 2
    sgn s r
  | _ => 0

def intF (v : Int) : Nat := rne32 (decide (v < 0)) v.natAbs 0

/-- What a candidate comes to: below the score limit, dropped, or decoded (08 R214 to R216). -/
inductive CandRes where
  | low
  | drop
  | ok (c : Cand)
  deriving DecidableEq, Repr

def State.decodeCand (s : State) (w : MarkWork) (share k : Nat) : CandRes :=
  let a := w.arg
  let p := share + a.cands + 16 * k
  let anc := s.mem.leN p 2
  let dc := s.mem.leN (p + 4) 4
  let dw := s.mem.leN (p + 8) 4
  let sc := s.mem.leN (p + 12) 4
  let ctr := (w.anchors.getD anc (0, 0)).1
  let wid := (w.anchors.getD anc (0, 0)).2
  if !isNan fp32 sc && fpLt fp32 false sc a.scoreMin then .low
  else
    let c := fpAdd fp32 (intF ctr) (fpMul fp32 (fpMul fp32 dc a.varC) (intF wid))
    let w := fpMul fp32 (intF wid) (kExp2 (fpMul fp32 (fpMul fp32 dw a.varW) 0x3FB8AA3B))
    let h := fpMul fp32 w 0x3F000000
    let s0 := rneInt (fpSub fp32 c h)
    let e0 := rneInt (fpAdd fp32 c h)
    let st := max s0 a.rangeLo
    let en := min e0 a.rangeHi
    if isNan fp32 sc || !isFinite32 dc || !isFinite32 dw || !isFinite32 c || !isFinite32 w || decide (a.anchorCnt ≤ anc)
        || decide (16777216 ≤ ctr.natAbs) || decide (wid < 1) || decide (16777216 ≤ wid) || decide (en ≤ st) then .drop
    else .ok ⟨sc, k, st, en, decide (st ≠ s0) || decide (en ≠ e0)⟩

/-- Highest score first, the lower index on a tie (08 R217). -/
def insertCand (c : Cand) : List Cand → List Cand
  | [] => [c]
  | d :: t => if fpLt fp32 false d.score c.score then c :: d :: t else d :: insertCand c t

/-- Whether two marks overlap beyond the limit. -/
def overlaps (iou : Nat) (a b : Cand) : Bool :=
  let inter := max 0 (min a.en b.en - max a.st b.st)
  let union := (a.en - a.st) + (b.en - b.st) - inter
  decide ((iou : Int) * union < inter * 65536)

/-- Marks taken in order while the overlap tests of a tile last (08 R213, R217): what is still to be taken, and the marks
kept. -/
def takeMarks (iou maxOut : Nat) : Nat → List Cand → List Cand → List Cand × List Cand
  | _, [], kept => ([], kept)
  | n, c :: t, kept =>
    if maxOut ≤ kept.length then ([], kept)
    else if n < kept.length then (c :: t, kept)
    else takeMarks iou maxOut (n - kept.length) t (if kept.any (fun k => overlaps iou k c) then kept else kept ++ [c])

def markBytes (base : Nat) (c : Cand) : List Byte :=
  leBytes 8 (((base : Int) + c.st) % 2 ^ 64).toNat ++ leBytes 8 (((base : Int) + c.en) % 2 ^ 64).toNat ++ leBytes 4 c.score
    ++ leBytes 2 c.idx ++ leBytes 2 (if c.clipped then 1 else 0)

/-- Candidates a call decodes. -/
def markN (a : Config.MarkArg) : Nat := min a.candCnt 4096

/-- Tile 1 of a MARK_DECODE task: the parameters and the anchor table are read, the header is cleared (08 R213). -/
def State.markFirst (s : State) (e : Exec) (a : Config.MarkArg) : State × MarkWork :=
  let q := s.execShare e + a.anchors
  let anchors := (List.range (min a.anchorCnt 65536)).map (fun k =>
    (signed 32 (s.mem.leN (q + 8 * k) 4), signed 32 (s.mem.leN (q + 8 * k + 4) 4)))
  let s1 := s.unitPoke e.quarter (s.execShare e + a.out) (List.replicate 16 0#8)
  (if 4096 < a.candCnt then s1.flag .qtrConvEvt e.quarter 2 else s1, ⟨a, anchors, 0, 0, [], [], []⟩)

/-- A tile that decodes 256 candidates (08 R213, R215, R216). -/
def State.markDecode (s : State) (e : Exec) (w : MarkWork) : State × MarkWork :=
  let ks := (List.range 256).filterMap (fun j => if w.decoded + j < markN w.arg then some (w.decoded + j) else none)
  let rs := ks.map (s.decodeCand w (s.execShare e))
  let drop := rs.countP (fun r => r == CandRes.drop)
  let w1 := { w with decoded := w.decoded + ks.length, dropped := w.dropped + drop,
                     found := w.found ++ rs.filterMap (fun r => match r with | .ok c => some c | _ => none) }
  (if drop = 0 then s else (s.cnt .qtrMarkDropCnt e.quarter 31 0 drop).flag .qtrConvEvt e.quarter 1, w1)

/-- A tile that orders up to 512 survivors (08 R213, R217). -/
def MarkWork.sorted (w : MarkWork) : MarkWork :=
  { w with order := (w.found.take 512).foldl (fun l c => insertCand c l) w.order, found := w.found.drop 512 }

/-- A tile of overlap tests; the records that are complete are written (08 R213, R217, R218). -/
def State.markTake (s : State) (e : Exec) (w : MarkWork) (tests : Nat) : State × MarkWork :=
  let t := takeMarks w.arg.iouMax w.arg.maxOut tests w.order w.kept
  (s.unitPoke e.quarter (s.execShare e + w.arg.out + 16 + 24 * w.kept.length)
    ((t.2.drop w.kept.length).flatMap (markBytes w.arg.base)), { w with order := t.1, kept := t.2 })

/-- The header (08 R218), written with the last tile. -/
def State.markHeader (s : State) (e : Exec) (w : MarkWork) : State :=
  s.unitPoke e.quarter (s.execShare e + w.arg.out) (leBytes 2 w.kept.length ++ leBytes 2 (if 4096 < w.arg.candCnt then 1 else 0)
    ++ leBytes 4 w.dropped ++ leBytes 8 w.arg.base)

/-- Tile number `k` of a MARK_DECODE task, `last` its last one (08 R213). -/
def State.markTile (s : State) (e : Exec) (b : Img) (t k : Nat) (old : Option MarkWork) (last : Bool) : State × MarkWork :=
  let a := Config.readMark (imgArg b t)
  let w := old.getD ⟨a, [], 0, 0, [], [], []⟩
  let nd := ceilDiv (markN a) 256
  let r :=
    if k = 0 then s.markFirst e a
    else if k ≤ nd then s.markDecode e w
    else if k ≤ nd + ceilDiv (markN a) 512 then (s, w.sorted)
    else s.markTake e w (if last then 65536 * 65536 else 16384)
  if last then (r.1.markHeader e r.2, r.2) else r

end Sys2Proof.Machine
end

