-- ==== Sys2Proof/Machine/Exec.lean ====
section
/-! DEFINITION. Executions: release (09 R234, 04 R127), dispatch (09 R225 to R230, 10 R266, R272, R273), the ends of tiles,
commits (07 R178 to R181, R189), accounts (10 R269 to R271), timeouts and cancellation (09 R228, R238). -/

namespace Sys2Proof.Machine

/-! ### Release -/

/-- Turnstiles of a Pitch's pool that no execution holds, ascending. -/
def State.freePool (s : State) (p : Nat) : List Nat :=
  ((List.range (s.poolSize p)).map (fun k => s.poolBase p + k)).filter (fun n => (s.tst n).bound.isNone)

/-- The armed target of a logical Turnstile (09 R223). -/
def tstlTarget (b : Img) (e : Exec) (i : Nat) : Nat :=
  let t := imgTstl b i
  if t.1 = 0 then t.2 else ceilDiv e.rows.length (max 1 (((imgParams b).fuses.map (fun f => f.stripeRows)).getD t.2 1))

/-- Bind and arm the logical Turnstiles in order (09 R234). -/
def State.bindTsts (s : State) (b : Img) (e : Exec) (l : List Nat) : State :=
  s.each l.zipIdx (fun s p =>
    (s.setTst p.1 { (s.tst p.1) with bound := some e.id }).armTst p.1 (BitVec.ofNat 24 (tstlTarget b e p.2)))

/-- Unreleased chunk executions of other streams, one of each, that share a batch with `e` (07 R187). The parts of a chunk that
a restart mark splits stay separate (08 R195). -/
def State.chunkMates (s : State) (e : Exec) : List Exec :=
  let same := s.execs.filter (fun x => x.sub == .chunk && !x.released && !x.cancelled && x.id != e.id && x.pitch == e.pitch
    && x.model == e.model && x.be == e.be)
  let meets := fun (x y : Exec) => x.rows.any (fun r => y.rows.any (fun z => z.stream == r.stream))
  (sortBy (fun x => [((x.rows.head?).map (fun r => r.stream)).getD 0, x.id]) same).foldl
    (fun l x => if (l.map (fun y => y.rows.length)).sum + x.rows.length + e.rows.length ≤ 64 && !(e :: l).any (meets x) then l ++ [x] else l) []

/-- The chunk batch of an execution: rows of its mates join it (07 R187). -/
def State.joinChunks (s : State) (e : Exec) : State :=
  let mates := s.chunkMates e
  let ids := mates.map (fun x => x.id)
  let rows := sortBy (fun r => [r.stream, r.pos]) (e.rows ++ mates.flatMap (fun x => x.rows))
  let dl := mates.foldl (fun d x => min d x.deadline) e.deadline
  let q := s.homeQuarter (((rows.head?).map (fun r => r.stream)).getD 0)
  let s1 := s.updExec e.id (fun x => { x with rows := rows, deadline := dl, quarter := q })
  let s2 : State := { s1 with execs := s1.execs.filter (fun x => !ids.contains x.id) }
  let fix := fun (c : Chunk) => match c.exec with | some k => if ids.contains k then { c with exec := some e.id } else c | none => c
  s2.each ((rows.map (fun r => r.stream)).eraseDups) (fun s i =>
    s.updStream i (fun x => { x with feat := { x.feat with chunks := x.feat.chunks.map fix } }))

/-- Release of an execution once the pool has enough free Turnstiles (09 R234, R242). -/
def State.release (s : State) (id : Nat) : State :=
  match s.exec? id with
  | none => s
  | some e0 =>
    if e0.released || e0.cancelled || (s.ctx e0.ctx).state != .resident
        || (if e0.sub = .chunk then s.heldPitch e0.pitch else s.noRelease e0.pitch) then s
    else
      let b := s.execImg e0
      let n := imgTstlCnt b
      let pool := (s.freePool e0.pitch).take n
      if pool.length < n then
        if e0.waited then s else (s.updExec id (fun x => { x with waited := true })).inc .schedTstlWaitCnt
      else
        let s1 := if e0.sub = .chunk then s.joinChunks e0 else s
        let e := (s1.exec? id).getD e0
        let ovf := match s1.execModel e with | some m => if m.split then ceilDiv m.overBytes 64 else 0 | none => 0
        ((s1.bindTsts b e pool).updExec id (fun x =>
          { x with released := true, bound := pool, fetches := ovf, relCycle := s.cycle })).updCtx e0.ctx (fun c => { c with busy := true })

/-! ### BE batches (04 R127) -/

/-- Whether the conditioning frame of the next sample is there (07 R169). -/
def State.covered (s : State) (i : Nat) : Bool :=
  let x := s.stream i
  let h := s.streamHop x
  decide (h ≠ 0) && (Tab.get? x.feat.cond (x.dir.sampleIdx / h)).isSome

/-- A checkpoint capture of the stream waits for work released before its frame tick (16 R417). -/
def State.twinWaits (s : State) (i : Nat) : Option Nat := (find1 s.twin.capture (fun c => c.1 == i)).map (fun c => c.2)

/-- A BE stream whose step is ready. -/
def State.beReady (s : State) (p i : Nat) : Bool :=
  let x := s.stream i
  x.dir.be && x.dir.pitch == p && !x.isClosing && (x.dir.state == .run || x.dir.state == .idle) && x.dir.loc == .resident
    && !x.life.dep && x.life.exec.isNone && x.life.exportP.isNone && (s.twinWaits i).isNone && !s.swapping i
    && decide (x.del.queue.length < x.dir.qdepth) && s.covered i
    && (match s.streamCtx x with | some c => (s.ctx c).state == .resident | none => false)

/-- A copy of a stream's slot to another Quarter is queued (04 R127, R129). -/
def State.queueCopy (s : State) (i q n k : Nat) (lc : Bool) (dl : Nat) : State :=
  let x := s.stream i
  ((s.takeSlot q x.dir.cls n k).enqueue (q / 4) (.copy i q n k lc dl)).updStream i (fun x => { x with life := { x.life with dep := true } })

/-- Bring a batch member's state to Quarter `q`; none if there is no slot for it (03 R80). -/
def State.gather (s : State) (i q : Nat) : Option State :=
  if (s.stream i).dir.quarter = q then some s
  else match s.findSlot q (s.stream i).dir.cls with
    | some r => if s.slotsUsed < 8192 then some (s.queueCopy i q r.1 r.2 false 0) else none
    | none => none

/-- The streams of a batch on Quarter `q`. The spec does not say whether a stream for whose copy there is no slot waits, evicts
or is left out: it is left out and may join a later batch (log 108). -/
def State.gatherAll (q : Nat) : List Nat → State → List Nat × State
  | [], s => ([], s)
  | i :: t, s =>
    match s.gather i q with
    | some s1 => let r := State.gatherAll q t s1; (i :: r.1, r.2)
    | none => State.gatherAll q t s

/-- BE streams of a Pitch in RUN without a covering frame starve (02 R56). -/
def State.starve (s : State) (i : Nat) : State :=
  let x := s.stream i
  if x.dir.state = .run && x.life.exec.isNone && !s.covered i then
    match x.feat.endAt with
    | some _ => s.endCheck i
    | none => (s.updStream i (fun x => { x with dir := { x.dir with state := .idle } })).event 0x0201 (x.handle i) x.dir.domain
  else s

def State.runStream (s : State) (i : Nat) : State :=
  s.updStream i (fun x => if x.dir.state = .idle then { x with dir := { x.dir with state := .run } } else x)

/-- The sample of the next step to release: steps in flight compute the samples before it. -/
def State.nextPos (s : State) (i : Nat) : Nat := (s.stream i).dir.sampleIdx + (s.flights i).length

/-- Form a step execution from rows on a Quarter. -/
def State.stepExec (s : State) (voc : Model) (q : Nat) (be : Bool) (is : List Nat) (dl : Nat) : State :=
  let rows := is.map (fun i => ({ stream := i, pos := s.nextPos i, live := true, set := [] } : Row))
  let s1 := s.newExec .step voc q be rows dl
  s1.each is (fun s2 i => s2.updStream i (fun x => 
    { x with life := { x.life with exec := some s.nextId, idleFrames := 0 } }))

/-- A BE dispatch forms and releases a batch (04 R127). -/
def State.releaseBe (s : State) (p : Nat) : State :=
  let s0 := if s.noRelease p then s else s.each (s.streamsWhere (fun x => x.dir.be && x.dir.pitch == p)) State.starve
  let ready := if s.noRelease p then [] else (s0.streamsWhere (fun x => x.dir.be && x.dir.pitch == p)).filter (s0.beReady p)
  let place := fun (i : Nat) => match s0.streamCtx (s0.stream i) with | some c => (s0.pitch p).beOrder.idxOf c | none => 0
  match pickMin (fun i => [place i, i]) ready with
  | none => s0
  | some f =>
    let x := s0.stream f
    match s0.voiceModels p x.dir.voice with
    | none => s0
    | some m =>
      let same := ready.filter (fun i => (s0.stream i).dir.d == x.dir.d
        && ((s0.voiceModels p (s0.stream i).dir.voice).map (fun m => m.2.id)) == some m.2.id)
      let q := (s0.stream (same.headD f)).dir.quarter
      let g := State.gatherAll q (same.take 64) s0
      ((g.2.each g.1 State.runStream).stepExec m.2 q true g.1 0).release s0.nextId

/-! ### Ranks (09 R230, 10 R266) -/

def State.classRank (s : State) (e : Exec) : Nat :=
  let p := s.pitch e.pitch
  let place := p.beOrder.idxOf e.ctx
  if p.shares then place
  else if !e.be && !(s.ctx e.ctx).be then (if e.sub = .chunk then 1 else 0)
  else 2 + place

/-- The BE class: an execution is LC exactly when its context and its streams are (10 R266). -/
def State.classBe (s : State) (e : Exec) : Bool := e.be || (s.ctx e.ctx).be

/-- A tile that could start: its execution, the task's place in it and record, and whether the task has started. -/
structure TileC where
  exec : Exec
  idx : Nat
  trec : TaskRec
  cont : Bool
  deriving DecidableEq, Repr

def lowStream (e : Exec) : Nat := e.rows.foldl (fun m r => min m r.stream) 131072

/-- Chunk work of equal deadlines goes by directory index (07 R188). -/
def State.tileKey (s : State) (t : TileC) : List Nat :=
  let chunk := t.exec.sub == .chunk && !(s.pitch t.exec.pitch).shares && !s.classBe t.exec
  [s.classRank t.exec, t.exec.deadline, if chunk then lowStream t.exec else t.exec.relCycle,
   if chunk then t.exec.relCycle else lowStream t.exec, t.idx, if t.cont then 0 else 1]

/-! ### Readiness (09 R225) -/

/-- Every residency dependence on a row has closed. A step in the source batch of a move goes on until the copy starts (04
R129). -/
def State.rowsReady (s : State) (e : Exec) : Bool :=
  e.rows.all (fun r => !r.live || ((s.stream r.stream).dir.loc == .resident && (!(s.stream r.stream).life.dep
    || (match s.copyTarget r.stream with | some q => q != e.quarter | none => false))))

/-- A capture that is due holds back what was released at or after its frame tick (03 R99). -/
def State.capWaits (s : State) (e : Exec) : Bool :=
  e.rows.any (fun r => match (s.stream r.stream).life.exportP with
    | some x => (match x.capAt with | some f => decide (f ≤ e.relTick) | none => false)
    | none => false)
  || e.rows.any (fun r => match s.twinWaits r.stream with | some f => decide (f ≤ e.relTick) | none => false)

/-- Samples and frames of a row are computed in ascending order (07 R166, R180). -/
def State.rowTurn (s : State) (e : Exec) : Bool :=
  match e.sub with
  | .step => e.rows.all (fun r => !r.live || (s.stream r.stream).dir.sampleIdx == r.pos)
  | .frame => e.rows.all (fun r => !r.live || (s.stream r.stream).feat.fNext == r.pos)
  | .chunk => true

/-- Whether tiles of the execution may start. A Pitch that sheds dispatches no BE tile, in SHARES mode either (01 R37, 10
R276). -/
def State.mayRun (s : State) (e : Exec) : Bool :=
  e.released && !e.cancelled && (s.ctx e.ctx).state == .resident && (s.pitch e.pitch).stopCycle.isNone
    && !s.draining e.pitch && !((s.pitch e.pitch).shed.isSome && s.classBe e)
    && s.rowsReady e && !s.capWaits e && s.rowTurn e

def State.tstMet (s : State) (n : Nat) : Bool := (s.tst n).armed && (s.tst n).met

/-- WAIT_T of a task, and a KYIELD's wait. -/
def State.waitMet (s : State) (e : Exec) (r : TaskRec) (t : TaskSt) : Bool :=
  (if t.phase = .waiting && r.waitT != 0xFFFF then s.tstMet (e.bound.getD r.waitT 0) else true)
    && (match t.waitT with | some n => s.tstMet n | none => true)

/-- The ready tiles of a kind on a Quarter. -/
def State.tilesOf (s : State) (q : Nat) (k : UnitKind) (e : Exec) : List TileC :=
  if e.quarter ≠ q || !s.mayRun e then []
  else
    let b := s.execImg e
    let first := (imgSub b (subNo e.sub)).1
    e.tasks.zipIdx.filterMap (fun p =>
      let r := imgTask b (first + p.2)
      let start := p.1.phase == .waiting && p.1.pend == 0
      if r.unitKind == k && (start || p.1.phase == .between) && s.waitMet e r p.1 then some ⟨e, p.2, r, !start⟩ else none)

def State.readyTiles (s : State) (q : Nat) (k : UnitKind) : List TileC := s.execs.flatMap (s.tilesOf q k)

/-! ### Units (09 R227, R229) -/

def State.unitBusy (s : State) (q : Nat) (k : UnitKind) (u : Nat) : Bool :=
  s.units.any (fun x => x.quarter == q && x.kind == k && x.unit == u && x.running)

/-- Accumulator sets of a Square that tasks hold between their tiles. -/
def State.heldSets (s : State) (q u : Nat) : Nat := (s.units.filter (fun x => x.quarter == q && x.kind == .square && x.unit == u)).length

def State.kiosk (s : State) (k : Nat) : Kiosk := Tab.getD s.kiosks k Kiosk.reset

def State.updKiosk (s : State) (k : Nat) (f : Kiosk → Kiosk) : State := { s with kiosks := Tab.modify s.kiosks k Kiosk.reset f }

/-- Whether a unit takes the tile now. -/
def State.unitTakes (s : State) (q : Nat) (k : UnitKind) (t : TileC) (u : Nat) : Bool :=
  !s.unitBusy q k u && (match k with
    | .square =>
      if t.cont then (t.exec.tasks[t.idx]?).bind (fun x => x.unit) == some u
      else if 1 < t.trec.tiles && decide (1 ≤ s.classRank t.exec) then s.heldSets q u == 0 else decide (s.heldSets q u < 2)
    | .gate => u == t.trec.unit
    | .expand => true
    | .kiosk => (s.kiosk (kioskOf q u)).run == .idle && !(s.kiosk (kioskOf q u)).halt)

def unitCount : UnitKind → Nat
  | .square => 10 | .gate => 2 | .expand => 1 | .kiosk => 16

/-- The lowest-numbered unit that takes the tile. -/
def State.unitFor (s : State) (q : Nat) (k : UnitKind) (t : TileC) : Option Nat :=
  ((List.range (unitCount k)).filter (s.unitTakes q k t)).head?

/-! ### Trace records (18 R473) -/

def traceKind (k : Nat) (fin : Bool) : Nat := k % 8 + (if fin then 128 else 0)

/-- A trace record; its requester is taken to be the management core (log 117). -/
def State.trace (s : State) (q u kind c task p : Nat) (fin : Bool) : State :=
  if s.bit .dbgTraceCtl 0 0 && decide (1 ≤ s.sec.level) then
    let base := s.rg .dbgTraceBaseLo + s.fld .dbgTraceBaseHi 0 15 0 * 2 ^ 32
    let size := s.fld .dbgTraceBaseHi 0 31 16 * 2 ^ 20
    let bs := leBytes 4 s.uptime ++ leBytes 1 (u % 16 + 16 * q) ++ leBytes 1 (traceKind kind fin) ++ leBytes 2 c ++ leBytes 2 task
      ++ leBytes 2 0 ++ leBytes 4 (s.tick (s.pitchDom p))
    let s1 := s.mgmtStore (base + s.sec.tracePos) bs
    { s1 with sec := { s1.sec with tracePos := (s.sec.tracePos + 16) % max 16 size } }
  else s

/-! ### Starting a tile -/

def State.updTask (s : State) (id idx : Nat) (f : TaskSt → TaskSt) : State :=
  s.updExec id (fun e => { e with tasks := e.tasks.zipIdx.map (fun p => if p.2 = idx then f p.1 else p.1) })

/-- Operand registers of a KIOSK task (11 R284). -/
def kioskOprs (b : Img) (arg : List Byte) (bound : List Nat) : List (BitVec 64) :=
  (List.range 64).map (fun i =>
    BitVec.ofNat 64 (if i < imgTstlCnt b then bound.getD i 0 else if i < byteAt arg 4 then numAt arg (8 + 8 * i) 8 else 0))

/-- BOUND[i] of a KIOSK task. -/
def kioskBound (arg : List Byte) (i : Nat) : Nat := numAt arg (8 + 8 * byteAt arg 4 + 4 * i) 4

/-- The acquire of R298: clean lines go, dirty ones stay. -/
def Kiosk.acquire (k : Kiosk) : Kiosk := { k with lines := k.lines.filter (fun l => l.dirty.any (fun d => d)) }

/-- A tile of a Kiosk starts (11 R283, R284, R298). -/
def State.kioskStart (s : State) (k : Nat) (t : TileC) : State :=
  let b := s.execImg t.exec
  let arg := imgArg b ((imgSub b (subNo t.exec.sub)).1 + t.idx)
  let st := t.exec.tasks[t.idx]?
  let tile := (st.map (fun x => x.tile)).getD 0
  let regs := if tile = 0 then List.replicate 32 0 else (st.map (fun x => x.saved)).getD []
  let pc := if tile = 0 then numAt arg 0 4 else kioskBound arg (tile - 1) + 4
  s.updKiosk k (fun x =>
    { x.acquire with a := regs, v := Kiosk.reset.v, m := Kiosk.reset.m, opr := kioskOprs b arg t.exec.bound, pc := pc, run := .run,
                     exec := some t.exec.id, task := t.idx, start := s.cycle, tick := s.tick (s.pitchDom t.exec.pitch), waitT := 0,
                     rel := none })

/-- Cycles of waiting charged to a context in the frame that runs, under WAIT (10 R269, R272). -/
def State.chargeWait (s : State) (p c n : Nat) : State :=
  if (s.pitch p).waitMode then s.updCtx c (fun x => { x with frameAcct := x.frameAcct + n }) else s

/-- Frame work of a restart boundary starts from the initial acoustic state (07 R192). -/
def State.boundReset (s : State) (e : Exec) (r : Row) : State :=
  let x := s.stream r.stream
  if e.sub = .frame && r.live && x.feat.bounds.contains r.pos && x.dir.loc == .resident then
    s.poke (s.slotAddr x + 0x200) (s.initModelState x).1
  else s

/-! ### Inputs of an execution (07 R176, R177, R186; log 114) -/

/-- The input row of a step, from the committed state alone: the conditioning frame, the embedding of the previous level, and h
rounded to FP8 E4M3 (07 R177). -/
def State.inputRow (s : State) (e : Exec) (b : Img) (r : Row) : List Byte :=
  let p := imgParams b
  let x := s.stream r.stream
  let st := s.rowState e r
  Tab.getD x.feat.cond (r.pos / max 1 (s.streamHop x)) [] ++ p.embed.getD (s.mem.leN (st + p.prevLevelOff) 2) []
    ++ (List.range p.input.hLen).map (fun j =>
      BitVec.ofNat 8 (narrow e4m3 false true false (fpDecode fp32 (s.mem.leN (st + p.input.hOff + 4 * j) 4))))

/-- Feature frame `f` of a stream: held, or in the halo ring (07 R186). -/
def State.featFrame (s : State) (e : Exec) (b : Img) (r : Row) (f : Nat) : List Byte :=
  let p := imgParams b
  let x := s.stream r.stream
  match Tab.get? x.feat.frames f with
  | some v => v
  | none => Config.readHalo p (s.mem.readN (s.rowState e r) (s.stateLens x).1) (s.featurePos r.stream / max 1 p.hop - 1 - f)

/-- The feature frames that a run of chunk rows reads: the halo frames from the restart boundary on, and its own. Frames before
the boundary are padding of the layers that read them (07 R186, R192, 08 R195). -/
def State.runFrames (s : State) (e : Exec) (b : Img) (run : List Row) : List (List Byte) :=
  match run with
  | [] => []
  | h :: _ =>
    let lo := max (s.convRange e h).1.toNat (h.pos - (imgParams b).halo)
    (List.range (h.pos + run.length - lo)).map (fun k => s.featFrame e b h (lo + k))

/-- The voice embedding of a row. -/
def State.rowVoice (s : State) (r : Row) : List Byte :=
  let v := s.voice (s.stream r.stream).dir.voice
  s.mem.readN v.embedAddr (2 * v.embedLen)

/-- The inputs of all rows, formed in the working share before the first tile starts. -/
def State.formInputs (s : State) (e : Exec) (b : Img) : State :=
  let i := (imgParams b).input
  let sh := s.execShare e
  let live := e.rowsAt.filter (fun r => r.1.live)
  match e.sub with
  | .step => s.storeAll e.quarter (live.map (fun r => (sh + i.row + r.2 * i.rowStride, s.inputRow e b r.1)))
  | .frame => s.storeAll e.quarter (live.flatMap (fun r =>
      [(sh + i.enc + r.2 * i.encStride, Tab.getD (s.stream r.1.stream).feat.encoded r.1.pos []),
       (sh + i.voice + r.2 * i.voiceStride, s.rowVoice r.1)]))
  | .chunk => s.storeAll e.quarter
      (((rowRuns e.rows).flatMap (s.runFrames e b)).zipIdx.map (fun f => (sh + i.feat + f.2 * i.featStride, f.1))
        ++ live.map (fun r => (sh + i.voice + r.2 * i.voiceStride, s.rowVoice r.1)))

/-! ### Split models (09 R242) -/

/-- The over-budget bytes that the passes of a dispatch tile read, in pieces of 64. -/
def State.splitReads (s : State) (e : Exec) (b : Img) (t : TileC) : List Nat :=
  match s.execModel e with
  | none => []
  | some m =>
    if t.trec.kind ≠ 0 || !m.split then []
    else
      let p := imgParams b
      let a := Config.readSeg (imgArg b ((imgSub b (subNo e.sub)).1 + t.idx))
      let n := passesPerTile (tileFmt p a.tile0)
      let lo := ((e.tasks[t.idx]?).map (fun x => x.tile)).getD 0 * n
      ((List.range (min a.tiles (lo + n) - lo)).flatMap (fun k =>
        (List.range (tileBytes (tileFmt p (a.tile0 + lo + k)) / 64)).map (fun j => tileOff p (a.tile0 + lo + k) + 64 * j))).filter
          (fun o => decide (m.residentBytes b ≤ o))

/-- The fetch of those tiles has ended when the tile starts: they lie in the staging pages, and the reads before them in image
tile order are no longer outstanding (log 33). -/
def State.stageTiles (s : State) (e : Exec) (b : Img) (os : List Nat) : State :=
  match s.execModel e with
  | none => s
  | some m =>
    let s1 := s.each os (fun s o => (s.move (s.tileSrc m o) (s.tileLoc m e.quarter o) 64).rbBytes (e.quarter / 4) 64)
    let upto := os.foldl (fun n o => max n (o + 64 - m.residentBytes b)) 0
    (s1.updModel m.pitch m.id (fun m => { m with staged := if os.isEmpty then m.staged else Tab.set m.staged e.quarter upto })).updExec e.id
      (fun x => { x with fetches := min x.fetches (ceilDiv (m.overBytes - upto) 64) })

/-- The first block of them that fails its check. -/
def State.stageFail (s : State) (e : Exec) (os : List Nat) : Option Nat :=
  match s.execModel e with
  | none => none
  | some m => (os.flatMap (fun o => s.badIn (s.tileSrc m o) 64)).head?

/-- The first tile of an execution: its account of waiting is charged (10 R269), the carried values of its rows are kept in case it
is cut off (10 R278; log 115), frame work of a restart boundary is reset, and its inputs are formed. -/
def State.firstTile (s : State) (e : Exec) (b : Img) : State :=
  let len := fun (r : Row) => let l := s.stateLens (s.stream r.stream); if e.sub = .step then l.2 else l.1
  let held := (e.rows.filter (fun r => r.live && e.sub != .chunk)).map (fun r =>
    (r.stream, s.rowState e r, s.mem.readN (s.rowState e r) (len r)))
  let s1 := (s.chargeWait e.pitch e.ctx (s.cycle - e.relCycle)).updExec e.id (fun x => { x with before := held })
  let s2 := s1.each e.rows (fun s r => s.boundReset e r)
  -- the rows of a step read their conditioning frames (12 R319)
  let s3 := if e.sub != .step then s2
    else s2.each (e.rows.filter (fun r => r.live && (s2.stream r.stream).feat.bad)) (fun s r => s.bufParity r.stream)
  s3.formInputs ((s3.exec? e.id).getD e) b

/-- Start a tile on a unit. -/
def State.startTile (s : State) (q : Nat) (k : UnitKind) (t : TileC) (u : Nat) : State :=
  let id := t.exec.id
  let isMine := fun (x : UnitRun) => x.exec == id && x.task == t.idx
  let run : UnitRun := ⟨q, k, u, id, t.idx, true, s.cycle, [], none⟩
  let us := if s.units.any isMine then updWhere isMine (fun x => { x with running := true, start := s.cycle }) s.units else s.units ++ [run]
  let s1 := (({ s with units := us }).updTask id t.idx (fun x => { x with phase := .running, unit := some u, waitT := none })).updExec id
    (fun e => { e with firstTile := some (e.firstTile.getD s.cycle) })
  let b := s.execImg t.exec
  let s2 := if t.exec.firstTile.isNone then s1.firstTile t.exec b else s1
  let s3 := (if t.trec.kind = 5 then s2.startNoise t.exec else s2).stageTiles t.exec b (s.splitReads t.exec b t)
  let s4 := if t.trec.kind = 3 then s3.kioskStart (kioskOf q u) t
    else if k = .kiosk then s3.updKiosk (kioskOf q u) (fun x => { x with run := .run, exec := some id, task := t.idx, start := s.cycle })
    else s3
  s4.trace q u t.trec.kind t.exec.ctx t.idx t.exec.pitch false

/-- Preemptions (10 R272): started tasks of lower class that would have taken the unit now and find no other. -/
def State.preempted (s s1 : State) (q : Nat) (k : UnitKind) (t : TileC) (cands : List TileC) : List TileC :=
  cands.filter (fun c => c.cont && decide (s.classRank t.exec < s.classRank c.exec) && (s.unitFor q k c).isSome
    && (s1.unitFor q k c).isNone)

/-- TILE_DISPATCH: the highest-ranked tile that a unit takes (09 R230). -/
def State.tileDispatch (s : State) (q : Nat) (k : UnitKind) : State :=
  let cands := s.readyTiles q k
  let fit := cands.filterMap (fun t => (s.unitFor q k t).map (fun u => (t, u)))
  match pickMin (fun p => s.tileKey p.1) fit with
  | none => s
  | some p =>
    match s.stageFail p.1.exec (s.splitReads p.1.exec (s.execImg p.1.exec) p.1) with
    | some w => (s.readFailed (w * 64) 4).faultExec p.1.exec.id 1
    | none =>
    let s1 := s.startTile q k p.1 p.2
    let lost := s.preempted s1 q k p.1 (cands.filter (fun c => !(c.exec.id == p.1.exec.id && c.idx == p.1.idx)))
    s1.each lost (fun s c =>
      ((s.updExec c.exec.id (fun e => { e with preempts := e.preempts + 1 })).inc .schedPreemptCnt c.exec.pitch).chargeWait
        c.exec.pitch c.exec.ctx 2048)

/-! ### Commits -/

/-- Whether LC work completes after its deadline edge (01 R36). -/
def State.late (s : State) (e : Exec) : Bool := !e.be && decide (e.deadline ≤ s.tick (s.pitchDom e.pitch))

/-- A level index or halo fill that no image can produce (03 R533). -/
def State.levelBad (s : State) (e : Exec) (r : Row) (p : Config.ImgParams) : Bool :=
  decide (p.levels.length ≤ s.mem.leN (s.rowState e r + p.prevLevelOff) 2)

def State.haloBad (s : State) (e : Exec) (r : Row) (p : Config.ImgParams) : Bool :=
  decide (p.halo < s.mem.leN (s.rowState e r + p.haloOff) 2)

/-- Frames that the stream has passed are dropped. -/
def SFeat.pruned (x : SFeat) (f : Nat) : SFeat :=
  { x with cond := x.cond.filter (fun e => decide (f ≤ e.1)), frames := x.frames.filter (fun e => decide (f ≤ e.1)) }

/-- A committed sample enters the output queue, unless a takeover skips it (16 R422); in REPLAY it is also delivered by its
sample index (07 R178, 19 R499). -/
def State.committed (s : State) (x : SDel) (pos v : Nat) : SDel :=
  if x.skip ≠ 0 then { x with skip := x.skip - 1 }
  else if s.replay.active then
    { x with queue := x.queue ++ [v], hostBuf := x.hostBuf ++ [v], hostFirst := if x.hostBuf.isEmpty then pos else x.hostFirst }
  else { x with queue := x.queue ++ [v] }

/-- The FAULT record, of a replay or of a takeover, that takes effect at the commit of a stream's sample (19 R497). -/
def State.faultDue (s : State) (i pos : Nat) : Option RecIn :=
  find1 (s.replay.queue ++ s.twin.inputs) (fun r => r.kind == 7 && r.subject == s.handle i && leNat ((r.body.drop 2).take 1) == 0
    && leNat ((r.body.drop 8).take 8) == pos)

/-- A recorded fault arises in place of a commit. -/
def State.faultNow (s : State) (i : Nat) (r : RecIn) : State :=
  let s1 := s.faultStream i (leNat (r.body.take 2))
  { s1 with replay := { s1.replay with queue := s1.replay.queue.filter (fun x => x != r) },
            twin := { s1.twin with inputs := s1.twin.inputs.filter (fun x => x != r) } }

/-- The commit of one row of a step (07 R178, R179, 06 R165). -/
def State.commitStep (s : State) (e : Exec) (b : Img) (r : Row) (k : Nat) : State :=
  let due := s.faultDue r.stream r.pos
  if !r.live then s
  else if due.isSome then s.each due.toList (fun s d => s.faultNow r.stream d)
  else
    let p := imgParams b
    if s.levelBad e r p then s.faultStream r.stream 8
    else
      let x := s.stream r.stream
      let idx := s.mem.leN (s.execShare e + (Config.readTail b 0).levelRec + 8 * k) 2
      let a := s.slotAddr x
      let n := r.pos + 1
      let m1 := if r.set.isEmpty then s else s.poke a (genBytes r.set)
      let m2 := (m1.poke (a + 0x100) (leBytes 8 n)).poke (s.rowState e r + p.prevLevelOff) (leBytes 2 idx)
      let h := s.streamHop x
      let s1 := m2.updStream r.stream (fun x =>
        { x with dir := { x.dir with sampleIdx := n }, del := s.committed x.del r.pos (p.levels.getD idx 0),
                 cnt := if s.late e then x.cnt.addOvr else x.cnt, feat := x.feat.pruned (if h = 0 then 0 else n / h),
                 life := { x.life with exec := if x.life.exec = some e.id then none else x.life.exec } })
      (s1.applyDue r.stream).endCheck r.stream

/-- The commit of one row of frame work (07 R181). -/
def State.commitFrame (s : State) (e : Exec) (b : Img) (r : Row) (k : Nat) : State :=
  if !r.live then s
  else
    let p := imgParams b
    if s.haloBad e r p then s.faultStream r.stream 8
    else
      let x := s.stream r.stream
      let t := Config.readTail b 1
      let frame := s.mem.readN (s.execShare e + t.frameAddr + k * t.rowStride) t.frameLen
      let st := s.rowState e r
      let len := (s.stateLens x).1
      let fill := s.mem.leN (st + p.haloOff) 2
      let ring := fitTo len (spliceBytes (fitTo len (Config.pushHalo p (s.mem.readN st len) (Tab.getD x.feat.frames r.pos [])))
        p.haloOff (leBytes 2 (min (fill + 1) p.halo)))
      ((s.poke st ring).poke (s.slotAddr x + 0x108) (leBytes 8 ((r.pos + 1) * p.hop))).updStream r.stream (fun x =>
        { x with feat := { x.feat with cond := Tab.set x.feat.cond r.pos frame, fNext := max x.feat.fNext (r.pos + 1),
                                       chunks := x.feat.chunks.filter (fun c => decide (r.pos + 1 < c.f0 + c.n)),
                                       encoded := x.feat.encoded.filter (fun f => decide (r.pos < f.1)) } })

/-- Mark output that the graph routes to host return (08 R218, 15 R386). -/
def State.sendMarks (s : State) (b : Img) (e : Exec) (r : Row) (k : Nat) : State :=
  match (Config.readTail b (subNo e.sub)).marks with
  | none => s
  | some o =>
    let x := s.stream r.stream
    let a := s.execShare e + o.1 + k * o.2
    let n := 16 + 24 * s.mem.leN a 2
    s.sendMsg x.del.sess 0xF1 0 0 s.epoch (leBytes 4 (x.handle r.stream) ++ leBytes 1 1 ++ leBytes 3 0 ++ leBytes 8 x.del.takes
      ++ leBytes 4 n ++ leBytes 4 0 ++ s.mem.readN a n)

/-- The first live row of each stream of an execution, with its place. -/
def Exec.heads (e : Exec) : List (Row × Nat) :=
  (e.rowsAt.filter (fun r => r.1.live)).foldl (fun l r => if l.any (fun x => x.1.stream == r.1.stream) then l else l ++ [r]) []

/-- The commit of one row of a chunk: an encoded frame. -/
def State.commitChunk (s : State) (e : Exec) (b : Img) (r : Row) (k : Nat) : State :=
  if !r.live then s
  else
    let p := imgParams b
    if (s.stream r.stream).dir.loc == .resident && s.haloBad e r p then s.faultStream r.stream 8
    else
      let t := Config.readTail b 2
      let frame := s.mem.readN (s.execShare e + t.frameAddr + k * t.rowStride) t.frameLen
      s.updStream r.stream (fun x =>
        let mark := fun (c : Chunk) => if c.exec = some e.id then { c with encoded := true, exec := none } else c
        { x with feat := { x.feat with encoded := Tab.set x.feat.encoded r.pos frame,
                                       chunks := x.feat.chunks.map (fun c => if r.pos + 1 = c.f0 + c.n then mark c else c) } })

/-- Late chunk work (07 R189). -/
def State.chunkLate (s : State) (e : Exec) : State :=
  ((s.inc .schedPreLateCnt e.pitch).flag .schedPreEvt e.pitch 0).updPitch e.pitch (fun p => { p with lateFrame := p.lateFrame + 1 })

/-- Lateness of LC work (01 R36). -/
def State.noteLate (s : State) (e : Exec) : State :=
  match e.missAt with
  | none => s
  | some c =>
    let d := s.pitchDom e.pitch
    s.setRg .tickOvrMax d (max (s.rg .tickOvrMax d) (min (s.cycle - c) 0xFFFFFFFF))

/-- The account of a retired execution (10 R269, R271). -/
def State.account (s : State) (e : Exec) : State :=
  let p := s.pitch e.pitch
  let wait := (e.firstTile.getD s.cycle) - e.relCycle + 2048 * e.preempts
  let a := if p.shares then e.cycles else if p.waitMode then wait else 1
  s.updCtx e.ctx (fun c =>
    { c with frameAcct := if p.waitMode then c.frameAcct else c.frameAcct + 1, acct := (c.acct + a) % 2 ^ 64, busy := true,
             blockF := 0 })

/-- The execution commits, retires and frees its Turnstiles (09 R234, 07 R179). Work whose rows were all cut off adds no
lateness (01 R36). -/
def State.retire (s : State) (e : Exec) : State :=
  let b := s.execImg e
  let s0 := match e.sub with
    | .step => s.each e.rowsAt (fun s r => s.commitStep e b r.1 r.2)
    | .frame => s.each e.rowsAt (fun s r => s.commitFrame e b r.1 r.2)
    | .chunk => s.each e.rowsAt (fun s r => s.commitChunk e b r.1 r.2)
  let s1 := s0.each e.heads (fun s r => s.sendMarks b e r.1 r.2)
  let s2 := if s.late e && e.rows.any (fun r => r.live) then (if e.sub = .chunk then s1.chunkLate e else s1.noteLate e) else s1
  ((s2.account e).unflight e).removeExec e.id

/-! ### Ends of tiles -/

/-- Unit cycles of a tile, and virtual time in SHARES mode (10 R270). -/
def State.tileCycles (s : State) (e : Exec) (n : Nat) : State :=
  let s1 := s.updExec e.id (fun e => { e with cycles := e.cycles + n })
  if (s.pitch e.pitch).shares then
    s1.updCtx e.ctx (fun c => { c with vtime := c.vtime + n * 256 / max 1 c.weight })
  else s1

def State.dropUnit (s : State) (id idx : Nat) : State := { s with units := s.units.filter (fun u => !(u.exec == id && u.task == idx)) }

/-- The last tile has ended: PASS_T, successors, and retirement with the last task (09 R225). -/
def State.taskDone (s : State) (e : Exec) (b : Img) (idx : Nat) (r : TaskRec) : State :=
  let first := (imgSub b (subNo e.sub)).1
  let s1 := (s.dropUnit e.id idx).updTask e.id idx (fun t => { t with phase := .done, unit := none })
  let s2 := if r.passT = 0xFFFF then s1 else s1.passTst (e.bound.getD r.passT 0) r.passN
  let s3 := s2.each (imgSuccs b (first + idx)) (fun s j => s.updTask e.id (j - first) (fun t => { t with pend := t.pend - 1 }))
  match s3.exec? e.id with
  | some x => if x.tasks.all (fun t => t.phase == .done) then s3.retire x else s3
  | none => s3

/-- What the end of a tile does to its task (09 R225, R226, R238). -/
def State.tileDone (s : State) (u : UnitRun) (e : Exec) (b : Img) (r : TaskRec) : State :=
  let s1 := (s.tileCycles e (s.cycle - u.start)).trace u.quarter u.unit r.kind e.ctx u.task e.pitch true
  if e.cancelled then
    let s2 := (s1.dropUnit e.id u.task).updTask e.id u.task (fun t => { t with phase := .retired, unit := none })
    { s2 with parts := s2.parts.filter (fun x => x.exec != e.id) }
  else
    let tile := ((e.tasks[u.task]?).map (fun t => t.tile)).getD 0
    if r.tiles ≤ tile + 1 then s1.taskDone e b u.task r
    else
      let isMine := fun (x : UnitRun) => x.exec == e.id && x.task == u.task
      let keep : State := if u.kind = .square then { s1 with units := updWhere isMine (fun x => { x with running := false }) s1.units }
        else s1.dropUnit e.id u.task
      keep.updTask e.id u.task (fun t => { t with tile := t.tile + 1, phase := .between, unit := if u.kind = .square then t.unit else none })

/-- The pipeline that a segment's block is staged in: that of its GATE task (04 R119). -/
def segPipe (b : Img) (g : Nat) : Nat := ((segGate b g).map (fun t => (imgTask b t).unit)).getD 0

/-- The passes of a dispatch tile (04 R118). -/
def segRange (p : Config.ImgParams) (a : Config.SegArg) (tile : Nat) : Nat × Nat :=
  let n := passesPerTile (tileFmt p a.tile0)
  (min a.tiles (tile * n), min a.tiles (tile * n + n))

/-- The tile of a SQUARE_SEG task: its passes, and the delivery with the last. With a full staging buffer the Square holds its
result and stalls, and its stalled cycles count (04 R119; log 41). A cancelled execution's tile ends without delivery. -/
def State.squareEnd (s : State) (u : UnitRun) (e : Exec) (b : Img) (g : Nat) (r : TaskRec) (m : Model) : State :=
  let sg := s.seg e b g
  let tile := ((e.tasks[u.task]?).map (fun t => t.tile)).getD 0
  let lh := segRange (imgParams b) sg.arg tile
  let last := decide (r.tiles ≤ tile + 1)
  let pipe := segPipe b g
  let isMine := fun (x : UnitRun) => x.exec == e.id && x.task == u.task
  let stalled := match u.stall with | some c => s.cycle - c | none => 0
  let s0 := if stalled = 0 then s else s.cnt .qtrGateStallCnt e.quarter 31 0 stalled
  if last && !e.cancelled && !s.stageRoom e.quarter pipe e.id ((segGate b g).getD g) sg.arg.block then
    { s0 with units := updWhere isMine (fun x => { x with stall := some s.cycle }) s0.units }
  else
    let acc0 := if u.acc.isEmpty then sg.rows.map (fun _ => List.replicate 64 0) else u.acc
    let acc := s.segPasses m e b sg lh.1 lh.2 acc0
    let s1 := s0.countPasses e m b sg lh.1 lh.2
    let s2 : State := { s1 with units := updWhere isMine (fun x => { x with acc := acc, stall := none }) s1.units }
    (if last && !e.cancelled then s2.deliver e b sg pipe acc else s2).tileDone u e b r

/-- The words at the ends of a range that a store covers only in part: they are read first (12 R318). -/
def edgeWords (a n : Nat) : List (Nat × Nat) :=
  (if n = 0 ∨ a % 8 = 0 then [] else [(a / 8 * 8, 8)]) ++ (if n = 0 ∨ (a + n) % 8 = 0 then [] else [((a + n) / 8 * 8, 8)])

/-- What the columns of a GATE task read and write in part: operands of its program (04 R120). -/
def State.gateReads (s : State) (e : Exec) (b : Img) (g : Nat) : List (Nat × Nat) :=
  let p := imgParams b
  let a := Config.readGate (imgArg b g)
  let rand := imgRand b (subNo e.sub)
  let sh := s.execShare e
  let opr := fun (st nrow : Nat) (o : Config.GOpr) => match o with
    | .bias x => [(sh + x + 4 * a.col0, 4 * a.cols)]
    | .carried x => if st = 0 then [] else [(st + x + 4 * a.col0, 4 * a.cols)]
    | .noise k =>
      let y := rand.getD k ⟨.gumbel, 0, 0⟩
      [(sh + y.target + nrow * y.rowBytes + 4 * a.col0, 4 * a.cols)]
    | _ => []
  (s.taskRows e p a.span).zipIdx.flatMap (fun r =>
    let st := if r.1.live then s.rowState e r.1 else 0
    let nrow := e.rows.findIdx (fun y => y.stream == r.1.stream && y.pos == r.1.pos)
    (gateProg p a).flatMap (fun o => match o with
      | .bias x y | .mul x y => opr st nrow x ++ opr st nrow y
      | .sig x | .tanh x | .oms x => opr st nrow x
      | .fma x y z => opr st nrow x ++ opr st nrow y ++ opr st nrow z
      | .noise x k => opr st nrow x ++ opr st nrow (.noise k)
      | .outState x off => opr st nrow x ++ (if st = 0 then [] else edgeWords (st + off + 4 * a.col0) (4 * a.cols))
      | .out x f sr _ k addr stride =>
        let y := rand.getD k ⟨.srBits, 0, 0⟩
        opr st nrow x ++ (if sr then [(sh + y.target + nrow * y.rowBytes + a.col0 / 8, ceilDiv a.cols 8)] else [])
          ++ edgeWords (sh + addr + r.2 * stride + ofmtSize f * a.col0) (ofmtSize f * a.cols)
      | _ => []))

/-- The elements an EXPAND task copies (08 R199, R200). -/
def State.expReads (s : State) (e : Exec) (b : Img) (g : Nat) : List (Nat × Nat) :=
  let c := readExp (imgArg b g)
  let x := Config.readExpand (imgArg b g)
  let rows := s.taskRows e (imgParams b) x.span
  let v := s.expValid e c ((rows[x.row]?).getD (rows.headD ⟨0, 0, false, []⟩))
  if !c.ok || s.expDirect e b g c then []
  else (List.range c.rows).flatMap (fun r => (List.range (c.taps * c.cin)).filterMap (fun i =>
    (v.source (c.rowOff + r + (((i / c.cin : Nat) : Int) - c.centre) * c.dil)).1.map (fun t =>
      (((s.expAddr e c.src : Int) + c.offset t (i % c.cin)).toNat, c.esize + 1))))

/-- What the tile of a fixed routine reads of the SRAM: candidates and anchors, or the lanes and the ends of its buffers. -/
def State.kioskReads (s : State) (e : Exec) (b : Img) (g tile : Nat) (r : TaskRec) : List (Nat × Nat) :=
  let sh := s.execShare e
  if r.kind = 4 then
    let a := Config.readMark (imgArg b g)
    if tile = 0 then [(sh + a.anchors, 8 * min a.anchorCnt 65536)]
    else if tile ≤ ceilDiv (markN a) 256 then [(sh + a.cands + 4096 * (tile - 1), 16 * min 256 (markN a - 256 * (tile - 1)))]
    else []
  else e.rowsAt.flatMap (fun x =>
    (if e.sub = .step && x.1.live then [(s.slotAddr (s.stream x.1.stream), 256)] else [])
      ++ (imgRand b (subNo e.sub)).flatMap (fun y => edgeWords (sh + y.target + x.2 * y.rowBytes) y.rowBytes))

/-- What a tile reads of the Quarter's SRAM: every read checks parity (12 R318). -/
def State.tileReads (s : State) (u : UnitRun) (e : Exec) (b : Img) (g : Nat) (r : TaskRec) (m : Model) : List (Nat × Nat) :=
  let tile := ((e.tasks[u.task]?).map (fun t => t.tile)).getD 0
  match r.kind with
  | 0 =>
    let p := imgParams b
    let sg := s.seg e b g
    let lh := segRange p sg.arg tile
    (sg.runTiles p lh.1 lh.2).flatMap (fun k =>
      let n := sg.arg.tile0 + k
      (List.range (tileBytes (tileFmt p n) / 64)).map (fun j => (s.tileLoc m e.quarter (tileOff p n + 64 * j), 64))
        ++ (List.range sg.rows.length).map (fun y => (segRowAddr sg.arg (s.execShare e) y k, wIns (tileFmt p n) * actSize sg.afmt)))
  | 1 => s.gateReads e b g
  | 2 => s.expReads e b g
  | _ => s.kioskReads e b g tile r

def State.tileBadWords (s : State) (l : List (Nat × Nat)) : List Nat :=
  s.memx.badWords.filter (fun w => l.any (fun p => decide (w + 8 > p.1) && decide (w < p.1 + p.2)))

/-- The parity errors a tile reads (12 R319), and whether the tile waits for a re-fetch. After a fault its other rows go on. -/
def State.tileParity (s : State) (id : Nat) (ws : List Nat) : State × Bool :=
  ws.foldl (fun p w => let r := p.1.parity w (some id); (r.1, p.2 || r.2 == ParRes.wait)) (s, false)

/-- The work of a tile's end by task kind. -/
def State.tileWork (s : State) (u : UnitRun) (e : Exec) (b : Img) (g : Nat) (r : TaskRec) (m : Model) : State :=
  match r.kind with
  | 0 => s.squareEnd u e b g r m
  | 1 => (s.gateTask e b g).tileDone u e b r
  | 2 => (s.expandTask e b g).tileDone u e b r
  | 3 => s
  | 4 =>
    let st := e.tasks[u.task]?
    let tile := (st.map (fun t => t.tile)).getD 0
    let w := s.markTile e b g tile (st.bind (fun t => t.mark)) (decide (r.tiles ≤ tile + 1))
    (w.1.updTask e.id u.task (fun t => { t with mark := some w.2 })).tileDone u e b r
  | _ => (s.noiseTask e b).tileDone u e b r

def State.unitRun (s : State) (q : Nat) (k : UnitKind) (u : Nat) : Option UnitRun :=
  find1 s.units (fun x => x.quarter == q && x.kind == k && x.unit == u && x.running)

/-- A Kiosk whose tile of a fixed routine ended is idle. -/
def State.idleKiosk (s : State) (k : UnitKind) (q u : Nat) : State :=
  if k = .kiosk && (s.unitRun q k u).isNone then s.updKiosk (kioskOf q u) (fun x => { x with run := .idle, exec := none }) else s

/-- TILE_END (09 R226). A KIOSK code tile ends with its release (11 R297). -/
def State.tileEnd (s : State) (q : Nat) (k : UnitKind) (n : Nat) : State :=
  match s.unitRun q k n with
  | none => s
  | some u =>
    match s.exec? u.exec with
    | none => s
    | some e =>
      let b := s.execImg e
      let g := (imgSub b (subNo e.sub)).1 + u.task
      let r := imgTask b g
      if r.kind = 3 then s
      else
        match s.execModel e with
        | none => (s.tileDone u e b r).idleKiosk k q n
        | some m =>
          let p := if e.cancelled then (s, false) else s.tileParity e.id (s.tileBadWords (s.tileReads u e b g r m))
          if p.2 then p.1 else (p.1.tileWork u ((p.1.exec? e.id).getD e) b g r m).idleKiosk k q n

/-- TILE_TIMEOUT (09 R228): not while a Kiosk is halted by the debug unit (18 R474). -/
def State.tileTimeout (s : State) (q : Nat) (k : UnitKind) (n : Nat) : State :=
  match s.unitRun q k n with
  | none => s
  | some u =>
    if decide (u.start + 65536 ≤ s.cycle) && !(k == .kiosk && (s.kiosk (kioskOf q n)).halted) then
      let isIt := fun (x : UnitRun) => x.quarter == q && x.kind == k && x.unit == n && x.running
      let s1 := s.flag .schedGraphEvt 0 3
      let s2 := s1.execFault u.exec 0x10
      ({ s2 with units := s2.units.filter (fun x => !isIt x) }).idleKiosk k q n
    else s

/-- FETCH_DISCARD (09 R238 step 3). -/
def State.fetchDiscard (s : State) (id : Nat) : State :=
  match s.exec? id with
  | some e =>
    if e.cancelled && e.fetches != 0 then (s.updExec id (fun x => { x with fetches := x.fetches - 1 })).inc .schedCancelDiscCnt else s
  | none => s

/-- PITCH_DISPATCH_RESUME (10 R277 step 5); a RESET message is answered now (17). -/
def State.dispatchResume (s : State) (p : Nat) : State :=
  match (s.pitch p).stopCycle with
  | none => s
  | some c =>
    if c + 4096 ≤ s.cycle then
      let s1 := s.updPitch p (fun x => { x with stopCycle := none, resetMsg := none })
      (match (s.pitch p).resetMsg with
       | some m => s1.concludeLater m 0 []
       | none => s1)
    else s

/-- EXEC_RELEASE (09 R234). -/
def execExecRelease (sel : RelSel) (s : State) : Host.Outcome State Fault Refusal :=
  done (match sel with | .exec id => s.release id | .be p => s.releaseBe p.val)
/-- TILE_END (09 R226). -/
def execTileEnd (q : Quarter) (k : UnitKind) (u : Nat) (s : State) : Host.Outcome State Fault Refusal := done (s.tileEnd q.val k u)
/-- TILE_TIMEOUT (09 R228). -/
def execTileTimeout (q : Quarter) (k : UnitKind) (u : Nat) (s : State) : Host.Outcome State Fault Refusal :=
  done (s.tileTimeout q.val k u)
/-- FETCH_DISCARD (09 R238). -/
def execFetchDiscard (id : Nat) (s : State) : Host.Outcome State Fault Refusal := done (s.fetchDiscard id)
/-- CANCEL_COMPLETE (09 R238). -/
def execCancelComplete (id : Nat) (s : State) : Host.Outcome State Fault Refusal := done (s.completeCancel id)
/-- PITCH_DISPATCH_RESUME (10 R277). -/
def execPitchDispatchResume (p : PitchNo) (s : State) : Host.Outcome State Fault Refusal := done (s.dispatchResume p.val)

end Sys2Proof.Machine
end

