-- ==== Sys2Proof/Machine/Loads.lean ====
section
/-! DEFINITION. Graph loads: the checks of an image (09 R239 to R243), its acceptance and reply (09 R245), the copy of its
weights (09 R244) and its unload (09 R246). -/

namespace Sys2Proof.Machine

open Config (AFmt LayerP)

/-! ### Checks 3 to 7 (09 R219 to R223, R239) -/

def allZero (b : List Byte) (i n : Nat) : Bool := ((b.drop i).take n).all (fun x => x == 0#8)

/-- A table of `n` bytes lies in the image. -/
def inImg (b : Img) (off n : Nat) : Bool := decide (off + n ≤ imgLen b)

/-- The header (09 R219). -/
def headerOk (b : Img) : Bool :=
  numAt b 0 4 == 0x4947534E && numAt b 4 2 == 1 && decide (imgKind b < 2) && decide (128 ≤ imgLen b)
    && decide (1 ≤ imgTasks b) && decide (imgTstlCnt b ≤ 64) && allZero b 0x2E 2 && allZero b 0x50 48
    && (imgKind b == 1 || imgW b == 0) && (imgKind b == 0 || imgWe b == 0)

/-- The tables lie within the image (09 R219, R221). -/
def tablesOk (b : Img) : Bool :=
  inImg b (imgParamOff b) 0 && inImg b (imgSubOff b) 24 && inImg b (imgTaskOff b) (32 * imgTasks b)
    && inImg b (imgTstlOff b) (8 * imgTstlCnt b) && inImg b (imgRandOff b) 0 && imgWgtOff b % 64 == 0
    && inImg b (imgWgtOff b) (imgWgtBytes b)
    && (List.range (imgTasks b)).all (fun t =>
      let r := imgTask b t
      inImg b (imgSuccOff b + r.succ) (2 * r.succCnt) && inImg b (imgArgOff b + r.arg) r.argLen)

/-- The subgraph table (09 R220): consecutive tasks, roots counted, empty where the kind has none. -/
def subgraphOk (b : Img) (k : Nat) : Bool :=
  let g := imgSub b k
  let empty := if imgKind b = 1 then k != 0 else k == 0
  decide (g.1 + g.2.1 ≤ imgTasks b) && allZero b (imgSubOff b + 8 * k + 6) 2 && (!empty || g.2.1 == 0)
    && g.2.2 == (((List.range g.2.1).map (fun i => imgTask b (g.1 + i))).filter (fun r => r.pred == 0)).length

/-- The logical Turnstile table (09 R223). -/
def tstlTableOk (b : Img) : Bool :=
  (List.range (imgTstlCnt b)).all (fun i =>
    decide ((imgTstl b i).1 < 2) && allZero b (imgTstlOff b + 8 * i + 1) 3)

/-- Every task lies in one subgraph: TASK_CNT counts those of all three (09 R219, R220). -/
def taskCountOk (b : Img) : Bool :=
  (List.range (imgTasks b)).all (fun t =>
    ((List.range 3).filter (fun k => decide ((imgSub b k).1 ≤ t) && decide (t < (imgSub b k).1 + (imgSub b k).2.1))).length == 1)

/-- The first task of a subgraph and its number of tasks, as a list of task indices. -/
def subTasks (b : Img) (k : Nat) : List Nat := (List.range (imgSub b k).2.1).map (fun i => (imgSub b k).1 + i)

/-- OUT operations with RND = 1 of a program, by the random entry they name. -/
def srEntries (l : List Config.GOp) : List Nat := l.filterMap (fun o => match o with | .out _ _ true _ k _ _ => some k | _ => none)

/-- The gate tasks of a subgraph with their programs. -/
def subGates (b : Img) (k : Nat) : List (Config.GateArg × List Config.GOp) :=
  ((subTasks b k).filter (fun t => (imgTask b t).kind == 1)).map (fun t =>
    let a := Config.readGate (imgArg b t)
    (a, gateProg (imgParams b) a))

/-- The random list of a subgraph (06 R156): 1 to 32 entries where it uses random values, of the four kinds, each of 1 to 65,536
elements; an SR_BITS entry has as many elements as the OUT operations that name it write in a row. -/
def randOk (b : Img) (k : Nat) : Bool :=
  let l := imgRand b k
  let gs := subGates b k
  let uses := (subTasks b k).any (fun t => (imgTask b t).kind == 5)
  decide (l.length ≤ 32) && (!uses || decide (1 ≤ l.length))
    && l.all (fun r => (match r.kind with | .reserved _ => false | _ => true) && decide (1 ≤ r.count) && decide (r.count ≤ 65536))
    && gs.all (fun g => (srEntries g.2).all (fun n =>
        match l[n]? with
        | some r => r.kind == .srBits && r.count == (gs.map (fun x => x.1.cols * (srEntries x.2).count n)).sum
        | none => false))

/-- Check 3. -/
def imageShape (b : Img) : Bool :=
  headerOk b && tablesOk b && (List.range 3).all (subgraphOk b) && taskCountOk b && tstlTableOk b && (List.range 3).all (randOk b)

/-- Every tile of a task takes at most 2,048 cycles (09 R226): gate programs, expansion commands and noise fills are single
tiles, the tiles of a segment run 2,048 cycles of passes each (04 R118), and those of a KIOSK task are the image's. -/
def tilesOk (b : Img) (t : Nat) : Bool :=
  let r := imgTask b t
  let p := imgParams b
  match r.kind with
  | 0 =>
    let a := Config.readSeg (imgArg b t)
    decide (a.tiles ≤ r.tiles * passesPerTile (tileFmt p a.tile0))
  | 3 =>
    let l := p.kioskTiles.getD t []
    l.length == r.tiles && l.all (fun c => decide (c ≤ 2048)) && decide (r.wcet ≤ l.sum)
  | 4 => true
  | _ => r.tiles == 1

/-- A task record (09 R221) whose every tile takes at most 2,048 cycles. -/
def taskOk (b : Img) (t : Nat) : Bool :=
  let r := imgTask b t
  decide (r.kind < 6) && (if r.kind = 1 then decide (r.unit < 2) else r.unit == 0) && decide (1 ≤ r.tiles)
    && decide (r.succCnt ≤ 4095) && decide (r.worst ≤ 2048 * r.tiles) && tilesOk b t && (r.passT == 0xFFFF || decide (1 ≤ r.passN))
    && (r.waitT == 0xFFFF || decide (r.waitT < imgTstlCnt b)) && (r.passT == 0xFFFF || decide (r.passT < imgTstlCnt b))
    && allZero b (imgTaskOff b + 32 * t + 0x1E) 2

/-- Successors lie later in the same subgraph, and PRED_CNT counts them (09 R222). -/
def subEdgesOk (b : Img) (k : Nat) : Bool :=
  let g := imgSub b k
  let ts := (List.range g.2.1).map (fun i => g.1 + i)
  ts.all (fun t =>
    (imgSuccs b t).all (fun u => decide (t < u) && decide (u < g.1 + g.2.1))
      && (imgTask b t).pred == (ts.filter (fun u => (imgSuccs b u).contains t)).length)

/-- Check 4. -/
def tasksOk (b : Img) : Bool :=
  decide (imgTasks b ≤ 4096) && (List.range (imgTasks b)).all (taskOk b) && (List.range 3).all (subEdgesOk b)

/-- The pairings a Square accepts (05 R135). -/
def pairOk (w : Config.WFmt) (a : Config.AFmt) : Bool :=
  match w, a with
  | .e4m3, .e4m3 | .e4m3, .e5m2 | .e5m2, .e4m3 | .e5m2, .e5m2 | .int8, .int8 | .bf16, .bf16 | .fp16, .fp16 => true
  | .mxfp4, .e4m3 | .mxfp4, .e5m2 | .mxe2m3, .e4m3 | .mxe2m3, .e5m2 | .mxe3m2, .e4m3 | .mxe3m2, .e5m2 => true
  | _, _ => false

/-- A convolution layer (08 R194). -/
def convOk (c : Config.ConvP) : Bool :=
  decide (1 ≤ c.taps) && decide (c.taps ≤ 16) && decide (1 ≤ c.dil) && decide (c.dil ≤ 4096) && decide (c.centre < c.taps)
    && decide (1 ≤ c.cin) && decide (c.cin ≤ 4096) && c.cout % 64 == 0 && decide (64 ≤ c.cout) && decide (c.cout ≤ 4096)
    && decide (c.pad < 3) && decide (c.exec < 2)

/-- A linear layer's program: COMBINE, then BIAS, then OUT (07 R182). -/
def linearProg (l : List Config.GOp) : Bool :=
  match l with
  | [.combine _, .bias .run (.bias _), .out .run _ _ _ _ _ _] => true
  | _ => false

/-- A layer: its convolution parameters (08 R194), and, if it is named adaptable, that it is linear (07 R182). -/
def layerOk (b : Img) (l : LayerP) : Bool :=
  (!l.adaptable || (subGates b 1).all (fun g => (g.1.adapt.map (fun a => a.layer)) != some l.id || linearProg g.2))
    && (match l.conv with | some c => convOk c | none => true)

/-- A segment's tiles and its layer's activations are a pairing that a Square accepts (05 R135). -/
def segOk (b : Img) (t : Nat) : Bool :=
  let p := imgParams b
  let a := Config.readSeg (imgArg b t)
  match layerOf p a.layer with
  | none => false
  | some l => (List.range a.tiles).all (fun k => pairOk (tileFmt p (a.tile0 + k)) l.afmt)

def cellOk (c : Config.CellP) : Bool := decide (1 ≤ c.form) && decide (c.form ≤ 3) && c.hidden % 64 == 0 && decide (64 ≤ c.hidden)
  && decide (c.hidden ≤ 4096)

/-- How many blocks the gate group of a cell form stages, and the length of its program (07 R172). -/
def cellShape (form : Nat) : Nat × Nat := match form with | 1 => (4, 14) | 2 => (4, 16) | _ => (3, 12)

/-- The gate group of a recurrent layer: 64 hidden columns, the staged blocks of its form, and a program of the stated length
(07 R172). -/
def cellGateOk (b : Img) (t : Nat) : Bool :=
  let a := Config.readGate (imgArg b t)
  match a.cell with
  | none => true
  | some c =>
    match (imgParams b).cells[c.cell]? with
    | none => false
    | some y => a.cols == 64 && a.col0 % 64 == 0 && decide (a.col0 < y.hidden) && c.blocks.length == (cellShape y.form).1
        && c.biases.length == (cellShape y.form).1 && progLen (gateProg (imgParams b) a) == (cellShape y.form).2

/-- The parameters of 07 R170 by kind. -/
def paramRange (kind : Nat) (p : Config.ImgParams) : Bool :=
  if kind = 0 then
    [64, 128, 256].contains p.hop && decide (p.halo ≤ 64) && [256, 512, 1024, 2048, 4096].contains p.chunkLen && p.causal
  else decide (2 ≤ p.levels.length) && decide (p.levels.length ≤ 4096) && p.embed.length == p.levels.length
    && decide (p.initLevel < p.levels.length)

/-- A fused group (08 R202, R203): 1 to 8 convolution layers that Squares run, 1 to 4,096 stripe rows; of the chunk subgraph, one
that stays within HALO and reads no later frame (07 R186). -/
def fuseOk (p : Config.ImgParams) (f : Config.FuseP) : Bool :=
  decide (1 ≤ f.layers.length) && decide (f.layers.length ≤ 8)
    && f.layers.all (fun l => match convOf p l with | some c => c.exec == 0 | none => false)
    && decide (1 ≤ f.stripeRows) && decide (f.stripeRows ≤ 4096)
    && (!f.inChunk || (decide ((reachFrom p f 0).1 ≤ p.halo) && (reachFrom p f 0).2 == 0))

/-- A MARK_DECODE argument block (08 R212). -/
def markArgOk (a : Config.MarkArg) : Bool :=
  decide (a.candCnt ≤ 65535) && decide (1 ≤ a.maxOut) && decide (a.maxOut ≤ 256) && decide (a.iouMax ≤ 65536)

/-- TILES of a MARK_DECODE task (08 R213). -/
def markTiles (a : Config.MarkArg) : Nat :=
  let n := min a.candCnt 4096
  1 + ceilDiv n 256 + ceilDiv n 512 + ceilDiv (n * a.maxOut) 16384

/-- A MARK_DECODE task: its parameters and its tiles. -/
def markTaskOk (b : Img) (t : Nat) : Bool :=
  let a := Config.readMark (imgArg b t)
  markArgOk a && (imgTask b t).tiles == markTiles a

/-- Check 5. -/
def paramsOk (b : Img) : Bool :=
  let p := imgParams b
  paramRange (imgKind b) p && p.cells.all cellOk && p.layers.all (layerOk b) && p.fuses.all (fuseOk p)
    && (List.range (imgTasks b)).all (fun t => match (imgTask b t).kind with
        | 0 => segOk b t
        | 1 => cellGateOk b t
        | 4 => markTaskOk b t
        | _ => true)

/-- Check 6 (03 R76). -/
def stateBytesOk (b : Img) : Bool := imgState b % 64 == 0 && decide (imgState b ≤ 32512)

/-- Check 7: the worst cases and draws as stated (06 R157, 09 R240). -/
def worstOk (b : Img) : Bool :=
  let voc := imgKind b = 1
  let d := fun k => listDraws (imgRand b k) 64
  imgW b == (if voc then subWorst b 0 else 0) && imgChain b == (if voc then subWorst b 0 else 0)
    && imgWe b == (if voc then 0 else subWorst b 1) && imgDStep b == (if voc then d 0 else 0)
    && imgDFrame b == (if voc then 0 else d 1 + d 2)

/-! ### Checks 8 to 13 -/

/-- Pages of a context's weight share that none of its models holds (09 R241, 10 R255). -/
def State.freeWeight (s : State) (p c : Nat) : List Nat :=
  let used := ((s.pitchModels p).filter (fun m => m.ctx == c)).flatMap (fun m => m.pages)
  ((List.range (s.ctx c).wPages).map (fun k => (s.ctx c).wBase + k)).filter (fun k => !used.contains k)

/-- Pages of a context's working share not reserved as staging. -/
def State.freeStaging (s : State) (p c : Nat) : List Nat :=
  let used := ((s.pitchModels p).filter (fun m => m.ctx == c)).flatMap (fun m => m.staging)
  (List.range (s.ctx c).kPages).filter (fun k => !used.contains k)

/-- P of a load: weight pages an image needs. -/
def imgPages (b : Img) : Nat := ceilDiv (imgWgtBytes b) 65536

/-- How the weights fit: resident, split, or not at all (09 R241). -/
inductive Fit where
  | resident | split | none
  deriving DecidableEq, Repr

def State.weightFit (s : State) (p c : Nat) (b : Img) : Fit :=
  let m := (s.freeWeight p c).length
  if imgPages b ≤ m then .resident
  else if imgPages b ≤ m + m / 8 ∧ 2 ≤ (s.freeStaging p c).length then .split
  else .none

/-- Over-budget bytes: the tiles that do not lie wholly in the share's pages. -/
def State.overOf (s : State) (p c : Nat) (b : Img) : Nat :=
  if s.weightFit p c b = .split then
    let room := (s.freeWeight p c).length * 65536
    let q := imgParams b
    let fit := ((List.range (imgTiles b)).filter (fun k => decide (tileOff q (k + 1) ≤ room))).length
    imgWgtBytes b - tileOff q fit
  else 0

/-- The re-derived W, W_E and CHAIN, with the fetch of a split model (09 R240, R242). -/
def worstWith (b : Img) (ov : Nat) : Nat × Nat × Nat :=
  let x := ceilDiv ov 32
  if imgKind b = 1 then (subWorst b 0 + x, 0, subWorst b 0 + x) else (0, subWorst b 1 + x, 0)

/-- Check 13 (09 R243). -/
def State.tickFits (s : State) (p : Nat) (b : Img) (ov : Nat) : Bool :=
  let w := worstWith b ov
  let lim := s.lcLimit (s.pitchDom p)
  if imgKind b = 1 then decide (w.2.2 ≤ 3 * lim) else decide (ceilDiv w.2.1 (3 * (imgParams b).hop) ≤ lim)

/-- The image at an address: TOTAL_LEN bytes where they lie in LPDDR5X (09 R219). -/
def State.imageAt (s : State) (a : Nat) : Img := s.mem.readN a (max 128 (s.mem.leN (a + 8) 4))

/-- Checks 3 to 13 (09 R239); a read that fails its check is LOAD_CRC (12 R314). -/
def State.loadCheck (s : State) (p c a : Nat) : Nat :=
  let b := s.imageAt a
  firstFail [
    (a % 64 == 0 && inLpddr a (max 128 (imgLen b)), 0x301),
    ((s.badIn a b.length).isEmpty, 0x309),
    (imageShape b, 0x301),
    (tasksOk b, 0x301),
    (paramsOk b, 0x301),
    (stateBytesOk b, 0x302),
    (worstOk b, 0x301),
    (!(s.quarters p).any s.regionBad, 0x303),
    (decide (imgTstlCnt b ≤ s.poolSize p), 0x304),
    ((s.model p (imgModel b)).isNone, 0x305),
    (decide ((s.pitchModels p).length < 64), 0x306),
    (s.weightFit p c b != .none, 0x302),
    (s.tickFits p b (s.overOf p c b), 0x307)]

/-! ### Acceptance (09 R241, R244, R245) -/

/-- The model an accepted load records. -/
def State.newModel (s : State) (p c a : Nat) : Model :=
  let b := s.imageAt a
  let ov := s.overOf p c b
  let w := worstWith b ov
  let split := s.weightFit p c b == .split
  { pitch := p, id := imgModel b, acoustic := imgKind b == 0, ctx := c, addr := a, len := imgLen b, hash := sha256 b,
    stateBytes := imgState b, w := w.1, we := w.2.1, chain := w.2.2, pages := (s.freeWeight p c).take (imgPages b),
    staging := if split then (s.freeStaging p c).take 2 else [], staged := [], split := split, overBytes := ov, stage := .queued,
    first := true, unload := false }

/-- The reply of a load (15 R384). -/
def loadReply (b : Img) (m : Model) : List Byte :=
  let off := ((imgParams b).layers.filter (fun l => l.conv.isSome && !layerFinite b l)).map (fun l => l.id)
  m.hash ++ leBytes 2 m.id ++ leBytes 1 (b2n m.split) ++ leBytes 1 0 ++ leBytes 4 m.w ++ leBytes 4 m.we ++ leBytes 4 m.chain
    ++ leBytes 4 (imgPages b) ++ leBytes 4 m.overBytes ++ leBytes 2 off.length ++ leBytes 2 0 ++ off.flatMap (leBytes 2)

/-- Checks 3 to 13 and what follows from them, for a context that holds its shares; a read that failed does what 12 R313 says. -/
def State.loadRep (s : State) (p c a : Nat) : Rep :=
  let st := s.loadCheck p c a
  if st = 0x309 then .no ((s.failedRead a (s.imageAt a).length 5).refuseLoad p st) st
  else if st ≠ 0 then .no (s.refuseLoad p st) st
  else
    let m := s.newModel p c a
    .ok (({ s with models := s.models ++ [m] }).nextCopy p) (loadReply (s.imageAt a) m)

/-- Loads that waited for a context run their checks now (09 R239). -/
def State.runLoads (s : State) (c : Nat) : State :=
  let mine := s.loads.filter (fun l => l.ctx == c)
  let s1 : State := { s with loads := s.loads.filter (fun l => l.ctx != c) }
  s1.each mine (fun s l =>
    let r := s.loadRep l.pitch l.ctx l.addr
    r.s.concludeLater l.msg r.st r.pay)

/-! ### The copy (09 R244, 10 R265, 04 R113) -/

/-- The resident tiles, page by page, on one Quarter. -/
def State.copyTiles (s : State) (m : Model) (q : Nat) : State :=
  let b := s.image m
  let n := m.residentBytes b
  s.each m.pages.zipIdx (fun s p =>
    s.move (m.addr + imgWgtOff b + p.2 * 65536) (s.weightBase q + p.1 * 65536) (min 65536 (n - p.2 * 65536)))

/-- A load whose weight copy failed is abandoned (12 R314). -/
def State.abandonLoad (s : State) (p id : Nat) : State :=
  let s1 : State := { s with models := s.models.filter (fun x => !(x.pitch == p && x.id == id)) }
  (s1.refuseLoad p 0x309).nextCopy p

/-- GRAPH_COPY_DONE: the copy under way in a Pitch ends; a failed read abandons the load (12 R314). -/
def State.graphCopyDone (s : State) (p : Nat) : State :=
  match find1 s.models (fun m => m.pitch == p && m.stage == .copying) with
  | none => s
  | some m =>
    let b := s.image m
    if (s.badIn (m.addr + imgWgtOff b) (m.residentBytes b)).isEmpty then
      let s1 := s.each (s.quarters p) (fun s q => s.copyTiles m q)
      (s1.updModel p m.id (fun m => { m with stage := .copied })).nextCopy p
    else (s.failedRead (m.addr + imgWgtOff b) (m.residentBytes b) 5).abandonLoad p m.id

/-- Copied models become usable at the frame tick (09 R244); no load completes while a Quarter of the Pitch has bad regions
(04 R111). -/
def State.modelsUsable (s : State) (p : Nat) : State :=
  if (s.quarters p).any s.regionBad then s
  else s.each ((s.pitchModels p).filter (fun m => m.stage == .copied)) (fun s m =>
    let s1 := (s.updModel p m.id (fun m => { m with stage := .usable, first := false })).inc .schedLoadCnt
    (s1.event 0x0501 p (s.pitchDom p)).record 6 p (s.pitchDom p) (leBytes 2 m.id ++ leBytes 6 0 ++ m.hash))

/-! ### Unload (09 R246) -/

/-- Streams that name a voice whose base model it is. -/
def State.modelUsers (s : State) (p id : Nat) : List Nat :=
  s.streamsWhere (fun x => x.dir.pitch == p && ((s.voice x.dir.voice).acoustic == id || (s.voice x.dir.voice).vocoder == id))

def State.unloadRep (s : State) (p id : Nat) : Rep :=
  let st := firstFail [
    ((s.pitch p).built, 0x405),
    ((s.model p id).isSome, 0x105),
    ((s.modelUsers p id).isEmpty, 0x308)]
  if st ≠ 0 then .no s st else .ok (s.updModel p id (fun m => { m with unload := true }))

/-- GRAPH_UNLOAD_DONE: the copy has ended and no execution of the model is left. -/
def State.unloadDone (s : State) (p id : Nat) : State :=
  match s.model p id with
  | none => s
  | some m =>
    if m.unload && m.stage != .queued && m.stage != .copying && s.execs.all (fun e => !(e.pitch == p && e.model == id)) then
      s.removeModel p id
    else s

end Sys2Proof.Machine
end

