-- ==== Sys2Proof/Machine/Contexts.lean ====
section
/-! DEFINITION. Pitches (10 R247 to R251) and job contexts: shares (10 R255, R256), arrival, eviction and departure (10 R257
to R265), the orders of work (10 R269, R270), and the messages and events of chapters 09 and 10 about them. -/

namespace Sys2Proof.Machine

/-! ### Shares (10 R255, R256, R258) -/

/-- The lowest offset of a run of `n` pages, of `size`, that meets none of the busy runs. -/
def freeRun (size n : Nat) (busy : List (Nat × Nat)) : Option Nat :=
  if size < n then none
  else ((List.range (size + 1 - n)).filter (fun b =>
    busy.all (fun r => decide (b + n ≤ r.1) || decide (r.1 + r.2 ≤ b)))).head?

/-- The weight and working bases that a context holds, or is promised. -/
def Ctx.bases (c : Ctx) : Nat × Nat := c.granting.getD (c.wBase, c.kBase)

/-- Contexts of a Pitch whose shares are held or promised, but for `c` and those that leave. -/
def State.shareHolders (s : State) (p c : Nat) (gone : List Nat) : List Ctx :=
  (s.ctxs.filter (fun e => e.2.pitch == p && (e.2.holds || e.2.granting.isSome) && e.1 != c && !gone.contains e.1)).map (fun e => e.2)

/-- Contexts of the device that R258 counts, with `c` and without those that leave. -/
def State.holdCount (s : State) (c : Nat) (gone : List Nat) : Nat :=
  (s.ctxs.filter (fun e => (e.2.holds || e.2.granting.isSome) && e.1 != c && !gone.contains e.1)).length + 1

/-- Where the shares of a context fit once the contexts in `gone` have left: its weight base and working base. -/
def State.fits (s : State) (c : Nat) (gone : List Nat) : Option (Nat × Nat) :=
  let x := s.ctx c
  let hs := s.shareHolders x.pitch c gone
  match freeRun (s.pitchWeight x.pitch) x.wPages (hs.map (fun h => (h.bases.1, h.wPages))),
        freeRun (s.pitchWork x.pitch) x.kPages (hs.map (fun h => (h.bases.2, h.kPages))) with
  | some w, some k => if s.holdCount c gone ≤ 64 then some (w, k) else none
  | _, _ => none

/-- Whether a RESIDENT BE context is blocked (10 R261): `busy` says that one of its executions was released since the previous
frame tick, or was under way then; an execution that waits for release is there unreleased. -/
def State.blocked (s : State) (c : Nat) : Bool := !(s.ctx c).busy && s.execs.all (fun e => e.ctx != c)

/-- Eviction candidates in order (10 R264). -/
def State.evictOrder (s : State) (p : Nat) : List Nat :=
  sortBy (fun c => if s.blocked c then [0, 0xFFFFFFFFFF - (s.ctx c).blockF, c] else [1, 0xFFFFFFFFFF - (s.ctx c).resF, c])
    (s.ctxOf p (fun c => c.be && c.state == .resident))

/-- The candidates, in order, that must leave so that `c` fits. -/
def State.evictFor (s : State) (c : Nat) : List Nat → List Nat → Option (List Nat)
  | gone, [] => if (s.fits c gone).isSome then some gone else none
  | gone, k :: t => if (s.fits c gone).isSome then some gone else State.evictFor s c (gone ++ [k]) t

/-! ### Arrival and departure (10 R257, R265) -/

/-- Shares are granted: ARRIVING. Models that were on the die before are copied in again, each page at its place in the share. -/
def State.grant (s : State) (c w k : Nat) : State :=
  let x := s.ctx c
  let s1 := s.updCtx c (fun y =>
    { y with state := .arriving, wBase := w, kBase := k, granting := none, runnable := false, waitF := 0,
             restored := !y.everSpilled })
  let back := fun (m : Model) => { m with pages := m.pages.map (fun n => n - x.wBase + w), stage := if m.first then m.stage else .queued }
  let ms := updWhere (fun m => m.pitch == x.pitch && m.ctx == c) back s1.models
  let s2 := ({ s1 with models := ms }).nextCopy x.pitch
  if x.be then s2 else s2.runLoads c

/-- A context that waits for others to leave takes its shares when they fit. -/
def State.tryGrant (s : State) (c : Nat) : State :=
  match (s.ctx c).granting with
  | none => s
  | some r =>
    let x := s.ctx c
    let hs := (s.ctxs.filter (fun e => e.2.pitch == x.pitch && e.2.holds)).map (fun e => e.2)
    let free := fun (b n : Nat) (l : List (Nat × Nat)) => l.all (fun r => decide (b + n ≤ r.1) || decide (r.1 + r.2 ≤ b))
    if x.state == .registered && free r.1 x.wPages (hs.map (fun h => (h.wBase, h.wPages)))
        && free r.2 x.kPages (hs.map (fun h => (h.kBase, h.kPages)))
        && decide ((s.ctxs.filter (fun e => e.2.holds)).length < 64) then s.grant c r.1 r.2
    else s

def State.tryGrants (s : State) (p : Nat) : State := s.each (s.ctxOf p (fun c => c.granting.isSome)) State.tryGrant

/-- RESIDENT to LEAVING (10 R265 steps 1 to 4); a first copy that has not ended starts again at a later arrival. Chunk work that
waits for its release goes on waiting. -/
def State.startLeave (s : State) (c : Nat) : State :=
  let p := (s.ctx c).pitch
  let s1 := (s.updCtx c (fun x => { x with state := .leaving })).cnt .schedEvictCnt p 15 0 1
  let s2 := s1.each (s1.execsWhere (fun e => e.ctx == c && (e.released || e.sub != .chunk))) (fun s id => (s.cutOff id).cancelExec id)
  let ms := updWhere (fun m => m.pitch == p && m.ctx == c && m.first) (fun m => { m with stage := .queued }) s2.models
  ({ s2 with models := ms }).nextCopy p

/-- Grant a context's shares now, or promise them and let others leave; none where nothing makes room (10 R260). -/
def State.makeRoom (s : State) (c : Nat) : Option State :=
  match s.evictFor c [] (s.evictOrder (s.ctx c).pitch) with
  | none => none
  | some gone =>
    match s.fits c gone with
    | none => none
    | some r =>
      if gone.isEmpty then some (s.grant c r.1 r.2)
      else some ((s.updCtx c (fun x => { x with granting := some r })).each gone State.startLeave)

/-- Where page `k` of a context's working share on Quarter number `j` of its Pitch lies in its spill area: Quarters in
ascending order, each share in page order. -/
def State.spillAt (s : State) (c j : Nat) : Nat := (s.ctx c).spill + j * (s.ctx c).kPages * 65536

/-- CTX_SPILL_DONE: the executions are gone and the share is copied out (10 R265, 12 R319). -/
def State.ctxSpillDone (s : State) (c : Nat) : State :=
  let x := s.ctx c
  if x.state = .leaving && s.execs.all (fun e => e.ctx != c || (!e.released && !e.cancelled)) then
    let n := x.kPages * 65536
    let qs := s.quarters x.pitch
    let bad := qs.flatMap (fun q => s.badWordsIn (s.shareBase c q) n)
    let s1 := s.each qs.zipIdx (fun s q => (s.move (s.shareBase c q.1) (s.spillAt c q.2) n).rbBytes (q.1 / 4) n)
    if bad.isEmpty then
      let s2 := (s1.updCtx c (fun x => { x with state := .registered, everSpilled := true })).event 0x0508 c (s.pitchDom x.pitch)
      s2.tryGrants x.pitch
    else
      let s2 := ((s1.flag .memcEvt 0 2).cnt .memcParFaultCnt 0 31 0 bad.length).updCtx c (fun x => { x with state := .faulted, fault := 3 })
      (s2.each (s2.ctxStreams c) (fun s i => s.faultStream i 3 true)).ctxFaultEvent c 3 x.pitch 0
  else s

/-- A model is copied in again at a later arrival; a failed read abandons it (10 R265, 12 R314). -/
def State.copyBack (s : State) (m : Model) : State :=
  let b := s.image m
  if (s.badIn (m.addr + imgWgtOff b) (m.residentBytes b)).isEmpty then
    (s.each (s.quarters m.pitch) (fun s q => s.copyTiles m q)).updModel m.pitch m.id (fun m => { m with stage := .usable })
  else
    (s.failedRead (m.addr + imgWgtOff b) (m.residentBytes b) 5).abandonLoad m.pitch m.id

/-- A restore whose read failed: the context is FAULTED (10 R265, 12 R314). -/
def State.restoreFail (s : State) (c : Nat) : State :=
  let s1 := s.updCtx c (fun x => { x with state := .faulted, fault := 1 })
  (s1.each (s1.ctxStreams c) (fun s i => s.faultStream i 1 true)).ctxFaultEvent c 1 (s.ctx c).pitch 0

/-- CTX_RESTORE_DONE: an ARRIVING context's working share is back and its model copies have ended; a failed read of the
share faults it (10 R265). -/
def State.ctxRestoreDone (s : State) (c : Nat) : State :=
  let x := s.ctx c
  if x.state = .arriving && !x.restored then
    let n := x.kPages * 65536
    let qs := s.quarters x.pitch
    if (s.badIn x.spill (n * qs.length)).isEmpty then
      let s1 := s.each qs.zipIdx (fun s q => (s.move (s.spillAt c q.2) (s.shareBase c q.1) n).rbBytes (q.1 / 4) n)
      let back := (s1.pitchModels x.pitch).filter (fun m => m.ctx == c && !m.first && m.stage == .queued)
      (s1.updCtx c (fun x => { x with restored := true })).each back State.copyBack
    else (s.failedRead x.spill (n * qs.length) 2).restoreFail c
  else s

/-- An ARRIVING context becomes RESIDENT at a frame tick (10 R257, R270). -/
def State.arrive (s : State) (c : Nat) : State :=
  let x := s.ctx c
  if x.state = .arriving && x.restored
      && (s.models.filter (fun m => m.pitch == x.pitch && m.ctx == c)).all (fun m => m.stage != .queued && m.stage != .copying) then
    let others := (s.ctxOf x.pitch (fun y => y.state == .resident)).map (fun k => (s.ctx k).vtime)
    let s1 := (s.updCtx c (fun y =>
      { y with state := .resident, resF := 0, blockF := 0, busy := true, frameAcct := 0, vtime := listMin others })).event
        0x0507 c (s.pitchDom x.pitch)
    if x.be then s1.runLoads c else s1
  else s

def State.arrivals (s : State) (l : List Nat) : State := s.each l State.arrive

/-! ### Residency at a frame tick (10 R262, R263) -/

/-- Whether a BE context in REGISTERED is runnable (10 R261): `runnable` says that work called it there or while it left. -/
def State.ctxRunnable (s : State) (c : Nat) : Bool :=
  let x := s.ctx c
  x.be && x.state == .registered && (x.runnable || s.loads.any (fun l => l.ctx == c)
    || (s.ctxStreams c).any (fun i => (s.stream i).life.dep || (s.stream i).life.exportP.isSome))

/-- Runnable contexts that wait, longest first. -/
def State.waiters (s : State) (p : Nat) : List Nat :=
  sortBy (fun c => [0xFFFFFFFFFF - (s.ctx c).waitF, c])
    ((s.ctxOf p (fun c => c.be && c.state == .registered && c.granting.isNone)).filter s.ctxRunnable)

/-- Frame ticks pass for the contexts of a Pitch. -/
def State.ageCtxs (s : State) (p : Nat) : State :=
  s.each (s.ctxOf p (fun c => c.state != .free)) (fun s c =>
    let run := s.ctxRunnable c
    s.updCtx c (fun x =>
      { x with runnable := x.runnable || run, waitF := if run then x.waitF + 1 else 0, resF := x.resF + 1, blockF := x.blockF + 1 }))

/-- Rule 1. -/
def State.admitFree (s : State) (p : Nat) : State :=
  s.each (s.waiters p) (fun s c => match s.fits c [] with | some r => s.grant c r.1 r.2 | none => s)

/-- R263. -/
def State.noFit (s : State) (p : Nat) : State :=
  ((s.cnt .schedEvictCnt p 31 16 1).flag .schedPitchEvt p 2).event 0x0509 p (s.pitchDom p)

/-- Rules 2 and 3. -/
def State.evictRules (s : State) (p : Nat) : State :=
  match (s.waiters p).head? with
  | none => s
  | some c =>
    let be := s.ctxOf p (fun x => x.be && x.state == .resident)
    let rot := s.fld .schedPitchCfg p 15 8
    if be.all s.blocked || (decide (0 < rot) && decide (rot ≤ (s.ctx c).waitF)) then
      (match s.makeRoom c with | some t => t | none => s.noFit p)
    else s

/-- R262 for one Pitch, and the arrivals of contexts that were ARRIVING before (10 R257); the account of activity starts anew. -/
def State.residency (s : State) (p : Nat) : State :=
  let was := s.ctxOf p (fun c => c.state == .arriving)
  let s1 := ((((s.ageCtxs p).tryGrants p).admitFree p).evictRules p).arrivals was
  s1.each (s1.ctxOf p (fun c => c.state == .resident)) (fun s c =>
    s.updCtx c (fun x => { x with busy := s.execs.any (fun e => e.ctx == c && e.released) }))

/-! ### Orders of work (10 R269, R270) -/

/-- The BE order from the account of the frame just ended, kept in its mode; contexts that arrived now come first. -/
def State.orderBe (s : State) (p : Nat) (wait : Bool) : State :=
  let cs := s.ctxOf p (fun c => c.state == .resident)
  let key := fun (c : Nat) =>
    if (s.ctx c).resF = 0 then [0, 0, c]
    else [1, if wait then 2 ^ 64 - (s.ctx c).frameAcct else (s.ctx c).frameAcct, c]
  let s1 := s.updPitch p (fun x => { x with beOrder := sortBy key cs })
  s1.each cs (fun s c => s.updCtx c (fun x => { x with frameAcct := 0 }))

/-- The share order (10 R270). -/
def State.orderShares (s : State) (p : Nat) : State :=
  s.updPitch p (fun x => { x with beOrder := sortBy (fun c => [(s.ctx c).vtime, c]) (s.ctxOf p (fun c => c.state == .resident)) })

/-- The settings of SCHED_PITCH_CFG take effect (10 R251); on entry to SHARES every v is 0. -/
def State.applyPitchCfg (s : State) (p : Nat) : State :=
  let w := s.rg .schedPitchCfg p
  let entry := w.testBit 0 && !(s.pitch p).shares
  let s1 := s.updPitch p (fun x => { x with shares := w.testBit 0, waitMode := w.testBit 1, teardown := w.testBit 2 })
  if entry then s1.each (s1.ctxOf p (fun c => c.state != .free)) (fun s c => s.updCtx c (fun x => { x with vtime := 0 })) else s1

/-! ### Pitches (10 R247 to R250) -/

def State.quarterFree (s : State) (q : Nat) : Bool := (s.quarterPitch q).isNone && !s.dev.selftest.testBit q

/-- Units of the Quarters are reset and every word of their SRAM is zero, with valid parity. -/
def State.clearQuarters (s : State) (qs : List Nat) : State :=
  let s1 := s.each qs (fun s q => s.wipe (qBase q) 0x1000000)
  { s1 with units := s1.units.filter (fun u => !qs.contains u.quarter),
            kiosks := s1.kiosks.map (fun e => if qs.contains (e.1 / 16) then (e.1, e.2.cleared) else e),
            pages := s1.pages.filter (fun e => !qs.contains (e.1 / 256)) }

def buildCheck (s : State) (b : BuildParams) : Nat :=
  firstFail [
    (decide (b.pitch.toNat < 16) && decide (b.domain.toNat < 2) && decide (b.mode.toNat < 2) && decide (b.acct.toNat < 2)
      && decide (b.fault.toNat < 2), 0x403),
    (!(s.pitch b.pitch.toNat).built && !(s.pitch b.pitch.toNat).building, 0x401),
    (b.qmask != 0#16 && (bitsTo 16 b.qmask.toNat).all s.quarterFree, 0x402)]

/-- A Pitch that is being built (10 R248). -/
def State.startBuild (s : State) (b : BuildParams) : State :=
  let p := b.pitch.toNat
  let s1 := s.clearQuarters (bitsTo 16 b.qmask.toNat)
  let s2 := s1.updPitch p (fun _ =>
    { Pitch.blank with building := true, domain := b.domain.toNat, qmask := b.qmask.toNat, shares := b.mode == 1#8,
                       waitMode := b.acct == 1#8, teardown := b.fault == 1#8, chunkCur := s.fld .schedPreCfg p 6 4,
                       epoch := s.epoch })
  ((s2.setFld .schedPitchCfg p 0 0 b.mode.toNat).setFld .schedPitchCfg p 1 1 b.acct.toNat).setFld .schedPitchCfg p 2 2 b.fault.toNat

def State.buildRep (s : State) (b : BuildParams) : Rep :=
  let st := buildCheck s b
  if st ≠ 0 then .no s st else .ok (s.startBuild b)

/-- Tolcon's EPOCH record (19 R490). -/
def State.epochRecord (s : State) (subject dom e : Nat) : State := s.record 5 subject dom (leBytes 4 e ++ leBytes 4 0)

/-- PITCH_BUILD_DONE. -/
def State.buildDone (s : State) (p : Nat) : State :=
  if (s.pitch p).building then
    ((s.updPitch p (fun x => { x with building := false, built := true })).epochRecord p (s.pitchDom p)
      (s.pitch p).epoch).event 0x0504 p (s.pitchDom p)
  else s

/-- The channels of a Pitch that is dissolved are aborted, disabled and unowned (13 R325). -/
def State.freeChans (s : State) (p : Nat) : State :=
  s.each ((List.range 256).filter (fun n => s.chanOwner n == some p)) (fun s n => (s.movrDis n).setRg .movrOwner n 0x10)

def State.dissolveRep (s : State) (p : Nat) : Rep :=
  let st := firstFail [
    (decide (p < 16) && (s.pitch p).built, 0x405),
    ((s.ctxOf p (fun c => c.state != .free)).isEmpty, 0x404)]
  if st ≠ 0 then .no s st
  else
    let d := s.pitchDom p
    .ok (((((s.freeChans p).clearQuarters (s.quarters p)).updPitch p (fun _ => Pitch.blank)).epochRecord p d 0).event 0x0505 p d)

/-! ### Context messages (10 R252, R259, R260) -/

def ctxCheck (s : State) (c : CtxParams) : Nat :=
  let p := c.pitch.toNat
  firstFail [
    (decide (c.ctx.toNat < 1024) && decide (p < 16), 0x407),
    ((s.ctx c.ctx.toNat).state == .free, 0x406),
    ((s.pitch p).built, 0x405),
    (decide (c.cls.toNat < 2) && c.weight != 0#8 && decide (c.weightPages.toNat ≤ 240) && decide (c.workPages.toNat ≤ 240)
      && (c.cls == 0#8 || (c.spill.toNat % 65536 == 0
            && inLpddr c.spill.toNat (c.workPages.toNat * 65536 * (s.quarters p).length))), 0x407),
    (decide (c.weightPages.toNat ≤ s.pitchWeight p) && decide (c.workPages.toNat ≤ s.pitchWork p), 0x408)]

def State.ctxRegisterRep (s : State) (c : CtxParams) : Rep :=
  let st := ctxCheck s c
  if st ≠ 0 then .no s st
  else .ok (s.updCtx c.ctx.toNat (fun _ =>
    { Ctx.blank with state := .registered, be := c.cls == 1#8, pitch := c.pitch.toNat, weight := c.weight.toNat,
                     wPages := c.weightPages.toNat, kPages := c.workPages.toNat, spill := c.spill.toNat }))

def State.ctxKnown (s : State) (c : Nat) : Bool := decide (c < 1024) && (s.ctx c).state != .free

/-- Admission of an LC context in REGISTERED (10 R260); one whose shares are promised already changes nothing. -/
def State.admitCtx (s : State) (c : Nat) : Option State := if (s.ctx c).granting.isSome then some s else s.makeRoom c

def State.ctxAdmitRep (s : State) (c : Nat) : Rep :=
  let st := firstFail [
    (s.ctxKnown c, 0x407),
    (!(s.ctx c).be, 0x409),
    ((s.ctx c).state == .registered, 0x406)]
  if st ≠ 0 then .no s st
  else match s.admitCtx c with
    | some t => .ok t
    | none => .no s 0x408

def State.ctxTeardownRep (s : State) (c : Nat) : Rep :=
  if !s.ctxKnown c then .no s 0x407
  else
    let p := (s.ctx c).pitch
    .ok (((s.teardown c).event 0x050B c (s.pitchDom p)).tryGrants p)

/-! ### GRAPH_LOAD (09 R239) -/

/-- The context of a load that is not RESIDENT or ARRIVING is made resident first. -/
def State.graphLoadRep (s : State) (msg : Instr) (p c a : Nat) : Rep :=
  let x := s.ctx c
  let wait := fun (t : State) => Rep.wait { t with loads := t.loads ++ [⟨⟨msg, s.epoch⟩, p, c, a⟩] }
  if !(decide (p < 16) && (s.pitch p).built) then .no (s.refuseLoad p 0x405) 0x405
  else if !s.ctxKnown c || x.pitch != p || x.state == .faulted then .no (s.refuseLoad p 0x407) 0x407
  else if x.state = .resident ∨ x.state = .arriving then s.loadRep p c a
  else if x.be then wait (s.wakeCtx c)
  else match s.admitCtx c with
    | none => .no (s.refuseLoad p 0x408) 0x408
    | some t => if (t.ctx c).state = .arriving then t.loadRep p c a else wait t

/-! ### Commands -/

/-- GRAPH_LOAD (09 R239). -/
def execGraphLoad (h : Hdr) (pitch : Byte) (ctx : Half) (addr : DWord) (s : State) : Host.Outcome State Fault Refusal :=
  done (runMsg (.graphLoad h pitch ctx addr)
    (fun s => s.graphLoadRep (.graphLoad h pitch ctx addr) pitch.toNat ctx.toNat addr.toNat) s)
/-- GRAPH_COPY_DONE (09 R244). -/
def execGraphCopyDone (p : PitchNo) (s : State) : Host.Outcome State Fault Refusal := done (s.graphCopyDone p.val)
/-- GRAPH_UNLOAD (09 R246). -/
def execGraphUnload (h : Hdr) (pitch : Byte) (model : Half) (s : State) : Host.Outcome State Fault Refusal :=
  done (runMsg (.graphUnload h pitch model) (fun s => s.unloadRep pitch.toNat model.toNat) s)
/-- GRAPH_UNLOAD_DONE (09 R246). -/
def execGraphUnloadDone (p : PitchNo) (model : Half) (s : State) : Host.Outcome State Fault Refusal :=
  done (s.unloadDone p.val model.toNat)
/-- PITCH_BUILD (10 R247, R248). -/
def execPitchBuild (h : Hdr) (b : BuildParams) (s : State) : Host.Outcome State Fault Refusal :=
  done (runMsg (.pitchBuild h b) (fun s => s.buildRep b) s)
/-- PITCH_BUILD_DONE (10 R248). -/
def execPitchBuildDone (p : PitchNo) (s : State) : Host.Outcome State Fault Refusal := done (s.buildDone p.val)
/-- PITCH_DISSOLVE (10 R250). -/
def execPitchDissolve (h : Hdr) (pitch : Byte) (s : State) : Host.Outcome State Fault Refusal :=
  done (runMsg (.pitchDissolve h pitch) (fun s => s.dissolveRep pitch.toNat) s)
/-- CTX_REGISTER (10 R252). -/
def execCtxRegister (h : Hdr) (c : CtxParams) (s : State) : Host.Outcome State Fault Refusal :=
  done (runMsg (.ctxRegister h c) (fun s => s.ctxRegisterRep c) s)
/-- CTX_ADMIT (10 R260). -/
def execCtxAdmit (h : Hdr) (ctx : Half) (s : State) : Host.Outcome State Fault Refusal :=
  done (runMsg (.ctxAdmit h ctx) (fun s => s.ctxAdmitRep ctx.toNat) s)
/-- CTX_TEARDOWN (10 R259). -/
def execCtxTeardown (h : Hdr) (ctx : Half) (s : State) : Host.Outcome State Fault Refusal :=
  done (runMsg (.ctxTeardown h ctx) (fun s => s.ctxTeardownRep ctx.toNat) s)
/-- CTX_SPILL_DONE (10 R265). -/
def execCtxSpillDone (c : CtxNo) (s : State) : Host.Outcome State Fault Refusal := done (s.ctxSpillDone c.val)
/-- CTX_RESTORE_DONE (10 R265). -/
def execCtxRestoreDone (c : CtxNo) (s : State) : Host.Outcome State Fault Refusal := done (s.ctxRestoreDone c.val)

end Sys2Proof.Machine
end

