-- ==== Sys2Proof/Machine/Links.lean ====
section
/-! DEFINITION. Chip links: flits as bytes (16 R397, R398), sending and retry (16 R399 to R402, R410), training (16 R403,
R404), routing (16 R405 to R409) and messages that leave this device (16 R411). -/

namespace Sys2Proof.Machine

/-! ### Flits (16 R397, R398) -/

def Flit.head (f : Flit) : List Byte :=
  leBytes 2 f.dst ++ leBytes 2 f.src ++ leBytes 1 f.typ ++ leBytes 1 f.flags ++ leBytes 1 f.hops ++ leBytes 1 0
    ++ leBytes 2 f.seq ++ leBytes 2 f.ack ++ leBytes 2 f.msgId ++ leBytes 2 f.payload.length ++ fitTo 236 f.payload

def Flit.bytes (f : Flit) : List Byte := f.head ++ leBytes 4 (crc32 f.head)

def Flit.cls (f : Flit) : Nat := f.flags % 4
def Flit.isFirst (f : Flit) : Bool := f.flags.testBit 2
def Flit.isLast (f : Flit) : Bool := f.flags.testBit 3

/-- A received flit; none counts as a CRC failure. -/
def parseFlit (b : List Byte) : Option Flit :=
  if b.length = 256 ∧ numAt b 0xFC 4 = crc32 (b.take 0xFC) ∧ byteAt b 4 < 5 ∧ byteAt b 5 < 16 ∧ byteAt b 5 % 4 < 3
      ∧ byteAt b 7 = 0 ∧ numAt b 8 2 < 4096 ∧ numAt b 0xA 2 < 4096 ∧ numAt b 0xE 2 ≤ 236 then
    some { dst := numAt b 0 2, src := numAt b 2 2, typ := byteAt b 4, flags := byteAt b 5, hops := byteAt b 6,
           seq := numAt b 8 2, ack := numAt b 0xA 2, msgId := numAt b 0xC 2, payload := (b.drop 0x10).take (numAt b 0xE 2) }
  else none

def idleFlit (ack : Nat) : Flit :=
  { dst := 0, src := 0, typ := 0, flags := 0, hops := 0, seq := 0, ack := ack, msgId := 0, payload := [] }

/-! ### Link states (16 R403) -/

def LState.code : LState → Nat
  | .off => 0 | .seek => 1 | .align => 2 | .exchange => 3 | .up => 4 | .down => 5 | .loopback => 6

def State.idValid (s : State) : Bool := s.bit .linkId 0 31

/-- The body of an image (17 R434). -/
def imgBody (b : List Byte) : List Byte := (b.drop 128).take (numAt b 8 4)

/-- SHA-384 of the running firmware's body; zero while mask ROM runs (16 R404, 18 R460; log 49). -/
def State.fwHash (s : State) : List Byte :=
  if s.dev.runFw.isEmpty then List.replicate 48 0#8 else sha384 (imgBody s.dev.runFw)

def State.cfgHash (s : State) : List Byte :=
  if s.dev.runCfg.isEmpty then List.replicate 48 0#8 else sha384 (imgBody s.dev.runCfg)

/-- A TRAIN payload (16 R404). -/
def State.trainPayload (s : State) (n : Nat) : List Byte :=
  let tw := s.bit .linkTwinCfg 0 31
  leBytes 2 s.ownId ++ leBytes 1 n
    ++ leBytes 1 (b2n (s.link n).seen + 2 * b2n s.idValid + 4 * b2n (s.bit .linkChCfg n 3))
    ++ leBytes 1 (if tw then s.fld .linkTwinCfg 0 16 16 else 2) ++ leBytes 3 0 ++ leBytes 2 (s.rg .linkTwinMirror)
    ++ leBytes 1 (b2n (s.bit .tickCtl 0 1) + 2 * b2n (s.bit .tickCtl 1 1)) ++ leBytes 5 0 ++ s.fwHash

def State.linkTo (s : State) (n : Nat) (st : LState) : State :=
  s.updLink n (fun l => { l with state := st, since := s.uptime, trainAt := none })

/-- Whether a link has been in its state for `ns`. -/
def State.linkFor (s : State) (n ns : Nat) : Bool := decide ((s.link n).since + ns ≤ s.uptime)

/-- An UP link goes DOWN (16 R403). -/
def State.linkDown (s : State) (n : Nat) : State :=
  ((s.linkTo n .down).cnt .linkChErrCnt n 31 28 1).event 0x0A02 n

/-- LINK_EN_SET. -/
def State.linkEnable (s : State) (n : Nat) : State :=
  let s1 := s.setFld .linkChCfg n 0 0 1
  if (s.link n).state = .off then s1.linkTo n .seek else s1

/-- LINK_EN_CLEAR: OFF from any state. -/
def State.linkDisable (s : State) (n : Nat) : State :=
  let s1 := (s.setFld .linkChCfg n 0 0 0).linkTo n .off
  if (s.link n).state = .up then s1.event 0x0A02 n else s1

/-- A transition that needs a state. -/
def State.linkStep (s : State) (n : Nat) (from_ : LState) (f : Link → Link) : State :=
  if (s.link n).state = from_ then s.updLink n f else s

/-- Whether the chip links run: in P0 and P1 (18 R476). -/
def State.linksRun (s : State) : Bool := decide (s.pwr.state < 2)

/-! ### Sending (16 R399, R401, R410) -/

def State.emitFlit (s : State) (n : Nat) (f : Flit) : State := s.emit (.flit ⟨n % 64, Nat.mod_lt _ (by decide)⟩ f.bytes)

def State.emitTrain (s : State) (n : Nat) (f : Flit) : State := s.emit (.train ⟨n % 64, Nat.mod_lt _ (by decide)⟩ f.bytes)

/-- LINK_TRAIN_SEND: in EXCHANGE a TRAIN flit, every 1 µs (16 R404). -/
def State.trainSend (s : State) (n : Nat) : State :=
  if (s.link n).state = .exchange ∧ (s.link n).trainAt.all (fun t => decide (t + 1000 ≤ s.uptime)) = true then
    (s.updLink n (fun l => { l with trainAt := some s.uptime })).emitTrain n { idleFlit (s.link n).rxNext with src := s.ownId, typ := 1, payload := s.trainPayload n }
  else s

/-- Resend every unacknowledged flit, in order; 32 resends without an advance take the link DOWN (16 R401). -/
def State.resend (s : State) (n : Nat) : State :=
  let l := s.link n
  let k := l.unacked.length
  let s1 := (s.each l.unacked (fun s f => s.emitFlit n { f with ack := l.rxNext })).cnt .linkChErrCnt n 27 16 k
  let s2 := s1.updLink n (fun l => { l with resends := l.resends + 1, retries := l.retries.add s.second k, ackAt := s.uptime })
  if 32 ≤ l.resends + 1 then s2.linkDown n else s2

/-- The turn of a source in a class: a message already started goes on; else the next source in round-robin order. -/
def Link.pick (l : Link) (c : Nat) : Option LQueued :=
  let qs := l.queue.filter (fun q => q.flit.typ == 4 && q.flit.cls == c)
  let srcs := ((qs.map (fun q => q.source)).eraseDups)
  let head := fun (k : Nat) =>
    let mine := qs.filter (fun q => q.source == k)
    match Tab.get? l.busySrc (k * 4 + c) with
    | some id => (mine.filter (fun q => q.flit.src * 65536 + q.flit.msgId == id)).head?
    | none => mine.head?
  let last := l.lastSrc.getD c 64
  ((sortBy (fun k => [(k + 64 - last) % 65]) srcs).filterMap head).head?

/-- The first flit available besides a NAK. -/
def Link.next (l : Link) : Option LQueued :=
  match (l.queue.filter (fun q => q.flit.typ == 3)).head? with
  | some q => some q
  | none => ([0, 1, 2].filterMap l.pick).head?

/-- A flit leaves the queue and joins the unacknowledged ones. -/
def Link.takeFlit (l : Link) (q : LQueued) (now : Nat) : Flit × Link :=
  let f : Flit := { q.flit with seq := l.txSeq, ack := l.rxNext }
  let key := q.source * 4 + f.cls
  let busy := if f.typ = 3 then l.busySrc
    else if f.isLast then Tab.erase l.busySrc key else Tab.set l.busySrc key (f.src * 65536 + f.msgId)
  let lasts := if f.typ = 3 then l.lastSrc
    else (List.range 3).map (fun c => if c = f.cls then q.source else l.lastSrc.getD c 64)
  (f, { l with txSeq := (l.txSeq + 1) % 4096, unacked := l.unacked ++ [f], queue := l.queue.erase q, busySrc := busy,
               lastSrc := lasts, sent := l.sent + 1, ackAt := if l.unacked.isEmpty then now else l.ackAt })

/-- FLIT_BOUNDARY (16 R410): on an UP link an owed NAK, a queued flit, or IDLE. -/
def State.flitBoundary (s : State) (n : Nat) : State :=
  let l := s.link n
  if l.state ≠ .up then s
  else if l.nakOwed then
    (s.updLink n (fun l => { l with nakOwed := false })).emitFlit n { idleFlit l.rxNext with typ := 2 }
  else if 512 ≤ l.unacked.length then s.emitFlit n (idleFlit l.rxNext)
  else match l.next with
    | none => s.emitFlit n (idleFlit l.rxNext)
    | some q =>
      let r := l.takeFlit q s.uptime
      (s.updLink n (fun _ => r.2)).emitFlit n r.1

/-- UP: sequence numbers start anew at 0, and what was not acknowledged is sent again (log 43). -/
def State.linkUp (s : State) (n pid plink : Nat) : State :=
  let fs := (s.link n).unacked.zipIdx.map (fun p => ({ p.1 with seq := p.2, ack := 0 } : Flit))
  let s1 := s.updLink n (fun l =>
    { l with state := .up, peerId := pid, peerLink := plink, rxNext := 0, nakSent := false, nakOwed := false, resends := 0,
             unacked := fs, txSeq := fs.length, since := s.uptime, ackAt := s.uptime })
  (s1.each fs (fun s f => s.emitFlit n f)).event 0x0A01 n

/-! ### Acknowledgements -/

/-- Flits that ACK passes (16 R399). -/
def Link.passed (l : Link) (ack : Nat) : Nat :=
  match l.unacked with
  | [] => 0
  | f :: _ => let k := (ack + 4096 - f.seq) % 4096; if k ≤ l.unacked.length then k else 0

/-- A message of this device is acknowledged whole on a link: held replies go out (16 R416), heartbeats and the end of a
checkpoint count as acknowledged (16 R418, R419). -/
def State.msgAcked (s : State) (n id : Nat) : State :=
  let free := s.twin.fwdWait.filter (fun w => w.1 == n && w.2.1 == id)
  let hb := (s.twin.hbSent.filter (fun h => h.1 == n * 65536 + id)).map (fun h => (h.2 % 2, h.2 / 2))
  let end_ := s.twin.ckptEnd == some (n, id)
  let tw := { s.twin with
    fwdWait := s.twin.fwdWait.filter (fun w => !(w.1 == n && w.2.1 == id)),
    hbSent := s.twin.hbSent.filter (fun h => h.1 != n * 65536 + id),
    hbAcked := s.twin.hbAcked ++ hb.filter (fun h => !s.twin.hbAcked.contains h),
    ckptOpen := s.twin.ckptOpen && !end_, ckptEnd := if end_ then none else s.twin.ckptEnd }
  ({ s with twin := tw }).each free (fun s w =>
    s.sendMsg w.2.2.session w.2.2.typ w.2.2.status w.2.2.tag w.2.2.epoch w.2.2.payload)

def State.ackRx (s : State) (n ack : Nat) : State :=
  let l := s.link n
  let k := l.passed ack
  if k = 0 then s
  else
    let gone := (l.unacked.take k).filter (fun f => f.typ == 4 && f.isLast && f.src == s.ownId)
    (s.updLink n (fun l => { l with unacked := l.unacked.drop k, resends := 0, ackAt := s.uptime })).each gone (fun s f => s.msgAcked n f.msgId)

/-- LINK_RETRY_WARN: the second's resends against the threshold (16 R402). -/
def State.linkRetryWarn (s : State) (n : Nat) : State :=
  let r := (s.link n).retries
  if r.due (s.fld .linkCtl 0 31 16) then
    ((s.updLink n (fun l => { l with retries := r.report })).flag .linkEvt 0 1).event 0x0A03 n 0 r.count
  else s

/-! ### Routing (16 R405 to R409) -/

/-- A route entry's BASE, SIZE, FLAGS and LINKS. -/
structure Route where
  base : Nat
  size : Nat
  loc : Bool
  hash : Bool
  links : Nat
  deriving DecidableEq, Repr

def parseRoute (b : List Byte) : Option Route :=
  if (byteAt b 3).testBit 0 then
    some ⟨numAt b 0 2, byteAt b 2 % 16, (byteAt b 3).testBit 1, (byteAt b 3).testBit 2, numAt b 4 8⟩
  else none

/-- The entry that applies to an ID: the smallest SIZE, then the lowest index. -/
def State.routeOf (s : State) (id : Nat) : Option Route :=
  let es := s.routes.filterMap (fun e => (parseRoute e.2).map (fun r => (e.1, r)))
  (pickMin (fun e => [e.2.size, e.1]) (es.filter (fun e => decide (e.2.base ≤ id) && decide (id < e.2.base + 2 ^ e.2.size)))).map
    (fun e => e.2)

def State.upLinks (s : State) (r : Route) : List Nat := (bitsTo 64 r.links).filter (fun n => (s.link n).state == .up)

def isMulticast (id : Nat) : Bool := decide (49152 ≤ id)

/-- The one link of a unicast flit (16 R407 rules 3 to 6). -/
def State.routeLink (s : State) (dst src msg : Nat) : Option Nat :=
  match s.routeOf dst with
  | none => none
  | some r =>
    let ls := s.upLinks r
    if r.hash then ls[(src ^^^ msg) % max 1 ls.length]? else ls.head?

def State.dropFlits (s : State) (n : Nat) : State := (s.cnt .linkDropCnt 0 31 0 n).flag .linkEvt 0 0

/-- ROUTE_INSTALL (16 R406, R409). -/
def State.routeInstall (s : State) : State :=
  let b := leBytes 4 (s.rg .linkRtData0) ++ leBytes 4 (s.rg .linkRtData1) ++ leBytes 4 (s.rg .linkRtData2)
  if numAt b 0 2 % 2 ^ (byteAt b 2 % 16) = 0 ∧ byteAt b 2 < 16 then
    { s with routes := Tab.set s.routes (s.fld .linkRtIdx 0 11 0) b }
  else s.flag .linkEvt 0 2

/-- What became of a message this device sends: its number if it left, and whether a copy is for the device itself. -/
structure Sent where
  id : Option Nat
  loc : Bool
  deriving DecidableEq, Repr

/-- Send a routed message (16 R407, R408, R411). -/
def State.sendRouted (s : State) (dst cls kind tag : Nat) (body : List Byte) : Sent × State :=
  let id := s.msgId
  let fs := msgFlits dst s.ownId cls (s.fld .linkCtl 0 7 0 - 1) id kind tag body
  let s1 : State := { s with msgId := (id + 1) % 65536 }
  let dropped : Sent × State := (⟨none, false⟩, s1.dropFlits fs.length)
  if !s.idValid then dropped
  else if dst = s.ownId then (⟨some id, true⟩, s1)
  else if isMulticast dst then
    match s.routeOf dst with
    | none => dropped
    | some r =>
      if (s.upLinks r).isEmpty && !r.loc then dropped
      else (⟨some id, r.loc⟩, s1.each (s.upLinks r) (fun s n => s.queueFlits n 64 fs))
  else
    match s.routeLink dst s.ownId id with
    | none => dropped
    | some n => (⟨some id, false⟩, s1.queueFlits n 64 fs)

/-! ### Commands -/

/-- LINK_EN_SET (16 R403). -/
def execLinkEnSet (n : LinkNo) (s : State) : Host.Outcome State Fault Refusal := done (s.linkEnable n.val)
/-- LINK_EN_CLEAR (16 R403). -/
def execLinkEnClear (n : LinkNo) (s : State) : Host.Outcome State Fault Refusal := done (s.linkDisable n.val)
/-- LINK_SIGNAL_DETECT (16 R403). -/
def execLinkSignalDetect (n : LinkNo) (s : State) : Host.Outcome State Fault Refusal :=
  done (s.linkStep n.val .seek (fun l => { l with state := .align, since := s.uptime }))
/-- LINK_SEEK_TIMEOUT: 5 ms without signal (16 R403). -/
def execLinkSeekTimeout (n : LinkNo) (s : State) : Host.Outcome State Fault Refusal :=
  done (s.cond (s.linkFor n.val 5000000) (fun s =>
    s.linkStep n.val .seek (fun l => { l with crossed := !l.crossed, since := s.uptime })))
/-- LINK_PATTERN_DECODED (16 R403). -/
def execLinkPatternDecoded (n : LinkNo) (inverted : Bool) (s : State) : Host.Outcome State Fault Refusal :=
  done (s.linkStep n.val .align (fun l => 
    { l with state := .exchange, inverted := inverted, seen := false, train := [], since := s.uptime, trainAt := none }))
/-- LINK_TRAIN_SEND (16 R404). -/
def execLinkTrainSend (n : LinkNo) (s : State) : Host.Outcome State Fault Refusal := done (s.cond s.linksRun (fun s => s.trainSend n.val))
/-- LINK_ACK_TIMEOUT: ACK has not advanced for 20 µs (16 R401). -/
def execLinkAckTimeout (n : LinkNo) (s : State) : Host.Outcome State Fault Refusal :=
  done (if (s.link n.val).state = .up && !(s.link n.val).unacked.isEmpty && decide ((s.link n.val).ackAt + 20000 ≤ s.uptime) then
    s.resend n.val else s)
/-- LINK_SIGNAL_LOSS (16 R403). -/
def execLinkSignalLoss (n : LinkNo) (s : State) : Host.Outcome State Fault Refusal :=
  done (if (s.link n.val).state = .up then s.linkDown n.val else s)
/-- LINK_RETRAIN_TIMER: 1 ms in DOWN or LOOPBACK (16 R403). -/
def execLinkRetrainTimer (n : LinkNo) (s : State) : Host.Outcome State Fault Refusal :=
  done (if ((s.link n.val).state = .down || (s.link n.val).state = .loopback) && s.linkFor n.val 1000000 then s.linkTo n.val .seek
    else s)
/-- LINK_RETRY_WARN (16 R402). -/
def execLinkRetryWarn (n : LinkNo) (s : State) : Host.Outcome State Fault Refusal := done (s.linkRetryWarn n.val)
/-- ROUTE_INSTALL (16 R409). -/
def execRouteInstall (s : State) : Host.Outcome State Fault Refusal := done s.routeInstall
/-- FLIT_BOUNDARY (16 R410). -/
def execFlitBoundary (n : LinkNo) (s : State) : Host.Outcome State Fault Refusal :=
  done (s.cond s.linksRun (fun s => s.flitBoundary n.val))

end Sys2Proof.Machine
end

