-- ==== Sys2Proof/Machine/Packs.lean ====
section
/-! DEFINITION. Stream Packs (03 R95 to R105, R533): their layout, export, import, and their way over chip links (16
R412). -/

namespace Sys2Proof.Machine

/-! ### Writing a pack (03 R96, R97) -/

/-- The carried state of a stream, wherever it lies (03 R77). -/
def State.carried (s : State) (i : Nat) : List Byte :=
  match s.stateAddr i with
  | some a => s.mem.readN a (512 + s.mem.leN (a + 0x118) 4 + s.mem.leN (a + 0x11C) 4)
  | none => s.freshState i

/-- Conditioning frames from the frame of SAMPLE_IDX up to FEATURE_POS. -/
def State.condBytes (s : State) (i fpos : Nat) : List Byte :=
  let x := s.stream i
  let h := s.streamHop x
  if h = 0 then []
  else (List.range (fpos / h - x.dir.sampleIdx / h)).flatMap (fun k => Tab.getD x.feat.cond (x.dir.sampleIdx / h + k) [])

def markWords (m : Nat × Option Nat) : List Byte :=
  leBytes 8 (m.1 + (if m.2.isSome then 2 ^ 63 else 0)) ++ leBytes 8 (m.2.getD 0)

/-- The section table and sections from offset `at_` on. -/
def packSections : Nat → List (Nat × List Byte) → List Byte × List Byte
  | _, [] => ([], [])
  | pos, (t, b) :: rest =>
    let off := (pos + 63) / 64 * 64
    let r := packSections (off + b.length) rest
    (leBytes 2 t ++ leBytes 2 0 ++ leBytes 4 off ++ leBytes 4 b.length ++ leBytes 4 0 ++ r.1,
     List.replicate (off - pos) 0#8 ++ b ++ r.2)

/-- The CRC of a pack: CRC-32C with the field at 0x0C read as zero. -/
def packCrc (b : List Byte) : Nat := crc32c (b.take 12 ++ leBytes 4 0 ++ b.drop 16)

/-- The pack of a stream captured at frame tick `f`. -/
def State.packOf (s : State) (i : Nat) (queue : Option (List Nat)) (f : Nat) : List Byte :=
  let x := s.stream i
  let c := s.carried i
  let la := numAt c 0x118 4
  let lv := numAt c 0x11C 4
  let lanes := lanesOf x.dir.laneCompat
  let cond := s.condBytes i (numAt c 0x108 8)
  let marks := x.feat.marks.flatMap markWords
  let secs := [(1, c.take (4 * lanes)), (2, (c.drop 0x200).take la), (3, (c.drop (0x200 + la)).take lv)]
    ++ (if cond.isEmpty then [] else [(4, cond)]) ++ (if marks.isEmpty then [] else [(5, marks)])
    ++ (match queue with | some q => [(6, q.flatMap (leBytes 4))] | none => [])
  let body := packSections (0xC0 + 16 * secs.length) secs
  let flags := b2n x.dir.laneCompat + 2 * b2n queue.isSome + 4 * b2n x.dir.endSeen + 8 * b2n x.dir.be
    + 16 * b2n (x.dir.state == .faulted)
  let hashes := match s.voiceModels x.dir.pitch x.dir.voice with
    | some m => fitTo 32 m.1.hash ++ fitTo 32 m.2.hash
    | none => List.replicate 64 0#8
  let v := s.voice x.dir.voice
  let hdr := fun (total crc : Nat) =>
    leBytes 4 0x4B505850 ++ leBytes 2 3 ++ leBytes 2 192 ++ leBytes 4 total ++ leBytes 4 crc ++ leBytes 2 lanes ++ leBytes 1 flags
      ++ leBytes 1 v.rate ++ leBytes 2 secs.length ++ leBytes 2 0 ++ leBytes 8 (numAt c 0x100 8) ++ leBytes 8 (numAt c 0x108 8)
      ++ leBytes 8 (numAt c 0x110 8) ++ hashes ++ fitTo 32 v.hash
      ++ leBytes 4 (if s.idValid then s.ownId else 0xFFFFFFFF) ++ leBytes 4 s.epoch ++ leBytes 8 f ++ List.replicate 32 0#8
  let total := 0xC0 + body.1.length + body.2.length
  hdr total (packCrc (hdr total 0 ++ body.1 ++ body.2)) ++ body.1 ++ body.2

/-! ### Export (03 R98 to R100) -/

/-- PACK_EXPORT. -/
def State.exportRep (s : State) (move : Bool) (sess tag : Nat) (e : ExportParams) : Rep :=
  s.onHandle e.handle.toNat (fun s i =>
    if (s.stream i).life.exportP.isSome then .no s 0x201
    else
      let x : Export :=
        { move := move, toDevice := e.toDevice, device := e.device.toNat, session := sess, tag := tag, opn := openBytes e.op,
          capAt := none, queue := [], pack := [] }
      let s1 := (s.updStream i (fun st => { st with life := { st.life with exportP := some x } })).wakeCtxOf i
      .ok (s1.openDep i))

/-- Work of a stream released before F is still in flight. -/
def State.beforeF (s : State) (i f : Nat) : Bool :=
  (s.flights i).any (fun e => decide (e.relTick < f))

/-- The body of PACK_XFER (16 R411). The lane mode continues the stream bit-exactly. -/
def xferBody (opn : List Byte) (compat : Bool) (handle : Nat) (pack : List Byte) : List Byte :=
  fitTo 32 opn ++ leBytes 1 (b2n compat) ++ leBytes 3 0 ++ leBytes 4 handle ++ pack

/-- Whether a capture is the next operation of its Ward's swap queue that can go ahead (03 R86, R89): the engine is idle, and
what stands before it is a swap-in that waits for room, a capture that cannot be made yet, or a copy whose step is in
flight. -/
def State.captureTurn (s : State) (i : Nat) : Bool :=
  let w := s.homeQuarter i / 4
  let e := s.engine w
  let before := e.queue.takeWhile (fun o => o != .capture i)
  let stuck := fun (o : SwapOp) => match o with
    | .swapIn .. => e.waiting.isSome || s.evictPending w
    | .copy j q .. => !(s.flights j).all (fun e => e.quarter == q)
    | .swapOut _ => true
    | .capture j =>
      (s.stream j).dir.loc != .resident
        || (match (s.stream j).life.exportP.bind (fun x => x.capAt) with | some f => s.beforeF j f | none => true)
  e.cur.isNone && before.all stuck

/-- PACK_CAPTURE: the capture copy is made (03 R99); for MOVE the stream is closed as by ABORT. A parity error in the slot
faults the stream, and the pack says so (R93, R100). -/
def State.packCapture (s0 : State) (i : Nat) : State :=
  let s := if (s0.stream i).capturing && (s0.stream i).dir.loc == .resident && s0.captureTurn i then
      s0.slotParity i (s0.slotAddr (s0.stream i)) (slotBytes (s0.stream i).dir.cls) else s0
  let x := s.stream i
  match x.life.exportP with
  | none => s
  | some e =>
    match e.capAt with
    | none => s
    | some f =>
      if x.dir.loc != .resident || s.beforeF i f || !s.captureTurn i then s
      else
        let pack := s.packOf i (if e.move then some x.del.queue else none) f
        let xf : Xfer :=
          { idx := i, handle := x.handle i, toDevice := e.toDevice, srcTick := f, dest := e.device, tag := e.tag,
            session := e.session, move := e.move, pack := pack, msg := none, sentAt := s.uptime, delivered := false, answers := 0 }
        let drop := fun (g : SwapEng) => { g with queue := g.queue.filter (fun o => o != .capture i) }
        let s1 := ({ s with swap := s.swap.map (fun (g : Nat × SwapEng) => (g.1, drop g.2)) } : State).updStream i (fun st =>
          { st with life := { st.life with exportP := none } })
        let s2 := if e.move then s1.closeAbort i else s1
        if e.toDevice then
          let r := s2.sendRouted e.device 2 1 e.tag (xferBody e.opn x.dir.laneCompat (x.handle i) pack)
          { r.2 with xfers := r.2.xfers ++ [{ xf with msg := r.1.id }] }
        else { s2 with xfers := s2.xfers ++ [xf] }

def State.updXfer (s : State) (p : Xfer → Bool) (f : Xfer → Xfer) : State := { s with xfers := updWhere p f s.xfers }

/-- Flits of a message of this device that a link still holds. -/
def State.msgHeld (s : State) (id : Nat) : Bool :=
  s.links.any (fun e => e.2.queue.any (fun q => q.flit.src == s.ownId && q.flit.msgId == id && q.flit.cls == 2)
    || e.2.unacked.any (fun f => f.src == s.ownId && f.msgId == id && f.typ == 4 && f.cls == 2))

/-- Whether a captured pack can be counted as delivered: sent to its session, or acknowledged by the link it left on. -/
def State.deliverable (s : State) (x : Xfer) : Bool :=
  !x.delivered && (if x.toDevice then (match x.msg with | some id => !s.msgHeld id | none => false) else s.open x.session)

/-- PACK_DELIVERED (03 R100). -/
def State.packDelivered (s : State) (i : Nat) : State :=
  match find1 s.xfers (fun x => x.idx == i && s.deliverable x) with
  | none => s
  | some x =>
    let same := fun (y : Xfer) => y.idx == i && y.srcTick == x.srcTick && y.handle == x.handle
    let s1 : State := if x.toDevice then s.updXfer same (fun y => { y with delivered := true })
      else { s with xfers := s.xfers.filter (fun y => !same y) }
    let s2 := if x.toDevice then s1 else s1.sendMsg x.session 0xF2 0 0 s1.epoch (leBytes 4 x.handle ++ leBytes 4 0 ++ x.pack)
    (s2.inc .sdirPackExpCnt).event 0x0302 x.handle (s.stream i).dir.domain x.srcTick

/-! ### Reading a pack (03 R96, R97, R105) -/

/-- A pack as import uses it. -/
structure Pack where
  version : Nat
  lanes : Nat
  compat : Bool
  hasQueue : Bool
  endSeen : Bool
  be : Bool
  faulted : Bool
  rate : Nat
  sampleIdx : Nat
  featurePos : Nat
  seed : Nat
  aHash : List Byte
  vHash : List Byte
  voiceHash : List Byte
  modelA : Nat
  modelV : Nat
  gens : List Byte
  aState : List Byte
  vState : List Byte
  cond : List Byte
  marks : List (Nat × Option Nat)
  queue : List Nat
  deriving DecidableEq, Repr

/-- A table entry: type, offset, length. -/
def packEntry (b : List Byte) (k : Nat) : Nat × Nat × Nat :=
  let o := 0xC0 + 16 * k
  (numAt b o 2, numAt b (o + 4) 4, numAt b (o + 8) 4)

/-- The length a section may have (03 R97). -/
def sectionLen (lanes t n : Nat) : Bool :=
  match t with
  | 1 => n == 4 * lanes
  | 2 | 3 => decide (n ≤ 32512)
  | 4 => decide (n ≤ 131072)
  | 5 => n % 16 == 0 && decide (n ≤ 1024)
  | 6 => n % 4 == 0 && decide (n ≤ 4096)
  | _ => false

/-- Entries from `k` on: ascending types, each section at the first multiple of 64 after the one before. -/
def sectionsOk (b : List Byte) (lanes : Nat) : Nat → Nat → Nat → Nat → Bool
  | 0, _, _, pos => pos == b.length
  | n + 1, k, last, pos =>
    let e := packEntry b k
    decide (last < e.1) && allZero b (0xC0 + 16 * k + 2) 2 && allZero b (0xC0 + 16 * k + 12) 4 && e.2.1 == (pos + 63) / 64 * 64
      && sectionLen lanes e.1 e.2.2 && decide (e.2.1 + e.2.2 ≤ b.length) && sectionsOk b lanes n (k + 1) e.1 (e.2.1 + e.2.2)

def sectionBytes (b : List Byte) (t : Nat) : Option (List Byte) :=
  ((((List.range (numAt b 0x14 2)).map (packEntry b)).filter (fun e => e.1 == t)).head?).map (fun e => (b.drop e.2.1).take e.2.2)

def parseMark (b : List Byte) : Nat × Option Nat :=
  (numAt b 0 8 % 2 ^ 63, if (numAt b 0 8).testBit 63 then some (numAt b 8 8) else none)

/-- Marks ascend, and a mark without a seed has a zero seed word. -/
def marksOk : List (List Byte) → Bool
  | [] => true
  | [b] => (parseMark b).2.isSome || numAt b 8 8 == 0
  | a :: b :: t => ((parseMark a).2.isSome || numAt a 8 8 == 0) && decide ((parseMark a).1 < (parseMark b).1) && marksOk (b :: t)

def headerV3 (b : List Byte) : Bool :=
  numAt b 6 2 == 192 && numAt b 8 4 == b.length && (numAt b 0x10 2 == 64 || numAt b 0x10 2 == 16)
    && decide (byteAt b 0x12 < 32) && ((numAt b 0x10 2 == 16) == (byteAt b 0x12).testBit 0)
    && decide (3 ≤ numAt b 0x14 2) && decide (numAt b 0x14 2 ≤ 6) && allZero b 0x16 2 && allZero b 0xA0 32

/-- A version 3 pack (03 R96, R97). -/
def parseV3 (b : List Byte) : Option Pack :=
  let n := numAt b 0x14 2
  let fl := byteAt b 0x12
  let marks := chunks 16 ((sectionBytes b 5).getD [])
  if headerV3 b && sectionsOk b (numAt b 0x10 2) n 0 0 (0xC0 + 16 * n) && marksOk marks
      && (fl.testBit 1 == (sectionBytes b 6).isSome) then
    match sectionBytes b 1, sectionBytes b 2, sectionBytes b 3 with
    | some g, some a, some v =>
      some { version := 3, lanes := numAt b 0x10 2, compat := fl.testBit 0, hasQueue := fl.testBit 1, endSeen := fl.testBit 2,
             be := fl.testBit 3, faulted := fl.testBit 4, rate := byteAt b 0x13, sampleIdx := numAt b 0x18 8,
             featurePos := numAt b 0x20 8, seed := numAt b 0x28 8, aHash := (b.drop 0x30).take 32, vHash := (b.drop 0x50).take 32,
             voiceHash := (b.drop 0x70).take 32, modelA := 0, modelV := 0, gens := g, aState := a, vState := v,
             cond := (sectionBytes b 4).getD [], marks := marks.map parseMark,
             queue := (chunks 4 ((sectionBytes b 6).getD [])).map leNat }
    | _, _, _ => none
  else none

/-- A version 2 pack (03 R105). -/
def parseV2 (b : List Byte) : Option Pack :=
  let la := numAt b 0x24 4
  let lv := numAt b 0x28 4
  if numAt b 6 2 = 64 ∧ numAt b 8 4 = b.length ∧ b.length = 128 + la + lv ∧ byteAt b 0x21 < 2 ∧ allZero b 0x22 2
      ∧ allZero b 0x30 16 ∧ la ≤ 32512 ∧ lv ≤ 32512 then
    some { version := 2, lanes := 16, compat := true, hasQueue := false, endSeen := (byteAt b 0x21).testBit 0, be := false,
           faulted := false, rate := byteAt b 0x20, sampleIdx := numAt b 0x10 8, featurePos := numAt b 0x10 8,
           seed := numAt b 0x18 8, aHash := [], vHash := [], voiceHash := [], modelA := numAt b 0x2C 2, modelV := numAt b 0x2E 2,
           gens := (b.drop 64).take 64, aState := (b.drop 128).take la, vState := (b.drop (128 + la)).take lv, cond := [],
           marks := [], queue := [] }
  else none

/-- Check 1 of R101. -/
def parsePack (b : List Byte) : Option Pack :=
  if numAt b 0 4 ≠ 0x4B505850 ∨ b.length < 64 then none
  else if numAt b 4 2 = 3 ∧ 0xC0 ≤ b.length then parseV3 b
  else if numAt b 4 2 = 2 then parseV2 b
  else none

/-! ### Import (03 R101 to R104) -/

/-- Checks 5 to 7. -/
def State.importTail (s : State) (k : Pack) (op : OpenParams) (compat : Bool) (aco voc : Model) : Nat :=
  let v := s.voice op.voice.toNat
  let lens := k.aState.length == aco.stateBytes && k.vState.length == voc.stateBytes
  firstFail [
    (k.rate == v.rate && (k.version == 2 || (k.voiceHash == v.hash && k.be == (op.cls == 1#8))), 0x205),
    ((if k.version = 2 then k.modelA == v.acoustic && k.modelV == v.vocoder && (s.params aco).pxv8 && (s.params voc).pxv8
      else k.aHash == aco.hash && k.vHash == voc.hash) && lens, 0x206),
    (!(compat && k.lanes == 64), 0x207)]

/-- A refused import (03 R101); `tag` is the message's. -/
def State.importRefused (s : State) (st dom tag : Nat) : State :=
  ((s.inc .sdirPackRefCnt).flag .sdirResEvt 0 2).event 0x0304 0 dom st tag

/-- Whether an import reseeds: 16 lanes taken in NATIVE mode (03 R104). -/
def Pack.reseeds (k : Pack) (compat : Bool) : Bool := k.lanes == 16 && !compat

/-- The generator states an imported stream continues from. -/
def Pack.laneBytes (k : Pack) (compat : Bool) : List Byte :=
  if k.reseeds compat then genBytes (seedSet 64 k.seed 0 k.sampleIdx) else fitTo 256 k.gens

/-- The bytes of the store entry of an imported stream (03 R77, R102). -/
def Pack.stateBytes (k : Pack) (compat : Bool) (handle : Nat) : List Byte :=
  k.laneBytes compat ++ leBytes 8 k.sampleIdx ++ leBytes 8 k.featurePos ++ leBytes 8 k.seed ++ leBytes 4 k.aState.length
    ++ leBytes 4 k.vState.length ++ leBytes 4 handle ++ leBytes 2 (if compat then 16 else 64) ++ List.replicate 218 0#8
    ++ k.aState ++ k.vState

/-- Put a pack's state, frames, samples and marks into an open stream (03 R102). The spec does not say where END of an imported
stream lies: END_SEEN sets the record's flag only, and END is in force once a FEATURE message gives it (log 107). -/
def State.placePack (s : State) (i : Nat) (k : Pack) (compat : Bool) : State :=
  let x := s.stream i
  let h := s.streamHop x
  let cb := match s.voiceModels x.dir.pitch x.dir.voice with | some m => (s.params m.1).condBytes | none => 0
  let frames := if cb = 0 then [] else chunks cb k.cond
  let f0 := if h = 0 then 0 else k.sampleIdx / h
  let fn := if h = 0 then 0 else k.featurePos / h
  let s1 := s.poke (s.storeAddr i) (k.stateBytes compat (x.handle i))
  s1.updStream i (fun x =>
    { x with dir := { x.dir with sampleIdx := k.sampleIdx, seed := k.seed, loc := .stored, laneCompat := compat, endSeen := k.endSeen },
             del := { x.del with queue := k.queue },
             feat := { x.feat with marks := k.marks, cond := frames.zipIdx.map (fun p => (f0 + p.2, p.1)), fNext := fn, nextE := fn,
                                   cut := fn, bounds := if h = 0 then [] else k.marks.foldl (fun l m => addMember (ceilDiv m.1 h) l) [],
                                   seeds := k.marks.filterMap (fun m => m.2.map (fun v => (m.1, v))) } })

/-- PACK_IMPORT and the import of PACK_XFER: the status, and on success the index and RESEEDED. -/
def State.importPack (s : State) (compat : Bool) (op : OpenParams) (b : List Byte) (sess tag : Nat) : Nat × Nat × Bool × State :=
  let dom := op.domain.toNat % 2
  let no := fun (st : Nat) (t : State) => (st, 0, false, t.importRefused st dom tag)
  match parsePack b with
  | none => no 0x202 s
  | some k =>
    if packCrc b ≠ numAt b 0xC 4 then no 0x203 s
    else if k.faulted then no 0x204 s
    else
      let s := s.openReads
      let take := fun (r : OpenRes) (aco voc : Model) =>
        let t := s.importTail k op compat aco voc
        if t ≠ 0 then no t s
        else
          let o := s.openStream op sess r
          let s1 := o.2.placePack o.1 k compat
          (0, o.1, k.reseeds compat, (s1.inc .sdirPackImpCnt).event 0x0303 (s1.handle o.1) dom (b2n (k.reseeds compat)))
      match s.openCheck op with
      | .no st bw => no st (s.openFailed op st bw)
      | .be a v => take (.be a v) a v
      | .lc a v pl => take (.lc a v pl) a v

def State.importRep (s : State) (h : Hdr) (lane : Byte) (op : OpenParams) (pack : List Byte) : Rep :=
  let r := s.importPack (lane == 1#8) op pack h.session h.tag.toNat
  if r.1 ≠ 0 then .no r.2.2.2 r.1
  else .ok r.2.2.2 (leBytes 4 (r.2.2.2.handle r.2.1) ++ leBytes 1 (b2n r.2.2.1) ++ leBytes 3 0)

/-! ### Over chip links (16 R412) -/

/-- The STREAM_OPEN parameters of 32 bytes. -/
def carriedOpen (b : List Byte) : OpenParams :=
  { voice := BitVec.ofNat 16 (numAt b 0 2), domain := BitVec.ofNat 8 (byteAt b 2), pitch := BitVec.ofNat 8 (byteAt b 3),
    cls := BitVec.ofNat 8 (byteAt b 4), dest := BitVec.ofNat 16 (numAt b 6 2), qdepth := BitVec.ofNat 16 (numAt b 8 2),
    prime := BitVec.ofNat 16 (numAt b 10 2), group := BitVec.ofNat 16 (numAt b 12 2), seed := BitVec.ofNat 64 (numAt b 16 8),
    startTick := BitVec.ofNat 64 (numAt b 24 8) }

/-- The body of PACK_RESULT (16 R411). -/
def resultBody (st exp new : Nat) (re : Bool) : List Byte :=
  leBytes 2 st ++ leBytes 2 0 ++ leBytes 4 exp ++ leBytes 4 new ++ leBytes 1 (b2n re) ++ leBytes 3 0

/-- What the import of a PACK_XFER body answers. -/
def State.xferImport (s : State) (tag : Nat) (body : List Byte) : List Byte × State :=
  let r := s.importPack (byteAt body 32 == 1) (carriedOpen (body.take 32)) (body.drop 40) 0 tag
  let new := if r.1 = 0 then r.2.2.2.handle r.2.1 else 0
  (resultBody r.1 (numAt body 36 4) new r.2.2.1, r.2.2.2)

/-- PACK_RESULT: reported to the exporter's host (16 R412). -/
def State.packResult (s : State) (src : Nat) (body : List Byte) : State :=
  let h := numAt body 4 4
  match find1 s.xfers (fun x => x.toDevice && x.handle == h && (x.dest == src || isMulticast x.dest)) with
  | none => s
  | some x =>
    let dom := (s.stream x.idx).dir.domain
    let st := numAt body 0 2
    let s1 := if st = 0 then s.event 0x0303 h dom (byteAt body 12) else s.event 0x0304 h dom st src
    let mine := fun (y : Xfer) => y.toDevice && y.handle == h && y.srcTick == x.srcTick
    if isMulticast x.dest then s1.updXfer mine (fun y => { y with answers := y.answers + 1 })
    else if x.delivered then { s1 with xfers := s1.xfers.filter (fun y => !mine y) }
    else ({ s1 with xfers := s1.xfers.filter (fun y => !mine y) }).inc .sdirPackExpCnt |>.event 0x0302 h dom x.srcTick

/-- A received PACK_XFER is imported and answered; a result for this device itself is reported at once. -/
def State.packXfer (s : State) (src tag : Nat) (body : List Byte) : State :=
  let r := s.xferImport tag body
  let o := r.2.sendRouted src 2 2 tag r.1
  if o.1.loc then o.2.packResult src r.1 else o.2

/-- PACK_XFER_TIMEOUT: no answer within 1 s of the send (16 R412). -/
def State.xferTimeout (s : State) (h : Nat) : State :=
  match find1 s.xfers (fun x => x.toDevice && x.handle == h && decide (x.sentAt + 1000000000 ≤ s.uptime)) with
  | none => s
  | some x =>
    let mine := fun (y : Xfer) => y.toDevice && y.handle == h && y.srcTick == x.srcTick
    let s1 : State := { s with xfers := s.xfers.filter (fun y => !mine y) }
    if x.answers ≠ 0 then s1
    else
      let s2 := s1.event 0x0304 h (s.stream x.idx).dir.domain 0x0701 x.dest
      if x.move then s2.sendMsg x.session 0xF2 0 0 s2.epoch (leBytes 4 h ++ leBytes 4 0 ++ x.pack) else s2

/-! ### Commands -/

/-- PACK_EXPORT mode SNAPSHOT (03 R98). -/
def execPackExportSnapshot (h : Hdr) (e : ExportParams) (s : State) : Host.Outcome State Fault Refusal :=
  done (runMsg (.packExportSnapshot h e) (fun s => s.exportRep false h.session h.tag.toNat e) s)
/-- PACK_EXPORT mode MOVE (03 R98). -/
def execPackExportMove (h : Hdr) (e : ExportParams) (s : State) : Host.Outcome State Fault Refusal :=
  done (runMsg (.packExportMove h e) (fun s => s.exportRep true h.session h.tag.toNat e) s)
/-- PACK_CAPTURE (03 R99). -/
def execPackCapture (i : StreamNo) (s : State) : Host.Outcome State Fault Refusal := done (s.packCapture i.val)
/-- PACK_DELIVERED (03 R100). -/
def execPackDelivered (i : StreamNo) (s : State) : Host.Outcome State Fault Refusal := done (s.packDelivered i.val)
/-- PACK_IMPORT (03 R101). -/
def execPackImport (h : Hdr) (lane : Byte) (op : OpenParams) (pack : List Byte) (s : State) : Host.Outcome State Fault Refusal :=
  done (runMsg (.packImport h lane op pack) (fun s => s.importRep h lane op pack) s)
/-- PACK_XFER (16 R412). -/
def execPackXfer (src : Half) (tag : Word) (body : List Byte) (s : State) : Host.Outcome State Fault Refusal :=
  done (s.packXfer src.toNat tag.toNat body)
/-- PACK_RESULT (16 R412). -/
def execPackResult (src : Half) (body : List Byte) (s : State) : Host.Outcome State Fault Refusal :=
  done (s.packResult src.toNat body)
/-- PACK_XFER_TIMEOUT (16 R412). -/
def execPackXferTimeout (h : Word) (s : State) : Host.Outcome State Fault Refusal := done (s.xferTimeout h.toNat)

end Sys2Proof.Machine
end

