-- ==== Sys2Proof/Machine/MemChecks.lean ====
section
/-! DEFINITION. Memory checks: block reads and re-reads (12 R310 to R314), patrol reads (12 R316), retry warnings (12 R317),
parity re-fetches (12 R320) and directory parity (12 R321). -/

namespace Sys2Proof.Machine

/-- The check value of a block (12 R310). -/
def blockCheck (addr : Nat) (data : List Byte) : Nat := crc16 (data ++ leBytes 4 (addr / 64 % 2 ^ 32))

/-- The requester code (12 MEMC_FAIL_ADDR_HI). -/
def reqCode : MemReq → Nat
  | .kiosk _ => 0 | .swapIn _ => 2 | .restore _ => 2 | .mover _ => 3 | .staging _ => 4 | .refetch _ => 4 | .loadPath _ => 5
  | .scrub => 6 | .mgmt => 7 | .host => 8 | .voiceOpen => 9 | .voiceHash => 9 | .voiceFrame _ => 9 | .adapter _ => 9

/-- Which read of the original and its three re-reads matched first; none if all four failed. -/
def firstGood (addr : Nat) (reads : List (List Byte × BitVec 16)) : Option Nat :=
  (((reads.take 4).zipIdx.filter (fun r => r.1.1.length == 64 && blockCheck addr r.1.1 == r.1.2.toNat)).head?).map (fun r => r.2)

/-- A read cleared by re-reading (12 R312). -/
def State.retried (s : State) (addr : Nat) : State :=
  let s1 := (s.inc .memcCrcRetry).cnt .memcChRetry (chanOf addr) 15 0 1
  { s1 with memx := { s1.memx with retries := s1.memx.retries.add s1.second 1 } }

/-- The Ward whose engine swaps a stream in. -/
def State.swapInWard (s : State) (i : Nat) : Option Nat :=
  (s.swap.filter (fun e => match e.2.cur with | some (.swapIn j ..) => j == i | _ => false)).head?.map (fun e => e.1)

/-- What a channel's read of a block is for: its kind, and whether it is the read of a read-modify-write (13 MOVR_CH_STAT). -/
def State.moverKind (s : State) (n addr : Nat) : Nat × Bool :=
  let c := s.chan n
  match c.desc with
  | none => (1, false)
  | some d =>
    let b := addr / 64
    if c.pos = d.len ∧ (c.cur + 0x1C) / 64 = b then (3, true)
    else if d.list ≠ 0 ∧ c.list / 64 = b then (2, false)
    else if !(d.preq && periphIsDst (s.chanPeriph n)) && d.list != 2 && (d.dst + c.pos) / 64 == b then (0, true)
    else (0, false)

/-- The owner a failed read is charged to (12 R314). Refusals of host messages follow in those messages. -/
def State.charge (s : State) (addr : Nat) (rq : MemReq) : State :=
  match rq with
  | .swapIn i => match s.swapInWard i.val with | some w => s.swapInFail w i.val | none => s
  | .restore c => if (s.ctx c.val).state = .arriving then s.restoreFail c.val else s
  | .staging e | .refetch e => s.faultExec e 1
  | .kiosk k => match (s.kiosk k.val).exec with | some e => s.faultExec e 1 | none => s
  | .loadPath p =>
    match find1 s.models (fun m => m.pitch == p.val && m.stage == .copying) with
    | some m => s.abandonLoad p.val m.id
    | none => s
  | .voiceFrame i | .adapter i => s.faultStream i.val 1
  | .mover n =>
    if (s.chan n.val).state = .run then s.haltChan n.val ⟨3, (s.moverKind n.val addr).1, (s.moverKind n.val addr).2, addr⟩ else s
  | .mgmt => s.deviceFault 0x22 (addr / 64 * 64)
  | .voiceOpen | .voiceHash | .host | .scrub => s

/-- BLOCK_READ (12 R312). -/
def State.blockRead (s : State) (addr : Nat) (rq : MemReq) (reads : List (List Byte × BitVec 16)) : State :=
  match firstGood addr reads with
  | some 0 => s
  | some _ => s.retried addr
  | none => if 4 ≤ reads.length then (s.readFailed addr (reqCode rq)).charge addr rq else s

/-- A pass of the patrol begins once the PERIOD of the pass before, in hours, is over (12 R316). -/
def State.passDue (s : State) : Bool :=
  match s.memx.passAt with
  | some a => decide (a + s.memx.passHours * 3600000000000 ≤ s.uptime)
  | none => true

/-- SCRUB_READ (12 R316): the patrol reads the next block in ascending order and moves on. -/
def State.scrubRead (s0 : State) (addr : Nat) (reads : List (List Byte × BitVec 16)) : State :=
  let first := s0.memx.patrol == 0
  if !s0.bit .memcScrubCfg 0 0 || addr / 64 != s0.memx.patrol || (first && !s0.passDue) then s0
  else
    let s : State := if first then { s0 with memx := { s0.memx with passAt := some s0.uptime, passHours := s0.fld .memcScrubCfg 0 15 8 } } else s0
    let nx := addr / 64 + 1
    let last := decide (lpddrTop / 64 ≤ nx)
    let s1 : State := { s with memx := { s.memx with patrol := if last then 0 else nx, scrubbing := !last } }
    match firstGood addr reads with
    | some 0 => s1
    | some _ => s1.retried addr
    | none => if 4 ≤ reads.length then (s1.readFailed addr 6).inc .memcScrubFail else s1

/-- RETRY_WARN_SECOND (12 R317). -/
def State.retrySecond (s : State) : State :=
  if s.memx.retries.due (s.fld .memcCrcCfg 0 15 0) then
    (({ s with memx := { s.memx with retries := s.memx.retries.report } }).flag .memcEvt 0 1).event 0x0602 0 0 s.memx.retries.count
  else s

/-- Where the image holds a byte of a resident page, or of a staging page that was filled with it last (12 R320, 09 R242). -/
def State.imageByte (s : State) (q a : Nat) : Option Nat :=
  let x := a % 65536
  (s.models.filterMap (fun m =>
    let src := m.addr + imgWgtOff (s.image m)
    let pg := (a - s.weightBase q) / 65536
    let sp := (a - s.shareBase m.ctx q) / 65536
    let n := Tab.getD m.staged q 0
    if !(s.quarters m.pitch).contains q then none
    else if decide (s.weightBase q ≤ a) && m.pages.contains pg then some (src + m.pages.idxOf pg * 65536 + x)
    else if decide (s.shareBase m.ctx q ≤ a) && m.staging.contains sp then
      (((List.range (n / 65536 + 1)).filter (fun k => k % 2 == m.staging.idxOf sp && decide (k * 65536 + x < n))).getLast?).map
        (fun k => src + m.residentBytes (s.image m) + k * 65536 + x)
    else none)).head?

/-- PARITY_REFETCH_DONE (12 R320): the bank block is rewritten from the image; a failed read is charged. -/
def State.refetchDone (s : State) (q a : Nat) : State :=
  let b := a / 64 * 64
  let mine := fun (r : Refetch) => r.quarter == q && r.addr / 64 == a / 64
  if !s.memx.refetch.any mine then s
  else
    let waiting := (s.memx.refetch.filter mine).filterMap (fun r => r.exec)
    let s1 : State := { s with memx := { s.memx with refetch := s.memx.refetch.filter (fun r => !mine r) } }
    match s.imageByte q b with
    | some src =>
      let s2 := ((s.memx.refetch.filter mine).head?.map (fun r => s1.rbLate (q / 4) r.deadline)).getD s1 |>.rbBytes (q / 4) 64
      if (s.badIn src 64).isEmpty then s2.move src b 64 else (s2.failedRead src 64 4).each waiting (fun s e => s.faultExec e 1)
    | none => s1.poke b (s1.mem.readN b 64)

/-- BLOCK_READ (12 R312). -/
def execBlockRead (addr : BitVec 48) (rq : MemReq) (reads : List (List Byte × BitVec 16)) (s : State) :
    Host.Outcome State Fault Refusal := done (s.blockRead addr.toNat rq reads)
/-- SCRUB_READ (12 R316). -/
def execScrubRead (addr : BitVec 48) (reads : List (List Byte × BitVec 16)) (s : State) : Host.Outcome State Fault Refusal :=
  done (s.scrubRead addr.toNat reads)
/-- RETRY_WARN_SECOND (12 R317). -/
def execRetryWarnSecond (s : State) : Host.Outcome State Fault Refusal := done s.retrySecond
/-- PARITY_REFETCH_DONE (12 R320). -/
def execParityRefetchDone (q : Quarter) (addr : BitVec 48) (s : State) : Host.Outcome State Fault Refusal :=
  done (s.refetchDone q.val addr.toNat)

end Sys2Proof.Machine
end

