-- ==== Sys2Proof/Machine/Net.lean ====
section
/-! DEFINITION. Ethernet (15 R372 to R375, 19 R504), KTP sessions (15 R378 to R384), host return (15 R386), PTP (15 R391,
R392) and RTP output (15 R393 to R395). -/

namespace Sys2Proof.Machine

/-! ### Ports and addresses -/

def State.ethPort (s : State) (p : Nat) : EthPort := Tab.getD s.eth p EthPort.blank

def State.updEth (s : State) (p : Nat) (f : EthPort → EthPort) : State := { s with eth := Tab.modify s.eth p EthPort.blank f }

/-- Whether a port is in use and answers (15 R374): ETH1 from stage 2 on, and not in P2 to P4 (18 R476). -/
def State.serves (s : State) (p : Nat) : Bool :=
  s.pwr.state != 4 && s.bit .hostPortCfg p 0 && (p == 0 || (s.dev.stage == 2 && decide (s.pwr.state < 2)))

/-- The link-local address of a port, by modified EUI-64 (15 R373). -/
def State.linkLocal (s : State) (p : Nat) : Nat :=
  let m := (s.ethPort p).mac
  let id := (m / 2 ^ 24 ^^^ 0x020000) * 2 ^ 40 + 0xFFFE * 2 ^ 24 + m % 2 ^ 24
  0xFE80 * 2 ^ 112 + id

def State.ipv4 (s : State) (p : Nat) : Nat := s.rg .hostIpv4 p

def State.ipv6 (s : State) (p : Nat) : Nat := (List.range 4).foldl (fun a w => a * 2 ^ 32 + s.rg .hostIpv6 p w) 0

/-- Own IPv4 and IPv6 addresses of a port (15 R373). -/
def State.own4 (s : State) (p a : Nat) : Bool := a != 0 && a == s.ipv4 p
def State.own6 (s : State) (p a : Nat) : Bool := a == s.linkLocal p || (a != 0 && a == s.ipv6 p)

/-- A received frame: accepted, or discarded and counted (15 R372; log 46). -/
def State.frameRx (s : State) (p : Nat) (f : EthFrame) : State :=
  if !s.bit .hostPortCfg p 0 || (p != 0 && decide (2 ≤ s.pwr.state)) then s
  else if !f.fcsOk then s.cnt .hostPortErrCnt p 31 16 1
  else
    let tagOk := match f.tags with
      | [] => true
      | [v] => s.bit .hostPortCfg p 2 && v.toNat == s.fld .hostPortCfg p 15 4
      | _ => false
    if decide (f.len ≤ 9216) && !f.pause && tagOk then s else s.cnt .hostPortErrCnt p 15 0 1

/-- A change of link state (15 R375). -/
def State.ethChange (s : State) (p : Nat) (up : Bool) (lanes : Nat) : State :=
  let was := (s.ethPort p).link
  let s1 := s.updEth p (fun e => { e with link := up, lanes := lanes })
  if was = up then s1 else s1.event 0x0901 p

/-- No light for 10 s after start (19 R504, R506). -/
def State.noLight (s : State) (p : Nat) : State :=
  let s1 := s.updEth p (fun e => { e with link := false, lanes := 0 })
  s1.eventIf (fun x => x.peer.port.val != p) 0x0D03 2 0 p 0

/-- An answer for one of the port's own addresses (15 R373, R374). -/
def State.answer (s : State) (p : Nat) (own : Bool) (m : NetMsg) : State :=
  if s.serves p && own then s.emit (.net m) else s

/-! ### Sessions -/

/-- Send an acknowledgement and nothing else (15 R379). -/
def State.sendAck (s : State) (n : Nat) : State :=
  match s.sess n with
  | none => s
  | some x =>
    let d : Dgram := { flags := 3, session := n, seq := x.txNext, ack := x.rxNext, typ := 0, status := 0, tag := 0,
                       epoch := 0, payload := [] }
    (s.updSess n (fun x => { x with ackOwed := false })).emit (.ktp x.peer d)

/-- ACK_DELAY, in µs, has passed since a datagram was accepted that nothing sent acknowledges (15 R379). -/
def State.ackDelay (s : State) (n : Nat) : State :=
  match s.sess n with
  | some x => if x.ackOwed && decide (x.owedAt + s.fld .hostKtpCfg 0 27 20 * 1000 ≤ s.uptime) then s.sendAck n else s
  | none => s

/-- A session ends: what it had to send is discarded, and an upload of it too (15 R380, 17 R436). -/
def State.dropSess (s : State) (n : Nat) : State :=
  let up := match s.dev.upload with | some u => u.session == n | none => false
  { s with sessions := s.sessions.filter (fun x => x.num != n),
           dev := { s.dev with upload := if up then none else s.dev.upload } }

/-- A session is lost (15 R380). -/
def State.loseSess (s : State) (n : Nat) : State :=
  (((s.dropSess n).cnt .hostKtpLossCnt 0 15 0 1).flag .hostEvt 0 2).event 0x0902 n

/-- Longest retransmission timeout in µs (15 R380). -/
def rtoMax : Nat := 64000

/-- The retransmission timer expires: the timeout, in µs, has passed since it was started (15 R380). -/
def State.retx (s : State) (n : Nat) : State :=
  match s.sess n with
  | none => s
  | some x =>
    if x.unacked.isEmpty || decide (s.uptime < x.timerAt + x.rto * 1000) then s
    else if s.fld .hostKtpCfg 0 19 16 ≤ x.expiries + 1 then s.loseSess n
    else
      let ds := x.unacked.map (fun d => { x.stamp d with flags := (x.stamp d).flags ||| 8 })
      let s1 := s.updSess n (fun x =>
        { x with unacked := ds, expiries := x.expiries + 1, rto := max x.rto (min (2 * x.rto) rtoMax), ackOwed := false,
                 timerAt := s.uptime })
      let s2 := s1.cnt .hostKtpRetxCnt 0 31 0 ds.length
      { s2 with out := (ds.map (fun d => Out.ktp x.peer d)).reverse ++ s2.out }

/-- 60 s without an accepted datagram (15 R380). -/
def State.sessIdle (s : State) (n : Nat) : State :=
  match s.sess n with
  | some x => if x.lastRx + 60000000000 ≤ s.uptime then s.loseSess n else s
  | none => s

/-- The unsequenced reply to SESSION_OPEN (15 R378, R384; log 47). -/
def State.sessReply (s : State) (src : Peer) (n st tag : Nat) (pay : List Byte) : State :=
  s.emit (.ktp src { flags := 1, session := n, seq := 0, ack := 1, typ := 0x8001, status := st, tag := tag, epoch := s.epoch,
                     payload := pay })

def State.openPayload (s : State) : List Byte := leBytes 4 s.ownId ++ leBytes 4 s.epoch

/-- A session that a repeated open names (15 R378). -/
def State.reopened (s : State) (src : Peer) (tag : Nat) : Option Session :=
  find1 s.sessions (fun x => x.peer.ip == src.ip && x.peer.udp == src.udp && x.openTag == tag
    && decide (s.uptime ≤ x.openedAt + 1000000000) && !x.gotSeq)

/-- The 32-bit session counter never issues 0 (15 R378). -/
def nextSess (n : Nat) : Nat := if n = 2 ^ 32 - 1 then 1 else n + 1

def State.newSess (s : State) (src : Peer) (tag mask maxPay : Nat) : Session :=
  { num := s.nextSession, peer := src, evtMask := mask, maxPayload := maxPay, openTag := tag, openedAt := s.uptime,
    gotSeq := false, rxNext := 1, txNext := 1, unacked := [], waiting := [], rto := s.fld .hostKtpCfg 0 15 0, expiries := 0,
    ackOwed := false, part := none, evq := [], evLost := 0, lastRx := s.uptime, timerAt := 0,
    owedAt := 0 }

/-- SESSION_OPEN (15 R378). -/
def State.openSess (s : State) (i : Instr) (src : Peer) (tag epoch mask maxPay : Nat) : State :=
  let g := firstFail [(s.gate i == 0, s.gate i), (epoch == 0 || epoch == s.epoch, 0x04)]
  if !s.serves src.port.val then s
  else if g ≠ 0 then s.sessReply src 0 g tag []
  else
    match s.reopened src tag with
    | some x => s.sessReply src x.num 0 tag s.openPayload
    | none =>
      if 16 ≤ s.sessions.length then (s.recordMsg i 0 0x07 []).2.sessReply src 0 0x07 tag []
      else
        let x := s.newSess src tag mask maxPay
        let s1 := { s with sessions := s.sessions ++ [x], nextSession := nextSess s.nextSession }
        (s1.recordMsg i x.num 0 s.openPayload).2.sessReply src x.num 0 tag s.openPayload

/-- SESSION_CLOSE: the reply leaves, then the session is gone (15 R378; log 48). -/
def State.closeSess (s : State) (h : Hdr) : State :=
  let i := Instr.sessionClose h
  let s1 := runMsg i (fun s => .ok s) s
  if s.open h.session && s.gate i == 0 then s1.dropSess h.session else s1

def State.pingPay (s : State) : List Byte :=
  leBytes 8 s.uptime ++ leBytes 8 (s.tick 0) ++ leBytes 8 (s.tick 1) ++ leBytes 1 (b2n s.timeBasis) ++ leBytes 7 0

def State.statusPay (s : State) : List Byte :=
  leBytes 1 s.dev.stage ++ leBytes 1 s.sec.lifecycle ++ leBytes 1 s.pwr.state ++ leBytes 1 s.sec.level ++ leBytes 4 s.epoch
    ++ leBytes 8 s.uptime

/-- "PXS-64-A1", zero-padded to 16 bytes (17 R434). -/
def partName : List Byte :=
  [0x50, 0x58, 0x53, 0x2D, 0x36, 0x34, 0x2D, 0x41, 0x31, 0, 0, 0, 0, 0, 0, 0]

/-- FW_VERSION: ROLLBACK_VER of the firmware image (17 R434; log 49). -/
def State.fwVersion (s : State) : Nat := numAt s.dev.runFw 0x0C 4

def State.identityPay (s : State) : List Byte :=
  partName ++ (s.flash.serial ++ List.replicate 16 0#8).take 16 ++ leBytes 4 s.fwVersion ++ leBytes 4 0 ++ s.fwHash

/-! ### Host return (15 R386) -/

/-- Whether a session's window has room (15 R380). -/
def State.winRoom (s : State) (n : Nat) : Bool :=
  match s.sess n with
  | some x => decide (x.unacked.length + x.waiting.length < 256) && !s.replyHeld x
  | none => false

def State.retBatch (s : State) : Nat := 64 * 2 ^ s.fld .hostKtpPort 0 18 16

/-- STREAM_DATA, once the buffer holds a batch, or a frame tick or ENDED found it non-empty. -/
def State.hostReturn (s : State) (i : Nat) : State :=
  let x := s.stream i
  if x.isOpen && (x.dir.dest == 0x100 || s.replay.active) && s.winRoom (s.dataSess x)
      && (x.del.flush || x.dir.state == .ended || decide (s.retBatch ≤ x.del.hostBuf.length)) then s.sendHostBuf i
  else s

/-- A sample enters the host-return buffer; the oldest goes if it is full. -/
def State.hostPut (s : State) (i v : Nat) : State :=
  let x := s.stream i
  if s.replay.active then s
  else if x.del.hostBuf.length < 4096 then
    s.updStream i (fun x => { x with del := { x.del with hostBuf := x.del.hostBuf ++ [v] } })
  else
    ((s.updStream i (fun x => { x with del := { x.del with hostBuf := x.del.hostBuf.drop 1 ++ [v],
                                                           hostFirst := x.del.hostFirst + 1 } })).inc .hostRetDropCnt).flag
      .hostEvt 0 4

/-- A BE take: whenever the queue holds a sample and the buffer has room. -/
def State.beTake (s : State) (i : Nat) : State :=
  let x := s.stream i
  if x.isOpen && x.dir.be && x.dir.dest == 0x100 && x.dir.state != .paused && x.dir.state != .faulted && !x.isClosing
      && !(match x.life.exportP with | some e => e.move && e.capAt.isSome | none => false)
      && (s.td x.dir.domain).ticking && decide (x.del.hostBuf.length < 4096) then
    match x.del.queue with
    | [] => s
    | v :: q =>
      if x.del.bad then s.bufParity i
      else (s.updStream i (fun x =>
        { x with del := { x.del with queue := q, taking := true, takes := x.del.takes + 1 } })).hostPut i v
  else s

/-! ### PTP (15 R391, R392) -/

def State.ptpI (s : State) (p : Nat) : Ptp := Tab.getD s.ptp p Ptp.blank

def State.updPtp (s : State) (p : Nat) (f : Ptp → Ptp) : State := { s with ptp := Tab.modify s.ptp p Ptp.blank f }

def State.rtpS (s : State) (r : Nat) : Rtp := Tab.getD s.rtp r Rtp.start

def State.updRtp (s : State) (r : Nat) (f : Rtp → Rtp) : State := { s with rtp := Tab.adjust s.rtp r f }

/-- Domains that take their ticks from the PTP servo of a port (01 R25). -/
def State.ptpDoms (s : State) (p : Nat) : List Nat := [0, 1].filter (fun d => (s.td d).srcUse.src == 3 + p)

/-- RTP streams that a port carries. -/
def State.portRtps (s : State) (p : Nat) : List Nat := (s.rtp.filter (fun e => s.rtpPort e.1 == p)).map (fun e => e.1)

/-- The servo locks or unlocks (15 R392, R395, 01 R27, R41). -/
def State.ptpLock (s : State) (p : Nat) (on : Bool) : State :=
  if (s.ptpI p).locked = on then s
  else
    let s1 := s.updPtp p (fun x => { x with locked := on, tracked := x.tracked || on, underRun := 0, overRun := 0 })
    let s2 := if (if s.bit .tickTimeStat 0 1 then 1 else 0) = p then s1.event 0x0106 p else s1
    let s3 := if on then s2 else s2.each (s2.ptpDoms p) State.sourceLost
    s3.each (s3.portRtps p) (fun s r => (s.updRtp r (fun x => { x with free := !on })).event 0x0905 r (s.rtpDom r) (b2n on))

/-- A signed 32-bit register value, saturating. -/
def sat32 (v : Int) : Nat := ((max (-(2 ^ 31 : Int)) (min (2 ^ 31 - 1) v)) % 2 ^ 32).toNat

/-- One Sync measured: the offset, the PTP time, which a servo that has been locked slews by a free part of the way to the
master's (15 R395; log 45), and the lock rule (15 R392). -/
def State.ptpMeasure (s : State) (p : Nat) (t1 t2 : Int) : State :=
  let x := s.ptpI p
  let off := t2 - t1 - x.pathDelay
  let u := if off.natAbs < 1000 then x.underRun + 1 else 0
  let o := if 10000 < off.natAbs then x.overRun + 1 else 0
  let goal := t1 + x.pathDelay - (s.uptime : Int)
  let step := min (Config.freeNat s.free) (goal - x.phc).natAbs
  let phc := if !x.tracked then goal else if x.phc ≤ goal then x.phc + step else x.phc - step
  let s0 : State := { s with free := s.free + 1 }
  let s1 := (s0.setRg .hostPtpOffset p (sat32 off)).updPtp p (fun x =>
    { x with t1 := t1, t2 := t2, underRun := u, overRun := o, pendSync := none, phc := phc })
  if !x.locked && decide (16 ≤ u) then s1.ptpLock p true
  else if x.locked && decide (4 ≤ o) then s1.ptpLock p false
  else s1

/-- Whether the instance runs and follows a master. -/
def State.ptpOn (s : State) (p : Nat) : Bool := s.bit .hostPtpCfg p 0 && (s.ptpI p).master.isSome

/-- A servo frequency beyond ±2 % counts as a rate step (01 R27, R31). -/
def State.ptpFreq (s : State) (p : Nat) (ppm : Int) : State :=
  if ppm.natAbs ≤ 20000 then s
  else s.each ((s.ptpDoms p).filter (fun d => (s.td d).mon == .locked || (s.td d).mon == .holdover)) State.rateStep

def State.ptpSync (s : State) (p seq : Nat) (two : Bool) (t1 t2 ppm : Int) : State :=
  if !s.ptpOn p then s
  else if two then (s.updPtp p (fun x => { x with pendSync := some (seq, t2) })).ptpFreq p ppm
  else (s.ptpMeasure p t1 t2).ptpFreq p ppm

def State.ptpFollowUp (s : State) (p seq : Nat) (t1 : Int) : State :=
  match s.ptpOn p, (s.ptpI p).pendSync with
  | true, some (q, t2) => if q = seq then s.ptpMeasure p t1 t2 else s
  | _, _ => s

/-- The delay request-response mechanism: ((t2 − t1) + (t4 − t3)) / 2 (15 R391). -/
def State.ptpDelay (s : State) (p seq : Nat) (t4 : Int) : State :=
  if s.ptpOn p && decide ((s.ptpI p).delaySeq = seq + 1) then
    s.updPtp p (fun x => { x with pathDelay := ((x.t2 - x.t1) + (t4 - x.t3)) / 2 })
  else s

def State.ptpDelayReq (s : State) (p : EthNo) (t3 : Int) : State :=
  if s.ptpOn p.val then
    let q := (s.ptpI p.val).delaySeq % 65536
    (s.updPtp p.val (fun x => { x with t3 := t3, delaySeq := q + 1 })).emit
      (.net (.delayReq p (s.fld .hostPtpCfg p 21 16) (s.bit .hostPtpCfg p 2) q))
  else s

/-- An Announce of a clock that the best master clock algorithm prefers becomes the master (15 R391, R392). -/
def State.ptpAnnounce (s : State) (p clock : Nat) (better : Bool) : State :=
  let m := (s.ptpI p).master
  if s.bit .hostPtpCfg p 0 && (better || m.isNone) && m != some clock then
    (s.updPtp p (fun x => { x with master := some clock })).event 0x0904 p 0 clock
  else s

/-- The announce receipt timeout (15 R392). -/
def State.ptpTimeout (s : State) (p : Nat) : State :=
  if s.ptpOn p then (s.updPtp p (fun x => { x with master := none, pendSync := none })).ptpLock p false else s

/-! ### RTP (15 R393 to R395) -/

/-- The media clock of a port: PTP time × base rate (15 R395). -/
def State.mediaIdx (s : State) (p dom : Nat) : Nat := ((s.ptpI p).phc + s.uptime).toNat * s.baseRate dom / 1000000000

/-- Whether the domain's source is PTP on the stream's port, so that no crossing is needed. -/
def State.rtpDirect (s : State) (r : Nat) : Bool := (s.td (s.rtpDom r)).srcUse.src == 3 + s.rtpPort r

def State.rtpBits (s : State) (r : Nat) : Nat := if s.bit .hostRtpCtl r 3 then 16 else 24

/-- Samples per channel in a packet (15 R393). -/
def State.rtpLen (s : State) (r : Nat) : Nat :=
  match s.fld .hostRtpCtl r 5 4 with
  | 0 => 6
  | 1 => 12
  | _ => 48

/-- The stream that names a channel. -/
def State.rtpStream (s : State) (r c : Nat) : Option Nat :=
  (s.streamsWhere (fun x => x.dir.dest == 0x8000 + 8 * r + c)).head?

/-- One sample period of every channel (15 R394). -/
def State.rtpSample (s : State) (r : Nat) : List Nat × State :=
  let b := s.rtpBits r
  let ws := (List.range (s.rtpChannels r)).map (fun c =>
    match s.rtpStream r c with
    | some i => s.takenWord i b b c
    | none => (0, false))
  let clips := (ws.filter (fun w => w.2)).length
  (ws.map (fun w => w.1), (if clips = 0 then s else (s.cnt .hostRtpClipCnt 0 31 0 clips).flag .hostEvt 0 5).assembled
    ((List.range (s.rtpChannels r)).filterMap (s.rtpStream r)) (s.rtpChannels r))

/-- A slip at the RTP crossing (15 R395, 01 R39). -/
def State.rtpSlip (s : State) (r : Nat) (rep : Bool) : State :=
  let d := s.rtpDom r
  let s1 := (s.inc .tickSlipCnt d).cnt .hostRtpStat r 31 16 1
  let s2 := s1.each ((List.range (s.rtpChannels r)).filterMap (s.rtpStream r)) (fun s i =>
    s.updStream i (fun x => { x with cnt := x.cnt.addSlip }))
  s2.record 4 (0x100 + r) d (leBytes 1 (b2n rep) ++ leBytes 7 0)

/-- A tick of the domain delivers one sample period to each of its RTP streams. -/
def State.rtpTick (s : State) (r : Nat) : State :=
  let y := s.rtpSample r
  if s.rtpDirect r then
    let m := s.mediaIdx (s.rtpPort r) (s.rtpDom r)
    y.2.updRtp r (fun x => { x with pkt := x.pkt ++ [y.1], ts := if x.pkt.isEmpty then m + 1 else x.ts + 1 })
  else
    let full := decide (24 ≤ (s.rtpS r).fifo.length)
    let s1 := if full then (y.2.updRtp r (fun x => { x with fifo := x.fifo.drop 1 })).rtpSlip r false else y.2
    s1.updRtp r (fun x => { x with fifo := x.fifo ++ [y.1] })

def State.rtpTicks (s : State) (dom : Nat) : State :=
  s.each ((s.rtp.filter (fun e => e.2.running && s.rtpDom e.1 == dom)).map (fun e => e.1)) State.rtpTick

/-- One media clock instant takes a sample period from the crossing FIFO (15 R395, 14 R359). -/
def State.rtpPull (s : State) (r : Nat) : State :=
  let x := s.rtpS r
  let zeros := List.replicate (s.rtpChannels r) 0
  let put := fun (s : State) (w : List Nat) => s.updRtp r (fun x => { x with pkt := x.pkt ++ [w], ts := x.ts + 1 })
  if !(s.td (s.rtpDom r)).ticking then (put s zeros).updRtp r (fun x => { x with fifo := [], primed := false })
  else if !x.primed && decide (x.fifo.length < 16) then put s zeros
  else if x.fifo.length < 8 then
    ((put s (if x.last.isEmpty then zeros else x.last)).updRtp r (fun x => { x with primed := true })).rtpSlip r true
  else
    let w := x.fifo.headD zeros
    (put s w).updRtp r (fun x => { x with primed := true, last := w, fifo := x.fifo.drop 1 })

def State.rtpPulls : Nat → Nat → State → State
  | 0, _, s => s
  | n + 1, r, s => State.rtpPulls n r (s.rtpPull r)

/-- The media clock instants that have passed (log 50). -/
def State.rtpAdvance (s : State) (r : Nat) : State :=
  if s.rtpDirect r then s else State.rtpPulls (s.mediaIdx (s.rtpPort r) (s.rtpDom r) + 1 - (s.rtpS r).ts) r s

/-- RTP_EN_SET: accepted only while the servo of PORT is locked (15 R395). -/
def State.rtpEnable (s : State) (r : Nat) : State :=
  if s.rtpOn r then s
  else if (s.ptpI (s.rtpPort r)).locked then
    let x := { Rtp.start with ts := s.mediaIdx (s.rtpPort r) (s.rtpDom r) + 1 }
    { s.setFld .hostRtpCtl r 0 0 1 with rtp := Tab.set s.rtp r x }
  else s.flag .hostEvt 0 6

def State.rtpDisable (s : State) (r : Nat) : State := { s.setFld .hostRtpCtl r 0 0 0 with rtp := Tab.erase s.rtp r }

/-- The RTP header of a packet (15 R393). -/
def State.rtpHeader (s : State) (r seq ts : Nat) : List Byte :=
  beBytes 1 0x80 ++ beBytes 1 (s.fld .hostRtpCtl r 22 16) ++ beBytes 2 seq ++ beBytes 4 ts ++ beBytes 4 (s.rg .hostRtpSsrc r)

/-- The destination of a stream's packets (15 R393; HOST_RTP_DST, HOST_RTP_UDP, HOST_RTP_CFG). -/
def State.rtpRoute (s : State) (r : Nat) : RtpRoute :=
  let v6 := s.bit .hostRtpCtl r 9
  { port := s.rtpPort r, v6 := v6,
    dst := if v6 then (List.range 4).foldl (fun a w => a * 2 ^ 32 + s.rg .hostRtpDst r w) 0 else s.rg .hostRtpDst r 0,
    udp := s.fld .hostRtpUdp r 15 0, dscp := s.fld .hostRtpCfg 0 5 0, hop := s.fld .hostRtpCfg 0 15 8 }

/-- RTP_PACKET_SEND (15 R393, R395). -/
def State.rtpSend (s : State) (r : RtpNo) : State :=
  if (s.rtpOn r.val) then
    let s1 := s.rtpAdvance r.val
    let x := s1.rtpS r.val
    let n := s.rtpLen r.val
    if n ≤ x.pkt.length then
      let first := x.ts - x.pkt.length
      let ts := (first + s.fld .hostRtpCfg 0 31 16) % 2 ^ 32
      let d := s.rtpDom r.val
      let ws := (x.pkt.take n).flatMap (fun w => if s.hbOk d (s.tick d) then w else w.map (fun _ => 0))
      let pay := ws.flatMap (beBytes (s.rtpBits r.val / 8))
      let s2 := s1.updRtp r.val (fun x => { x with pkt := x.pkt.drop n, seq := (x.seq + 1) % 65536 })
      if s.replay.active || s.silenced d then s2
      else s2.emit (.rtp r.val (s.rtpRoute r.val) x.seq ts (s.rtpHeader r.val x.seq ts ++ pay))
    else s1
  else s

/-! ### Meanings -/

/-- ETH_FRAME_RX (15 R372). -/
def execEthFrameRx (p : EthNo) (f : EthFrame) (s : State) : Host.Outcome State Fault Refusal := done (s.frameRx p.val f)
/-- ETH_LINK_CHANGE (15 R375). -/
def execEthLinkChange (p : EthNo) (up : Bool) (lanes : BitVec 4) (s : State) : Host.Outcome State Fault Refusal :=
  done (s.ethChange p.val up lanes.toNat)
/-- ETH_NO_LIGHT (19 R504). -/
def execEthNoLight (p : EthNo) (s : State) : Host.Outcome State Fault Refusal := done (s.noLight p.val)
/-- ARP_REQUEST (15 R373). -/
def execArpRequest (p : EthNo) (target : Word) (src : Peer) (s : State) : Host.Outcome State Fault Refusal :=
  done (s.answer p.val (s.own4 p.val target.toNat) (.arpReply p src target.toNat))
/-- NEIGHBOUR_SOLICITATION (15 R373). -/
def execNeighbourSolicitation (p : EthNo) (target : BitVec 128) (src : Peer) (s : State) : Host.Outcome State Fault Refusal :=
  done (s.answer p.val (s.own6 p.val target.toNat) (.neighbourAdvert p src target.toNat))
/-- ICMP_ECHO (15 R373). -/
def execIcmpEcho (p : EthNo) (target : Word) (src : Peer) (data : List Byte) (s : State) :
    Host.Outcome State Fault Refusal := done (s.answer p.val (s.own4 p.val target.toNat) (.echoReply p src data))
/-- ICMPV6_ECHO (15 R373). -/
def execIcmpv6Echo (p : EthNo) (target : BitVec 128) (src : Peer) (data : List Byte) (s : State) :
    Host.Outcome State Fault Refusal := done (s.answer p.val (s.own6 p.val target.toNat) (.echoReply p src data))
/-- KTP_ACK_DELAY (15 R379). -/
def execKtpAckDelay (n : Nat) (s : State) : Host.Outcome State Fault Refusal := done (s.ackDelay n)
/-- KTP_RETX_TIMEOUT (15 R380). -/
def execKtpRetxTimeout (n : Nat) (s : State) : Host.Outcome State Fault Refusal := done (s.retx n)
/-- KTP_SESSION_IDLE (15 R380). -/
def execKtpSessionIdle (n : Nat) (s : State) : Host.Outcome State Fault Refusal := done (s.sessIdle n)
/-- SESSION_OPEN (15 R378). -/
def execSessionOpen (src : Peer) (tag epoch mask : Word) (maxPay : Half) (s : State) : Host.Outcome State Fault Refusal :=
  done (s.openSess (.sessionOpen src tag epoch mask maxPay) src tag.toNat epoch.toNat mask.toNat maxPay.toNat)
/-- SESSION_CLOSE (15 R378). -/
def execSessionClose (h : Hdr) (s : State) : Host.Outcome State Fault Refusal := done (s.closeSess h)
/-- PING (15 R384). -/
def execPing (h : Hdr) (s : State) : Host.Outcome State Fault Refusal :=
  done (runMsg (.ping h) (fun s => .ok s s.pingPay) s)
/-- STATUS (15 R384). -/
def execStatus (h : Hdr) (s : State) : Host.Outcome State Fault Refusal :=
  done (runMsg (.status h) (fun s => .ok s s.statusPay) s)
/-- IDENTITY (15 R384). -/
def execIdentity (h : Hdr) (s : State) : Host.Outcome State Fault Refusal :=
  done (runMsg (.identity h) (fun s => .ok s s.identityPay) s)
/-- HOST_RETURN_SEND (15 R386). -/
def execHostReturnSend (i : StreamNo) (s : State) : Host.Outcome State Fault Refusal := done (s.hostReturn i.val)
/-- BE_HOST_TAKE (15 R386). -/
def execBeHostTake (i : StreamNo) (s : State) : Host.Outcome State Fault Refusal := done (s.beTake i.val)
/-- PTP_SYNC (15 R392). -/
def execPtpSync (p : EthNo) (seq : Half) (two : Bool) (t1 t2 : Int) (ppm : Int) (s : State) :
    Host.Outcome State Fault Refusal := done (s.ptpSync p.val seq.toNat two t1 t2 ppm)
/-- PTP_FOLLOW_UP (15 R391). -/
def execPtpFollowUp (p : EthNo) (seq : Half) (t1 : Int) (s : State) : Host.Outcome State Fault Refusal :=
  done (s.ptpFollowUp p.val seq.toNat t1)
/-- PTP_DELAY_RESP (15 R391). -/
def execPtpDelayResp (p : EthNo) (seq : Half) (t4 : Int) (s : State) : Host.Outcome State Fault Refusal :=
  done (s.ptpDelay p.val seq.toNat t4)
/-- PTP_ANNOUNCE (15 R391). -/
def execPtpAnnounce (p : EthNo) (clock : DWord) (better : Bool) (s : State) : Host.Outcome State Fault Refusal :=
  done (s.ptpAnnounce p.val clock.toNat better)
/-- PTP_DELAY_REQ_TIMER (15 R391). -/
def execPtpDelayReqTimer (p : EthNo) (t3 : Int) (s : State) : Host.Outcome State Fault Refusal := done (s.ptpDelayReq p t3)
/-- PTP_ANNOUNCE_TIMEOUT (15 R392). -/
def execPtpAnnounceTimeout (p : EthNo) (s : State) : Host.Outcome State Fault Refusal := done (s.ptpTimeout p.val)
/-- RTP_EN_SET (15 R395). -/
def execRtpEnSet (r : RtpNo) (s : State) : Host.Outcome State Fault Refusal := done (s.rtpEnable r.val)
/-- RTP_PACKET_SEND (15 R393, R395). -/
def execRtpPacketSend (r : RtpNo) (s : State) : Host.Outcome State Fault Refusal := done (s.rtpSend r)

end Sys2Proof.Machine
end

