-- ==== Sys2Proof/Machine/Power.lean ====
section
/-! DEFINITION. The end of a twin and the start of a takeover (16 R421, R422, R425), power states (18 R476 to R479) and the
power cap (18 R480 to R482). -/

namespace Sys2Proof.Machine

/-! ### Twin states -/

def TwState.code : TwState → Nat
  | .none => 0 | .attaching => 1 | .attached => 2 | .lost => 3 | .taking => 4 | .alone => 5 | .detached => 6 | .refused => 7

def State.twinId (s : State) : Nat := s.fld .linkTwinCfg 0 15 0

/-- Tolcon's TWIN record (19 R490). -/
def State.twinRecord (s : State) : State :=
  s.record 10 s.twinId s.defaultDom (leBytes 1 s.twin.state.code ++ leBytes 7 0)

/-- Replies held for a twin that is gone leave (16 R416). -/
def State.releaseHeld (s : State) : State :=
  ({ s with twin := { s.twin with fwdWait := [] } }).each s.twin.fwdWait (fun s w =>
    s.sendMsg w.2.2.session w.2.2.typ w.2.2.status w.2.2.tag w.2.2.epoch w.2.2.payload)

/-- Whether the module has a twin (16 R425). -/
def State.hasTwin (s : State) : Bool :=
  s.twin.state == .attaching || s.twin.state == .attached || s.twin.state == .lost || s.twin.state == .taking

/-- The last record that a primary forwards says that the twin ends (16 R416, R425). -/
def State.forwardEnd (s : State) : State :=
  if s.forwarding then
    (s.forward (s.mkRecord (recLen 8) 10 s.twinId s.defaultDom (leBytes 1 TwState.detached.code ++ leBytes 7 0))).2
  else s

/-- Nothing of a checkpoint or a heartbeat is under way. -/
def Twin.still (t : Twin) (st : TwState) : Twin :=
  { t with state := st, packs := [], wr := 0, abandoned := false, capture := [], ckptOpen := false, ckptEnd := none, hbSent := [],
           hbAcked := [], hbMissed := 0, detach := false, stretched := false, ckptRow := 0, inTime := 0 }

/-- The twin ends (16 R425). -/
def State.twinEnd (s : State) : State :=
  let s0 := s.forwardEnd
  let mine := if s0.standby then s0.streamsWhere (fun x => s0.mirrors x.dir.pitch) else []
  let s1 := s0.each mine (fun s i => s.closeNow i true)
  let tw := { s1.twin.still .detached with complete := [], inputs := [] }
  (({ s1 with twin := tw, cfg := { s1.cfg with twinArea := none } }).releaseHeld.event 0x0A05 s1.twinId).twinRecord

/-- The first step of a takeover: TWIN_ORDER on every UP twin link, and the restore begins (16 R422). -/
def State.takeOver (s : State) : State :=
  if s.standby && (s.twin.state == .attached || s.twin.state == .lost) then
    let s1 := s.each s.twinLinks (fun s n => (s.sendOn n s.twinId 0 7 0 (leBytes 8 0)).2)
    ({ s1 with twin := { s1.twin with state := .taking } }).twinRecord
  else s

/-! ### Power states (18 R476 to R479) -/

/-- A change of state: its record and its event (18 R477, 19 R490). -/
def State.powerTo (s : State) (k wake : Nat) : State :=
  let old := s.pwr.state
  let p := { s.pwr with state := k, target := none, waking := false, entered := s.uptime,
                        wakePend := if k = 0 then none else s.pwr.wakePend,
                        wake := if k = 0 then wake else s.pwr.wake }
  (({ s with pwr := p }).record 9 k s.defaultDom (leBytes 1 old ++ leBytes 1 wake ++ leBytes 6 0)).event 0x0B05 k 0 old wake

/-- Why a request is refused; 0 if it is not (18 R476, R477). -/
def State.powerRefusal (s : State) (k : Nat) : Nat :=
  firstFail [
    (decide (1 ≤ k) && decide (k ≤ 3), 0x60D),
    (s.p1Ok, 0x60B),
    (k != 3 || s.pitches.all (fun e => !e.2.built && !e.2.building), 0x60C)]

/-- PWR_CTL.REQ (18 R477): the status and the state after. -/
def State.powerReq (s : State) (k : Nat) : Nat × State :=
  let r := s.powerRefusal k
  if r ≠ 0 then (r, ({ s with pwr := { s.pwr with refuse := r } }).flag .pwrEvt 0 0)
  else if k = 1 then (0, if s.pwr.state = 0 then s.powerTo 1 0 else s)
  else if s.pwr.state = 0 then (0, { s with pwr := { s.pwr with target := some k } })
  else (0, s)

/-- Domains that stop at entry and re-enter ACQUIRE at wake (17 R454). -/
def State.acquiring (s : State) : List Nat := [0, 1].filter (fun d => (s.td d).mon == .acquire)

/-- POWER_ENTRY_DONE: every running domain has stopped (18 R477); a wake that came meanwhile follows at once (R479). -/
def State.powerEntry (s : State) : State :=
  match s.pwr.target with
  | none => s
  | some k =>
    if s.td0.ticking || s.td1.ticking then s
    else
      let ds := s.acquiring
      let s1 := s.each ds (fun s d => s.updTd d (fun t => { t with mon := .stopped }))
      let s2 : State := { s1 with pwr := { s1.pwr with stoppedDoms := s1.pwr.stoppedDoms ++ ds } }
      let s3 := if s2.hasTwin then s2.twinEnd else s2
      let s4 := s3.powerTo k 0
      { s4 with pwr := { s4.pwr with waking := s4.pwr.wakePend.isSome } }

/-- Back in P0: stopped domains re-enter ACQUIRE (17 R454, 18 R478). -/
def State.powerBack (s : State) : State :=
  let ds := s.pwr.stoppedDoms
  let s1 := s.powerTo 0 (s.pwr.wakePend.getD 0)
  let s2 : State := { s1 with pwr := { s1.pwr with stoppedDoms := [] } }
  s2.each ds (fun s d => if (s.td d).mon = .stopped then (s.takeSrc d).toAcquire d false else s)

def State.timerWake (s : State) : State :=
  if s.bit .pwrCtl 0 8 && s.pwr.state != 0 && decide (s.pwr.entered + s.rg .pwrWakeTimer * 1000000 ≤ s.uptime) then s.wake 3
  else s

/-! ### The power cap (18 R480 to R482) -/

def CapDom.note (c : CapDom) : CapDom := { c with seen := true }

def State.capShed (s : State) : Bool := s.pwr.cap0.shed || s.pwr.cap1.shed

/-- One step of ACLK. -/
def State.clockStep (s : State) (k : Nat) : State :=
  ((({ s with pwr := { s.pwr with step := k, calm := 0 } }).inc .pwrStepCnt).flag .pwrEvt 0 2)

/-- A measurement above the cap at the floor (18 R481, R482). -/
def State.capOver (s : State) (dw : Nat) : State :=
  let shed := s.capShed
  let s1 : State := { s with pwr := { s.pwr with atFloor := true, calm := 0, cap0 := s.pwr.cap0.note, cap1 := s.pwr.cap1.note } }
  if !shed then s1
  else
    let s2 := ({ s1 with pwr := { s1.pwr with capMiss := true } }).flag .pwrEvt 0 1
    if s.pwr.capSec = s.second + 1 then s2
    else ({ s2 with pwr := { s2.pwr with capSec := s.second + 1 } }).event 0x0B06 0 0 (dw / 10) (1600 - 50 * s.pwr.step)

/-- POWER_MEASURE (18 R481; log 51). -/
def State.powerMeasured (s : State) (dw : Nat) : State :=
  let cap := s.fld .pwrCap 0 9 0 * 10
  let s1 := s.setRg .pwrMeas 0 (min dw 65535)
  if s.pwr.state ≠ 0 then s1
  else if cap < dw then
    if s.pwr.step < s.clockFloor then s1.clockStep (s.pwr.step + 1) else s1.capOver dw
  else
    let calm := if dw * 100 ≤ 95 * cap then s.pwr.calm + 1 else 0
    let s2 : State := { s1 with pwr := { s1.pwr with calm := calm, atFloor := false } }
    if 50 ≤ calm && !s.capShed && decide (0 < s.pwr.step) then s2.clockStep (s.pwr.step - 1) else s2

/-- The frame tick's decision of a domain (18 R482). -/
def CapDom.frame (c : CapDom) : CapDom :=
  if c.trial then { seen := false, shed := c.seen, run := 0, trial := false }
  else if c.shed then
    if 16 ≤ c.run + 1 then { seen := false, shed := false, run := 0, trial := true }
    else { c with seen := false, run := c.run + 1 }
  else { seen := false, shed := c.seen, run := 0, trial := false }

def State.capFrame (s : State) (d : Nat) : State :=
  if d = 0 then { s with pwr := { s.pwr with cap0 := s.pwr.cap0.frame } }
  else { s with pwr := { s.pwr with cap1 := s.pwr.cap1.frame } }

/-! ### Meanings -/

/-- PWR_REQ_P1 (18 R477). -/
def execPwrReqP1 (s : State) : Host.Outcome State Fault Refusal := done (s.powerReq 1).2
/-- PWR_REQ_P2 (18 R477). -/
def execPwrReqP2 (s : State) : Host.Outcome State Fault Refusal := done (s.powerReq 2).2
/-- PWR_REQ_P3 (18 R477). -/
def execPwrReqP3 (s : State) : Host.Outcome State Fault Refusal := done (s.powerReq 3).2
/-- POWER_ENTRY_DONE (18 R477). -/
def execPowerEntryDone (s : State) : Host.Outcome State Fault Refusal := done s.powerEntry
/-- WAKE_PIN: sampled in P1 to P3 and during entry (18 R478, R479, 21 R515). -/
def execWakePin (s : State) : Host.Outcome State Fault Refusal := done (s.wake 1)
/-- WAKE_TIMER (18 R478). -/
def execWakeTimer (s : State) : Host.Outcome State Fault Refusal := done s.timerWake
/-- POWER_MEASURE (18 R481). -/
def execPowerMeasure (dw : Nat) (s : State) : Host.Outcome State Fault Refusal := done (s.powerMeasured dw)
/-- TWIN_TAKEOVER: LINK_TWIN_CMD.TAKEOVER (16 R421, R422). -/
def execTwinTakeover (s : State) : Host.Outcome State Fault Refusal := done s.takeOver

end Sys2Proof.Machine
end

