-- ==== Sys2Proof/Machine/Flags.lean ====
section
/-! DEFINITION. What a read of a management register returns (00 R6, R8, R9, 01 R43, 20 R507 to R509): the words and status
flags that follow the state, the latched pairs and the counters that a read clears. -/

namespace Sys2Proof.Machine

/-- A word from fields, each with its lowest bit. -/
def pack (l : List (Nat × Nat)) : Nat := l.foldl (fun a f => a + f.1 * 2 ^ f.2) 0

def lo32 (v : Nat) : Nat := v % 2 ^ 32
def hi32 (v : Nat) : Nat := v / 2 ^ 32 % 2 ^ 32

/-! ### Words by block -/

/-- The stored bits of a word that its state fields do not replace. -/
def State.kept (s : State) (r : RegName) (i j mask : Nat) : Nat := s.rg r i j &&& mask

def State.tickWord (s : State) (r : RegName) (d : Nat) : Nat :=
  let t := s.td d
  match r with
  | .tickUptimeLo => lo32 s.uptime
  | .tickUptimeHi => hi32 s.uptime
  | .tickTimeStat => b2n s.timeBasis + s.kept r 0 0 2
  | .tickPtpSecLo => lo32 (s.ptpTime / 1000000000)
  | .tickPtpSecHi => s.ptpTime / 1000000000 / 2 ^ 32 % 65536
  | .tickPtpNs => s.ptpTime % 1000000000
  | .tickBudget => pack [(s.budget d, 0), (s.lcLimit d, 16)]
  | .tickStat => pack [(t.mon.code, 0), (b2n t.clamp, 3), (b2n (t.mon == .acquire && t.freeRun), 4)]
  | .tickCntLo => lo32 t.cnt
  | .tickCntHi => hi32 t.cnt
  | _ => s.rg r d

/-- Valid entries of the voice table (02 R48): bit 0 of each entry's first byte. -/
def State.voicesValid (s : State) : Nat :=
  ((s.mem.slice s.vtBase 0x200000).filter (fun c => (c.1 - s.vtBase) % 128 == 0 && c.2.getLsbD 0)).length

/-- SDIR_GRP_CFG (02 R70 to R75). -/
def State.grpWord (s : State) (g : Nat) : Nat :=
  let ms := s.members g
  let x := s.stream (ms.headD 0)
  let on := fun (v : Nat) => if ms.isEmpty then 0 else v
  s.kept .sdirGrpCfg g 0 0xFFF + pack [(ms.length, 12), (on x.dir.phase, 19), (on x.dir.d, 21), (on x.dir.domain, 23),
    (b2n (s.group g).holding, 31)]

/-- Queued swap-ins; the copies of R127 are BE swap-ins (03 R89). -/
def State.swapsQueued (s : State) : Nat :=
  (s.swap.map (fun e => (e.2.queue.filter (fun o => match o with
    | .swapIn .. => true
    | .copy _ _ _ _ lc _ => !lc
    | _ => false)).length)).sum

def State.sdirWord (s : State) (r : RegName) (i : Nat) : Nat :=
  match r with
  | .sdirStat => pack [(s.openStreams.length, 0), (b2n s.freeIndex.isNone, 31)]
  | .sdirVtStat => pack [(s.voicesValid, 0), (s.vcache.length, 16)]
  | .sdirGrpCfg => s.grpWord i
  | .sdirResStat => pack [(s.slotsUsed, 0), (s.swapsQueued, 16)]
  | .sdirQstate => s.kept r i 0 0xFF + pack [((s.pages.filter (fun e => e.1 / 256 == i)).length, 16)]
  | _ => s.rg r i

/-- Models whose tiles stand in the weight regions of the Pitch of a Quarter (04 QTR_WEIGHT). -/
def State.quarterModels (s : State) (q : Nat) : List Model :=
  match s.quarterPitch q with
  | none => []
  | some p => s.models.filter (fun m => m.pitch == p && (m.stage == .copied || m.stage == .usable || m.stage == .unloading)
      && (s.ctx m.ctx).holds && !m.pages.isEmpty)

def State.qtrWord (s : State) (r : RegName) (q : Nat) : Nat :=
  match r with
  | .qtrRegion => s.kept r q 0 0xFF + pack [(s.workPages q, 16)]
  | .qtrStat =>
    s.kept r q 0 0xFF0000 + pack [(b2n (s.powered q), 0), (b2n (s.regionBad q), 1), ((s.quarterPitch q).getD 0, 4),
      ((s.batches.filter (fun b => b.quarter == q)).length, 8)]
  | .qtrLoad => min 65535 (s.tickLoad q)
  | .qtrWeight =>
    let ms := s.quarterModels q
    pack [((ms.flatMap (fun m => m.pages)).eraseDups.length, 0), (ms.length, 8)]
  | _ => s.rg r q

def State.ctxStat (s : State) (c : Nat) : Nat :=
  let x := s.ctx c
  let ord := (s.pitch x.pitch).beOrder
  let placed := x.state == .resident && ord.contains c
  pack [(x.state.code, 0), (b2n x.be, 3), (x.pitch, 4), (x.weight, 8), (if placed then ord.idxOf c else 0, 16), (b2n placed, 22),
    (x.fault % 256, 24)]

def State.schedWord (s : State) (r : RegName) (i : Nat) : Nat :=
  let c := s.fld .schedCtxSel 0 9 0
  match r with
  | .schedPreStat =>
    let back := ((s.openStreams.filter (fun e => e.2.dir.pitch == i)).map
      (fun e => (e.2.feat.chunks.filter (fun k => !k.encoded)).length)).sum
    pack [((s.pitch i).chunkCur, 0), (min 255 (s.pitch i).calm, 8), (min 65535 back, 16)]
  | .schedStat =>
    pack [(s.builtPitches.length, 0), ((s.ctxs.filter (fun e => e.2.holds)).length, 8),
      ((s.ctxs.filter (fun e => e.2.state != .free)).length, 16)]
  | .schedCtxStat => s.ctxStat c
  | .schedCtxAcctLo => lo32 (s.ctx c).acct
  | .schedCtxAcctHi => hi32 (s.ctx c).acct
  | .schedCtxShare => pack [((s.ctx c).wPages, 0), ((s.ctx c).wBase, 8), ((s.ctx c).kPages, 16), ((s.ctx c).kBase, 24)]
  | .schedWardSplit => s.wardSplit i / 1000000
  | .schedPitchStat =>
    let p := s.pitch i
    pack [(b2n p.built, 0), (p.domain, 1), (b2n p.shed.isSome, 2), (b2n p.shares, 3), (if p.built || p.building then p.qmask else 0, 16)]
  | .tstlCount => (s.tst i).count.toNat
  | .tstlStat =>
    let t := s.tst i
    pack [(t.target.toNat, 0), (b2n t.armed, 24), (b2n t.met, 25), (b2n t.ovf, 26), (b2n t.bound.isSome, 27),
      ((((t.bound.bind s.exec?).map (fun e => e.pitch)).getD 0), 28)]
  | _ => s.rg r i

/-! ### Kiosks -/

def KRun.code : KRun → Nat
  | .idle => 0 | .run => 1 | .wait => 2 | .release => 3 | .exc => 4

def CLine.isDirty (l : CLine) : Bool := l.dirty.any (fun d => d)

def Kiosk.dirty (k : Kiosk) : Bool := k.lines.any CLine.isDirty || !k.wbuf.isEmpty

/-- STATE of KSK_STAT (11, 18 R474). -/
def Kiosk.stat (k : Kiosk) : Nat := if k.halted then 5 else k.run.code

def State.kskWord (s : State) (r : RegName) (q j : Nat) : Nat :=
  let k := s.kiosk (kioskOf q j)
  match r with
  | .kskStat => pack [(k.stat, 0), (b2n k.dirty, 3), ((((k.exec.bind s.exec?).map (fun e => e.ctx)).getD 0), 16)]
  | .kskPc => lo32 k.pc
  | _ => s.rg r q j

/-- The Kiosk that DBG_KSK_SEL selects (18). -/
def State.dbgKiosk (s : State) : Nat := kioskOf (s.fld .dbgKskSel 0 7 4) (s.fld .dbgKskSel 0 3 0)

/-- The word of a Kiosk that DBG_KSK_VIEW_SEL selects (18 R474). -/
def State.kioskView (s : State) : Nat :=
  let k := s.kiosk s.dbgKiosk
  let n := s.fld .dbgKskViewSel 0 6 0
  if !k.halted then 0
  else if n < 32 then bitsOf ((k.a.getD n 0).toNat) (if s.bit .dbgKskViewSel 0 16 then 63 else 31) (if s.bit .dbgKskViewSel 0 16 then 32 else 0)
  else if n < 64 then ((k.v.getD (n - 32) []).getD (s.fld .dbgKskViewSel 0 12 8) 0).toNat
  else if n = 64 then 0xFFFFFFFF
  else (k.m.getD (n - 64) 0).toNat

/-! ### Memory, movers and ports -/

def State.memcWord (s : State) (r : RegName) (i : Nat) : Nat :=
  match r with
  | .memcStat => pack [(b2n s.memx.trained, 0), (b2n s.memx.filled, 1), (b2n s.memx.scrubbing, 2)]
  | .memcDirRetired => s.retired
  | _ => s.rg r i

/-- The address of the next byte of the listed side (13 R337). -/
def State.listNext (s : State) (c : Chan) : Nat := numAt (s.bytesAt c.list 16) 0 8 + c.lpos

/-- Next source and destination byte of a channel (13 MOVR_CH_SRC, MOVR_CH_DST). -/
def State.chanNext (s : State) (c : Chan) (dst : Bool) : Nat :=
  match c.desc with
  | none => 0
  | some d => if d.list = (if dst then 2 else 1) then s.listNext c else (if dst then d.dst else d.src) + c.pos

def State.movrCount (s : State) (f : ChState → Bool) : Nat := (s.chans.filter (fun e => f e.2.state)).length

def State.movrWord (s : State) (r : RegName) (n : Nat) : Nat :=
  let c := s.chan n
  let hi := fun (v : Nat) => v / 2 ^ 32 % 65536
  let list := match c.desc with | some d => if d.list = 0 then 0 else c.list | none => 0
  match r with
  | .movrStat => pack [(s.movrCount (fun x => x == .run || x == .waitTrig || x == .waitPreq), 0), (s.movrCount (fun x => x == .halted), 16)]
  | .movrCredit => s.wardCredits n
  | .movrChStat => pack [(c.state.code, 0), (min 15 c.trigs.length, 4), (c.cause, 8), (c.kind, 12), (b2n c.dir, 14)]
  | .movrChCurLo => lo32 c.cur
  | .movrChCurHi => hi c.cur
  | .movrChSrcLo => lo32 (s.chanNext c false)
  | .movrChSrcHi => hi (s.chanNext c false)
  | .movrChDstLo => lo32 (s.chanNext c true)
  | .movrChDstHi => hi (s.chanNext c true)
  | .movrChRemain => match c.desc with | some d => d.len - c.pos | none => 0
  | .movrChListLo => lo32 list
  | .movrChListHi => hi list
  | .movrChErrLo => lo32 c.err
  | .movrChErrHi => hi c.err
  | _ => s.rg r n

/-- APRT_WCLK_OUT: EN reads 0 while the pin is shorted (14 R368), FALLBACK under R369. -/
def State.wclkWord (s : State) : Nat :=
  let w := s.kept .aprtWclkOut 0 0 0x1E
  let d := bitsOf w 2 1
  w + pack [(b2n (s.bit .aprtWclkOut 0 0 && !s.dev.wclkShort), 0), (b2n (decide (d < 2) && !(s.td d).ticking), 8)]

def State.aprtWord (s : State) (r : RegName) (p : Nat) : Nat :=
  let x := s.port p
  match r with
  | .aprtWclkOut => s.wclkWord
  | .aprtMclkStat => (match s.dev.mclk with | some r => pack [(r % 65536, 0), (1, 31)] | none => 0)
  | .portStat =>
    pack [(b2n x.slotLost, 0), (b2n x.rxSlotLost, 1), (x.rot, 2), (x.rxRot, 7), (if s.portClk p = 0 then 0 else x.fifo.length, 12),
      (b2n x.noclk, 18), (b2n x.rateErr, 19), (b2n x.pinFault, 20), (b2n x.contend, 21)]
  | _ => s.rg r p

/-! ### Host, links, device -/

def State.hostWord (s : State) (r : RegName) (i j : Nat) : Nat :=
  match r with
  | .hostKtpStat => s.sessions.length
  | .hostPortStat => pack [(b2n (s.ethPort i).link, 0), ((s.ethPort i).lanes, 1), (b2n (s.ptpI i).locked, 5)]
  | .hostMacLo => lo32 (s.ethPort i).mac
  | .hostMacHi => (s.ethPort i).mac / 2 ^ 32 % 65536
  | .hostRtpStat =>
    let x := match Tab.get? s.rtp i with | some x => (b2n x.running, b2n x.free) | none => (0, 0)
    s.kept r i 0 0xFFFF0000 + pack [(x.1, 0), (x.2, 1)]
  | _ => s.rg r i j

def State.linkWord (s : State) (r : RegName) (n : Nat) : Nat :=
  let l := s.link n
  let up := fun (v : Nat) => if l.state = .up then v else 0
  let area := s.cfg.twinArea.getD ⟨0, 0⟩
  match r with
  | .linkTwinStat => pack [(s.twin.state.code, 0), (b2n s.twin.stretched, 3), (s.twin.refuse, 16)]
  | .linkTwinAreaLo => lo32 area.base
  | .linkTwinAreaHi => pack [(area.base / 2 ^ 32 % 65536, 0), (area.size / 2 ^ 20, 16)]
  | .linkTwinCkptLo => lo32 s.twin.fc
  | .linkTwinCkptHi => hi32 s.twin.fc
  | .linkChStat =>
    pack [(l.state.code, 0), (b2n l.crossed, 3), (b2n l.inverted, 4), (up l.peerLink, 8), (up l.peerId, 16)]
  | .linkChTxLo => lo32 l.sent
  | .linkChTxHi => hi32 l.sent
  | _ => s.rg r n

def Cause.code : Cause → Nat
  | .por => 0 | .pin => 1 | .mgmt => 2 | .wdog => 3 | .twin => 4

def State.devWord (s : State) (r : RegName) (p : Nat) : Nat :=
  match r with
  | .devStage => pack [(s.dev.stage, 0), (s.dev.hold, 4), (s.dev.upd, 8)]
  | .devResetCause =>
    s.kept r 0 0 8 + pack [(s.dev.cause.code, 0), (b2n s.dev.ringKept, 4), (min 65535 s.dev.startMs, 16)]
  | .devEpoch => lo32 s.cfg.epoch
  | .devCfgStat => pack [(s.cfg.stagedBytes, 0), (b2n s.cfg.rolling, 24), (if s.cfg.rolling then s.cfg.nextPitch else 0, 28)]
  | .devWdog => s.kept r 0 0 0xFFFF + pack [(b2n s.dev.wdogArmed, 16)]
  | .devSelftest => s.dev.selftest
  | .devPitchEpoch => if (s.pitch p).built then lo32 (s.pitch p).epoch else 0
  | _ => s.rg r p

/-- A byte of the policy in force (18 R465). -/
def State.policyByte (s : State) (o : Nat) : Nat := match s.sec.policy with | some b => byteAt b o | none => 0

def State.secWord (s : State) (r : RegName) (w : Nat) : Nat :=
  match r with
  | .secStat =>
    pack [(s.sec.lifecycle, 0), (s.policyByte 9, 2), (s.policyByte 0xA, 8), (b2n s.isolate, 12), (b2n s.sec.idOk, 13),
      (b2n s.sec.signer.isSome, 14), (s.policyByte 0xC % 16, 16), (s.policyByte 0xD, 24)]
  | .secPolicyVer => lo32 s.flash.ctr2
  | .secChallenge => numAt s.sec.challenge (4 * w) 4
  | .pwrStat =>
    pack [(s.pwr.state, 0), (b2n s.pwr.atFloor, 3), (b2n s.capShed, 4), (b2n s.pwr.capMiss, 5), (s.pwr.step, 8),
      (if s.dev.stage = 2 then s.clockFloor else 0, 16), (s.pwr.wake, 24), (s.pwr.refuse % 16, 28)]
  | .dbgStat => pack [(s.sec.level, 0), (s.sec.maxSeen, 4)]
  | .dbgKskCtl => pack [(b2n (s.kiosk s.dbgKiosk).halt, 0), (b2n (s.kiosk s.dbgKiosk).haltExc, 2)]
  | .dbgKskView => s.kioskView
  | .trecStat =>
    pack [(b2n s.ring.isSome, 0), (b2n s.trec.complete, 1), (b2n s.trec.lost, 2), (b2n s.replay.active, 3), (b2n s.replay.diverged, 4)]
  | .trecHeadSeqLo => lo32 s.trec.headSeq
  | .trecHeadSeqHi => hi32 s.trec.headSeq
  | .trecTailSeqLo => lo32 s.trec.tailSeq
  | .trecTailSeqHi => hi32 s.trec.tailSeq
  | _ => s.rg r w

/-! ### One read -/

/-- The word of a register as the state stands, before any shadow (20 R507). -/
def State.liveWord (s : State) (r : RegName) (i j : Nat) : Nat :=
  let b := r.card.base
  if b < 0x10000 then s.devWord r i
  else if b < 0x20000 then s.tickWord r i
  else if b < 0x30000 then s.sdirWord r i
  else if b < 0x60000 then s.schedWord r i
  else if b < 0x70000 then s.movrWord r i
  else if b < 0x80000 then s.aprtWord r i
  else if b < 0x90000 then s.hostWord r i j
  else if b < 0xA0000 then s.linkWord r i
  else if b < 0xB0000 then s.memcWord r i
  else if b < 0x100000 then s.secWord r i
  else if b < 0x100100 then s.qtrWord r i
  else s.kskWord r i j

/-- The words that a read of a _LO word latches (01 R43). -/
def RegName.latches : RegName → List RegName
  | .tickUptimeLo => [.tickUptimeHi] | .tickPtpSecLo => [.tickPtpSecHi, .tickPtpNs] | .tickCntLo => [.tickCntHi]
  | .qtrPassCntLo => [.qtrPassCntHi] | .qtrRowCntLo => [.qtrRowCntHi] | .qtrBusyCntLo => [.qtrBusyCntHi]
  | .schedCtxAcctLo => [.schedCtxAcctHi] | .kskExcAddrLo => [.kskExcAddrHi] | .memcFailAddrLo => [.memcFailAddrHi]
  | .memcRbBytesLo => [.memcRbBytesHi] | .movrChHeadLo => [.movrChHeadHi] | .movrChCurLo => [.movrChCurHi]
  | .movrChSrcLo => [.movrChSrcHi] | .movrChDstLo => [.movrChDstHi] | .movrChListLo => [.movrChListHi]
  | .movrChErrLo => [.movrChErrHi] | .linkTwinAreaLo => [.linkTwinAreaHi] | .linkTwinCkptLo => [.linkTwinCkptHi]
  | .linkChTxLo => [.linkChTxHi] | .trecHeadSeqLo => [.trecHeadSeqHi] | .trecTailSeqLo => [.trecTailSeqHi]
  | _ => []

def latchedHis : List RegName :=
  [.tickUptimeHi, .tickPtpSecHi, .tickPtpNs, .tickCntHi, .qtrPassCntHi, .qtrRowCntHi, .qtrBusyCntHi, .schedCtxAcctHi, .kskExcAddrHi,
   .memcFailAddrHi, .memcRbBytesHi, .movrChHeadHi, .movrChCurHi, .movrChSrcHi, .movrChDstHi, .movrChListHi, .movrChErrHi,
   .linkTwinAreaHi, .linkTwinCkptHi, .linkChTxHi, .trecHeadSeqHi, .trecTailSeqHi]

/-- A requester's shadow of the word at an offset; 0 before its first _LO read (01 R43, 20 R508). -/
def State.shadow (s : State) (rq : Requester) (off : Nat) : Nat :=
  match find1 s.shadows (fun x => x.1 == rq && x.2.1 == off) with
  | some x => x.2.2
  | none => 0

def State.setShadow (s : State) (rq : Requester) (off v : Nat) : State :=
  { s with shadows := s.shadows.filter (fun x => !(x.1 == rq && x.2.1 == off)) ++ [(rq, off, v)] }

/-- A read of a register: the word and the state after (00 R6, 01 R43). -/
def State.readReg (s : State) (rq : Requester) (r : RegName) (i j : Nat) : Nat × State :=
  let v := if latchedHis.contains r then s.shadow rq (r.off i j) else s.liveWord r i j
  let s1 := s.each r.latches (fun s h => s.setShadow rq (h.off i j) (s.liveWord h i j))
  (v, if r.card.rc = 0 then s1 else s1.setRg r i (r.card.afterRead (s1.rg r i j)) j)

/-- A read at an offset of the register space: the status, the word and the state after (00 R9). -/
def State.regRead1 (s : State) (rq : Requester) (off : Nat) : Nat × Nat × State :=
  match regAt off with
  | none => (8, 0, s)
  | some r =>
    let x := s.readReg rq r.1 r.2.1 r.2.2
    (0, x.1, x.2)


end Sys2Proof.Machine
end

