-- ==== Sys2Proof/Machine/RegWrite.lean ====
section
/-! DEFINITION. What a write of a management register does (00 R6 to R9, R528, and each card's write rules). The two words
of the debug unit that act on a Kiosk are written by the debug unit itself. -/

namespace Sys2Proof.Machine

/-- A write by the access types alone (00 R6). -/
def State.putWord (s : State) (r : RegName) (i : Nat) (v : Nat) (j : Nat := 0) : State :=
  s.setRg r i (r.card.merge (s.rg r i j) v) j

/-- A write that is ignored as a whole unless `ok`, with its CFG_ERR flag (00 R528). -/
def State.guarded (s : State) (ok : Bool) (r : RegName) (i v : Nat) (evt : RegName) (k bit : Nat) : State :=
  if ok then s.putWord r i v else s.flag evt k bit

/-! ### TICK -/

/-- TICK_CTL (01 R28, R34). -/
def State.writeTickCtl (s : State) (d v : Nat) : State :=
  let src := bitsOf v 4 2
  let mult := bitsOf v 6 5
  let idle := (s.td d).mon == .off || (s.td d).mon == .stopped
  let open_ := s.openStreams.any (fun e => e.2.dir.domain == d)
  let rate := v.testBit 1 != s.bit .tickCtl d 1
  if decide (6 ≤ src) || mult == 3 || (rate && !(idle && !open_)) then s.tickCfgErr d
  else
    let s1 := (s.setFld .tickCtl d 1 1 (bitsOf v 1 1)).srcChange d src mult (bitsOf v 12 7)
    if v.testBit 0 == s.bit .tickCtl d 0 then s1 else if v.testBit 0 then s1.tickEn d else s1.tickDis d

def State.writeTick (s : State) (r : RegName) (d v : Nat) : State :=
  match r with
  | .tickTimeStat =>
    let s1 := s.putWord r 0 v
    if s1.timeBasis == s.timeBasis then s1 else s1.event 0x0106 (b2n (s1.bit .tickTimeStat 0 1))
  | .tickCtl => s.writeTickCtl d v
  | .tickFrame => s.frameWrite d v
  | .tickLimit => if decide (50 ≤ bitsOf v 6 0) && decide (bitsOf v 6 0 ≤ 95) then (s.putWord r d v).fitClock else s.tickCfgErr d
  | .tickCmd => s.cond (v.testBit 0) (fun s => s.tickRestart d)
  | _ => s.putWord r d v

/-! ### SDIR and the Quarters -/

/-- A new 48-bit base from a word and the other word's value. -/
def State.newBase (s : State) (lo hi : RegName) (isLo : Bool) (v : Nat) : Nat :=
  if isLo then v + s.fld hi 0 15 0 * 2 ^ 32 else s.rg lo + v % 65536 * 2 ^ 32

/-- Whether any open stream belongs to the Pitch that holds a Quarter. -/
def State.quarterStreams (s : State) (q : Nat) : Bool :=
  match s.quarterPitch q with
  | some p => s.openStreams.any (fun e => e.2.dir.pitch == p)
  | none => false

def State.quarterLoaded (s : State) (q : Nat) : Bool :=
  match s.quarterPitch q with
  | some p => s.models.any (fun m => m.pitch == p)
  | none => false

def State.writeSdir (s : State) (r : RegName) (i v : Nat) : State :=
  match r with
  | .sdirQdef =>
    let q := bitsOf v 10 0
    s.guarded (queueOk q 1 && decide (1 ≤ bitsOf v 26 16) && decide (bitsOf v 26 16 ≤ 1024)) r 0 v .sdirEvt 0 5
  | .sdirVtBaseLo | .sdirVtBaseHi =>
    let lo := r == .sdirVtBaseLo
    s.guarded ((!lo || v % 2 ^ 21 == 0) && inLpddr (s.newBase .sdirVtBaseLo .sdirVtBaseHi lo v) 0x200000 && s.voicesValid == 0)
      r 0 v .sdirEvt 0 5
  | .sdirGrpCfg => s.guarded (decide (1 ≤ bitsOf v 11 1) && decide (bitsOf v 11 1 ≤ 1024)) r i v .sdirEvt 0 5
  | .sdirStoreBaseLo | .sdirStoreBaseHi =>
    let lo := r == .sdirStoreBaseLo
    s.guarded ((!lo || v % 2 ^ 21 == 0) && inLpddr (s.newBase .sdirStoreBaseLo .sdirStoreBaseHi lo v) 0x200000000
      && s.openStreams.isEmpty) r 0 v .sdirResEvt 0 3
  | .sdirQstate => s.guarded (decide (bitsOf v 7 0 ≤ 192) && !s.quarterStreams i) r i v .sdirResEvt 0 3
  | _ => s.putWord r i v

def State.writeQtr (s : State) (r : RegName) (q v : Nat) : State :=
  match r with
  | .qtrRegion => s.guarded (decide (bitsOf v 7 0 ≤ 240) && !s.quarterStreams q && !s.quarterLoaded q) r q v .qtrEvt q 0
  | .qtrBatchCfg => s.guarded (bitsOf v 13 8 != 0) r q v .qtrEvt q 0
  | _ => s.putWord r q v

/-! ### SCHED and the Kiosks -/

/-- Whether two pools share a Turnstile. -/
def poolsMeet (a n b m : Nat) : Bool := decide (a < b + m) && decide (b < a + n)

def State.writeSched (s : State) (r : RegName) (i v : Nat) : State :=
  match r with
  | .schedPreCfg =>
    let a := bitsOf v 2 0
    let b := bitsOf v 6 4
    s.guarded (decide (a ≤ b) && decide (b ≤ 4) && bitsOf v 15 8 != 0) r i v .schedPreEvt i 4
  | .schedTstlCmd =>
    (match bitsOf v 17 16 with
     | 0 => s.hostArm (bitsOf v 13 0)
     | 1 => s.hostPass (bitsOf v 13 0)
     | 2 => s.hostReset (bitsOf v 13 0)
     | _ => s)
  | .schedTstlPool =>
    let a := bitsOf v 13 0
    let n := bitsOf v 30 16
    let loaded := fun (p : Nat) => s.models.any (fun m => m.pitch == p)
    let meets := (List.range 16).any (fun p => p != i && loaded p && poolsMeet a n (s.poolBase p) (s.poolSize p))
    s.guarded (!loaded i && decide (a + n ≤ 16384) && !meets) r i v .schedGraphEvt 0 5
  | .schedCtl => s.guarded (decide (10 ≤ bitsOf v 6 0) && decide (bitsOf v 6 0 ≤ 90)) r 0 v .schedPitchEvt 0 5
  | .schedPitchCfg =>
    let lc := s.openStreams.any (fun e => e.2.dir.pitch == i && !e.2.dir.be)
    s.guarded (!(v.testBit 0 && lc)) r i v .schedPitchEvt i 5
  | _ => s.putWord r i v

/-- KSK_EXC.VALID written 1 clears the record (11 R303). -/
def State.excClear (s : State) (q j : Nat) : State :=
  (((s.setRg .kskExc q 0 j).setRg .kskExcPc q 0 j).setRg .kskExcAddrLo q 0 j).setRg .kskExcAddrHi q 0 j

def State.writeKiosk (s : State) (r : RegName) (q j v : Nat) : State :=
  match r with
  | .kskExc => if v.testBit 31 then s.excClear q j else s
  | _ => s.putWord r q v j

/-! ### MOVR -/

/-- A channel whose settings may be written: it is OFF or IDLE (13). -/
def State.chanFree (s : State) (n : Nat) : Bool := (s.chan n).state == .off || (s.chan n).state == .idle

/-- PAUSE, writable in every state (13 R345). -/
def State.writePause (s : State) (n : Nat) (b : Bool) : State :=
  if b == s.chanPause n then s else if b then s.movrPause n else s.movrUnpause n

/-- MOVR_CH_CTL (13 R332, R338, R340, R345). In OFF or IDLE every field is written if the settings allow it; in another state
EN may be written 0 and PAUSE anything, and a change of another field is ignored with CFG_ERR (log 119). -/
def State.writeChan (s : State) (n v : Nat) : State :=
  let old := s.rg .movrChCtl n
  if !s.chanFree n then
    let s1 := if v.testBit 0 then s else s.movrDis n
    let s2 := s1.writePause n (v.testBit 1)
    if v &&& 0x1F3FF4 = old &&& 0x1F3FF4 then s2 else s2.flag .movrChEvt n 3
  else
    let s1 := (s.withdraw n).setRg .movrChCtl n (v &&& 0x1F3FF4 ||| old % 4)
    if 21 ≤ bitsOf v 20 16 ∨ bitsOf v 5 4 = 3 ∨ (v.testBit 0 ∧ ¬ s1.enOk n) then s.flag .movrChEvt n 3
    else
      let s2 := if v.testBit 0 == s.bit .movrChCtl n 0 then s1.cond (v.testBit 0) (fun s => s.raiseFor n)
        else if v.testBit 0 then s1.movrEn n else s1.movrDis n
      (s2.writePause n (v.testBit 1)).cond (v.testBit 2) (fun s => s.autoStart n)

/-- MOVR_CH_TRIG: a reserved SRC, a TICK ARG of 0 or a PHASE not below it, and a CHAIN to another owner's channel are
refused. -/
def State.trigWordOk (s : State) (n v : Nat) : Bool :=
  match bitsOf v 2 0 with
  | 1 => bitsOf v 15 8 != 0 && decide (bitsOf v 23 16 < bitsOf v 15 8)
  | 4 => s.chanOwner (bitsOf v 15 8) == s.chanOwner n
  | 6 | 7 => false
  | _ => true

/-- A HEAD word; in IDLE, CUR = HEAD (13 R332). -/
def State.writeHead (s : State) (r : RegName) (n v : Nat) : State :=
  let s1 := s.guarded (s.chanFree n && (r != .movrChHeadLo || v % 32 == 0)) r n v .movrChEvt n 3
  if (s.chan n).state = .idle then s1.updChan n (fun c => { c with cur := s1.chanHead n }) else s1

/-- MOVR_CH_CMD; several bits act in bit order. -/
def State.chanCmd (s : State) (n : Nat) (rq : Requester) (v : Nat) : State :=
  let s1 := s.cond (v.testBit 0) (fun s => s.movrStart n rq)
  let s2 := s1.cond (v.testBit 1) (fun s => s.movrResume n)
  s2.cond (v.testBit 2) (fun s => s.movrAbort n)

def State.writeMovr (s : State) (rq : Requester) (r : RegName) (n v : Nat) : State :=
  match r with
  | .movrOwner =>
    let ok := !s.bit .movrChCtl n 0 && (v.testBit 4 || (s.pitch (bitsOf v 3 0)).built)
    s.guarded ok r n v .movrChEvt n 3
  | .movrChCtl => s.writeChan n v
  | .movrChCmd => s.chanCmd n rq v
  | .movrChTrig => s.guarded (s.chanFree n && s.trigWordOk n v) r n v .movrChEvt n 3
  | .movrChTimer => s.guarded (s.chanFree n && bitsOf v 23 0 != 0) r n v .movrChEvt n 3
  | .movrChDl => s.guarded (s.chanFree n) r n v .movrChEvt n 3
  | .movrChTstl =>
    let ok := match s.chanOwner n with | some p => s.inPool p (bitsOf v 29 16) | none => true
    s.guarded (s.chanFree n && ok) r n v .movrChEvt n 3
  | .movrChHeadLo | .movrChHeadHi => s.writeHead r n v
  | _ => s.putWord r n v

/-! ### Audio ports -/

/-- Slots whose TX_MAP entries a write would change while a stream names them (14 R355). -/
def State.mapBusy (s : State) (p lo v old : Nat) : Bool :=
  (List.range 16).any (fun k => bitsOf v (2 * k + 1) (2 * k) != bitsOf old (2 * k + 1) (2 * k)
    && (s.slotStream p (lo + k)).isSome)

/-- PORT_CFG (14 R354). -/
def State.writePortCfg (s : State) (p v : Nat) : State :=
  let err := s.flag .portEvt p 5
  if bitsOf v 2 1 = 3 then err
  else if s.bit .portCfg p 0 then
    if bitsOf v 10 1 = s.fld .portCfg p 10 1 then (if v.testBit 0 then s else s.portDis p) else err
  else
    let s1 := s.setRg .portCfg p (bitsOf v 10 1 * 2)
    if !v.testBit 0 then s1 else if s1.portEnOk p then s1.portEn p else err

def State.writePort (s : State) (r : RegName) (p v : Nat) : State :=
  let off := !s.bit .portCfg p 0
  let codes := (List.range 16).all (fun k => bitsOf v (2 * k + 1) (2 * k) != 3)
  match r with
  | .aprtWclkOut => if bitsOf v 4 3 = 3 then s else s.putWord r 0 v
  | .portCfg => s.writePortCfg p v
  | .portFmt => s.guarded (off && bitsOf v 1 0 != 3 && bitsOf v 17 16 != 3 && bitsOf v 19 18 != 3) r p v .portEvt p 5
  | .portTxMapLo => s.guarded (off && codes && !s.mapBusy p 0 v (s.rg r p)) r p v .portEvt p 5
  | .portTxMapHi => s.guarded (off && codes && !s.mapBusy p 16 v (s.rg r p)) r p v .portEvt p 5
  | .portRxEn => s.guarded off r p v .portEvt p 5
  | .portCmd => s.cond (v.testBit 0 && !off) (fun s => s.updPort p (fun x => { x with restart := true }))
  | _ => s.putWord r p v

/-! ### Host -/

/-- HOST_RTP_CTL (15 R393, R395). -/
def State.writeRtp (s : State) (r v : Nat) : State :=
  let err := s.flag .hostEvt 0 6
  let pt := bitsOf v 22 16
  if bitsOf v 5 4 = 3 ∨ pt < 96 ∨ 127 < pt then err
  else if s.rtpOn r then
    if (v &&& 0x7F03FE) = (s.rg .hostRtpCtl r &&& 0x7F03FE) then (if v.testBit 0 then s else s.rtpDisable r) else err
  else
    let s1 := s.setRg .hostRtpCtl r (v &&& 0x7F03FE)
    if !v.testBit 0 then s1 else if (s1.ptpI (s1.rtpPort r)).locked then s1.rtpEnable r else err

/-- HOST_PTP_CFG; an instance that is switched off loses its lock and its master. -/
def State.writePtp (s : State) (p v : Nat) : State :=
  if 127 < bitsOf v 15 8 then s.flag .hostEvt 0 6
  else
    let s1 := s.putWord .hostPtpCfg p v
    if s.bit .hostPtpCfg p 0 && !v.testBit 0 then (s1.ptpLock p false).updPtp p (fun _ => Ptp.blank) else s1

def State.writeHost (s : State) (r : RegName) (i j v : Nat) : State :=
  match r with
  | .hostKtpCfg => s.guarded (decide (100 ≤ bitsOf v 15 0) && bitsOf v 19 16 != 0) r 0 v .hostEvt 0 6
  | .hostKtpPort => s.guarded (bitsOf v 18 16 != 7) r 0 v .hostEvt 0 6
  | .hostRtpCfg => s.guarded (bitsOf v 15 8 != 0) r 0 v .hostEvt 0 6
  | .hostPtpCfg => s.writePtp i v
  | .hostRtpCtl => s.writeRtp i v
  | _ => s.putWord r i v j

/-! ### Links -/

/-- The staged words after LINK_RT_IDX is written: the entry it names (16 R409; log 54). -/
def State.stageRoute (s : State) (v : Nat) : State :=
  let b := Tab.getD s.routes (bitsOf v 11 0) (List.replicate 12 0#8)
  (((s.putWord .linkRtIdx 0 v).setRg .linkRtData0 0 (numAt b 0 4)).setRg .linkRtData1 0 (numAt b 4 4)).setRg .linkRtData2 0 (numAt b 8 4)

def State.writeLink (s : State) (r : RegName) (n v : Nat) : State :=
  match r with
  | .linkCtl => s.guarded (bitsOf v 7 0 != 0) r 0 v .linkEvt 0 2
  | .linkRtIdx => s.stageRoute v
  | .linkRtData3 => s.cond (v.testBit 0) State.routeInstall
  | .linkTwinCmd => s.cond (v.testBit 0) State.takeOver
  | .linkChCfg =>
    let on := s.bit .linkChCfg n 0
    let s1 := s.setRg .linkChCfg n (s.rg .linkChCfg n &&& 9 ||| (v &&& 6))
    if v.testBit 0 == on then s1 else if v.testBit 0 then s1.linkEnable n else s1.linkDisable n
  | _ => s.putWord r n v

/-! ### Memory, device, power, debug, recorder -/

/-- DEV_WDOG: other values are counted (17). -/
def State.writeWdog (s : State) (v : Nat) : State :=
  if 100 ≤ bitsOf v 15 0 ∧ bitsOf v 15 0 ≤ 60000 then s.putWord .devWdog 0 v else s.inc .devCfgRefCnt

def State.writeMisc (s : State) (r : RegName) (i v : Nat) : State :=
  match r with
  | .memcScrubCfg => s.guarded (bitsOf v 15 8 != 0) r 0 v .memcEvt 0 4
  | .memcRbCfg => s.guarded (decide (bitsOf v 5 0 ≤ 50)) r 0 v .memcEvt 0 4
  | .devWdog => s.writeWdog v
  | .pwrCap => s.guarded (decide (250 ≤ bitsOf v 9 0) && decide (bitsOf v 9 0 ≤ 600)) r 0 v .pwrEvt 0 3
  | .dbgTraceBaseLo =>
    if v % 2 ^ 21 = 0 then { s.putWord r 0 v with sec := { s.sec with tracePos := 0 } } else s
  | .dbgTraceBaseHi =>
    if 1 ≤ bitsOf v 31 16 ∧ bitsOf v 31 16 ≤ 1024 then { s.putWord r 0 v with sec := { s.sec with tracePos := 0 } } else s
  | .dbgKskViewSel => if bitsOf v 6 0 ≤ 71 then s.putWord r 0 v else s
  | .dbgKskCtl | .dbgKskView => s
  | _ => s.putWord r i v

/-- PWR_CTL (18 R477): TIMER_EN is written, then REQ acts; its status. -/
def State.writePwr (s : State) (v : Nat) : Nat × State := (s.putWord .pwrCtl 0 v).powerReq (bitsOf v 2 0)

/-! ### One write -/

/-- A write of a register: its status and the state after (00 R6, R9). -/
def State.writeReg (s : State) (rq : Requester) (r : RegName) (i j v : Nat) : Nat × State :=
  let b := r.card.base
  if r = .pwrCtl then s.writePwr v
  else if b < 0x10000 then (0, s.writeMisc r i v)
  else if b < 0x20000 then (0, s.writeTick r i v)
  else if b < 0x30000 then (0, s.writeSdir r i v)
  else if b < 0x60000 then (0, s.writeSched r i v)
  else if b < 0x70000 then (0, s.writeMovr rq r i v)
  else if b < 0x80000 then (0, s.writePort r i v)
  else if b < 0x90000 then (0, s.writeHost r i j v)
  else if b < 0xA0000 then (0, s.writeLink r i v)
  else if b < 0x100000 then (0, s.writeMisc r i v)
  else if b < 0x100100 then (0, s.writeQtr r i v)
  else (0, s.writeKiosk r i j v)

/-- A write at an offset of the register space; an unmapped one is ignored (00 R9). -/
def State.regWrite1 (s : State) (rq : Requester) (off v : Nat) : Nat × State :=
  match regAt off with
  | none => (8, s)
  | some r => s.writeReg rq r.1 r.2.1 r.2.2 (v % 2 ^ 32)

end Sys2Proof.Machine
end

