-- ==== Sys2Proof/Machine/Operands.lean ====
section
/-! DEFINITION. Kiosk instruction words and their operands (11 R282, R284 to R288): the encoding tables, which words are
legal, and the registers and masks that a field names. -/

namespace Sys2Proof.Machine

/-! ### Encoding (11 R286, R287) -/

def encV (op : Nat) (f : FV) : Nat :=
  pack [(op, 26), (f.d.toNat, 21), (f.a.toNat, 16), (f.b.toNat, 11), (f.msk.toNat, 8), (f.fn.toNat, 4), (f.ty.toNat, 0)]
def encI (op : Nat) (f : FI) : Nat := pack [(op, 26), (f.d.toNat, 21), (f.a.toNat, 16), (f.imm.toNat, 0)]
def encM (op : Nat) (f : FM) : Nat :=
  pack [(op, 26), (f.d.toNat, 21), (f.a.toNat, 16), (f.msk.toNat, 13), (f.sz.toNat, 11), (f.off.toNat, 0)]
def encB (op : Nat) (f : FB) : Nat := pack [(op, 26), (f.a.toNat, 21), (f.b.toNat, 16), (f.off.toNat, 0)]
def encS (op : Nat) (f : FS) : Nat := pack [(op, 26), (f.a.toNat, 21), (f.b.toNat, 16), (f.imm.toNat, 0)]

/-- The fields of a word. -/
def fld (n w hi lo : Nat) : BitVec n := BitVec.ofNat n (bitsOf w hi lo)
def decV (w : Nat) : FV := ⟨fld 5 w 25 21, fld 5 w 20 16, fld 5 w 15 11, fld 3 w 10 8, fld 4 w 7 4, fld 4 w 3 0⟩
def decI (w : Nat) : FI := ⟨fld 5 w 25 21, fld 5 w 20 16, fld 16 w 15 0⟩
def decM (w : Nat) : FM := ⟨fld 5 w 25 21, fld 5 w 20 16, fld 3 w 15 13, fld 2 w 12 11, fld 11 w 10 0⟩
def decB (w : Nat) : FB := ⟨fld 5 w 25 21, fld 5 w 20 16, fld 16 w 15 0⟩
def decS (w : Nat) : FS := ⟨fld 5 w 25 21, fld 5 w 20 16, fld 16 w 15 0⟩

/-- The Kiosk and word of a Kiosk instruction command; a special function states its own FN (11 R287). -/
def kioskWord : Instr → Option (KioskNo × Nat)
  | .kNop k f => some (k, encS 0x00 f) | .kEnd k f => some (k, encS 0x01 f) | .kYield k f => some (k, encS 0x02 f)
  | .kWait k f => some (k, encS 0x03 f) | .kPass k f => some (k, encS 0x04 f) | .kArm k f => some (k, encS 0x05 f)
  | .kTrst k f => some (k, encS 0x06 f) | .kFlush k f => some (k, encS 0x08 f) | .kInv k f => some (k, encS 0x09 f)
  | .kFence k f => some (k, encS 0x0A f) | .kCsr k f => some (k, encS 0x0B f) | .kOpr k f => some (k, encS 0x0C f)
  | .addi k f => some (k, encI 0x10 f) | .lui k f => some (k, encI 0x11 f) | .salu k f => some (k, encV 0x12 f)
  | .ld k f => some (k, encM 0x18 f) | .st k f => some (k, encM 0x19 f) | .vld k f => some (k, encM 0x1A f)
  | .vst k f => some (k, encM 0x1B f) | .beq k f => some (k, encB 0x20 f) | .bne k f => some (k, encB 0x21 f)
  | .blt k f => some (k, encB 0x22 f) | .bltu k f => some (k, encB 0x23 f) | .jal k f => some (k, encI 0x24 f)
  | .jr k f => some (k, encI 0x25 f) | .valu k f => some (k, encV 0x30 f) | .vfma k f => some (k, encV 0x31 f)
  | .vcmp k f => some (k, encV 0x32 f) | .vcvt k f => some (k, encV 0x33 f)
  | .klog2 k f => some (k, encV 0x35 { f with fn := 0 }) | .kexp2 k f => some (k, encV 0x35 { f with fn := 1 })
  | .ksqrt k f => some (k, encV 0x35 { f with fn := 2 }) | .krcp k f => some (k, encV 0x35 { f with fn := 3 })
  | .ksincosTurn k f => some (k, encV 0x35 { f with fn := 4 }) | .vmovs k f => some (k, encV 0x36 f)
  | .vred k f => some (k, encV 0x37 f) | .vgather k f => some (k, encV 0x3A f) | .vscatter k f => some (k, encV 0x3B f)
  | _ => none

/-- The instruction of a special function word. -/
def sfuOf (k : KioskNo) (f : FV) : Option Instr :=
  match f.fn.toNat with
  | 0 => some (.klog2 k f) | 1 => some (.kexp2 k f) | 2 => some (.ksqrt k f) | 3 => some (.krcp k f)
  | 4 => some (.ksincosTurn k f) | _ => none

/-- The instruction a word names; none for a reserved major opcode or special function (11 R287). -/
def kioskDecode (k : KioskNo) (w : Nat) : Option Instr :=
  match bitsOf w 31 26 with
  | 0x00 => some (.kNop k (decS w)) | 0x01 => some (.kEnd k (decS w)) | 0x02 => some (.kYield k (decS w))
  | 0x03 => some (.kWait k (decS w)) | 0x04 => some (.kPass k (decS w)) | 0x05 => some (.kArm k (decS w))
  | 0x06 => some (.kTrst k (decS w)) | 0x08 => some (.kFlush k (decS w)) | 0x09 => some (.kInv k (decS w))
  | 0x0A => some (.kFence k (decS w)) | 0x0B => some (.kCsr k (decS w)) | 0x0C => some (.kOpr k (decS w))
  | 0x10 => some (.addi k (decI w)) | 0x11 => some (.lui k (decI w)) | 0x12 => some (.salu k (decV w))
  | 0x18 => some (.ld k (decM w)) | 0x19 => some (.st k (decM w)) | 0x1A => some (.vld k (decM w))
  | 0x1B => some (.vst k (decM w)) | 0x20 => some (.beq k (decB w)) | 0x21 => some (.bne k (decB w))
  | 0x22 => some (.blt k (decB w)) | 0x23 => some (.bltu k (decB w)) | 0x24 => some (.jal k (decI w))
  | 0x25 => some (.jr k (decI w)) | 0x30 => some (.valu k (decV w)) | 0x31 => some (.vfma k (decV w))
  | 0x32 => some (.vcmp k (decV w)) | 0x33 => some (.vcvt k (decV w)) | 0x35 => sfuOf k (decV w)
  | 0x36 => some (.vmovs k (decV w)) | 0x37 => some (.vred k (decV w)) | 0x3A => some (.vgather k (decV w))
  | 0x3B => some (.vscatter k (decV w)) | _ => none

/-! ### Legal words (11 R288) -/

def saluFn (n : Nat) : Bool := [0, 1, 2, 7, 8, 9, 10, 11, 12, 14, 15].contains n

/-- Elements of a conversion: the source's count and the target's bytes (11 R290). -/
def cvtCount (f : FV) : Nat := if f.ty.toNat % 4 = 1 ∨ f.ty.toNat % 4 = 3 then 64 else 32
def cvtSize (f : FV) : Nat := match f.fn.toNat with | 0 | 5 => 4 | 1 | 2 => 2 | _ => 1
def cvtPair (f : FV) : Bool := decide (128 < cvtCount f * cvtSize f)

/-- Whether a decoded instruction is legal (11 R287, R288). The bits of a field that the instruction's line of R287 does not name
are reserved bits: one that is not zero makes it ILLEGAL (log 55). -/
def kioskLegal : Instr → Bool
  | .kNop _ f | .kEnd _ f | .kFence _ f => f.a == 0 && f.b == 0 && f.imm == 0
  | .kYield _ f | .kWait _ f | .kTrst _ f => f.b == 0 && f.imm == 0
  | .kArm _ f | .kFlush _ f | .kInv _ f => f.imm == 0
  | .kPass _ f => f.b == 0 && f.imm != 0
  | .kCsr _ f => f.b == 0 && decide (f.imm.toNat ≤ 6)
  | .kOpr _ f => f.b == 0 && decide (f.imm.toNat ≤ 63)
  | .lui _ f | .jal _ f => f.a == 0
  | .jr _ f => f.d == 0 && f.imm == 0
  | .ld _ f | .st _ f => f.msk == 0
  | .salu _ f => saluFn f.fn.toNat && f.msk == 0 && f.ty == 0
  | .vld _ f | .vst _ f => f.sz == 0
  | .valu _ f => decide (f.fn.toNat ≤ 13) && decide (f.ty.toNat ≤ 3)
  | .vfma _ f | .vgather _ f | .vscatter _ f => f.fn == 0 && decide (f.ty.toNat ≤ 3)
  | .vred _ f => f.b == 0 && f.fn == 0 && decide (f.ty.toNat ≤ 3)
  | .vcmp _ f => decide (f.fn.toNat ≤ 3) && (f.ty == 0 || f.ty == 2 || f.ty == 3) && decide (f.d.toNat < 8)
  | .vcvt _ f => decide (f.fn.toNat ≤ 5) && !(cvtPair f && f.d.toNat % 2 == 1)
  | .klog2 _ f | .kexp2 _ f | .ksqrt _ f | .krcp _ f => f.b == 0 && f.ty == 0
  | .ksincosTurn _ f => f.b == 0 && f.ty == 0 && f.d.toNat % 2 == 0
  | .vmovs _ f => decide (f.fn.toNat ≤ 2) && decide (f.ty.toNat ≤ 3) && (f.fn != 1 || f.a == 0) && (f.fn == 2 || f.b == 0)
  | _ => true

/-! ### Registers (11 R282) -/

/-- A0 reads as zero. -/
def Kiosk.rA (k : Kiosk) (n : Nat) : BitVec 64 := if n = 0 then 0 else k.a.getD n 0

/-- Writes to A0 are discarded. -/
def Kiosk.wA (k : Kiosk) (n : Nat) (v : BitVec 64) : Kiosk := if n = 0 then k else { k with a := k.a.set n v }

def Kiosk.rV (k : Kiosk) (n : Nat) : List (BitVec 32) := k.v.getD n []

def Kiosk.lane (k : Kiosk) (n i : Nat) : BitVec 32 := (k.rV n).getD i 0

/-- M0 reads as all ones. -/
def Kiosk.rM (k : Kiosk) (n : Nat) : BitVec 32 := if n = 0 then 0xFFFFFFFF#32 else k.m.getD n 0

/-- Writes to M0 are discarded. -/
def Kiosk.wM (k : Kiosk) (n : Nat) (v : BitVec 32) : Kiosk := if n = 0 then k else { k with m := k.m.set n v }

/-- Write the enabled lanes of a vector register; disabled lanes are unchanged. -/
def Kiosk.wV (k : Kiosk) (n : Nat) (mask : BitVec 32) (f : Nat → BitVec 32) : Kiosk :=
  { k with v := k.v.set n ((List.range 32).map (fun i => if mask.getLsbD i then f i else k.lane n i)) }

/-- The 128 bytes of a vector register. -/
def Kiosk.vBytes (k : Kiosk) (n : Nat) : List Byte := (List.range 32).flatMap (fun i => leBytes 4 (k.lane n i).toNat)

/-- A vector register from its bytes. -/
def lanesOfBytes (b : List Byte) : List (BitVec 32) := (List.range 32).map (fun i => BitVec.ofNat 32 (numAt b (4 * i) 4))

/-! ### Addresses (11 R286) -/

def wrap64 (v : Int) : Nat := (v % 2 ^ 64).toNat

/-- Bytes of a scalar access. -/
def fmBytes (f : FM) : Nat := 2 ^ f.sz.toNat

def Kiosk.scalarAddr (k : Kiosk) (f : FM) : Nat := wrap64 ((k.rA f.a.toNat).toNat + f.off.toInt * (fmBytes f : Int))
def Kiosk.vectorAddr (k : Kiosk) (f : FM) : Nat := wrap64 ((k.rA f.a.toNat).toNat + f.off.toInt * 64)

/-- The word that a lane of a gather or scatter names. -/
def Kiosk.laneAddr (k : Kiosk) (f : FV) (i : Nat) : Nat :=
  ((k.rA f.a.toNat).toNat + 4 * (k.lane f.b.toNat i).toNat) % 2 ^ 64

/-- A branch or jump target, in the 32 bits of PC. -/
def pcAfter (pc : Nat) (words : Int) : Nat := (((pc : Int) + 4 * words) % 2 ^ 32).toNat

end Sys2Proof.Machine
end

