-- ==== Sys2Proof/Machine/KioskMem.lean ====
section
/-! DEFINITION. Kiosk memory access (11 R291 to R298): what a load or store reaches, the data cache, the write buffer and the
write-backs in flight, and Kiosk exceptions (11 R302 to R304, 18 R475). -/

namespace Sys2Proof.Machine

/-- The Pitch of a Kiosk. -/
def State.kioskPitch (s : State) (k : Nat) : Nat := (s.quarterPitch (k / 16)).getD 0

/-! ### Where an access goes (11 R291) -/

inductive KAcc where
  | mem | drop (q : Nat) | dir | reg (off : Nat) | bad
  deriving DecidableEq, Repr

/-- Whether a register offset lies in a mover channel that the Pitch owns. -/
def State.ownChan (s : State) (p off : Nat) : Bool :=
  decide (0x61000 ≤ off) && decide (off < 0x69000) && s.chanOwner ((off - 0x61000) / 0x80) == some p

def State.kioskAcc (s : State) (k a : Nat) (wr : Bool) : KAcc :=
  let p := s.kioskPitch k
  match zoneOf a with
  | .lpddr => if s.pitchMay p a then .mem else .bad
  | .sram q off =>
    if s.quarterPitch q != some p then .bad else if wr && s.inWeight q off then .drop q else .mem
  | .dir _ => .dir
  | .reg o =>
    if o / 65536 == 0xB || o / 65536 == 0xE then .bad
    else if s.ownChan p o || !wr then .reg o else .bad
  | .none => .bad

/-! ### Exceptions (11 R302, R303) -/

/-- The context fault code of a cause. -/
def kioskFault (cause : Nat) : Nat := match cause with | 7 => 0x11 | c => 0x11 + c

/-- Record an exception in KSK_EXC. Where the cause has no address, the address words hold a free value (log 56). -/
def State.recordExc (s : State) (k cause pc : Nat) (addr : Option Nat) : State :=
  let r := match addr with | some a => (a, s) | none => s.draw
  let q := k / 16
  let j := k % 16
  let s1 := ((r.2.setRg .kskExc q (cause + 2 ^ 31) j).setRg .kskExcPc q pc j).setRg .kskExcAddrLo q r.1 j
  ((s1.setRg .kskExcAddrHi q (r.1 / 2 ^ 32 % 65536) j).inc .qtrKskExcCnt q).flag .qtrKskEvt q 0

/-- Fault handling of an exception (11 R303). -/
def State.excFault (s : State) (k cause : Nat) : State :=
  match (s.kiosk k).exec with
  | some e => s.execFault e (kioskFault cause)
  | none => s

/-- A Kiosk exception: the record, then the fault, or a halt that holds it (18 R475). -/
def State.kioskExc (s : State) (k cause : Nat) (addr : Option Nat) : State :=
  let x := s.kiosk k
  let s1 := (s.recordExc k cause x.pc addr).updKiosk k (fun x => { x with run := .exc, rel := none })
  if x.haltExc && decide (2 ≤ s.sec.level) then s1.updKiosk k (fun x => { x with held := some cause, haltAt := s.cycle })
  else s1.excFault k cause

/-! ### Landing writes -/

/-- Merge masked bytes into a line; a word that they cover whole gets a valid parity. -/
def mergeLine (l n : CLine) : CLine :=
  let z := (l.data.zip l.dirty).zip (n.data.zip n.dirty)
  { l with data := z.map (fun p => if p.2.2 then p.2.1 else p.1.1), dirty := z.map (fun p => p.1.2 || p.2.2),
           bad := l.bad.filter (fun w => !(List.range 8).all (fun i => n.dirty.getD (8 * w + i) false)) }

/-- A line whose bytes are all clean. -/
def CLine.clean (l : CLine) : CLine := { l with dirty := l.dirty.map (fun _ => false) }

/-- Traffic of one block through the Roundabout of a Kiosk's Ward, with the deadline of its execution (12 R322, R324). -/
def State.kioskTraffic (s : State) (k a : Nat) : State :=
  if a < lpddrTop then (s.rbBytes (k / 64) 64).rbLate (k / 64) (((s.kiosk k).exec.bind s.exec?).bind s.execNs) else s

/-- A bad word in a dirty line or write-buffer entry: a working buffer read by the Kiosk's execution (12 R319). -/
def State.lineFault (s : State) (k : Nat) : State :=
  let s1 := (s.flag .memcEvt 0 2).inc .memcParFaultCnt
  match (s.kiosk k).exec with
  | some e => s1.faultExec e 3
  | none => s1

/-- Whether bytes of a line lie in a word with bad parity; of a store, only in one that it does not cover whole. -/
def CLine.spoilt (l : CLine) (a n : Nat) (wr : Bool) : Bool :=
  l.bad.any (fun w =>
    let lo := l.addr + 8 * w
    decide (lo < a + n) && decide (a < lo + 8) && !(wr && decide (a ≤ lo) && decide (lo + 8 ≤ a + n)))

/-- A clean line with a bad word is invalidated, to be filled again (12 R319). -/
def State.dropClean (s : State) (k la : Nat) : State :=
  ((s.flag .memcEvt 0 2).inc .memcParRefetchCnt).updKiosk k (fun x => { x with lines := x.lines.filter (fun l => l.addr != la) })

/-- Store the dirty bytes of a line; blocks and words they cover whole get valid checks (12 R311, R318). -/
def State.putLine (s : State) (l : CLine) : State :=
  let has := fun (i : Nat) => l.dirty.getD i false
  let whole := fun (w : Nat) => decide (l.addr ≤ w) && decide (w < l.addr + 64) && (List.range 8).all (fun i => has (w - l.addr + i))
  let m := (List.range 64).foldl (fun m i => if has i then m.write (l.addr + i) [l.data.getD i 0#8] else m) s.mem
  let full := l.dirty.all (fun d => d)
  { s with mem := m,
           memx := { s.memx with badWords := s.memx.badWords.filter (fun w => !whole w),
                                 badBlocks := if full then s.memx.badBlocks.filter (fun b => b != l.addr / 64)
                                              else s.memx.badBlocks } }

/-- Raise a 32-bit counter of one Kiosk. -/
def State.incK (s : State) (r : RegName) (k : Nat) : State :=
  s.setRg r (k / 16) (satAdd 32 (s.rg r (k / 16) (k % 16)) 1) (k % 16)

/-- One write-back lands: counted, and not performed where the line has a bad word or a partial write finds a failing block or
word (12 R311, R314, R319). -/
def State.landLine (s : State) (k : Nat) (l : CLine) : State :=
  let s1 := (s.incK .kskWbCnt k).kioskTraffic k l.addr
  let part := !l.dirty.all (fun d => d)
  let has := fun (i : Nat) => l.dirty.getD i false
  let partWord := fun (w : Nat) => (List.range 8).any (fun i => has (w - l.addr + i)) && !(List.range 8).all (fun i => has (w - l.addr + i))
  if l.bad.any (fun w => (List.range 8).any (fun i => has (8 * w + i))) then s1.lineFault k
  else if part && !(s.badIn l.addr 64).isEmpty then
    match (s.kiosk k).exec with
    | some e => (s1.readFailed l.addr 0).faultExec e 1
    | none => s1.readFailed l.addr 0
  else
    match (s.badWordsIn l.addr 64).filter partWord with
    | [] => s1.putLine l
    | w :: _ =>
      let r := s1.parity w (s.kiosk k).exec
      if r.2 = .fixed then r.1.putLine l else r.1

/-- Land lines in order. -/
def State.landAll (s : State) (k : Nat) (ls : List CLine) : State := s.each ls (fun s l => s.landLine k l)

/-- The dirty lines of the data cache. -/
def Kiosk.dirtyLines (x : Kiosk) : List CLine := x.lines.filter CLine.isDirty

/-- Every write that was started lands (11 R297). -/
def State.landFlight (s : State) (k : Nat) : State :=
  (s.updKiosk k (fun x => { x with flight := [] })).landAll k (s.kiosk k).flight

/-- A release: everything written reaches memory; the lines stay, clean (11 R297). -/
def State.landRelease (s : State) (k : Nat) : State :=
  let x := s.kiosk k
  (s.updKiosk k (fun x => { x with flight := [], wbuf := [], lines := x.lines.map CLine.clean })).landAll k
    (x.flight ++ x.wbuf ++ x.dirtyLines)

/-- What stands for the block at `a` outside the data cache lands first, oldest first (11 R294; log 57). -/
def State.landBlock (s : State) (k a : Nat) : State :=
  let x := s.kiosk k
  let hit := fun (l : CLine) => l.addr == a
  (s.updKiosk k (fun x => { x with flight := x.flight.filter (fun l => !hit l), wbuf := x.wbuf.filter (fun l => !hit l) })).landAll k
    (x.flight.filter hit ++ x.wbuf.filter hit)

/-- KIOSK_CACHE_EVICT: the line or entry at an address reaches memory at a time of its own (11 R293). -/
def State.evictLine (s : State) (k addr : Nat) : State :=
  let a := addr / 64 * 64
  let s1 := s.landBlock k a
  let gone := ((s.kiosk k).lines.filter (fun l => l.addr == a)).filter CLine.isDirty
  (s1.updKiosk k (fun x => { x with lines := x.lines.filter (fun l => l.addr != a) })).landAll k gone

/-- Bytes in the range of KFLUSH and KINV: the whole cache when both fields are 0 (11 R287). -/
def inRange (all : Bool) (a n : Nat) (l : CLine) : Bool := all || (decide (l.addr < a + n) && decide (a < l.addr + 64))

/-- Start write-backs of a range and the drain of every write-buffer entry (11 R297). -/
def Kiosk.startFlush (x : Kiosk) (p : CLine → Bool) : Kiosk :=
  { x with flight := x.flight ++ x.wbuf ++ x.dirtyLines.filter p, wbuf := [],
           lines := x.lines.map (fun l => if p l then l.clean else l) }

/-! ### Loads -/

/-- How an access ends: with a result; with an exception; with no data, the Kiosk's execution faulted (12 R313, R319); or it
waits for a re-fetch (12 R320). -/
inductive KRes (α : Type) where
  | ok (v : α) (s : State)
  | exc (cause addr : Nat) (s : State)
  | stop (s : State)
  | wait (s : State)

/-- Bad words of a line are met one by one (12 R319). -/
def State.lineParity (e : Option Nat) : List Nat → State → KRes Unit
  | [], s => .ok () s
  | w :: ws, s =>
    let r := s.parity w e
    match r.2 with | .fixed => State.lineParity e ws r.1 | .wait => .wait r.1 | .fault => .stop r.1

/-- Fill a line from memory (11 R293); which line makes room is a free value (log 57). -/
def State.fillLine (s : State) (k a : Nat) : KRes Unit :=
  let s1 := (s.landBlock k a).kioskTraffic k a
  let e := (s.kiosk k).exec
  if !(s1.badIn a 64).isEmpty then
    .stop (match e with | some e => (s1.readFailed a 0).faultExec e 1 | none => s1.readFailed a 0)
  else
    match State.lineParity e (s1.badWordsIn a 64) s1 with
    | .ok _ s2 =>
      let n := (s2.kiosk k).lines.length
      let s3 := if n < 512 then s2
        else
          let r := s2.draw
          r.2.evictLine k (((r.2.kiosk k).lines.getD (r.1 % n) ⟨0, [], [], []⟩).addr)
      .ok () (s3.updKiosk k (fun x => { x with lines := x.lines ++ [⟨a, s3.mem.readN a 64, List.replicate 64 false, []⟩] }))
    | r => r

/-- `n` bytes at `a`, inside one line; whether the line missed. A bad word in the line is met first (12 R319). -/
def State.cachedLoad (s : State) (k a n : Nat) : KRes (List Byte × Bool) :=
  let la := a / 64 * 64
  let get := fun (s : State) => match find1 (s.kiosk k).lines (fun l => l.addr == la) with
    | some l => (l.data.drop (a - la)).take n
    | none => List.replicate n 0#8
  let fill := fun (s : State) => match s.fillLine k la with
    | .ok _ t => .ok (get t, true) t
    | .exc c x t => .exc c x t
    | .stop t => .stop t
    | .wait t => .wait t
  match find1 (s.kiosk k).lines (fun l => l.addr == la) with
  | none => fill s
  | some l =>
    if !l.spoilt a n false then .ok (get s, false) s
    else if l.isDirty then .stop (s.lineFault k)
    else fill (s.dropClean k la)

/-- One piece of a load that R291 serves: its bytes, and whether the data cache missed. -/
def State.loadPiece (s : State) (k a n : Nat) : KRes (List Byte × Bool) :=
  match s.kioskAcc k a false with
  | .mem | .drop _ => s.cachedLoad k a n
  | .dir => .ok (s.bytesAt a n, false) s
  | .reg off =>
    let r := s.regRead1 (.kiosk ⟨k % 256, Nat.mod_lt _ (by decide)⟩) off
    .ok (leBytes 4 r.2.1, false) r.2.2
  | .bad => .exc 3 a s

/-- Whether one piece is aligned: to its size for a scalar access or a lane of a gather or scatter, where a register access
is one 32-bit word; a vector access reaches no register (11 R291). -/
def alignOk (vec : Bool) (a n : Nat) : Bool :=
  a % n == 0 && (match zoneOf a with | .reg _ => n == 4 && !vec | _ => true)

/-- The first piece of an access that R291 does not serve: ALIGN before ACCESS (log 58). A vector access, given by its
address, is aligned to 64 bytes. -/
def State.pieceFault (s : State) (k : Nat) (wr : Bool) (vec : Option Nat) (ps : List (Nat × Nat)) : Option (Nat × Nat) :=
  if !ps.isEmpty && vec.any (fun a => a % 64 != 0) then some (2, vec.getD 0)
  else
    match find1 ps (fun p => !alignOk vec.isSome p.1 p.2) with
    | some p => some (2, p.1)
    | none => (find1 ps (fun p => s.kioskAcc k p.1 wr == .bad)).map (fun p => (3, p.1))

/-- Load pieces in order. -/
def State.loadPieces (k : Nat) : List (Nat × Nat) → State → KRes (List (List Byte) × Bool)
  | [], s => .ok ([], false) s
  | p :: ps, s =>
    match s.loadPiece k p.1 p.2 with
    | .ok v t =>
      (match State.loadPieces k ps t with
       | .ok w u => .ok (v.1 :: w.1, v.2 || w.2) u
       | .exc c x u => .exc c x u
       | .stop u => .stop u
       | .wait u => .wait u)
    | .exc c x t => .exc c x t
    | .stop t => .stop t
    | .wait t => .wait t

/-- A load of pieces, each checked first; a load that missed counts once. -/
def State.kioskLoad (s : State) (k : Nat) (vec : Option Nat) (ps : List (Nat × Nat)) : KRes (List (List Byte)) :=
  match s.pieceFault k false vec ps with
  | some f => .exc f.1 f.2 s
  | none =>
    match State.loadPieces k ps s with
    | .ok v t => .ok v.1 (if v.2 then t.incK .kskDcmissCnt k else t)
    | .exc c x t => .exc c x t
    | .stop t => .stop t
    | .wait t => .wait t

/-! ### Stores -/

/-- A line that holds `bs` at `a` as dirty bytes. -/
def storeLine (a : Nat) (bs : List Byte) : CLine :=
  let la := a / 64 * 64
  { addr := la, data := (List.replicate (a - la) 0#8 ++ bs ++ List.replicate 64 0#8).take 64,
    dirty := (List.range 64).map (fun i => decide (a - la ≤ i) && decide (i < a - la + bs.length)), bad := [] }

/-- Whether a store meets a bad word of a dirty line or entry that it changes only in part (12 R318, R319). -/
def State.storeSpoilt (s : State) (k a n : Nat) : Bool :=
  let x := s.kiosk k
  (x.lines.filter CLine.isDirty ++ x.wbuf).any (fun l => l.addr == a / 64 * 64 && l.spoilt a n true)

/-- A store inside one line: a hit updates the line, a miss merges into the write buffer (11 R293); which entry of a full
buffer drains is a free value (log 57). -/
def State.cachedStore (s0 : State) (k a : Nat) (bs : List Byte) : State :=
  let n := storeLine a bs
  let hit := fun (l : CLine) => l.addr == n.addr
  let s := if (s0.kiosk k).lines.any (fun l => hit l && l.spoilt a bs.length true && !l.isDirty) then s0.dropClean k n.addr else s0
  let x := s.kiosk k
  if x.lines.any hit then s.updKiosk k (fun x => { x with lines := updWhere hit (fun l => mergeLine l n) x.lines })
  else if x.wbuf.any hit then s.updKiosk k (fun x => { x with wbuf := updWhere hit (fun l => mergeLine l n) x.wbuf })
  else
    let s1 := if x.wbuf.length < 8 then s
      else
        let r := s.draw
        r.2.evictLine k ((x.wbuf.getD (r.1 % 8) ⟨0, [], [], []⟩).addr)
    s1.updKiosk k (fun x => { x with wbuf := x.wbuf ++ [n] })

/-- One piece of a store that R291 serves; one at a weight region is dropped. -/
def State.storePiece (s : State) (k a : Nat) (bs : List Byte) : State :=
  match s.kioskAcc k a true with
  | .mem => if s.storeSpoilt k a bs.length then s.lineFault k else s.cachedStore k a bs
  | .reg off => (s.regWrite1 (.kiosk ⟨k % 256, Nat.mod_lt _ (by decide)⟩) off (leNat bs)).2
  | _ => s

/-- The Quarters at whose weight regions a store is dropped. -/
def State.dropQuarters (s : State) (k : Nat) (ps : List (Nat × List Byte)) : List Nat :=
  (ps.filterMap (fun p => match s.kioskAcc k p.1 true with | .drop q => some q | _ => none)).eraseDups

/-- A store of pieces, each checked first; a store with pieces dropped at a weight region counts once there (04 R112; log 58). -/
def State.kioskStore (s : State) (k : Nat) (vec : Option Nat) (ps : List (Nat × List Byte)) : KRes Unit :=
  match s.pieceFault k true vec (ps.map (fun p => (p.1, p.2.length))) with
  | some f => .exc f.1 f.2 s
  | none =>
    let s1 := s.each ps (fun s p => s.storePiece k p.1 p.2)
    .ok () (s1.each (s.dropQuarters k ps) State.wprot)

/-- KIOSK_CACHE_EVICT (11 R293). -/
def execKioskCacheEvict (k : KioskNo) (addr : Nat) (s : State) : Host.Outcome State Fault Refusal := done (s.evictLine k.val addr)

end Sys2Proof.Machine
end

