-- ==== Sys2Proof/Machine/KioskAlu.lean ====
section
/-! DEFINITION. Kiosk arithmetic (11 R287 to R290): scalar and lane operations, conversions and special functions. -/

namespace Sys2Proof.Machine

/-! ### Scalars -/

def slt64 (a b : BitVec 64) : BitVec 64 := if a.toInt < b.toInt then 1 else 0

/-- SALU (11 R287). A shift by 64 or more has no stated result: its result is `u` (log 59). -/
def saluOp (fn : Nat) (a b u : BitVec 64) : BitVec 64 :=
  match fn with
  | 0 => a + b
  | 1 => a - b
  | 2 => a * b
  | 7 => a &&& b
  | 8 => a ||| b
  | 9 => a ^^^ b
  | 10 => if b.toNat < 64 then a <<< b.toNat else u
  | 11 => if b.toNat < 64 then a >>> b.toNat else u
  | 12 => if b.toNat < 64 then a.sshiftRight b.toNat else u
  | 14 => slt64 a b
  | _ => if a.toNat < b.toNat then 1 else 0

/-- Whether the result of a SALU is open. -/
def saluOpen (fn : Nat) (b : BitVec 64) : Bool := (fn == 10 || fn == 11 || fn == 12) && decide (64 ≤ b.toNat)

/-! ### Lanes -/

/-- Integer ADD to NEG on 32 bits, which wrap (11 R289). -/
def intOp (sg : Bool) (fn : Nat) (a b : BitVec 32) : BitVec 32 :=
  let lt := fun (x y : BitVec 32) => if sg then decide (x.toInt < y.toInt) else decide (x.toNat < y.toNat)
  match fn with
  | 0 => a + b
  | 1 => a - b
  | 2 => a * b
  | 3 => if lt b a then b else a
  | 4 => if lt a b then b else a
  | 5 => if sg && decide (a.toInt < 0) then -a else a
  | _ => -a

/-- Floating ADD to NEG, in one format; a NaN result is canonical (11 R289). -/
def fpOp (f : Fmt) (fn : Nat) (a b : Nat) : Nat :=
  match fn with
  | 0 => fpAdd f a b
  | 1 => fpSub f a b
  | 2 => fpMul f a b
  | 3 => fpMin f a b
  | 4 => fpMax f a b
  | 5 => if isNan f a then f.nan else a % 2 ^ (f.eb + f.mb)
  | _ => if isNan f a then f.nan else fpNegate f a

/-- Both FP16 halves of a lane. -/
def halves (g : Nat → Nat → Nat) (a b : BitVec 32) : BitVec 32 :=
  BitVec.ofNat 32 (g (a.toNat % 65536) (b.toNat % 65536) + 65536 * g (a.toNat / 65536) (b.toNat / 65536))

/-- Bitwise and shift functions act on the 32 bits whatever TY is (11 R287). -/
def bitOp (fn : Nat) (a b : BitVec 32) : BitVec 32 :=
  let n := b.toNat % 32
  match fn with
  | 7 => a &&& b
  | 8 => a ||| b
  | 9 => a ^^^ b
  | 10 => a <<< n
  | 11 => a >>> n
  | 12 => a.sshiftRight n
  | _ => a

/-- VALU on one lane. -/
def valuLane (fn ty : Nat) (a b : BitVec 32) : BitVec 32 :=
  if 7 ≤ fn then bitOp fn a b
  else
    match ty with
    | 0 => BitVec.ofNat 32 (fpOp fp32 fn a.toNat b.toNat)
    | 1 => halves (fpOp fp16 fn) a b
    | 2 => intOp true fn a b
    | _ => intOp false fn a b

/-- VFMA on one lane: one rounding (11 R287). -/
def vfmaLane (ty : Nat) (a b d : BitVec 32) : BitVec 32 :=
  match ty with
  | 0 => BitVec.ofNat 32 (fpFma fp32 a.toNat b.toNat d.toNat)
  | 1 =>
    let g := fun (sh : Nat) => fpFma fp16 (a.toNat / 2 ^ sh % 65536) (b.toNat / 2 ^ sh % 65536) (d.toNat / 2 ^ sh % 65536)
    BitVec.ofNat 32 (g 0 + 65536 * g 16)
  | _ => a * b + d

/-- VCMP on one lane; a NaN is unequal to everything and below nothing. -/
def vcmpLane (fn ty : Nat) (a b : BitVec 32) : Bool :=
  let eq := if ty = 0 then fpEq fp32 a.toNat b.toNat else a == b
  let lt := if ty = 0 then fpLt fp32 false a.toNat b.toNat
    else if ty = 2 then decide (a.toInt < b.toInt) else decide (a.toNat < b.toNat)
  match fn with
  | 0 => eq
  | 1 => lt
  | 2 => lt || eq
  | _ => !eq

/-- A mask from lane results; bits of disabled lanes are those of `u` (log 59). -/
def maskOf (mask : BitVec 32) (f : Nat → Bool) (u : Nat) : BitVec 32 :=
  BitVec.ofNat 32 (pack ((List.range 32).map (fun i => (b2n (if mask.getLsbD i then f i else u.testBit i), i))))

/-- VRED: enabled lanes in ascending order from +0, one rounding each (11 R289). -/
def vredSum (mask : BitVec 32) (f : Nat → BitVec 32) : Nat :=
  (List.range 32).foldl (fun acc i => if mask.getLsbD i then fpAdd fp32 acc (f i).toNat else acc) 0

/-! ### Conversions (11 R290) -/

/-- Source element `e` of a vector, as a value. -/
def cvtElem (ty : Nat) (bytes : List Byte) (e : Nat) : FVal :=
  match ty % 4 with
  | 0 => fpDecode fp32 (numAt bytes (4 * e) 4)
  | 1 => fpDecode fp16 (numAt bytes (2 * e) 2)
  | 2 => ofInt (BitVec.ofNat 32 (numAt bytes (4 * e) 4)).toInt
  | _ => fpDecode bf16 (numAt bytes (2 * e) 2)

/-- One element converted; INT32 rounds to nearest even and saturates. -/
def cvtTo (fn : Nat) (sr sat bit : Bool) (v : FVal) : Nat :=
  match fn with
  | 0 => narrow fp32 sr (sat && !v.isInf) bit v
  | 1 => narrow fp16 sr sat bit v
  | 2 => narrow bf16 sr sat bit v
  | 3 => narrow e4m3 sr sat bit v
  | 4 => narrow e5m2 sr sat bit v
  | _ => toInt32 v

/-- The bytes VCVT leaves in its destination, of `old` bytes. -/
def cvtBytes (f : FV) (mask : BitVec 32) (src old : List Byte) (bits : BitVec 64) : List Byte :=
  let n := cvtCount f
  let sz := cvtSize f
  let ty := f.ty.toNat
  let one := fun (e : Nat) => leBytes sz (cvtTo f.fn.toNat (ty.testBit 3) (ty.testBit 2) (bits.getLsbD e) (cvtElem ty src e))
  let on := fun (e : Nat) => mask.getLsbD (if n = 64 then e / 2 else e)
  let out := (List.range n).flatMap (fun e => if on e then one e else (old.drop (e * sz)).take sz)
  (out ++ List.replicate (old.length - out.length) 0#8)

/-- The special functions of one source (11 R289). -/
def sfuLane (fn : Nat) (x : BitVec 32) : BitVec 32 :=
  BitVec.ofNat 32 (match fn with
    | 0 => kLog2 x.toNat
    | 1 => kExp2 x.toNat
    | 2 => kSqrt x.toNat
    | _ => kRcp x.toNat)

end Sys2Proof.Machine
end

