-- ==== Sys2Proof/Machine/Kiosk.lean ====
section
/-! DEFINITION. Kiosk instructions and the events of a Kiosk (11 R282 to R304). A command acts when its Kiosk runs a tile and
the word at its PC is the command's. -/

namespace Sys2Proof.Machine

/-! ### Fetch and issue -/

/-- The execution, image and record of the KIOSK task a Kiosk runs. -/
def State.kioskTask (s : State) (k : Nat) : Option (Exec × Img × TaskRec) :=
  match (s.kiosk k).exec.bind s.exec? with
  | none => none
  | some e =>
    let b := s.execImg e
    let r := imgTask b ((imgSub b (subNo e.sub)).1 + (s.kiosk k).task)
    if r.kind = 3 then some (e, b, r) else none

/-- Whether a PC lies inside the image (11 R291). -/
def pcOk (b : Img) (pc : Nat) : Bool := pc % 4 == 0 && decide (pc + 4 ≤ imgLen b)

/-- Whether a Kiosk is in RUN with a KIOSK task. -/
def State.kioskRuns (s : State) (k : Nat) : Bool := (s.kiosk k).run == .run && (s.kioskTask k).isSome

/-- The instruction word at a running Kiosk's PC. -/
def State.fetchWord (s : State) (k : Nat) : Option Nat :=
  match s.kioskTask k with
  | some t => if (s.kiosk k).run == .run && pcOk t.2.1 (s.kiosk k).pc then some (numAt t.2.1 (s.kiosk k).pc 4) else none
  | none => none

/-- A Kiosk issues word `w`: it runs, is not halted, and `w` is at its PC. -/
def State.issues (s : State) (k w : Nat) : Bool := !(s.kiosk k).halt && s.fetchWord k == some w

/-- Go on to the next word. -/
def Kiosk.next (x : Kiosk) : Kiosk := { x with pc := pcAfter x.pc 1 }

/-- A Kiosk's registers change and it goes on. -/
def State.kset (s : State) (k : Nat) (f : Kiosk → Kiosk) : State := s.updKiosk k (fun x => (f x).next)

/-- A command of one instruction: ILLEGAL words take the exception (11 R288). -/
def State.issueOp (s : State) (i : Instr) (op : State → State) : State :=
  match kioskWord i with
  | some kw => if s.issues kw.1.val kw.2 then (if kioskLegal i then op s else s.kioskExc kw.1.val 1 none) else s
  | none => s

/-! ### Release, tiles and Turnstiles -/

/-- The Turnstile a register names: bits 31:0. -/
def Kiosk.tstIdx (x : Kiosk) (n : Nat) : Nat := (x.rA n).toNat % 2 ^ 32

/-- A Turnstile operation of a Kiosk: outside the pool it is dropped and the Kiosk stops (09 R235, 11 R299). -/
def State.withTst (s : State) (k n : Nat) (f : Nat → State → State) : State :=
  let i := (s.kiosk k).tstIdx n
  if s.inPool (s.kioskPitch k) i then f i s else s.tstRange.kioskExc k 7 (some i)

/-- A release begins (11 R297). -/
def State.beginRel (s : State) (k : Nat) (r : KRel) : State := s.updKiosk k (fun x => { x with run := .release, rel := some r })

/-- The index of the tile a Kiosk runs. -/
def State.tileNo (s : State) (k : Nat) : Nat :=
  match s.kioskTask k with
  | some t => ((t.1.tasks[(s.kiosk k).task]?).map (fun x => x.tile)).getD 0
  | none => 0

/-- Whether the current tile is the last of its task. -/
def State.lastTile (s : State) (k : Nat) : Bool := match s.kioskTask k with | some t => decide (t.2.2.tiles ≤ s.tileNo k + 1) | none => true

/-- The offset of the KYIELD that ends the current tile (11 R284). -/
def State.boundPc (s : State) (k : Nat) : Nat :=
  match s.kioskTask k with
  | some t => kioskBound (imgArg t.2.1 ((imgSub t.2.1 (subNo t.1.sub)).1 + (s.kiosk k).task)) (s.tileNo k)
  | none => 0

def State.kNop (s : State) (k : Nat) : State := s.kset k (fun x => x)

def State.kEnd (s : State) (k : Nat) : State := if s.lastTile k then s.beginRel k .fin else s.kioskExc k 5 none

/-- KYIELD (11 R287, R301): at BOUND of the tile, and not in the last. -/
def State.kYield (s : State) (k : Nat) (f : FS) : State :=
  if s.lastTile k || (s.kiosk k).pc != s.boundPc k then s.kioskExc k 5 none
  else if f.a = 0 then s.updKiosk k (fun x => { x with run := .release, rel := some .yield, waitT := 0 })
  else s.withTst k f.a.toNat (fun i s =>
    s.updKiosk k (fun x => { x with run := .release, rel := some .yield, waitT := i + 1 }))

def State.kWait (s : State) (k : Nat) (f : FS) : State :=
  s.withTst k f.a.toNat (fun i s => s.updKiosk k (fun x => { x with run := .wait, waitT := i }))

def State.kPass (s : State) (k : Nat) (f : FS) : State := s.withTst k f.a.toNat (fun i s => s.beginRel k (.pass i f.imm.toNat))

/-- KARM; a target above 24 bits has no stated value (log 59). -/
def State.kArm (s : State) (k : Nat) (f : FS) : State :=
  s.withTst k f.a.toNat (fun i s =>
    let t := ((s.kiosk k).rA f.b.toNat).toNat
    let r := if t < 2 ^ 24 then (t, s) else s.draw
    (r.2.armTst i (BitVec.ofNat 24 r.1)).kset k (fun x => x))

def State.kTrst (s : State) (k : Nat) (f : FS) : State := s.withTst k f.a.toNat (fun i s => (s.resetTst i).kset k (fun x => x))

/-- The range of KFLUSH and KINV. -/
def Kiosk.flushes (x : Kiosk) (f : FS) : CLine → Bool :=
  inRange (f.a == 0 && f.b == 0) (x.rA f.a.toNat).toNat (x.rA f.b.toNat).toNat

def State.kFlush (s : State) (k : Nat) (f : FS) : State := s.kset k (fun x => x.startFlush (x.flushes f))

def State.kInv (s : State) (k : Nat) (f : FS) : State :=
  s.kset k (fun x => { x.startFlush (x.flushes f) with lines := x.lines.filter (fun l => !x.flushes f l) })

def State.kFence (s : State) (k : Nat) : State := s.beginRel k .fence

/-- A halted Kiosk's cycle limit stops once its instruction has completed (18 R474). -/
def State.settle (s : State) (k : Nat) : State :=
  s.updKiosk k (fun x => if x.halt && x.run == .run then { x with haltAt := s.cycle } else x)

/-- KWAIT_MET (11 R298, R299). -/
def State.kWaitMet (s : State) (k : Nat) : State :=
  let x := s.kiosk k
  if x.run == .wait && s.tstMet x.waitT then (s.kset k (fun x => { x.acquire with run := .run })).settle k else s

/-- The tile of a Kiosk ends: KYIELD saves A1 to A31 and its wait (11 R283, R287). -/
def State.kioskTileEnd (s : State) (k : Nat) (yielded : Bool) : State :=
  let x := s.kiosk k
  match s.unitRun (k / 16) .kiosk (k % 16), s.kioskTask k with
  | some u, some t =>
    let s1 := (s.tileDone u t.1 t.2.1 t.2.2).updKiosk k (fun x => { x with run := .idle, exec := none, rel := none })
    if yielded then
      s1.updTask t.1.id x.task (fun y => { y with saved := x.a, waitT := if x.waitT = 0 then none else some (x.waitT - 1) })
    else s1
  | _, _ => s

/-- KIOSK_RELEASE_DONE (11 R297): every write of the release is visible, and what it held back proceeds. -/
def State.kioskReleaseDone (s : State) (k : Nat) : State :=
  let x := s.kiosk k
  if x.run != .release then s
  else
    let go := fun (s : State) => (s.kset k (fun x => { x with run := .run, rel := none })).settle k
    match x.rel with
    | some .fence => go (s.landFlight k)
    | some (.pass t n) => go ((s.landRelease k).passTst t n)
    | some .yield => (s.landRelease k).kioskTileEnd k true
    | some .fin => (s.landRelease k).kioskTileEnd k false
    | none => s

/-! ### Scalars and control -/

/-- A control value (11 R285). -/
def State.csr (s : State) (k n : Nat) : Nat :=
  let x := s.kiosk k
  match n with
  | 0 => k
  | 1 => 32
  | 2 => (s.kioskTask k).map (fun t => t.1.rows.length) |>.getD 0
  | 3 => (s.kioskTask k).map (fun t => s.execShare t.1) |>.getD 0
  | 4 => s.tileNo k
  | 5 => s.cycle - x.start
  | _ => x.tick % 2 ^ 32

def State.kCsr (s : State) (k : Nat) (f : FS) : State := s.kset k (fun x => x.wA f.a.toNat (BitVec.ofNat 64 (s.csr k f.imm.toNat)))

def State.kOpr (s : State) (k : Nat) (f : FS) : State := s.kset k (fun x => x.wA f.a.toNat (x.opr.getD f.imm.toNat 0))

def State.kAddi (s : State) (k : Nat) (f : FI) : State := s.kset k (fun x => x.wA f.d.toNat (x.rA f.a.toNat + f.imm.signExtend 64))

def State.kLui (s : State) (k : Nat) (f : FI) : State :=
  s.kset k (fun x => x.wA f.d.toNat ((f.imm.signExtend 64) <<< 16))

def State.kSalu (s : State) (k : Nat) (f : FV) : State :=
  let b := (s.kiosk k).rA f.b.toNat
  let r := if saluOpen f.fn.toNat b then s.draw else (0, s)
  r.2.kset k (fun x => x.wA f.d.toNat (saluOp f.fn.toNat (x.rA f.a.toNat) b (BitVec.ofNat 64 r.1)))

/-- A branch, taken or not. -/
def State.branch (s : State) (k : Nat) (f : FB) (take : BitVec 64 → BitVec 64 → Bool) : State :=
  s.updKiosk k (fun x => if take (x.rA f.a.toNat) (x.rA f.b.toNat) then { x with pc := pcAfter x.pc f.off.toInt } else x.next)

def State.kJal (s : State) (k : Nat) (f : FI) : State :=
  s.updKiosk k (fun x =>
    { x.wA f.d.toNat (BitVec.ofNat 64 (pcAfter x.pc 1)) with pc := pcAfter x.pc f.imm.toInt })

def State.kJr (s : State) (k : Nat) (f : FI) : State := s.updKiosk k (fun x => { x with pc := (x.rA f.a.toNat).toNat % 2 ^ 32 })

/-! ### Loads and stores -/

/-- The end of a load: its data, an exception, or, where no data came, a free value (log 57). -/
def State.loaded (k : Nat) (r : KRes (List (List Byte))) (w : List (List Byte) → Kiosk → Kiosk) (n sz : Nat) : State :=
  match r with
  | .ok v t => t.kset k (w v)
  | .exc c a t => t.kioskExc k c (some a)
  | .stop t =>
    let d := t.draw
    d.2.kset k (w ((List.range n).map (fun i => leBytes sz (d.1 / 2 ^ (64 * i)))))
  | .wait t => t

def State.kLd (s : State) (k : Nat) (f : FM) : State :=
  let a := (s.kiosk k).scalarAddr f
  State.loaded k (s.kioskLoad k none [(a, fmBytes f)]) (fun v x => x.wA f.d.toNat (BitVec.ofNat 64 (leNat (v.headD [])))) 1 (fmBytes f)

/-- The end of a store. -/
def State.stored (k : Nat) : KRes Unit → State
  | .ok _ t => t.kset k (fun x => x)
  | .exc c a t => t.kioskExc k c (some a)
  | .stop t => t
  | .wait t => t

def State.kSt (s : State) (k : Nat) (f : FM) : State :=
  let x := s.kiosk k
  State.stored k (s.kioskStore k none [(x.scalarAddr f, leBytes (fmBytes f) (x.rA f.d.toNat).toNat)])

/-- Enabled lanes, ascending. -/
def onLanes (m : BitVec 32) : List Nat := (List.range 32).filter (fun i => m.getLsbD i)

/-- Put words into the named lanes of a vector register. -/
def Kiosk.putLanes (x : Kiosk) (d : Nat) (m : BitVec 32) (v : List (List Byte)) : Kiosk :=
  x.wV d m (fun i => BitVec.ofNat 32 (leNat (v.getD ((onLanes m).idxOf i) [])))

def State.kVld (s : State) (k : Nat) (f : FM) : State :=
  let x := s.kiosk k
  let a := x.vectorAddr f
  let m := x.rM f.msk.toNat
  let ls := onLanes m
  State.loaded k (s.kioskLoad k (some a) (ls.map (fun i => (a + 4 * i, 4)))) (fun v x => x.putLanes f.d.toNat m v) ls.length 4

def State.kVst (s : State) (k : Nat) (f : FM) : State :=
  let x := s.kiosk k
  let a := x.vectorAddr f
  State.stored k (s.kioskStore k (some a)
    ((onLanes (x.rM f.msk.toNat)).map (fun i => (a + 4 * i, leBytes 4 (x.lane f.d.toNat i).toNat))))

def State.kGather (s : State) (k : Nat) (f : FV) : State :=
  let x := s.kiosk k
  let m := x.rM f.msk.toNat
  let ls := onLanes m
  State.loaded k (s.kioskLoad k none (ls.map (fun i => (x.laneAddr f i, 4)))) (fun v x => x.putLanes f.d.toNat m v) ls.length 4

/-- VSCATTER: lanes ascending, so the highest lane's value stands (11 R287). -/
def State.kScatter (s : State) (k : Nat) (f : FV) : State :=
  let x := s.kiosk k
  State.stored k (s.kioskStore k none
    ((onLanes (x.rM f.msk.toNat)).map (fun i => (x.laneAddr f i, leBytes 4 (x.lane f.d.toNat i).toNat))))

/-! ### Vectors -/

/-- A lane operation into V[D]. -/
def State.lanewise (s : State) (k : Nat) (f : FV) (g : Kiosk → Nat → BitVec 32) : State :=
  s.kset k (fun x => x.wV f.d.toNat (x.rM f.msk.toNat) (g x))

def State.kValu (s : State) (k : Nat) (f : FV) : State :=
  s.lanewise k f (fun x i => valuLane f.fn.toNat f.ty.toNat (x.lane f.a.toNat i) (x.lane f.b.toNat i))

def State.kVfma (s : State) (k : Nat) (f : FV) : State :=
  s.lanewise k f (fun x i => vfmaLane f.ty.toNat (x.lane f.a.toNat i) (x.lane f.b.toNat i) (x.lane f.d.toNat i))

/-- VCMP; bits of disabled lanes are free values (log 59). -/
def State.kVcmp (s : State) (k : Nat) (f : FV) : State :=
  let m := (s.kiosk k).rM f.msk.toNat
  let r := if m = 0xFFFFFFFF#32 then (0, s) else s.draw
  r.2.kset k (fun x =>
    x.wM f.d.toNat (maskOf m (fun i => vcmpLane f.fn.toNat f.ty.toNat (x.lane f.a.toNat i) (x.lane f.b.toNat i)) r.1))

def State.kVcvt (s : State) (k : Nat) (f : FV) : State :=
  s.kset k (fun x =>
    let d := f.d.toNat
    let old := if cvtPair f then x.vBytes d ++ x.vBytes (d + 1) else x.vBytes d
    let out := cvtBytes f (x.rM f.msk.toNat) (x.vBytes f.a.toNat) old (x.rA f.b.toNat)
    let v1 := x.v.set d (lanesOfBytes (out.take 128))
    { x with v := if cvtPair f then v1.set (d + 1) (lanesOfBytes (out.drop 128)) else v1 })

def State.kSfu (s : State) (k : Nat) (f : FV) (n : Nat) : State := s.lanewise k f (fun x i => sfuLane n (x.lane f.a.toNat i))

def State.kSincos (s : State) (k : Nat) (f : FV) : State :=
  s.kset k (fun x =>
    let m := x.rM f.msk.toNat
    let r := fun (i : Nat) => kSincosTurn (x.lane f.a.toNat i).toNat
    (x.wV f.d.toNat m (fun i => BitVec.ofNat 32 (r i).1)).wV (f.d.toNat + 1) m (fun i => BitVec.ofNat 32 (r i).2))

/-- VMOVS; a lane above 31 is a free value (log 59). -/
def State.kVmovs (s : State) (k : Nat) (f : FV) : State :=
  match f.fn.toNat with
  | 0 => s.lanewise k f (fun x _ => (x.rA f.a.toNat).setWidth 32)
  | 1 => s.lanewise k f (fun _ i => BitVec.ofNat 32 i)
  | _ =>
    let n := ((s.kiosk k).rA f.b.toNat).toNat
    let r := if n < 32 then (((s.kiosk k).lane f.a.toNat n).toNat, s) else s.draw
    r.2.kset k (fun x => x.wA f.d.toNat (BitVec.ofNat 64 (r.1 % 2 ^ 32)))

def State.kVred (s : State) (k : Nat) (f : FV) : State :=
  s.kset k (fun x => x.wA f.d.toNat (BitVec.ofNat 64 (vredSum (x.rM f.msk.toNat) (x.lane f.a.toNat))))

/-! ### Events -/

/-- KIOSK_OVERLENGTH (11 R301): CYCLES has reached 2,048 before the ending release completed. -/
def State.overlength (s : State) (k : Nat) : State :=
  let x := s.kiosk k
  if (s.kioskTask k).isSome && (x.run == .run || x.run == .wait || x.run == .release) && !x.halted
      && decide (x.start + 2048 ≤ s.cycle) then s.kioskExc k 6 none else s

/-- RESERVED_OPCODE: the word at PC names no legal instruction (11 R288). -/
def State.reservedOp (s : State) (k : KioskNo) (w : Nat) : State :=
  let bad := match kioskDecode k w with | some i => !kioskLegal i | none => true
  if s.issues k.val w && bad then s.kioskExc k.val 1 none else s

/-- FETCH_OUTSIDE_IMAGE (11 R291, R302). -/
def State.fetchBad (s : State) (k : Nat) : State :=
  if s.kioskRuns k && !(s.kiosk k).halt && (s.fetchWord k).isNone then s.kioskExc k 4 (some (s.kiosk k).pc) else s

/-! ### Meanings -/

/-- KNOP (11 R287). -/
def execKNop (k : KioskNo) (f : FS) (s : State) : Host.Outcome State Fault Refusal := done (s.issueOp (.kNop k f) (fun s => s.kNop k.val))
/-- KEND (11 R287, R297, R301). -/
def execKEnd (k : KioskNo) (f : FS) (s : State) : Host.Outcome State Fault Refusal := done (s.issueOp (.kEnd k f) (fun s => s.kEnd k.val))
/-- KYIELD (11 R287, R301). -/
def execKYield (k : KioskNo) (f : FS) (s : State) : Host.Outcome State Fault Refusal :=
  done (s.issueOp (.kYield k f) (fun s => s.kYield k.val f))
/-- KWAIT (11 R299). -/
def execKWait (k : KioskNo) (f : FS) (s : State) : Host.Outcome State Fault Refusal :=
  done (s.issueOp (.kWait k f) (fun s => s.kWait k.val f))
/-- KWAIT_MET (11 R298). -/
def execKWaitMet (k : KioskNo) (s : State) : Host.Outcome State Fault Refusal := done (s.kWaitMet k.val)
/-- KPASS (11 R297, R299). -/
def execKPass (k : KioskNo) (f : FS) (s : State) : Host.Outcome State Fault Refusal :=
  done (s.issueOp (.kPass k f) (fun s => s.kPass k.val f))
/-- KARM (11 R299). -/
def execKArm (k : KioskNo) (f : FS) (s : State) : Host.Outcome State Fault Refusal :=
  done (s.issueOp (.kArm k f) (fun s => s.kArm k.val f))
/-- KTRST (11 R299). -/
def execKTrst (k : KioskNo) (f : FS) (s : State) : Host.Outcome State Fault Refusal :=
  done (s.issueOp (.kTrst k f) (fun s => s.kTrst k.val f))
/-- KFLUSH (11 R297). -/
def execKFlush (k : KioskNo) (f : FS) (s : State) : Host.Outcome State Fault Refusal :=
  done (s.issueOp (.kFlush k f) (fun s => s.kFlush k.val f))
/-- KINV (11 R287). -/
def execKInv (k : KioskNo) (f : FS) (s : State) : Host.Outcome State Fault Refusal :=
  done (s.issueOp (.kInv k f) (fun s => s.kInv k.val f))
/-- KFENCE (11 R297). -/
def execKFence (k : KioskNo) (f : FS) (s : State) : Host.Outcome State Fault Refusal :=
  done (s.issueOp (.kFence k f) (fun s => s.kFence k.val))
/-- KIOSK_RELEASE_DONE (11 R297). -/
def execKioskReleaseDone (k : KioskNo) (s : State) : Host.Outcome State Fault Refusal := done (s.kioskReleaseDone k.val)
/-- KCSR (11 R285). -/
def execKCsr (k : KioskNo) (f : FS) (s : State) : Host.Outcome State Fault Refusal :=
  done (s.issueOp (.kCsr k f) (fun s => s.kCsr k.val f))
/-- KOPR (11 R284). -/
def execKOpr (k : KioskNo) (f : FS) (s : State) : Host.Outcome State Fault Refusal :=
  done (s.issueOp (.kOpr k f) (fun s => s.kOpr k.val f))
/-- ADDI (11 R287). -/
def execAddi (k : KioskNo) (f : FI) (s : State) : Host.Outcome State Fault Refusal :=
  done (s.issueOp (.addi k f) (fun s => s.kAddi k.val f))
/-- LUI (11 R287). -/
def execLui (k : KioskNo) (f : FI) (s : State) : Host.Outcome State Fault Refusal :=
  done (s.issueOp (.lui k f) (fun s => s.kLui k.val f))
/-- SALU (11 R287). -/
def execSalu (k : KioskNo) (f : FV) (s : State) : Host.Outcome State Fault Refusal :=
  done (s.issueOp (.salu k f) (fun s => s.kSalu k.val f))
/-- LD (11 R287, R291). -/
def execLd (k : KioskNo) (f : FM) (s : State) : Host.Outcome State Fault Refusal :=
  done (s.issueOp (.ld k f) (fun s => s.kLd k.val f))
/-- ST (11 R287, R291). -/
def execSt (k : KioskNo) (f : FM) (s : State) : Host.Outcome State Fault Refusal :=
  done (s.issueOp (.st k f) (fun s => s.kSt k.val f))
/-- VLD (11 R287, R291). -/
def execVld (k : KioskNo) (f : FM) (s : State) : Host.Outcome State Fault Refusal :=
  done (s.issueOp (.vld k f) (fun s => s.kVld k.val f))
/-- VST (11 R287, R291). -/
def execVst (k : KioskNo) (f : FM) (s : State) : Host.Outcome State Fault Refusal :=
  done (s.issueOp (.vst k f) (fun s => s.kVst k.val f))
/-- BEQ (11 R287). -/
def execBeq (k : KioskNo) (f : FB) (s : State) : Host.Outcome State Fault Refusal :=
  done (s.issueOp (.beq k f) (fun s => s.branch k.val f (fun a b => a == b)))
/-- BNE (11 R287). -/
def execBne (k : KioskNo) (f : FB) (s : State) : Host.Outcome State Fault Refusal :=
  done (s.issueOp (.bne k f) (fun s => s.branch k.val f (fun a b => a != b)))
/-- BLT (11 R287). -/
def execBlt (k : KioskNo) (f : FB) (s : State) : Host.Outcome State Fault Refusal :=
  done (s.issueOp (.blt k f) (fun s => s.branch k.val f (fun a b => decide (a.toInt < b.toInt))))
/-- BLTU (11 R287). -/
def execBltu (k : KioskNo) (f : FB) (s : State) : Host.Outcome State Fault Refusal :=
  done (s.issueOp (.bltu k f) (fun s => s.branch k.val f (fun a b => decide (a.toNat < b.toNat))))
/-- JAL (11 R287). -/
def execJal (k : KioskNo) (f : FI) (s : State) : Host.Outcome State Fault Refusal :=
  done (s.issueOp (.jal k f) (fun s => s.kJal k.val f))
/-- JR (11 R287). -/
def execJr (k : KioskNo) (f : FI) (s : State) : Host.Outcome State Fault Refusal :=
  done (s.issueOp (.jr k f) (fun s => s.kJr k.val f))
/-- VALU (11 R287, R289). -/
def execValu (k : KioskNo) (f : FV) (s : State) : Host.Outcome State Fault Refusal :=
  done (s.issueOp (.valu k f) (fun s => s.kValu k.val f))
/-- VFMA (11 R287, R289). -/
def execVfma (k : KioskNo) (f : FV) (s : State) : Host.Outcome State Fault Refusal :=
  done (s.issueOp (.vfma k f) (fun s => s.kVfma k.val f))
/-- VCMP (11 R287). -/
def execVcmp (k : KioskNo) (f : FV) (s : State) : Host.Outcome State Fault Refusal :=
  done (s.issueOp (.vcmp k f) (fun s => s.kVcmp k.val f))
/-- VCVT (11 R290). -/
def execVcvt (k : KioskNo) (f : FV) (s : State) : Host.Outcome State Fault Refusal :=
  done (s.issueOp (.vcvt k f) (fun s => s.kVcvt k.val f))
/-- KLOG2 (11 R289). -/
def execKlog2 (k : KioskNo) (f : FV) (s : State) : Host.Outcome State Fault Refusal :=
  done (s.issueOp (.klog2 k f) (fun s => s.kSfu k.val f 0))
/-- KEXP2 (11 R289). -/
def execKexp2 (k : KioskNo) (f : FV) (s : State) : Host.Outcome State Fault Refusal :=
  done (s.issueOp (.kexp2 k f) (fun s => s.kSfu k.val f 1))
/-- KSQRT (11 R289). -/
def execKsqrt (k : KioskNo) (f : FV) (s : State) : Host.Outcome State Fault Refusal :=
  done (s.issueOp (.ksqrt k f) (fun s => s.kSfu k.val f 2))
/-- KRCP (11 R289). -/
def execKrcp (k : KioskNo) (f : FV) (s : State) : Host.Outcome State Fault Refusal :=
  done (s.issueOp (.krcp k f) (fun s => s.kSfu k.val f 3))
/-- KSINCOS_TURN (11 R289). -/
def execKsincosTurn (k : KioskNo) (f : FV) (s : State) : Host.Outcome State Fault Refusal :=
  done (s.issueOp (.ksincosTurn k f) (fun s => s.kSincos k.val f))
/-- VMOVS (11 R287). -/
def execVmovs (k : KioskNo) (f : FV) (s : State) : Host.Outcome State Fault Refusal :=
  done (s.issueOp (.vmovs k f) (fun s => s.kVmovs k.val f))
/-- VRED (11 R287, R289). -/
def execVred (k : KioskNo) (f : FV) (s : State) : Host.Outcome State Fault Refusal :=
  done (s.issueOp (.vred k f) (fun s => s.kVred k.val f))
/-- VGATHER (11 R287). -/
def execVgather (k : KioskNo) (f : FV) (s : State) : Host.Outcome State Fault Refusal :=
  done (s.issueOp (.vgather k f) (fun s => s.kGather k.val f))
/-- VSCATTER (11 R287). -/
def execVscatter (k : KioskNo) (f : FV) (s : State) : Host.Outcome State Fault Refusal :=
  done (s.issueOp (.vscatter k f) (fun s => s.kScatter k.val f))
/-- KIOSK_OVERLENGTH (11 R301). -/
def execKioskOverlength (k : KioskNo) (s : State) : Host.Outcome State Fault Refusal := done (s.overlength k.val)
/-- KSK_EXC_CLEAR (11 R303). -/
def execKskExcClear (k : KioskNo) (s : State) : Host.Outcome State Fault Refusal := done (s.excClear (k.val / 16) (k.val % 16))
/-- RESERVED_OPCODE (11 R288). -/
def execReservedOpcode (k : KioskNo) (w : Word) (s : State) : Host.Outcome State Fault Refusal := done (s.reservedOp k w.toNat)
/-- FETCH_OUTSIDE_IMAGE (11 R302). -/
def execFetchOutsideImage (k : KioskNo) (s : State) : Host.Outcome State Fault Refusal := done (s.fetchBad k.val)

end Sys2Proof.Machine
end

