-- ==== Sys2Proof/Machine/HostRegs.lean ====
section
/-! DEFINITION. The debug unit's Kiosk control (18 R474, R475), register access and memory access by messages (15 R384, 18
R466, R471, R477) and by JTAG (18 R471, R483). -/

namespace Sys2Proof.Machine

/-! ### Kiosk control (18 R474, R475) -/

/-- The effect of an instruction that was fetched for a Kiosk. -/
def State.kioskDo (s : State) : Instr → State
  | .kNop k _ => s.kNop k.val | .kEnd k _ => s.kEnd k.val | .kYield k f => s.kYield k.val f | .kWait k f => s.kWait k.val f
  | .kPass k f => s.kPass k.val f | .kArm k f => s.kArm k.val f | .kTrst k f => s.kTrst k.val f
  | .kFlush k f => s.kFlush k.val f | .kInv k f => s.kInv k.val f | .kFence k _ => s.kFence k.val
  | .kCsr k f => s.kCsr k.val f | .kOpr k f => s.kOpr k.val f | .addi k f => s.kAddi k.val f | .lui k f => s.kLui k.val f
  | .salu k f => s.kSalu k.val f | .ld k f => s.kLd k.val f | .st k f => s.kSt k.val f | .vld k f => s.kVld k.val f
  | .vst k f => s.kVst k.val f | .beq k f => s.branch k.val f (fun a b => a == b)
  | .bne k f => s.branch k.val f (fun a b => a != b) | .blt k f => s.branch k.val f (fun a b => decide (a.toInt < b.toInt))
  | .bltu k f => s.branch k.val f (fun a b => decide (a.toNat < b.toNat)) | .jal k f => s.kJal k.val f
  | .jr k f => s.kJr k.val f | .valu k f => s.kValu k.val f | .vfma k f => s.kVfma k.val f | .vcmp k f => s.kVcmp k.val f
  | .vcvt k f => s.kVcvt k.val f | .klog2 k f => s.kSfu k.val f 0 | .kexp2 k f => s.kSfu k.val f 1
  | .ksqrt k f => s.kSfu k.val f 2 | .krcp k f => s.kSfu k.val f 3 | .ksincosTurn k f => s.kSincos k.val f
  | .vmovs k f => s.kVmovs k.val f | .vred k f => s.kVred k.val f | .vgather k f => s.kGather k.val f
  | .vscatter k f => s.kScatter k.val f
  | _ => s

/-- Whether the debug unit controls Kiosks (18 R471). -/
def State.dbg2 (s : State) : Bool := decide (2 ≤ s.sec.level)

/-- The time a Kiosk stood halted does not count (18 R474). -/
def State.kioskResumed (s : State) (k : Nat) : State :=
  let d := s.cycle - (s.kiosk k).haltAt
  let s1 := s.updKiosk k (fun x => { x with start := x.start + d })
  let mine := fun (u : UnitRun) => u.kind == UnitKind.kiosk && kioskOf u.quarter u.unit == k
  { s1 with units := updWhere mine (fun (u : UnitRun) => { u with start := u.start + d }) s1.units }

/-- HALT written 1. -/
def State.kioskHalt (s : State) (k : Nat) : State :=
  s.updKiosk k (fun x => if x.halt then x else
    { x with halt := true, haltAt := if x.run == .idle || x.run == .run then s.cycle else x.haltAt })

/-- HALT written 0. -/
def State.kioskUnhalt (s : State) (k : Nat) : State :=
  let x := s.kiosk k
  if !x.halt then s
  else
    let s1 := if x.halted && x.held.isNone then s.kioskResumed k else s
    s1.updKiosk k (fun x => { x with halt := false })

/-- STEP of a halted Kiosk that runs a tile: one instruction, and halted again. -/
def State.kioskStep (s : State) (k : Nat) : State :=
  let x := s.kiosk k
  if x.halt && x.held.isNone && s.kioskRuns k then
    let s1 := (s.kioskResumed k).updKiosk k (fun x => { x with halt := false })
    let s2 :=
      match s1.fetchWord k with
      | none => s1.kioskExc k 4 (some x.pc)
      | some w =>
        match kioskDecode ⟨k % 256, Nat.mod_lt _ (by decide)⟩ w with
        | some i => if kioskLegal i then s1.kioskDo i else s1.kioskExc k 1 none
        | none => s1.kioskExc k 1 none
    s2.updKiosk k (fun y => { y with halt := true, haltAt := s.cycle })
  else s

/-- A held exception proceeds to fault handling (18 R475). -/
def State.excRelease (s : State) (k : Nat) : State :=
  match (s.kiosk k).held with
  | some c => (s.updKiosk k (fun x => { x with held := none })).excFault k c
  | none => s

/-- The level fell below DBG2: held exceptions proceed. -/
def State.releaseExcs (s : State) : State :=
  s.each ((s.kiosks.filter (fun e => e.2.held.isSome)).map (fun e => e.1)) (fun s k => s.excRelease k)

/-- A write of DBG_KSK_CTL for the selected Kiosk; its bits act in order. -/
def State.dbgCtl (s : State) (v : Nat) : State :=
  if !s.dbg2 then s
  else
    let k := s.dbgKiosk
    let s1 := if v.testBit 0 then s.kioskHalt k else s.kioskUnhalt k
    let s2 := s1.cond (v.testBit 1) (fun s => s.kioskStep k)
    let s3 := s2.updKiosk k (fun x => { x with haltExc := v.testBit 2 })
    s3.cond (v.testBit 3) (fun s => s.excRelease k)

/-- One word of a 64-bit register replaced. -/
def halfWord (old : BitVec 64) (hi : Bool) (v : Nat) : BitVec 64 :=
  BitVec.ofNat 64 (if hi then old.toNat % 2 ^ 32 + v * 2 ^ 32 else old.toNat / 2 ^ 32 * 2 ^ 32 + v)

/-- The register that DBG_KSK_VIEW_SEL names takes the word. -/
def State.viewPut (s : State) (x : Kiosk) (v : Nat) : Kiosk :=
  let n := s.fld .dbgKskViewSel 0 6 0
  if n < 32 then x.wA n (halfWord (x.rA n) (s.bit .dbgKskViewSel 0 16) v)
  else if n < 64 then x.wV (n - 32) (BitVec.ofNat 32 (2 ^ s.fld .dbgKskViewSel 0 12 8)) (fun _ => BitVec.ofNat 32 v)
  else x.wM (n - 64) (BitVec.ofNat 32 v)

/-- A write of DBG_KSK_VIEW: a halted Kiosk's register, and Tolcon's DEBUG record (18 R474, 19 R490). -/
def State.viewWrite (s : State) (v : Nat) : State :=
  let k := s.dbgKiosk
  if s.dbg2 && (s.kiosk k).halted then
    (s.updKiosk k (fun x => s.viewPut x v)).record 8 k s.defaultDom
      (leBytes 2 (s.fld .dbgKskViewSel 0 6 0) ++ leBytes 2 0 ++ leBytes 4 v)
  else s

/-- A register write of any requester: the debug unit's words act here. -/
def State.regWriteAt (s : State) (rq : Requester) (off v : Nat) : Nat × State :=
  match regAt off with
  | some (.dbgKskCtl, _, _) => (0, s.dbgCtl (v % 2 ^ 32))
  | some (.dbgKskView, _, _) => (0, s.viewWrite (v % 2 ^ 32))
  | _ => s.regWrite1 rq off v

/-! ### REG_READ and REG_WRITE (15 R384) -/

/-- The reads of a message in entry order: the first status, the words, the state after. -/
def State.readRegs (rq : Requester) : List Nat → Nat × List Byte × State → Nat × List Byte × State
  | [], r => r
  | a :: as, r =>
    let x := match regOff a with | some o => r.2.2.regRead1 rq o | none => (8, 0, r.2.2)
    State.readRegs rq as (if r.1 = 0 then x.1 else r.1, r.2.1 ++ leBytes 4 x.2.1, x.2.2)

def State.writeRegs (rq : Requester) : List (Nat × Nat) → Nat × State → Nat × State
  | [], r => r
  | e :: es, r =>
    let x := match regOff e.1 with | some o => r.2.regWriteAt rq o e.2 | none => (8, r.2)
    State.writeRegs rq es (if r.1 = 0 then x.1 else r.1, x.2)

def State.regReadRep (s : State) (n : Nat) (as : List DWord) : Rep :=
  let r := State.readRegs (.session n) (as.map BitVec.toNat) (0, [], s)
  ⟨r.1, r.2.1, r.2.2, false⟩

def State.regWriteRep (s : State) (n : Nat) (es : List (DWord × Word)) : Rep :=
  let r := State.writeRegs (.session n) (es.map (fun e => (e.1.toNat, e.2.toNat))) (0, s)
  Rep.no r.2 r.1

/-! ### MEM_READ and MEM_WRITE (15 R384, 18 R466) -/

/-- The status that a host access of one byte's region gives: UNMAPPED, NOT_PERMITTED or 0. -/
def State.hostAcc (s : State) (a : Nat) : Nat :=
  match zoneOf a with
  | .lpddr => if s.hostMay a then 0 else 6
  | .sram q _ => if !s.powered q then 8 else if s.sec.level = 3 then 0 else 6
  | .dir _ => 0
  | _ => 8

/-- The 64-byte blocks that a range touches: each with its first byte inside the range and how many there. -/
def hostParts (a n : Nat) : List (Nat × Nat) :=
  (List.range ((a + n + 63) / 64 - a / 64)).map (fun i =>
    let b := max a ((a / 64 + i) * 64)
    (b, min (a + n) ((a / 64 + i + 1) * 64) - b))

/-- The first status of a range that is not 0; regions and ranges have borders at block borders only (12 R305, 18 R465). -/
def State.hostRange (s : State) (a n : Nat) : Nat :=
  (((hostParts a n).map (fun b => s.hostAcc b.1)).filter (fun x => x != 0)).headD 0

/-- A host read of Quarter SRAM acts on bad words; a re-fetch ends before the read does (12 R319, R320). -/
def State.hostParity (s : State) (ws : List Nat) : State × Bool :=
  ws.foldl (fun r w =>
    let p := r.1.parity w none
    if p.2 == .wait then
      let q := w / 0x1000000 % 16
      let bad := match p.1.imageByte q (w / 64 * 64) with | some src => !(p.1.badIn src 64).isEmpty | none => false
      (p.1.refetchDone q w, r.2 || bad)
    else (p.1, r.2)) (s, false)

/-- The bytes a host read returns, or its status. -/
def State.hostRead (s : State) (a n : Nat) : Nat × List Byte × State :=
  let st := s.hostRange a n
  if st ≠ 0 then (st, [], s)
  else if a < lpddrTop then
    (match (s.badIn a n).head? with
     | some b => (9, [], s.readFailed (b * 64) 8)
     | none => (0, s.bytesAt a n, s))
  else
    let r := s.hostParity (s.badWordsIn a n)
    if r.2 then (9, [], r.1) else (0, r.1.bytesAt a n, r.1)

/-- One block of a host write: dropped, failed or stored. -/
def State.hostBlock (s : State) (a : Nat) (bs : List Byte) : Nat × State :=
  match zoneOf a with
  | .dir _ => (0xA, s)
  | .sram q off =>
    if s.inWeight q off then (0xA, s.wprot q)
    else
      let part := (s.badWordsIn a bs.length).filter (fun w => decide (w < a) || decide (a + bs.length < w + 8))
      (0, (s.hostParity part).1.poke a bs)
  | _ =>
    match s.partBad a bs.length with
    | some b => (9, s.readFailed (b * 64) 8)
    | none => (0, s.poke a bs)

/-- Blocks one at a time; a failed block ends the write (15 R384). -/
def State.hostBlocks : List (Nat × List Byte) → Nat × State → Nat × State
  | [], r => r
  | b :: bs, r =>
    let x := r.2.hostBlock b.1 b.2
    if x.1 = 9 then x else State.hostBlocks bs (if r.1 = 0 then x.1 else r.1, x.2)

def State.hostWrite (s : State) (a : Nat) (d : List Byte) : Nat × State :=
  let st := s.hostRange a d.length
  if st ≠ 0 then (st, s)
  else State.hostBlocks ((hostParts a d.length).map (fun b => (b.1, (d.drop (b.1 - a)).take b.2))) (0, s)

def State.memReadRep (s : State) (a n : Nat) : Rep :=
  if 262144 < n then Rep.no s 3
  else
    let r := s.hostRead a n
    ⟨r.1, r.2.1, r.2.2, false⟩

def State.memWriteRep (s : State) (a : Nat) (d : List Byte) : Rep :=
  let r := s.hostWrite a d
  Rep.no r.2 r.1

/-! ### JTAG (18 R471, R483; log 60) -/

/-- DBG_ACCESS: a word of the register space, or of memory, within the level; JTAG is off in P2 and P3. -/
def State.jtag (s : State) (wr : Bool) (a v : Nat) : State :=
  let on := decide (s.pwr.state < 2)
  if wr then
    if !on || decide (s.sec.level < 3) then s
    else match regOff a with
      | some o => (s.regWriteAt .mgmt o v).2
      | none => if a % 4 = 0 then (s.hostWrite a (leBytes 4 v)).2 else s
  else if !on || s.sec.level == 0 then s.emit (.jtag 0)
  else
    match regOff a with
    | some o => (s.regRead1 .mgmt o).2.2.emit (.jtag (s.regRead1 .mgmt o).2.1)
    | none =>
      if a % 4 = 0 then
        let r := s.hostRead a 4
        r.2.2.emit (.jtag (leNat r.2.1))
      else s.emit (.jtag 0)

/-! ### Meanings -/

/-- Whether a requester may reach a register offset: a Kiosk writes only the channels its Pitch owns, and reads neither the
security nor the debug block (11 R291, 13 R325, R327). -/
def State.mayReach (s : State) (rq : Requester) (off : Nat) (wr : Bool) : Bool :=
  match rq with
  | .kiosk k => (match s.kioskAcc k.val (regSpace + off) wr with | .reg _ => true | _ => false)
  | _ => true

/-- An access by a requester; a Kiosk's that it may not make is the exception ACCESS (11 R291, R302). -/
def State.reaching (s : State) (rq : Requester) (off : Nat) (wr : Bool) (f : State → State) : State :=
  if s.mayReach rq off wr then f s
  else match rq with
    | .kiosk k => s.kioskExc k.val 3 (some (regSpace + off))
    | _ => s

/-- LATCHED_LO_READ (01 R43). -/
def execLatchedLoRead (rq : Requester) (off : Word) (s : State) : Host.Outcome State Fault Refusal :=
  done (s.reaching rq off.toNat false (fun s => (s.regRead1 rq off.toNat).2.2))
/-- RC_READ (00 R6). -/
def execRcRead (rq : Requester) (off : Word) (s : State) : Host.Outcome State Fault Refusal :=
  done (s.reaching rq off.toNat false (fun s => (s.regRead1 rq off.toNat).2.2))
/-- REGISTER_WRITE (00 R6 to R9). -/
def execRegisterWrite (rq : Requester) (off v : Word) (s : State) : Host.Outcome State Fault Refusal :=
  done (s.reaching rq off.toNat true (fun s => (s.regWriteAt rq off.toNat v.toNat).2))
/-- KIOSK_HALT_SET (18 R474). -/
def execKioskHaltSet (s : State) : Host.Outcome State Fault Refusal := done (s.cond s.dbg2 (fun s => s.kioskHalt s.dbgKiosk))
/-- KIOSK_HALT_CLEAR (18 R474). -/
def execKioskHaltClear (s : State) : Host.Outcome State Fault Refusal := done (s.cond s.dbg2 (fun s => s.kioskUnhalt s.dbgKiosk))
/-- KIOSK_STEP (18 R474). -/
def execKioskStep (s : State) : Host.Outcome State Fault Refusal := done (s.cond s.dbg2 (fun s => s.kioskStep s.dbgKiosk))
/-- KIOSK_EXC_RELEASE (18 R475). -/
def execKioskExcRelease (s : State) : Host.Outcome State Fault Refusal := done (s.cond s.dbg2 (fun s => s.excRelease s.dbgKiosk))
/-- KIOSK_VIEW_WRITE (18 R474). -/
def execKioskViewWrite (v : Word) (s : State) : Host.Outcome State Fault Refusal := done (s.viewWrite v.toNat)
/-- JTAG_DBG_ACCESS (18 R471). -/
def execJtagDbgAccess (wr : Bool) (a : DWord) (v : Word) (s : State) : Host.Outcome State Fault Refusal :=
  done (s.jtag wr a.toNat v.toNat)
/-- REG_READ (15 R384). -/
def execRegRead (h : Hdr) (as : List DWord) (s : State) : Host.Outcome State Fault Refusal :=
  done (runMsg (.regRead h as) (fun s => s.regReadRep h.session as) s)
/-- REG_WRITE (15 R384, 18 R477). -/
def execRegWrite (h : Hdr) (es : List (DWord × Word)) (s : State) : Host.Outcome State Fault Refusal :=
  done (runMsg (.regWrite h es) (fun s => s.regWriteRep h.session es) s)
/-- MEM_READ (15 R384). -/
def execMemRead (h : Hdr) (a : DWord) (n : Word) (s : State) : Host.Outcome State Fault Refusal :=
  done (runMsg (.memRead h a n) (fun s => s.memReadRep a.toNat n.toNat) s)
/-- MEM_WRITE (15 R384). -/
def execMemWrite (h : Hdr) (a : DWord) (d : List Byte) (s : State) : Host.Outcome State Fault Refusal :=
  done (runMsg (.memWrite h a d) (fun s => s.memWriteRep a.toNat d) s)

end Sys2Proof.Machine
end

