-- ==== Sys2Proof/Machine/Epochs.lean ====
section
/-! DEFINITION. Configuration records (17 R440 to R443), staging, commits and rolls (17 R444 to R449). -/

namespace Sys2Proof.Machine

/-! ### Records as bytes (17 R440, R441) -/

/-- LEN of a tag. -/
def tagLen : Nat → Option Nat
  | 0x01 => some 12 | 0x10 => some 8 | 0x11 => some 8 | 0x12 => some 20 | 0x13 => some 4 | 0x20 => some 4 | 0x21 => some 16
  | 0x22 => some 16 | 0x23 => some 16 | 0x24 => some 16 | 0x25 => some 16 | 0x30 => some 16 | 0x40 => some 8
  | 0xFFFF => some 0
  | _ => none

/-- The bytes a record takes. -/
def recSize (r : CfgRec) : Nat := 4 + ceilDiv r.val.length 4 * 4

def CfgRec.bytes (r : CfgRec) : List Byte := leBytes 2 r.tag ++ leBytes 2 r.val.length ++ fitTo (ceilDiv r.val.length 4 * 4) r.val

def endRec : CfgRec := ⟨0xFFFF, []⟩

/-- The records of a body up to its END, which must end it; every TAG known, every LEN the tag's, padding zero. -/
def parseRecs : Nat → List Byte → Option (List CfgRec)
  | 0, _ => none
  | f + 1, b =>
    let t := leAt b 0 2
    let n := leAt b 2 2
    if b.length < 4 ∨ tagLen t ≠ some n ∨ b.length < 4 + ceilDiv n 4 * 4 then none
    else if t = 0xFFFF then (if b.length = 4 then some [] else none)
    else (parseRecs f (b.drop (4 + ceilDiv n 4 * 4))).map (fun l => ⟨t, (b.drop 4).take n⟩ :: l)

/-- Whether a record's reserved bytes are zero. -/
def CfgRec.resOk (r : CfgRec) : Bool :=
  let z := zeroAt r.val
  match r.tag with
  | 0x10 => z 3 1 && z 6 2
  | 0x11 | 0x12 => z 1 3
  | 0x13 | 0x20 => z 2 2
  | 0x21 => z 5 1
  | 0x22 | 0x23 | 0x24 => z 12 4
  | 0x25 => z 8 8
  | 0x30 => z 2 2
  | 0x40 => z 5 1
  | _ => true

/-- The area a record names (17 R441). -/
def CfgRec.area (r : CfgRec) : Option Area :=
  let mib := leAt r.val 8 4
  match r.tag with
  | 0x22 => some ⟨leAt r.val 0 8, 2 * mib * 2 ^ 20⟩
  | 0x23 | 0x24 => some ⟨leAt r.val 0 8, mib * 2 ^ 20⟩
  | 0x25 => some ⟨leAt r.val 0 8, 64 * 2 ^ 20⟩
  | _ => none

def Area.ok (a : Area) : Bool := a.base % 2 ^ 21 == 0 && decide (0 < a.size) && inLpddr a.base a.size

def Area.meets (a b : Area) : Bool := decide (a.base < b.base + b.size) && decide (b.base < a.base + a.size)

/-- Whether a record's values are in their ranges; a REG record must name a register with RW bits (17 R443). -/
def CfgRec.rangeOk (r : CfgRec) : Bool :=
  let n := leAt r.val
  match r.tag with
  | 0x01 => (match regAt (n 0 4) with | some x => x.1.card.rw != 0 || x.1.card.w1c != 0 | none => false)
  | 0x10 => decide (n 0 1 < 2) && decide (n 1 1 < 2) && decide (n 2 1 < 2) && decide (n 4 2 < 4096)
  | 0x11 | 0x12 => decide (n 0 1 < 2)
  | 0x21 => decide (n 2 1 < 2) && decide (n 3 1 < 2) && decide (2 ≤ n 4 1) && decide (n 4 1 ≤ 15)
      && decide (2 ≤ (bitsTo 64 (n 8 8)).length)
  | 0x22 => decide (n 8 4 < 65536) && (match r.area with | some a => a.ok | none => false)
  | 0x24 => decide (1024 ≤ n 8 4) && decide (n 8 4 ≤ 16384) && (match r.area with | some a => a.ok | none => false)
  | 0x23 | 0x25 => (match r.area with | some a => a.ok | none => false)
  | 0x30 => decide (n 0 2 < 4096) && decide (n 6 1 < 16) && decide (n 7 1 < 8) && n 4 2 % 2 ^ n 6 1 == 0
  | 0x40 => decide (n 0 1 < 16) && decide (n 1 1 < 2) && decide (n 2 1 < 2) && decide (n 3 1 < 2) && decide (n 4 1 < 2)
  | _ => true

def CfgRec.isStart (r : CfgRec) : Bool := (decide (0x10 ≤ r.tag) && decide (r.tag ≤ 0x25)) || r.tag == 0x40

/-- What the REG records of an image write to a register, starting from its value after POR. -/
def imageReg (l : List CfgRec) (r : RegName) : Option Nat :=
  let hits := l.filter (fun c => c.tag == 1 && leAt c.val 0 4 == r.off 0)
  if hits.isEmpty then none
  else some (hits.foldl (fun v c =>
    let m := leAt c.val 8 4
    (v &&& (0xFFFFFFFF ^^^ m)) ||| (leAt c.val 4 4 &&& m)) (r.resetWord 0))

/-- The area of a base that REG records set. -/
def fixedArea (l : List CfgRec) (lo hi : RegName) (size : Nat) : Option Area :=
  match imageReg l lo, imageReg l hi with
  | none, none => none
  | a, b => some ⟨a.getD 0 + b.getD 0 % 65536 * 2 ^ 32, size⟩

/-- Areas of an image: those of records, then the fixed bases (17 R441). -/
def imageAreas (l : List CfgRec) : List Area :=
  l.filterMap CfgRec.area ++ [fixedArea l .sdirVtBaseLo .sdirVtBaseHi 0x200000,
    fixedArea l .sdirStoreBaseLo .sdirStoreBaseHi 0x200000000].filterMap (fun x => x)

def disjoint : List Area → Bool
  | [] => true
  | a :: t => t.all (fun b => !a.meets b) && disjoint t

/-- The records of a configuration body that a start accepts (17 R443). -/
def parseConfig (b : List Byte) : Option (List CfgRec) :=
  match parseRecs (b.length + 1) b with
  | some l => if l.all (fun r => r.resOk && r.rangeOk) && disjoint (imageAreas l) then some l else none
  | none => none

/-! ### Classes (17 R442) -/

inductive RecClass where
  | start | device | domain (d : Nat) | pitch (p : Nat)
  deriving DecidableEq, Repr

/-- The Pitch a REG record rolls with, if that Pitch is built. -/
def State.regPitch (s : State) (r : RegName) (i : Nat) : Option Nat :=
  let built := fun (p : Option Nat) => match p with | some k => if (s.pitch k).built then some k else none | none => none
  match r with
  | .schedPitchCfg | .schedPreCfg | .schedTstlPool => built (some i)
  | .qtrRegion | .qtrBatchCfg | .sdirQstate => built (s.quarterPitch i)
  | .movrOwner => built (s.chanOwner i)
  | _ => none

def State.recClass (s : State) (c : CfgRec) : RecClass :=
  if c.isStart then .start
  else if c.tag = 1 then
    match regAt (leAt c.val 0 4) with
    | some (r, i, _) =>
      if r == .tickCtl || r == .tickFrame || r == .tickLimit then .domain i
      else match s.regPitch r i with
        | some p => .pitch p
        | none => .device
    | none => .device
  else .device

/-! ### Applying -/

/-- A REG record: bits under MASK are written, others kept; the answer is whether the card took the write. -/
def State.applyReg (s : State) (c : CfgRec) : Bool × State :=
  let off := leAt c.val 0 4
  match regAt off with
  | none => (false, s)
  | some (r, i, j) =>
    let m := leAt c.val 8 4
    let w := (s.liveWord r i j &&& (0xFFFFFFFF ^^^ m)) ||| (leAt c.val 4 4 &&& m)
    let t := (s.regWriteAt .mgmt off w).2
    let rw := r.card.rw &&& m
    ((t.rg r i j &&& rw) == (w &&& rw) || (t.liveWord r i j &&& rw) == (w &&& rw), t)

/-- PITCH_BUILD's fields in a PITCH record. -/
def recBuild (v : List Byte) : BuildParams :=
  { pitch := bvAt 8 v 0 1, domain := bvAt 8 v 1 1, mode := bvAt 8 v 2 1, acct := bvAt 8 v 3 1, fault := bvAt 8 v 4 1,
    qmask := bvAt 16 v 6 2 }

/-- The TWIN record (16 R414). -/
def State.applyTwin (s : State) (v : List Byte) : State :=
  let n := leAt v
  let s1 := s.setRg .linkTwinCfg 0 (pack [(n 0 2, 0), (n 2 1, 16), (n 3 1, 17), (n 4 1, 18), (1, 31)])
  let s2 := s1.setRg .linkTwinMirror 0 (n 6 2)
  let s3 := s2.each (bitsTo 64 (n 8 8)) (fun s l => s.setFld .linkChCfg l 3 3 1)
  { s3 with cfg := { s3.cfg with twin := some v } }

/-- A record of tags 0x0010 to 0x0025 (17 R441). -/
def State.applyStart (s : State) (c : CfgRec) : State :=
  let n := leAt c.val
  match c.tag with
  | 0x10 => s.setRg .hostPortCfg (n 0 1) (pack [(1, 0), (n 1 1, 1), (n 2 1, 2), (n 4 2, 4)])
  | 0x11 => s.setRg .hostIpv4 (n 0 1) (n 4 4)
  | 0x12 => s.each (List.range 4) (fun s w => s.setRg .hostIpv6 (n 0 1) (beNat ((c.val.drop (4 + 4 * w)).take 4)) w)
  | 0x13 => s.setFld .hostKtpPort 0 15 0 (n 0 2)
  | 0x20 => s.setRg .linkId 0 (n 0 2 + (if n 0 2 < 49152 then 2 ^ 31 else 0))
  | 0x21 => s.applyTwin c.val
  | 0x22 => { s with cfg := { s.cfg with twinArea := some ⟨n 0 8, n 8 4 * 2 ^ 20⟩ } }
  | 0x23 => { s with cfg := { s.cfg with feature := c.area } }
  | 0x24 => { s with cfg := { s.cfg with trec := c.area } }
  | 0x25 => { s with cfg := { s.cfg with update := c.area } }
  | _ => s

/-- A record that applies at a start or a commit; the answer is whether it was taken. -/
def State.applyRec (s : State) (c : CfgRec) : Bool × State :=
  match c.tag with
  | 0x01 => s.applyReg c
  | 0x30 => (true, { s with routes := Tab.set s.routes (leAt c.val 0 2) (c.val.drop 4) })
  | 0x40 =>
    let b := recBuild c.val
    if buildCheck s b = 0 then (true, (s.startBuild b).buildDone b.pitch.toNat) else (false, s)
  | _ => (true, s.applyStart c)

/-- An ignored record is counted once, by its card or here (17 R443, R447). -/
def countRefused (s t : State) : State := if t.rg .devCfgRefCnt = s.rg .devCfgRefCnt then t.inc .devCfgRefCnt else t

/-- A staged record at its turn (17 R447): the record stays in force, or it is skipped and reported. -/
def State.applyStaged (s : State) (p : Nat × CfgRec) : State :=
  let r := s.applyRec p.2
  if r.1 then { r.2 with cfg := { r.2.cfg with inForce := r.2.cfg.inForce ++ [p.2] } }
  else (countRefused s r.2).event 0x0B04 s.cfg.epoch 0 p.1 (if p.2.tag = 1 then leAt p.2.val 0 4 else p.2.tag)

def State.applyAll (s : State) (l : List (Nat × CfgRec)) : State := s.each l State.applyStaged

/-! ### Staging and commits (17 R445, R446) -/

/-- Why a staged message is refused; 0 if it is not. -/
def stageStatus (used : Nat) (l : Option (List CfgRec)) : Nat :=
  match l with
  | none => 0x508
  | some l =>
    firstFail [
      (l.all CfgRec.resOk, 0x508),
      (l.all CfgRec.rangeOk, 0x509),
      (l.all (fun r => !r.isStart), 0x50A),
      (decide (used + (l.map recSize).sum ≤ 262144), 0x50D)]

def State.stageRep (s : State) (d : List Byte) : Rep :=
  let l := parseRecs (d.length + 1) d
  let st := stageStatus s.cfg.stagedBytes l
  if st ≠ 0 then .no s st
  else
    let rs := l.getD []
    let n := s.cfg.stagedBytes + (rs.map recSize).sum
    .ok { s with cfg := { s.cfg with staged := s.cfg.staged ++ rs, stagedBytes := n } } (leBytes 4 n)

def nextEpoch (e : Nat) : Nat := if e = 0xFFFFFFFF then 1 else e + 1

def State.commitRep (s : State) : Rep :=
  if s.cfg.staged.isEmpty then .no s 0x50B
  else if s.cfg.rolling then .no s 0x50C
  else
    let e := nextEpoch s.cfg.epoch
    let c : Commit := { recs := s.cfg.staged.zipIdx.map (fun p => (p.2, p.1)), epoch := e, since := s.uptime }
    .ok { s with cfg := { s.cfg with staged := [], stagedBytes := 0, commit := some c, rolling := true, rollEpoch := e } } (leBytes 4 e)

/-! ### Rolls (17 R448, R449) -/

def State.recsOf (s : State) (k : RecClass) : List (Nat × CfgRec) := s.cfg.toApply.filter (fun p => s.recClass p.2 == k)

/-- Apply the unapplied records of a class. -/
def State.applyClass (s : State) (k : RecClass) : State :=
  let l := s.recsOf k
  ({ s with cfg := { s.cfg with toApply := s.cfg.toApply.filter (fun p => !l.contains p) } }).applyAll l

/-- Records of Pitches that are gone by their turn apply as DEVICE records (17 R449). -/
def State.orphanRecs (s : State) : State := s.applyClass .device

/-- The next Pitch that rolls, or the end of the rolls. -/
def State.nextRoll (s : State) : State :=
  let s1 := s.orphanRecs
  match (s1.builtPitches.filter (fun p => (s1.pitch p).roll)).head? with
  | some p => { s1 with cfg := { s1.cfg with nextPitch := p, drainFrom := none } }
  | none => { s1 with cfg := { s1.cfg with rolling := s1.cfg.commit.isSome, drainFrom := none } }

/-- A Pitch takes the new epoch. -/
def State.adopt (s : State) (p drain : Nat) : State :=
  let e := s.cfg.rollEpoch
  let d := s.pitchDom p
  ((s.updPitch p (fun x => { x with epoch := e, roll := false })).epochRecord p d e).event 0x0B03 p d e drain

/-- Whether every unit of a Pitch is at a tile boundary. -/
def State.pitchQuiet (s : State) (p : Nat) : Bool := s.units.all (fun u => !(u.running && (s.quarters p).contains u.quarter))

/-- A roll whose Pitch is gone is skipped (17 R449). -/
def State.rollFix (s : State) : State :=
  if s.cfg.rolling && s.cfg.commit.isNone && !(s.pitch s.cfg.nextPitch).roll then s.nextRoll else s

/-- Step 3 of a roll. -/
def State.rollEnd (s : State) (p : Nat) : State :=
  if s.draining p && s.pitchQuiet p then
    let d := s.cycle - s.cfg.drainFrom.getD s.cycle
    (((s.applyClass (.pitch p)).adopt p d)).nextRoll
  else s

/-- The roll of a Pitch begins, and ends at once if its units are at a boundary. -/
def State.rollStart (s : State) (p : Nat) : State :=
  if s.cfg.rolling && s.cfg.commit.isNone && s.cfg.drainFrom.isNone && s.cfg.nextPitch == p && (s.pitch p).roll then
    ({ s with cfg := { s.cfg with drainFrom := some s.cycle } }).rollEnd p
  else s

/-- A Pitch whose domain stands still rolls or adopts without a frame tick (17 R449). -/
def State.rollIdle (s : State) (p : Nat) : State :=
  if (s.td (s.pitchDom p)).ticking || s.cfg.commit.isSome then s
  else if (s.pitch p).roll then s.rollStart p
  else if (s.pitch p).epoch != s.cfg.epoch then s.adopt p 0
  else s

def State.rollsIdle (s : State) : State := s.rollFix.each s.builtPitches State.rollIdle

/-- The commit frame tick (17 R446): DEVICE records, DEV_EPOCH, EVT_CFG_EPOCH, then what waits for domains and Pitches. -/
def State.commitApply (s : State) (dom : Nat) : State :=
  match s.cfg.commit with
  | none => s
  | some c =>
    let s1 : State := { s with cfg := { s.cfg with commit := none, toApply := c.recs } }
    let s2 := s1.applyClass .device
    let ps := s2.builtPitches.filter (fun p => !(s2.recsOf (.pitch p)).isEmpty)
    let s3 := s2.each ps (fun s p => s.updPitch p (fun x => { x with roll := true }))
    let s4 : State := { s3 with cfg := { s3.cfg with epoch := c.epoch } }
    let s5 := (s4.epochRecord 0xFF dom c.epoch).event 0x0B02 c.epoch dom c.recs.length ps.length
    let still := [0, 1].filter (fun d => !(s5.td d).ticking)
    ((s5.each still (fun s d => s.applyClass (.domain d))).nextRoll).rollsIdle

/-- Configuration at a frame tick of a domain: the commit, the domain's records, adoption (17 R446, R448). -/
def State.cfgFrame (s : State) (d : Nat) : State :=
  let s1 := if d = 0 || !s.td0.ticking then s.commitApply d else s
  if s1.cfg.commit.isSome then s1
  else
    let s2 := s1.rollFix.applyClass (.domain d)
    let ps := s2.builtPitches.filter (fun p => s2.pitchDom p == d)
    let s3 := s2.each ps (fun s p =>
      s.muted p (fun s => if !(s.pitch p).roll && (s.pitch p).epoch != s.cfg.epoch then s.adopt p 0 else s))
    let s4 := match ps.filter (fun p => (s3.pitch p).roll && s3.cfg.nextPitch == p) with
      | p :: _ => s3.rollStart p
      | [] => s3
    s4.rollsIdle

/-- CONFIG_COMMIT_TIMER: 1 ms after a commit while neither domain issues ticks. -/
def State.commitTimer (s : State) : State :=
  let due := s.cfg.commit.any (fun c => decide (c.since + 1000000 ≤ s.uptime))
  if s.td0.ticking || s.td1.ticking || !due then s else s.commitApply 0

/-- PITCH_ROLL_DRAIN_DONE; a Pitch whose domain stands still rolls as soon as its units are at a boundary (17 R449). -/
def State.drainDone (s : State) (p : Nat) : State := ((s.rollIdle p).rollEnd p)

def State.configRead (s : State) : List Byte := (s.cfg.inForce ++ [endRec]).flatMap CfgRec.bytes

/-! ### Meanings -/

/-- CONFIG_STAGE (17 R445). -/
def execConfigStage (h : Hdr) (d : List Byte) (s : State) : Host.Outcome State Fault Refusal :=
  done (runMsg (.configStage h d) (fun s => s.stageRep d) s)
/-- CONFIG_COMMIT (17 R446). -/
def execConfigCommit (h : Hdr) (s : State) : Host.Outcome State Fault Refusal :=
  done (runMsg (.configCommit h) (fun s => s.commitRep) s)
/-- CONFIG_COMMIT_TIMER (17 R446). -/
def execConfigCommitTimer (s : State) : Host.Outcome State Fault Refusal := done s.commitTimer
/-- PITCH_ROLL_DRAIN_DONE (17 R448). -/
def execPitchRollDrainDone (p : PitchNo) (s : State) : Host.Outcome State Fault Refusal := done (s.drainDone p.val)
/-- CONFIG_READ (15 R384). -/
def execConfigRead (h : Hdr) (s : State) : Host.Outcome State Fault Refusal :=
  done (runMsg (.configRead h) (fun s => .ok s s.configRead) s)

end Sys2Proof.Machine
end

