-- ==== Sys2Proof/Machine/Start.lean ====
section
/-! DEFINITION. Images (17 R433 to R435, 18 R457), uploads (17 R436 to R439), resets and what they keep (17 R450 to R456),
supplies and pins (21 R513 to R516, R521), and the start (17 R426 to R432, 18 R463, R464). -/

namespace Sys2Proof.Machine

/-! ### Images -/

/-- Bytes of the partition of a kind (17 R433): 0 firmware, 1 configuration. -/
def partSize (kind : Nat) : Nat := if kind = 0 then 0x3000000 else 0x100000

/-- Where the signatures of an image begin, and where it ends (17 R434). -/
def imgSigOff (b : List Byte) : Nat := (128 + numAt b 8 4 + 63) / 64 * 64
def imgEnd (b : List Byte) : Nat := imgSigOff b + 384 + 16224

/-- The form of an image (17 R435). -/
def imgFormOk (kind : Nat) (b : List Byte) : Bool :=
  numAt b 0 4 == 0x4D495850 && numAt b 4 2 == 1 && byteAt b 6 == kind && ((b.drop 0x10).take 16) == partName
    && decide (imgEnd b ≤ b.length) && decide (imgEnd b ≤ partSize kind) && ((b.drop 0x20).take 48) == sha384 (imgBody b)

/-- Whether both signatures verify under one vendor pair that is not revoked (18 R457). -/
def State.imgSigned (s : State) (b : List Byte) : Bool :=
  let signed := b.take 128 ++ (b.drop (imgSigOff b)).take (384 + 16224)
  (List.range 4).any (fun i => !(s.policyByte 0xC).testBit i && Config.imageSigOk i signed)

def State.imgCounter (s : State) (kind : Nat) : Nat := if kind = 0 then s.flash.ctr0 else s.flash.ctr1

/-- Why an image is refused: IMG_FORMAT, IMG_SIGNATURE, IMG_ROLLBACK or 0 (17 R435, R436). -/
def State.imageStatus (s : State) (kind : Nat) (b : List Byte) : Nat :=
  firstFail [(imgFormOk kind b, 0x503), (s.imgSigned b, 0x504), (decide (s.imgCounter kind ≤ numAt b 0xC 4), 0x505)]

def State.setPart (s : State) (kind : Nat) (b : List Byte) : State :=
  { s with flash := if kind = 0 then { s.flash with firmware := b } else { s.flash with config := b } }

/-! ### Uploads (17 R436 to R438) -/

/-- Checks 2 to 4 of a chunk. -/
def State.chunkStatus (s : State) (sess kind off total len : Nat) : Nat :=
  let up := s.dev.upload
  let cont := match up with | some u => u.kind == kind && u.total == total && u.data.length == off | none => false
  let room := s.dev.stage != 2 || s.cfg.update.isSome
  firstFail [
    (s.dev.stage != 1, 0x05),
    (match up with | some u => u.session == sess | none => true, 0x507),
    (off == 0 || cont, 0x501),
    (decide (total ≤ partSize kind) && decide (off + len ≤ total) && room, 0x502)]

/-- A chunk is stored: in Groundsheet straight into the partition, which chunk 0 erases; in stage 2 in the update area. -/
def State.storeChunk (s : State) (u : Upload) (off : Nat) (d : List Byte) : State :=
  let s1 : State := { s with dev := { s.dev with upload := some u, upd := 1 } }
  if s.dev.stage = 2 then
    (match s.cfg.update with | some a => s1.poke (a.base + off) d | none => s1)
  else s1.setPart u.kind u.data

/-- The bytes of a whole upload: in stage 2 as the update area holds them (17 R438). -/
def State.gathered (s : State) (u : Upload) : List Byte :=
  match s.dev.stage == 2, s.cfg.update with
  | true, some a => s.mem.readN a.base u.total
  | _, _ => u.data

/-- The first block of the update area that fails its check as the management core reads a whole upload (12 R313, 19 R487). -/
def State.gatherBad (s : State) (u : Upload) : Option Nat :=
  match s.dev.stage == 2, s.cfg.update with
  | true, some a => (s.badIn a.base u.total).head?
  | _, _ => none

/-- A whole image: checked, then programmed. One that cannot be read back is no image (log 122). -/
def State.imageWhole (s : State) (m : PendMsg) (u : Upload) : Nat × State :=
  let t : State := { s with dev := { s.dev with upload := none, upd := 0 } }
  match s.gatherBad u with
  | some b => (0x503, (t.readFailed (b * 64) (reqCode .mgmt)).deviceFault 0x22 (b * 64))
  | none =>
    let d := s.gathered u
    let st := s.imageStatus u.kind d
    if st ≠ 0 then (st, t)
    else (0, { t with dev := { t.dev with upd := 2, program := some (m, { u with data := d }) } })

/-- One chunk of session `sess` (0: the twin): its status, whether the reply comes later, and the state after. -/
def State.uploadChunk (s : State) (m : PendMsg) (sess kind off total : Nat) (d : List Byte) : Nat × Bool × State :=
  let st := s.chunkStatus sess kind off total d.length
  if st ≠ 0 then (st, false, { s with dev := { s.dev with upload := none, upd := 0 } })
  else
    let old := match s.dev.upload with | some u => if off = 0 then [] else u.data | none => []
    let u : Upload := { session := sess, kind := kind, total := total, data := old ++ d }
    let s1 := s.storeChunk u off d
    if u.data.length < total then (0, false, s1)
    else
      let r := s1.imageWhole m u
      (r.1, r.1 == 0, r.2)

def State.uploadRep (s : State) (i : Instr) (h : Hdr) (kind off total : Nat) (d : List Byte) : Rep :=
  let r := s.uploadChunk ⟨i, s.epoch⟩ h.session kind off total d
  if r.2.1 then .wait r.2.2 else .no r.2.2 r.1

/-- Whether an image of a kind clears the HOLD of a step (17 R437). -/
def State.clearsHold (s : State) (kind : Nat) : Bool :=
  (kind == 1 && s.dev.holdStep == 2 && (s.dev.hold == 3 || s.dev.hold == 5))
    || (kind == 0 && s.dev.holdStep == 3 && (s.dev.hold == 4 || s.dev.hold == 5))

/-- IMAGE_PROGRAM_DONE: the reply to the final chunk, and in Groundsheet the start goes on (17 R437, R438). -/
def State.programDone (s : State) (ok : Bool) : State :=
  match s.dev.program with
  | none => s
  | some (m, u) =>
    let good := ok && s.flash.present
    let s1 : State := { s with dev := { s.dev with program := none, upd := if good && s.dev.stage == 2 then 3 else 0 } }
    let s2 := (s1.setPart u.kind (if good then u.data else [])).concludeLater m (if good then 0 else 0x506) []
    if good && s2.dev.stage == 0 && s2.clearsHold u.kind then
      { s2 with dev := { s2.dev with hold := 0, starting := true } }
    else s2

/-! ### Twin fetch (17 R439) -/

/-- Whether the module fetches its firmware from its twin. -/
def State.fetching (s : State) : Bool :=
  s.dev.stage == 0 && (s.dev.hold == 4 || s.dev.hold == 5) && s.cfg.twin.isSome && !s.dev.runCfg.isEmpty

/-- IMAGE_REQ for the bytes that follow those received. -/
def State.sendImageReq (s : State) : State :=
  let off := match s.dev.upload with | some u => if u.session = 0 then u.data.length else 0 | none => 0
  let t : State := { s with dev := { s.dev with fetchAt := s.uptime } }
  match s.twinLinks.head? with
  | some n => (t.sendOn n s.twinId 0 8 0 (leBytes 4 off ++ leBytes 4 0)).2
  | none => t

/-- Bytes of one IMAGE_DATA message. -/
def imageChunk : Nat := 65536

/-- Whether `src` is the configured twin. -/
def State.twinIs (s : State) (src : Nat) : Bool := s.bit .linkTwinCfg 0 31 && s.twinId == src

/-- IMAGE_REQ from the twin: an answer from the own firmware partition. -/
def State.imageReq (s : State) (src off : Nat) : State :=
  let b := s.flash.firmware
  if s.dev.stage = 2 && s.twinIs src && decide (off < b.length) then
    match s.twinLinks.head? with
    | some n => (s.sendOn n src 2 9 0 (leBytes 4 off ++ leBytes 4 b.length ++ (b.drop off).take imageChunk)).2
    | none => s
  else s

/-- IMAGE_DATA: an upload without a session; the next request follows. -/
def State.imageData (s : State) (off total : Nat) (d : List Byte) : State :=
  if !s.fetching then s
  else
    let r := s.uploadChunk ⟨.imageFetchRetry, 0⟩ 0 0 off total d
    if r.1 = 0 && !r.2.1 then r.2.2.sendImageReq else r.2.2

/-! ### Resets (17 R450 to R456) -/

/-- Place in the order of 17 R451. -/
def Cause.rank : Cause → Nat
  | .por => 0 | .pin => 1 | .wdog => 2 | .twin => 3 | .mgmt => 4

/-- The cause of a reset that may meet one whose start has not run. -/
def State.metCause (s : State) (c : Cause) : Cause :=
  if s.dev.starting && s.dev.hold == 0 && decide (s.dev.cause.rank < c.rank) then s.dev.cause else c

/-- Whether a start trains LPDDR5X (17 R430). -/
def Cause.trains (c : Cause) : Bool := c == .por || c == .pin

/-- Entries retired from the directory, as nothing else uses them (17 R454). -/
def State.keptRetired (s : State) : Tab Stream :=
  (s.streams.filter (fun e => e.2.cnt.retired)).map (fun e =>
    (e.1, { Stream.blank with cnt := { Stream.blank.cnt with retired := true } }))

/-- A device-wide reset: Groundsheet, with what the retention table keeps (17 R426, R450, R451, R454, R456). A partition
that was being programmed is invalid (17 R438). -/
def State.deviceReset (s : State) (c0 : Cause) : State :=
  let c := s.metCause c0
  let por := c == .por
  let ring := if s.dev.starting then s.dev.oldRing else s.cfg.trec
  let fl := match s.dev.program with
    | some (_, u) => (s.setPart u.kind []).flash
    | none => s.flash
  let dev : Dev := { Dev.reset with cause := c, oldRing := if c.trains then none else ring, rstLow := s.dev.rstLow,
                                    supplies := s.dev.supplies, pwrGood := s.dev.pwrGood, trip := s.dev.trip }
  let r : State := { State.reset with
    pending := s.pending, free := s.free + 1, cycle := s.cycle, uptime := if por then 0 else s.uptime, phase := s.phase,
    streams := if por then [] else s.keptRetired, nextId := s.nextId,
    mem := if por then [] else s.mem.filter (fun x => decide (x.1 < lpddrTop)),
    memx := { MemX.reset with badBlocks := if por then [] else s.memx.badBlocks },
    nextSession := if por then 1 else s.nextSession, eth := if por then [] else s.eth, dev := dev, flash := fl,
    sec := { Sec.reset with challenge := (Config.challenge s.free).take 32 },
    trec := if c.trains then Trec.reset else s.trec, out := s.out }
  r.setRg .devResetCause 0 (if c.trains then 8 else 0)

/-- The stages are off: P4 (21 R513, R514). LPDDR5X and SRAM lose their contents. -/
def State.stagesOff (s : State) : State :=
  let t := s.deviceReset .por
  { t with mem := [], dev := { t.dev with starting := false, pwrGood := false }, pwr := { t.pwr with state := 4 } }

/-- PWR_GOOD rises: a POR (17 R450, 21 R514, R516). -/
def State.goodRise (s : State) : State :=
  if !s.dev.pwrGood && s.dev.supplies && !s.dev.trip then
    ({ s with dev := { s.dev with pwrGood := true } }).deviceReset .por
  else s

/-- Whether the module runs. -/
def State.runs (s : State) : Bool := s.dev.pwrGood

def State.resetRep (s : State) : Rep := .ok s.resetSoon

/-- RESET of a Pitch (17 R452, 10 R281). -/
def State.resetPitchRep (s : State) (m : PendMsg) (p : Nat) : Rep :=
  if p < 16 ∧ (s.pitch p).built then
    let s1 := match (s.pitch p).resetMsg with | some o => s.concludeLater o 0 [] | none => s
    .wait ((s1.resetPitch p 0 0 []).updPitch p (fun x => { x with resetMsg := some m }))
  else .no s 0x405

/-! ### The start (17 R429) -/

/-- A start step that holds the device (17 R428). -/
def State.holdAt (s : State) (code step : Nat) : State :=
  { s with dev := { s.dev with hold := code, holdStep := step, stage := 0, starting := false, wdogArmed := false } }

/-- The next step, unless the device is held. -/
def State.unlessHeld (s : State) (f : State → State) : State := if s.dev.hold = 0 then f s else s

/-- The policy record in the SECURITY partition whose VERSION is counter 2 and whose signatures verify (18 R463). -/
def State.policyRecord (s : State) : Option (List Byte) :=
  find1 [s.flash.recA, s.flash.recB] (fun b => decide (3904 ≤ b.length) && numAt b 4 4 == s.flash.ctr2 && Config.policySigOk b)

/-- MAC addresses: the identity record's, or those made from the identity key (15 R373). -/
def State.readMac (s : State) (ok : Bool) : State :=
  let base := if ok then s.flash.mac else 0x02 * 2 ^ 40 + beNat ((sha256 Config.idSlhPk).take 5)
  s.each [0, 1] (fun s p => s.updEth p (fun e => { e with mac := (base + p) % 2 ^ 48 }))

/-- Counters, lifecycle and identity (18 R459, R463, R464). -/
def State.startSecurity (s : State) (e : StartEnv) : State :=
  let id := e.pufOk && s.flash.keys
  let s1 := ({ s with sec := { s.sec with idOk := id, pufOk := e.pufOk } }).cond (!e.pufOk) (fun s => s.flag .secEvt 0 2)
  if !e.counterAuth then s1.holdAt 5 2
  else if s1.flash.ctr2 = 0 then s1
  else match s1.policyRecord with
    | none => s1.holdAt 5 2
    | some b =>
      let s2 : State := { s1 with sec := { s1.sec with lifecycle := byteAt b 8, policy := some (b.take 3904) } }
      if byteAt b 8 = 3 then s2.holdAt 7 2 else if !id then s2.holdAt 5 2 else s2

/-- The ports that the image enables in master clocking drive their clocks, with zero in every slot (17 R427): what each drives is
read from its registers as the image's REG records would leave them. -/
def State.drivePorts (s : State) (l : List CfgRec) : State :=
  let aprt := fun (c : CfgRec) => c.tag == 1 && leAt c.val 0 4 / 65536 == 7
  let t := s.each (l.filter aprt) (fun s c => (s.applyReg c).2)
  let ps := (List.range 8).filter (fun p => t.bit .portCfg p 0 && t.portClk p != 2)
  let fs := ps.map (fun p => (p, t.portOut p (List.replicate (t.portSlots p) 0)))
  ({ s with dev := { s.dev with bootPorts := fs } }).each fs (fun s f => s.emit (.port (Fin.ofNat 8 f.1) f.2))

/-- The configuration image: verified, its START-class settings applied, and the ports driven (17 R429 step 2; log 61). -/
def State.startConfig (s : State) : State :=
  let b := s.flash.config
  let st := s.imageStatus 1 b
  if st = 0x505 then s.holdAt 5 2
  else if st ≠ 0 then s.holdAt 3 2
  else match parseConfig (imgBody b) with
    | none => s.holdAt 3 2
    | some l =>
      let s1 : State := { s with dev := { s.dev with runCfg := b } }
      (s1.each l State.applyStart).drivePorts l

/-- Step 2. -/
def State.step2 (s : State) (e : StartEnv) : State :=
  let here := e.flashAnswers && decide (64 ≤ e.flashMiB)
  let fl := { s.flash with present := here, mib := e.flashMiB, dirOk := e.dirOk, counterAuth := e.counterAuth }
  let s1 := ({ s with flash := fl }).readMac (here && e.dirOk)
  if !here then s1.holdAt 1 2
  else if !e.dirOk then s1.holdAt 2 2
  else (s1.startSecurity e).unlessHeld State.startConfig

/-- Twin links are lit for a fetch, and otherwise dark (17 R426, R439). -/
def State.fetchLinks (s : State) : State :=
  if s.fetching then s.each ((List.range 64).filter (fun n => s.bit .linkChCfg n 3)) (fun s n => s.linkTo n .seek) else s

/-- Step 3: the firmware. -/
def State.step3 (s : State) : State :=
  let st := s.imageStatus 0 s.flash.firmware
  if st = 0x505 then (s.holdAt 5 3).fetchLinks
  else if st ≠ 0 then (s.holdAt 4 3).fetchLinks
  else { s with dev := { s.dev with stage := 1, wdogArmed := true, runFw := s.flash.firmware } }

/-- Step 4: training, or the point of it (17 R430). -/
def State.step4 (s : State) (e : StartEnv) : State :=
  if s.dev.cause.trains && !e.trained then s.holdAt 6 4 else { s with memx := { s.memx with trained := true } }

/-- Whether the old ring is kept (17 R430): same place, and readable (19 R487). -/
def State.ringKept (s : State) : Bool :=
  match s.dev.oldRing, s.cfg.trec with
  | some a, some b => a == b && !s.dev.cause.trains && (s.badIn a.base 64).isEmpty
  | _, _ => false

/-- The management core reads the header of the old ring (19 R487). -/
def State.findRing (s : State) : State :=
  match s.dev.oldRing, s.cfg.trec with
  | some a, some b => s.cond (a == b && !s.dev.cause.trains) (fun s => s.failedRead a.base 64 (reqCode .mgmt))
  | _, _ => s

/-- Step 5: every block is filled with zeros but those of a kept ring (12 R315, 17 R430). -/
def State.step5 (s0 : State) : State :=
  let keep := s0.ringKept
  let s := s0.findRing
  let a := s.cfg.trec.getD ⟨0, 0⟩
  let inRing := fun (x : Nat) => keep && decide (a.base ≤ x) && decide (x < a.base + a.size)
  { s with mem := s.mem.filter (fun c => inRing c.1),
           memx := { s.memx with filled := true, badBlocks := s.memx.badBlocks.filter (fun b => inRing (b * 64)) },
           trec := if keep then s.trec else Trec.reset, dev := { s.dev with ringKept := keep } }

/-- Step 6: the self-test (17 R431). -/
def State.step6 (s : State) (e : StartEnv) : State :=
  ({ s with dev := { s.dev with selftest := e.qfail.toNat } }).each e.dirFail (fun s i => s.retireEntry i.val)

/-- A record of the image at step 7; one that its card ignores is counted (17 R443). -/
def State.applyImage (s : State) (c : CfgRec) : State :=
  if c.isStart && c.tag != 0x40 then s
  else
    let r := s.applyRec c
    if r.1 then r.2 else countRefused s r.2

/-- Step 7: the records in image order; twin attach begins (16 R414). -/
def State.step7 (s : State) : State :=
  let l := (parseConfig (imgBody s.dev.runCfg)).getD []
  let s1 : State := { s with cfg := { s.cfg with epoch := 1, inForce := l }, dev := { s.dev with bootPorts := [] } }
  let s2 := s1.each l State.applyImage
  if s2.bit .linkTwinCfg 0 31 then { s2 with twin := { s2.twin with state := .attaching } } else s2

/-- The value of a PITCH record for a built Pitch, as a START record carries it (19 R490). -/
def State.pitchRec (s : State) (p : Nat) : List Byte :=
  let x := s.pitch p
  leBytes 1 p ++ leBytes 1 x.domain ++ leBytes 1 (b2n x.shares) ++ leBytes 1 (b2n x.waitMode) ++ leBytes 1 (b2n x.teardown)
    ++ leBytes 1 0 ++ leBytes 2 x.qmask

/-- The START record (19 R490). -/
def State.startRecord (s : State) : State :=
  let ps := s.builtPitches
  let body := s.fwHash ++ s.cfgHash ++ leBytes 4 (s.rg .tickCtl 0) ++ leBytes 4 (s.rg .tickFrame 0) ++ leBytes 4 (s.rg .tickCtl 1)
    ++ leBytes 4 (s.rg .tickFrame 1) ++ leBytes 1 ps.length ++ leBytes 7 0 ++ ps.flatMap s.pitchRec
  let s1 := s.record 1 s.dev.cause.code s.defaultDom body
  if s.ring.isSome then { s1 with trec := { s1.trec with startSeq := some s.trec.headSeq, lost := false, wraps := 0, wrapSent := false } } else s1

/-- A counter of the flash is raised to the image's version (17 R435). -/
def State.raiseCounters (s : State) : State :=
  { s with flash := { s.flash with ctr0 := max s.flash.ctr0 (numAt s.dev.runFw 0xC 4), ctr1 := max s.flash.ctr1 (numAt s.dev.runCfg 0xC 4) } }

/-- Step 8. -/
def State.step8 (s : State) (e : StartEnv) : State :=
  let s1 : State := { s with dev := { s.dev with stage := 2, starting := false, startMs := e.startMs } }
  let s2 := (s1.raiseCounters.startRecord).epochRecord 0xFF s.defaultDom 1
  let s3 := (s2.each s2.builtPitches (fun s p => s.epochRecord p (s.pitchDom p) 1)).event 0x0B01 0 0 s2.dev.cause.code e.startMs
  let s4 := if s3.dev.selftest ≠ 0 then s3.deviceFault 0x20 s3.dev.selftest else s3
  if e.dirFail.isEmpty then s4 else s4.deviceFault 0x21 e.dirFail.length

/-- DEVICE_START: steps 2 to 8, each unless an earlier one holds; a start that goes on after an upload begins with the step
that held (17 R429, R437). -/
def State.deviceStart (s : State) (e : StartEnv) : State :=
  if !s.dev.starting || s.dev.rstLow || !s.dev.pwrGood then s
  else
    let s1 := if s.dev.holdStep = 3 then s else s.step2 e
    let s2 := s1.unlessHeld State.step3
    let s3 := s2.unlessHeld (fun s => s.step4 e)
    ((((s3.unlessHeld State.step5).unlessHeld (fun s => s.step6 e)).unlessHeld State.step7).unlessHeld (fun s => s.step8 e))

/-- START_STEP_TIMEOUT: the HOLD code of the step; where the spec names none, a free value among the codes (log 63). -/
def State.stepTimeout (s : State) (step : Nat) : State :=
  if s.dev.starting && s.dev.pwrGood && decide (1 ≤ step) && decide (step ≤ 8) then
    match step with
    | 2 => s.holdAt 3 2
    | 3 => (s.holdAt 4 3).fetchLinks
    | 4 => s.holdAt 6 4
    | n => let r := s.draw; r.2.holdAt (1 + r.1 % 6) n
  else s

/-! ### Meanings -/

/-- IMAGE_UPLOAD (17 R436). -/
def execImageUpload (h : Hdr) (kind : Byte) (off total : Word) (d : List Byte) (s : State) : Host.Outcome State Fault Refusal :=
  let i := Instr.imageUpload h kind off total d
  done (runMsg i (fun s => s.uploadRep i h kind.toNat off.toNat total.toNat d) s)
/-- IMAGE_PROGRAM_DONE (17 R437, R438). -/
def execImageProgramDone (ok : Bool) (s : State) : Host.Outcome State Fault Refusal := done (s.programDone ok)
/-- IMAGE_REQ (17 R439). -/
def execImageReq (src : Half) (off : Word) (s : State) : Host.Outcome State Fault Refusal := done (s.imageReq src.toNat off.toNat)
/-- IMAGE_DATA (17 R439). -/
def execImageData (off total : Word) (d : List Byte) (s : State) : Host.Outcome State Fault Refusal :=
  done (s.imageData off.toNat total.toNat d)
/-- IMAGE_FETCH_RETRY: 60 s after the last request (17 R439). -/
def execImageFetchRetry (s : State) : Host.Outcome State Fault Refusal :=
  done (s.cond (s.fetching && decide (s.dev.fetchAt + 60000000000 ≤ s.uptime)) State.sendImageReq)
/-- RESET with KIND 0 (17 R452). -/
def execResetMgmt (h : Hdr) (s : State) : Host.Outcome State Fault Refusal := done (runMsg (.resetMgmt h) (fun s => s.resetRep) s)
/-- MGMT_RESET_FIRE: 10 ms after the reply (17 R452). -/
def execMgmtResetFire (s : State) : Host.Outcome State Fault Refusal :=
  done (s.cond (s.dev.mgmtReset.any (fun t => decide (t + 10000000 ≤ s.uptime)) && s.runs) (fun s => s.deviceReset .mgmt))
/-- RESET with KIND 1 (17 R452). -/
def execResetPitch (h : Hdr) (p : Byte) (s : State) : Host.Outcome State Fault Refusal :=
  let i := Instr.resetPitch h p
  done (runMsg i (fun s => s.resetPitchRep ⟨i, s.epoch⟩ p.toNat) s)
/-- SUPPLY_STAGES_START (21 R513). -/
def execSupplyStagesStart (s : State) : Host.Outcome State Fault Refusal := done { s with dev := { s.dev with supplies := true } }
/-- SUPPLY_FAULT (21 R513). -/
def execSupplyFault (s : State) : Host.Outcome State Fault Refusal :=
  done (({ s with dev := { s.dev with supplies := false } }).stagesOff)
/-- PWR_GOOD_RISE (21 R514). -/
def execPwrGoodRise (s : State) : Host.Outcome State Fault Refusal := done s.goodRise
/-- PWR_GOOD_HELD_LOW (21 R514, R516). -/
def execPwrGoodHeldLow (s : State) : Host.Outcome State Fault Refusal := done s.stagesOff
/-- PIN_RESET: RST_N low for 10 µs (21 R515). -/
def execPinReset (s : State) : Host.Outcome State Fault Refusal :=
  let t : State := { s with dev := { s.dev with rstLow := true } }
  done (t.cond t.runs (fun s => s.deviceReset .pin))
/-- PIN_RESET_RELEASE (21 R515). -/
def execPinResetRelease (s : State) : Host.Outcome State Fault Refusal := done { s with dev := { s.dev with rstLow := false } }
/-- DEVICE_START (17 R429). -/
def execDeviceStart (env : StartEnv) (s : State) : Host.Outcome State Fault Refusal := done (s.deviceStart env)
/-- START_STEP_TIMEOUT (17 R429). -/
def execStartStepTimeout (step : Nat) (s : State) : Host.Outcome State Fault Refusal := done (s.stepTimeout step)
/-- WATCHDOG_TIMEOUT (17 R432). -/
def execWatchdogTimeout (s : State) : Host.Outcome State Fault Refusal :=
  done (s.cond (s.dev.wdogArmed && s.runs) (fun s => s.deviceReset .wdog))
/-- THERMAL_TRIP (21 R521). -/
def execThermalTrip (s : State) : Host.Outcome State Fault Refusal :=
  done (({ s with dev := { s.dev with trip := true } }).stagesOff)
/-- THERMAL_RELEASE (21 R521). -/
def execThermalRelease (s : State) : Host.Outcome State Fault Refusal :=
  done (if s.dev.trip then ({ s with dev := { s.dev with trip := false } }).goodRise else s)

end Sys2Proof.Machine
end

