-- ==== Sys2Proof/Machine/Security.lean ====
section
/-! DEFINITION. Attestation (18 R460, R461), policy records and tokens (18 R462 to R470) and debug levels (18 R471, R472). -/

namespace Sys2Proof.Machine

/-! ### Attestation -/

/-- The report's first 0x2A0 bytes, as of now (18 R460). -/
def State.report (s : State) (nonce : List Byte) : List Byte :=
  let polHash := match s.sec.policy with | some b => sha384 b | none => List.replicate 48 0#8
  leBytes 4 0x54525841 ++ leBytes 2 1 ++ leBytes 1 s.sec.lifecycle ++ leBytes 1 (s.sec.level + s.sec.maxSeen * 16)
    ++ leBytes 1 s.pwr.state ++ leBytes 3 0 ++ leBytes 4 s.epoch ++ leBytes 2 s.ownId
    ++ leBytes 2 (b2n s.idValid + 2 * b2n (s.twin.state == .attached)) ++ leBytes 4 s.flash.ctr2 ++ leBytes 8 s.uptime
    ++ leBytes 4 s.flash.ctr0 ++ leBytes 4 s.flash.ctr1 ++ fitTo 16 s.flash.serial ++ s.fwHash ++ s.cfgHash ++ polHash
    ++ fitTo 32 nonce ++ fitTo 384 Config.idRsaN ++ fitTo 48 Config.idSlhPk ++ leBytes 8 0

/-- The signed report: 384 and 16,224 bytes of signatures after it. -/
def withSigs (b : List Byte) : List Byte := b ++ fitTo 384 (Config.signRsa b) ++ fitTo 16224 (Config.signSlh b)

/-- The session waits for the signer (18 R461). -/
def State.signerBusy (s : State) (n : Nat) : State :=
  if s.sec.refused.contains n then s else { s with sec := { s.sec with refused := s.sec.refused ++ [n] } }

def State.attestRep (s : State) (i : Instr) (n : Nat) (nonce : List Byte) : Rep :=
  if s.sec.signer.isSome then .no (s.signerBusy n) 0x607
  else if !s.sec.idOk then .no s 0x608
  else .wait { s with sec := { s.sec with signer := some ⟨⟨i, s.epoch⟩, s.report nonce⟩ } }

/-- The signer is free: EVT_ATTEST_READY to the sessions it refused. -/
def State.signerFree (s : State) : State :=
  let l := s.sec.refused
  ({ s with sec := { s.sec with signer := none, refused := [] } }).each l (fun s n =>
    s.eventIf (fun x => x.num == n) 0x0C04 n 0 0 0)

def State.signDone (s : State) : State :=
  match s.sec.signer with
  | none => s
  | some j => (s.concludeLater j.msg 0 (withSigs j.report)).signerFree

/-! ### Policy blocks (18 R465) -/

def custOk (b : List Byte) (cnt c : Nat) : Bool :=
  if c < cnt then zeroAt b (0x1F0 + 448 * c) 16 else zeroAt b (0x40 + 448 * c) 448

def rangeOk (b : List Byte) (cnt r : Nat) : Bool :=
  let o := 0xE40 + 16 * r
  if r < cnt then
    leAt b o 8 % 2 ^ 21 == 0 && decide (1 ≤ leAt b (o + 8) 4) && inLpddr (leAt b o 8) (leAt b (o + 8) 4 * 2 ^ 21)
      && decide (leAt b (o + 14) 2 < 2)
  else zeroAt b o 16

/-- Whether a block obeys 18 R465, for counter 2 at `ctr`. -/
def policyOk (ctr : Nat) (b : List Byte) : Bool :=
  let n := leAt b
  b.length == 3904 && n 0 4 == 0x4C4F5053 && n 4 4 == ctr + 1 && decide (1 ≤ n 8 1) && decide (n 8 1 ≤ 3)
    && decide (2 ≤ n 9 1) && decide (n 9 1 ≤ 4)
    && ((decide (n 9 1 ≤ n 0xA 1) && decide (n 0xA 1 ≤ 8)) || (n 0xA 1 == 0 && n 8 1 == 3))
    && decide (n 0xB 1 ≤ 3) && decide (n 0xC 1 < 15) && decide (n 0xE 1 ≤ 1) && decide (n 0xF 1 ≤ 16) && zeroAt b 0x10 48
    && (List.range 8).all (custOk b (n 0xA 1)) && (List.range 16).all (rangeOk b (n 0xF 1))

/-- Allowed transitions (18 R462). -/
def transitionOk (old new : Nat) : Bool :=
  match old with
  | 0 => new == 1
  | 1 => decide (1 ≤ new) && decide (new ≤ 3)
  | 2 => decide (1 ≤ new) && decide (new ≤ 3)
  | _ => false

/-! ### Tokens (18 R467, R468) -/

/-- What a token must bind: its kind, BINDING, VERSION. -/
structure Want where
  kind : Nat
  binding : List Byte
  version : Nat
  deriving DecidableEq, Repr

/-- Length and layout. -/
def tokenForm (t : List Byte) : Bool :=
  t.length == 16704 && leAt t 0 4 == 0x4B4F5454 && decide (leAt t 4 1 < 2) && decide (leAt t 5 1 < 8)
    && decide (leAt t 6 1 ≤ (if leAt t 4 1 = 0 then 0 else 3)) && zeroAt t 7 1 && zeroAt t 0x5C 4

def tokenBinds (w : Want) (t : List Byte) : Bool :=
  leAt t 4 1 == w.kind && ((t.drop 8).take 32) == sha256 Config.idSlhPk && ((t.drop 0x28).take 48) == w.binding
    && leAt t 0x58 4 == w.version

/-- Signed by a custodian of the policy in force who is not revoked. -/
def State.tokenSigned (s : State) (t : List Byte) : Bool :=
  match s.sec.policy with
  | none => false
  | some b =>
    let c := leAt t 5 1
    decide (c < leAt b 0xA 1) && !(leAt b 0xD 1).testBit c && Config.tokenSigOk ((b.drop (0x40 + 448 * c)).take 448) t

/-- Custodians that count, once each. -/
def countTokens (ts : List (List Byte)) : Nat := ((ts.map (fun t => leAt t 5 1)).eraseDups).length

/-- Rows 5 to 8 of 18 R469; `level` is the lowest LEVEL that counts. -/
def State.tokenRows (s : State) (w : Want) (level : Nat) (ts : List (List Byte)) : List (Bool × Nat) :=
  let n := countTokens (ts.filter (fun t => decide (level ≤ leAt t 6 1)))
  [(ts.all tokenForm, 0x601), (ts.all (tokenBinds w), 0x602), (ts.all s.tokenSigned, 0x603),
   (s.sec.lifecycle == 0 || decide (s.policyByte 9 ≤ n), 0x604)]

/-- A refusal counts and is reported (18 R469). -/
def State.authRefused (s : State) (n st code : Nat) : State := ((s.inc .secRefCnt).flag .secEvt 0 0).event 0x0C01 n 0 st code

/-- A new challenge (18 R468). -/
def State.newChallenge (s : State) : State :=
  { s with free := s.free + 1, sec := { s.sec with challenge := fitTo 32 (Config.challenge s.free) } }

/-! ### Debug levels (18 R472) -/

/-- The level in force changes: its event, and what falls with a level below DBG2 (18 R475). -/
def State.levelTo (s : State) (l tokens : Nat) : State :=
  let old := s.sec.level
  if old = l then s
  else
    let s1 := ({ s with sec := { s.sec with level := l, maxSeen := max s.sec.maxSeen l } }).event 0x0C03 l 0 old tokens
    s1.cond (decide (l < 2)) State.releaseExcs

/-- Tolcon's DEBUG record of a level: of every DEBUG_LEVEL accepted and every change (18 R472, 19 R490). -/
def State.levelRecord (s : State) (l : Nat) : State := s.record 8 l s.defaultDom (leBytes 8 0)

/-- The free level. -/
def State.freeLevel (s : State) : Nat :=
  match s.sec.lifecycle with
  | 0 => 3
  | 1 => s.policyByte 0xB
  | 2 => min (s.policyByte 0xB) 1
  | _ => 0

def State.debugRep (s : State) (n l : Nat) (ts : List (List Byte)) : Rep :=
  if 3 < l then .no (s.inc .secRefCnt) 0x60A
  else if l ≤ s.sec.level then .ok ((s.levelTo l 0).levelRecord l)
  else if l ≤ s.freeLevel then .ok ((s.levelTo l 0).levelRecord l).newChallenge
  else
    let w : Want := ⟨1, fitTo 48 s.sec.challenge, s.flash.ctr2⟩
    let st := firstFail (s.tokenRows w l ts)
    if st ≠ 0 then .no (s.authRefused n st 0x82) st
    else .ok (((s.levelTo l (countTokens (ts.filter (fun t => decide (l ≤ leAt t 6 1))))).levelRecord l).newChallenge)

/-! ### AUTH_POLICY (18 R469, R470) -/

def State.policyStatus (s : State) (b : List Byte) (ts : List (List Byte)) : Nat :=
  firstFail ([(s.sec.signer.isNone, 0x607), (s.sec.idOk || s.sec.lifecycle == 0, 0x608), (policyOk s.flash.ctr2 b, 0x605),
    (transitionOk s.sec.lifecycle (leAt b 8 1), 0x606)] ++ s.tokenRows ⟨0, sha384 b, leAt b 4 4⟩ 0 ts)

/-- The record goes to the area that does not hold the one in force, and counter 2 follows. -/
def Flash.putPolicy (f : Flash) (rec_ : List Byte) : Flash :=
  if f.areaB then { f with recA := rec_, areaB := false, ctr2 := f.ctr2 + 1, keys := true }
  else { f with recB := rec_, areaB := true, ctr2 := f.ctr2 + 1, keys := true }

/-- A policy comes into force. -/
def State.policyInForce (s : State) (b : List Byte) : State :=
  let life := leAt b 8 1
  let sec := { s.sec with lifecycle := life, policy := some b, idOk := true }
  let s1 : State := { s with flash := s.flash.putPolicy (withSigs b), sec := sec }
  let s2 := s1.newChallenge.flag .secEvt 0 1
  let s3 := if life = 2 && decide (s2.sec.level ≠ 0) then (s2.levelTo 0 0).levelRecord 0 else s2
  let s4 : State := if life = 3 then
      ({ s3 with flash := { s3.flash with keys := false }, sec := { s3.sec with idOk := false } }).resetSoon
    else s3
  s4.event 0x0C02 0 0 (leAt b 4 4) life

def State.policyRep (s : State) (n : Nat) (b : List Byte) (ts : List (List Byte)) : Rep :=
  let st := s.policyStatus b ts
  if st = 0x607 then .no ((s.signerBusy n).authRefused n st 0x80) st
  else if st ≠ 0 then .no (s.authRefused n st 0x80) st
  else if s.flash.present && s.flash.counterAuth then .ok (s.policyInForce b)
  else .no s 0x609

/-! ### Meanings -/

/-- AUTH_POLICY (18 R469, R470). -/
def execAuthPolicy (h : Hdr) (b : List Byte) (ts : List (List Byte)) (s : State) : Host.Outcome State Fault Refusal :=
  done (runMsg (.authPolicy h b ts) (fun s => s.policyRep h.session b ts) s)
/-- ATTEST (18 R460). -/
def execAttest (h : Hdr) (nonce : List Byte) (s : State) : Host.Outcome State Fault Refusal :=
  let i := Instr.attest h nonce
  done (runMsg i (fun s => s.attestRep i h.session nonce) s)
/-- ATTEST_SIGN_DONE (18 R460, R461). -/
def execAttestSignDone (s : State) : Host.Outcome State Fault Refusal := done s.signDone
/-- DEBUG_LEVEL (18 R472). -/
def execDebugLevel (h : Hdr) (l : Byte) (ts : List (List Byte)) (s : State) : Host.Outcome State Fault Refusal :=
  done (runMsg (.debugLevel h l ts) (fun s => s.debugRep h.session l.toNat ts) s)

end Sys2Proof.Machine
end

