-- ==== Sys2Proof/Machine/Replay.lean ====
section
/-! DEFINITION. What each message does, whoever sends it; TREC_CTL (19 R491, R493), replay (19 R494 to R501) and the
application of recorded messages, which a standby shares (16 R416, R422, 19 R497). -/

namespace Sys2Proof.Machine

/-! ### TREC_CTL (19 R493) -/

/-- The offset of the record after the one at `off`. -/
def recNext (m : Memory) (a : Area) (off : Nat) : Nat :=
  let l := max 16 (m.leN (a.base + off) 4)
  if off + l < a.size then off + l else 0x10000

def recWalk (m : Memory) (a : Area) : Nat → Nat → Nat
  | 0, off => off
  | n + 1, off => recWalk m a n (recNext m a off)

/-- Where the record numbered `q` lies. -/
def State.recOff (s : State) (a : Area) (q : Nat) : Nat :=
  if q = s.trec.headSeq then s.trec.head else recWalk s.mem a (q - s.trec.tailSeq) s.trec.tail

/-- Whole records from an offset on, at most `n` of them and `room` bytes; none if a block fails its check. -/
def State.recRead (s : State) (a : Area) : Nat → Nat → Nat → Option (List Byte)
  | 0, _, _ => some []
  | n + 1, off, room =>
    let l := max 16 (s.mem.leN (a.base + off) 4)
    if !(s.badIn (a.base + off) l).isEmpty then none
    else if room < l then some []
    else (s.recRead a n (recNext s.mem a off) (room - l)).map (fun r => s.mem.readN (a.base + off) l ++ r)

/-- The first block of the range to be read that fails. -/
def State.recBad (s : State) (a : Area) : Nat → Nat → Option Nat
  | 0, _ => none
  | n + 1, off =>
    match (s.badIn (a.base + off) (max 16 (s.mem.leN (a.base + off) 4))).head? with
    | some b => some b
    | none => s.recBad a n (recNext s.mem a off)

def State.trecReadRep (s : State) (sess q n : Nat) : Rep :=
  match s.ring with
  | none => .no s 0x802
  | some a =>
    if q < s.trec.tailSeq ∨ s.trec.headSeq ≤ q then .no s 0x802
    else
      let k := min n (s.trec.headSeq - q)
      match s.recRead a k (s.recOff a q) (((s.sess sess).map (fun x => x.maxPayload)).getD 0) with
      | some b => .ok s b
      | none => .no (match s.recBad a k (s.recOff a q) with | some b => s.readFailed (b * 64) (reqCode .mgmt) | none => s) 0x803

def State.trecAckRep (s : State) (q : Nat) : Rep :=
  let t := s.trec
  if t.headSeq < q ∨ q < t.drainSeq then .no s 0x802
  else
    let off := match s.ring with | some a => s.recOff a q | none => t.drainOff
    .ok { s with trec := { t with drainSeq := q, drainOff := off } }

/-- CLEAR: no record is held, and a new START record is written (19 R491). -/
def State.trecClearRep (s : State) : Rep :=
  if s.replay.active then .no s 0x804
  else
    let t := { s.trec with tail := s.trec.head, headSeq := 0, tailSeq := 0, drainSeq := 0, drainOff := s.trec.head }
    let s1 := ({ s with trec := t }).startRecord
    .ok s1 (leBytes 8 s1.trec.headSeq)

/-- TWIN_DETACH: at the next frame tick (16 R425). -/
def State.twinDetachRep (s : State) : Rep :=
  if s.hasTwin then .ok { s with twin := { s.twin with detach := true } } else .no s 0x703

/-! ### REPLAY_BEGIN and REPLAY_END (19 R494, R501) -/

def State.replayBeginRep (s : State) (sess : Nat) : Rep :=
  let ok := s.dev.stage == 2 && s.pitches.all (fun e => !e.2.built && !e.2.building) && s.ctxs.all (fun e => e.2.state == .free)
    && s.twin.state != .attached && s.sessions.length == 1
  if !ok then .no s 0x804
  else if s.replay.active then .ok s
  else .ok { s with replay := { Replay.reset with active := true, session := sess } }

def State.replayEndRep (s : State) : Rep :=
  if s.replay.active then .ok s.resetSoon else .no s 0x804

/-! ### The messages by their own rules -/

/-- What a message's own rule does: the messages of 15 R384, but for REPLAY_DATA and those of sessions. -/
def State.repOf (s : State) (i : Instr) : Rep :=
  let n := match msgHdr i with | some h => h.session | none => 0
  let m : PendMsg := ⟨i, s.epoch⟩
  match i with
  | .streamOpen _ p => s.streamOpenRep p n
  | .streamCloseDrain _ x => s.onHandle x.toNat State.closeDrain
  | .streamCloseAbort _ x => s.onHandle x.toNat (fun s k => .ok (s.closeAbort k))
  | .streamPause _ x => s.onHandle x.toNat State.pauseRep
  | .streamResume _ x => s.onHandle x.toNat State.resumeRep
  | .streamSetGroup _ x g => s.onHandle x.toNat (fun s k => s.setGroupRep k g)
  | .streamStats _ x c => s.onHandle x.toNat (fun s k => s.statsRep k n c)
  | .voiceSet _ v e => s.voiceSetRep v.toNat e
  | .voiceClear _ v => s.voiceClearRep v.toNat
  | .feature _ f => s.onHandle f.handle.toNat (fun s k => s.featureRep k f)
  | .packExportSnapshot h e => s.exportRep false n h.tag.toNat e
  | .packExportMove h e => s.exportRep true n h.tag.toNat e
  | .packImport h l op b => s.importRep h l op b
  | .graphLoad _ p c a => s.graphLoadRep i p.toNat c.toNat a.toNat
  | .graphUnload _ p k => s.unloadRep p.toNat k.toNat
  | .pitchBuild _ b => s.buildRep b
  | .pitchDissolve _ p => s.dissolveRep p.toNat
  | .ctxRegister _ c => s.ctxRegisterRep c
  | .ctxAdmit _ c => s.ctxAdmitRep c.toNat
  | .ctxTeardown _ c => s.ctxTeardownRep c.toNat
  | .ping _ => .ok s s.pingPay
  | .status _ => .ok s s.statusPay
  | .identity _ => .ok s s.identityPay
  | .imageUpload h k o t d => s.uploadRep i h k.toNat o.toNat t.toNat d
  | .resetMgmt _ => s.resetRep
  | .resetPitch _ p => s.resetPitchRep m p.toNat
  | .regRead _ as => s.regReadRep n as
  | .regWrite _ es => s.regWriteRep n es
  | .memRead _ a l => s.memReadRep a.toNat l.toNat
  | .memWrite _ a d => s.memWriteRep a.toNat d
  | .configStage _ d => s.stageRep d
  | .configCommit _ => s.commitRep
  | .configRead _ => .ok s s.configRead
  | .authPolicy _ b ts => s.policyRep n b ts
  | .attest _ k => s.attestRep i n k
  | .debugLevel _ l ts => s.debugRep n l.toNat ts
  | .twinDetach _ => s.twinDetachRep
  | .trecStatus _ => .ok s s.trec.header
  | .trecRead _ q c => s.trecReadRep n q.toNat c.toNat
  | .trecAck _ q => s.trecAckRep q.toNat
  | .trecClear _ => s.trecClearRep
  | .replayBegin _ => s.replayBeginRep n
  | .replayEnd _ => s.replayEndRep
  | _ => .ok s

/-! ### Records read back (19 R489, R495) -/

/-- A whole record at the front of some bytes. -/
def parseRec (b : List Byte) : Option RecIn :=
  let l := leAt b 0 4
  let body := (b.drop 64).take (l - 64)
  if 64 ≤ l ∧ l % 16 = 0 ∧ l ≤ b.length ∧ leAt b 0x3C 4 = crc32c (b.take 0x3C ++ leBytes 4 0 ++ body) then
    some { kind := leAt b 4 2, flags := leAt b 6 2, seq := leAt b 8 8, tick := leAt b 0x18 8, subject := leAt b 0x30 4, body := body }
  else none

/-- The domain a record is stamped in. -/
def RecIn.dom (r : RecIn) : Nat := if r.flags.testBit 1 then 1 else 0

def RecIn.size (r : RecIn) : Nat := 64 + r.body.length

def recNo (r : RecIn) (off n : Nat) : Nat := leAt r.body off n

/-! ### Applying a record (19 R497) -/

/-- Messages that no replay processes: those of sessions, IMAGE_UPLOAD, whose image no record holds, and DEBUG_LEVEL. -/
def unplayed (t : Nat) : Bool := [1, 2, 0x12, 0x82].contains t

/-- A recorded message; its session number is one that no session has, so that nothing answers it. -/
def RecIn.msg (r : RecIn) : Option Instr :=
  parseMsg ⟨r.subject + 2 ^ 32, BitVec.ofNat 32 (recNo r 4 4), 0⟩ (recNo r 0 2) ((r.body.drop 32).take (recNo r 24 4))

/-- Its processing; a policy takes the recorded outcome in place of its tokens' checks. -/
def State.playMsg (s : State) (i : Instr) : Rep :=
  match i with
  | .authPolicy _ b _ => .ok (s.policyInForce b)
  | _ => s.repOf i

/-- Whether a KTP record stands for a message that is processed. -/
def RecIn.played (r : RecIn) : Bool := recNo r 2 2 == 0 && !unplayed (recNo r 0 2)

/-- A KTP record; `cmp` compares its result (19 R498). -/
def State.playKtp (s : State) (r : RecIn) (cmp : Bool) : State :=
  if !r.played then s
  else match r.msg with
    | none => if cmp then s.diverge r.seq else s
    | some i =>
      let p := s.playMsg i
      let same := p.later || (p.st == 0 && (p.pay ++ List.replicate 16 0#8).take 16 == (r.body.drop 8).take 16)
      (if cmp && !same then p.s.diverge r.seq else p.s).fitClock

/-- A SLIP record: the crossing's counts. -/
def State.playSlip (s : State) (r : RecIn) : State :=
  let rep := recNo r 0 1 == 1
  if r.subject < 8 then s.portSlip r.subject rep
  else if 0x100 ≤ r.subject then s.rtpSlip (r.subject - 0x100) rep
  else s

/-- A view write (18 R474): the register that the record names takes the word. -/
def State.playView (s : State) (r : RecIn) : State :=
  s.updKiosk r.subject (fun x => (s.setFld .dbgKskViewSel 0 6 0 (recNo r 0 2)).viewPut x (recNo r 4 4))

/-- A compared value (19 R498). -/
def State.compare (s : State) (r : RecIn) (same : Bool) : State := if same then s else s.diverge r.seq

/-- One record of a replay at its tick; a stream fault waits in the queue for its commit. -/
def State.playRec (s0 : State) (r : RecIn) : State :=
  let s : State := { s0 with replay := { s0.replay with applied := r.seq } }
  match r.kind with
  | 2 => s.playKtp r true
  | 3 =>
    let to5 := recNo r 1 1
    if to5 = 5 ∨ to5 = 0 then
      let s1 := s.updTd r.subject (fun t => { t with mon := if to5 = 5 then .stopped else .off, stopReq := false })
      { s1 with replay := { s1.replay with stopped := addMember r.subject s1.replay.stopped } }
    else if s.replay.stopped.contains r.subject then
      let s1 := s.updTd r.subject (fun t => { t with mon := .locked })
      { s1 with replay := { s1.replay with stopped := s1.replay.stopped.filter (fun d => d != r.subject) } }
    else s
  | 4 => s.playSlip r
  | 5 => s.compare r (recNo r 0 4 == (if r.subject = 0xFF then s.cfg.epoch else (s.pitch r.subject).epoch))
  | 6 =>
    s.compare r (match s.model r.subject (recNo r 0 2) with
      | some m => fitTo 32 m.hash == (r.body.drop 8).take 32 && (m.stage == .copied || m.stage == .usable)
      | none => false)
  | 7 => if recNo r 2 1 = 1 then s.contextFault r.subject (recNo r 0 2) else s
  | 8 => s.playView r
  | _ => s

/-- Whether a record stays queued after its tick: a stream fault whose stream is open. -/
def State.keepsRec (s : State) (r : RecIn) : Bool := r.kind == 7 && recNo r 2 1 == 0 && (s.findHandle r.subject).isSome

/-- One queued record that is due; its bytes leave the queue, unless its fault still waits. -/
def State.playDue (s : State) (r : RecIn) : State :=
  let s1 := s.playRec r
  if s1.keepsRec r then s1
  else { s1 with replay := { s1.replay with queue := s1.replay.queue.filter (fun x => x != r), bytes := s1.replay.bytes - r.size } }

/-- The records stamped before tick `t` of a domain, in SEQ order (19 R496). -/
def State.playTick (s : State) (d t : Nat) : State :=
  s.each (s.replay.queue.filter (fun r => r.dom == d && decide (r.tick + 1 ≤ t)
    && !(r.kind == 7 && recNo r 2 1 == 0 && decide (r.seq ≤ s.replay.applied)))) State.playDue

/-! ### REPLAY_DATA (19 R495, R496) -/

/-- TICK_CTL and TICK_FRAME of a domain, with SRC = INTERNAL. -/
def State.playTickCfg (s : State) (r : RecIn) (d : Nat) : State :=
  let o := 96 + 8 * d
  let s1 := s.updTd d (fun t => { t with next := 0, issued := false })
  let s2 := (s1.regWriteAt .mgmt (RegName.tickFrame.off d) (recNo r (o + 4) 4)).2
  (s2.regWriteAt .mgmt (RegName.tickCtl.off d) (putField (recNo r o 4) 4 2 0)).2

/-- A Pitch of the START record. -/
def State.playBuild (s : State) (v : List Byte) (seq : Nat) : State :=
  let b := recBuild v
  if buildCheck s b = 0 then (s.startBuild b).buildDone b.pitch.toNat else s.diverge seq

/-- The START record (19 R496). -/
def State.playStart (s : State) (r : RecIn) : State :=
  let s1 := (s.playTickCfg r 0).playTickCfg r 1
  let s2 := s1.each (pieces 8 (recNo r 112 1) (r.body.drop 120)) (fun s v => s.playBuild v r.seq)
  let s3 := s2.each s2.builtPitches (fun s p => s.updPitch p (fun x => { x with epoch := 1 }))
  { s3 with cfg := { s3.cfg with epoch := 1 }, replay := { s3.replay with applied := r.seq } }

/-- Why a record is not accepted; 0 if it is. -/
def State.recRefusal (s : State) (r : RecIn) : Nat :=
  match s.replay.lastSeq with
  | none => firstFail [(r.kind == 1, 0x806), (r.body.take 48 == s.fwHash, 0x805)]
  | some q =>
    let size := match s.ring with | some a => a.size | none => 0
    firstFail [(r.seq == q + 1, 0x806), (decide (s.replay.bytes + r.size ≤ size), 0x801)]

/-- An accepted record: the START record acts, a PAD is passed over, others wait for their tick. -/
def State.takeRec (s : State) (r : RecIn) : State :=
  let s1 : State := { s with replay := { s.replay with lastSeq := some r.seq } }
  if s.replay.lastSeq.isNone then s1.playStart r
  else if r.kind = 0xFFFF ∨ r.kind = 1 then s1
  else { s1 with replay := { s1.replay with queue := s1.replay.queue ++ [r], bytes := s1.replay.bytes + r.size } }

/-- A PAD too short for a header (log 18): its length. -/
def shortPad (b : List Byte) : Option Nat :=
  let l := leAt b 0 4
  if 16 ≤ l ∧ l < 64 ∧ l % 16 = 0 ∧ l ≤ b.length ∧ leAt b 4 2 = 0xFFFF then some l else none

/-- Records of a message in order: the status, how many were accepted, and the state. -/
def State.takeRecs (s : State) : Nat → List Byte → Nat → Nat × Nat × State
  | 0, _, n => (0, n, s)
  | f + 1, b, n =>
    if b.isEmpty then (0, n, s)
    else match shortPad b, s.replay.lastSeq with
      | some l, some q => State.takeRecs { s with replay := { s.replay with lastSeq := some (q + 1) } } f (b.drop l) (n + 1)
      | _, _ =>
        match parseRec b with
        | none => (0x806, n, s)
        | some r =>
          let st := s.recRefusal r
          if st ≠ 0 then (st, n, s) else (s.takeRec r).takeRecs f (b.drop (leAt b 0 4)) (n + 1)

def State.replayDataRep (s : State) (d : List Byte) : Rep :=
  if !s.replay.active then .no s 0x804
  else
    let r := s.takeRecs (d.length / 16 + 1) d 0
    let s1 := r.2.2.each r.2.2.replay.stopped (fun s k => s.playTick k (s.td k).next)
    ⟨r.1, leBytes 4 r.2.1, s1, false⟩

/-! ### Meanings -/

/-- TREC_CTL STATUS (19 R493). -/
def execTrecStatus (h : Hdr) (s : State) : Host.Outcome State Fault Refusal :=
  done (runMsg (.trecStatus h) (fun s => .ok s s.trec.header) s)
/-- TREC_CTL READ (19 R493). -/
def execTrecRead (h : Hdr) (q : DWord) (n : Word) (s : State) : Host.Outcome State Fault Refusal :=
  done (runMsg (.trecRead h q n) (fun s => s.trecReadRep h.session q.toNat n.toNat) s)
/-- TREC_CTL ACK (19 R493). -/
def execTrecAck (h : Hdr) (q : DWord) (s : State) : Host.Outcome State Fault Refusal :=
  done (runMsg (.trecAck h q) (fun s => s.trecAckRep q.toNat) s)
/-- TREC_CTL CLEAR (19 R491). -/
def execTrecClear (h : Hdr) (s : State) : Host.Outcome State Fault Refusal :=
  done (runMsg (.trecClear h) (fun s => s.trecClearRep) s)
/-- TREC_CTL REPLAY_BEGIN (19 R494). -/
def execReplayBegin (h : Hdr) (s : State) : Host.Outcome State Fault Refusal :=
  done (runMsg (.replayBegin h) (fun s => s.replayBeginRep h.session) s)
/-- TREC_CTL REPLAY_DATA (19 R495). -/
def execReplayData (h : Hdr) (d : List Byte) (s : State) : Host.Outcome State Fault Refusal :=
  done (runMsg (.replayData h d) (fun s => s.replayDataRep d) s)
/-- TREC_CTL REPLAY_END (19 R501). -/
def execReplayEnd (h : Hdr) (s : State) : Host.Outcome State Fault Refusal :=
  done (runMsg (.replayEnd h) (fun s => s.replayEndRep) s)
/-- TWIN_DETACH (16 R425). -/
def execTwinDetach (h : Hdr) (s : State) : Host.Outcome State Fault Refusal :=
  done (runMsg (.twinDetach h) (fun s => s.twinDetachRep) s)

end Sys2Proof.Machine
end

