-- ==== Sys2Proof/Machine/Ktp.lean ====
section
/-! DEFINITION. KTP datagrams (15 R374, R376 to R382) and the end of a wake (18 R478). -/

namespace Sys2Proof.Machine

/-- A message of a session: its own rule, inside the frame of `runMsg`. -/
def State.runInstr (s : State) (i : Instr) : State :=
  match i with
  | .sessionClose h => s.closeSess h
  | .replayData _ d => runMsg i (fun s => s.replayDataRep d) s
  | _ => runMsg i (fun s => s.repOf i) s

/-! ### Datagrams (15 R376, R377) -/

/-- A received datagram as its fields. -/
def readDgram (b : List Byte) : Dgram :=
  { flags := leAt b 3 1, session := leAt b 4 4, seq := leAt b 8 4, ack := leAt b 0xC 4, typ := leAt b 0x10 2,
    status := leAt b 0x12 2, tag := leAt b 0x14 4, epoch := leAt b 0x18 4, payload := b.drop 40 }

/-- Whether a datagram's form is right (15 R377): `most` is the longest payload. -/
def dgramOk (most : Nat) (b : List Byte) : Bool :=
  decide (40 ≤ b.length) && leAt b 0 2 == 0x544B && leAt b 2 1 == 1 && decide (leAt b 3 1 < 16) && zeroAt b 0x1E 2
    && zeroAt b 0x24 4 && leAt b 0x1C 2 + 40 == b.length && decide (leAt b 0x1C 2 ≤ most)
    && leAt b 0x20 4 == crc32c (b.take 0x20 ++ leBytes 4 0 ++ b.drop 0x24)

/-- A discarded datagram. -/
def State.badDgram (s : State) : State := (s.cnt .hostKtpErrCnt 0 15 0 1).flag .hostEvt 0 0

/-- Whether a datagram is for this device's KTP (15 R373, R374, R376). -/
def State.forKtp (s : State) (src : Peer) (dst udp : Nat) : Bool :=
  s.serves src.port.val && udp == s.fld .hostKtpPort 0 15 0
    && (if src.v6 then s.own6 src.port.val dst else s.own4 src.port.val dst)

/-! ### Wakes (18 R478, R479) -/

/-- Datagrams that need no wake in P2 and P3: acknowledgements, PING, STATUS, IDENTITY, SESSION_OPEN and SESSION_CLOSE. -/
def Dgram.quiet (d : Dgram) : Bool := d.flags.testBit 1 || [1, 2, 3, 0x10, 0x11].contains d.typ

/-- A datagram on ETH0 as a wake cause. -/
def State.dgramWake (s : State) (src : Peer) (d : Dgram) : State :=
  if src.port.val = 0 && (s.pwr.state == 1 || !d.quiet) then s.wake 2 else s

/-! ### Acknowledgements (15 R379, R380) -/

/-- Datagrams that an ACK passes. -/
def Session.passed (x : Session) (ack : Nat) : Nat :=
  match x.unacked with
  | [] => 0
  | d :: _ =>
    let k := (ack + 2 ^ 32 - d.seq) % 2 ^ 32
    if k ≤ x.unacked.length then k else 0

/-- ACK advances: the timer starts anew with RTO. -/
def State.ackDgram (s : State) (x : Session) (d : Dgram) : State :=
  let k := x.passed d.ack
  if !d.flags.testBit 0 || k == 0 then s
  else (s.updSess x.num (fun x =>
    { x with unacked := x.unacked.drop k, rto := s.fld .hostKtpCfg 0 15 0, expiries := 0, timerAt := s.uptime })).pump x.num

/-! ### Messages (15 R381, R384) -/

/-- A fragment joins its message. -/
def joinPart (p : Option Partial) (d : Dgram) : Partial :=
  match p with
  | none => { typ := d.typ, tag := d.tag, epoch := d.epoch, data := d.payload, bad := 0, count := 1 }
  | some q =>
    let differs := q.typ != d.typ || q.tag != d.tag || q.epoch != d.epoch
    let bad := if q.bad ≠ 0 then q.bad else if differs then 1 else if 262144 < q.data.length + d.payload.length then 3 else 0
    { q with data := if bad = 0 then q.data ++ d.payload else [], bad := bad, count := q.count + 1 }

/-- A refusal before any rule of the message: its reply only. -/
def State.refuseMsg (s : State) (n : Nat) (p : Partial) (st : Nat) : State :=
  s.sendMsg n ((p.typ + 0x8000) % 65536) st p.tag s.epoch []

/-- A complete message. -/
def State.message (s : State) (n : Nat) (p : Partial) : State :=
  if p.bad ≠ 0 then s.refuseMsg n p p.bad
  else if !knownType p.typ then s.refuseMsg n p 2
  else match parseMsg ⟨n, BitVec.ofNat 32 p.tag, BitVec.ofNat 32 p.epoch⟩ p.typ p.data with
    | some i => s.runInstr i
    | none => s.refuseMsg n p 1

/-! ### Sequencing (15 R379) -/

/-- The datagram expected next: accepted. -/
def State.acceptDgram (s : State) (x : Session) (src : Peer) (d : Dgram) : State :=
  let p := joinPart x.part d
  let more := d.flags.testBit 2
  let s1 := s.updSess x.num (fun x =>
    { x with rxNext := (x.rxNext + 1) % 2 ^ 32, gotSeq := true, ackOwed := true,
             owedAt := if x.ackOwed then x.owedAt else s.uptime, lastRx := s.uptime, peer := src,
             part := if more then some p else none })
  if more then s1
  else
    let t := s1.message x.num p
    -- a message that waits for a wake keeps its datagrams in the ingress queue (log 102)
    if t.pwr.wakeMsgs.length = s1.pwr.wakeMsgs.length then t
    else { t with pwr := { t.pwr with ingress := t.pwr.ingress + p.count } }

/-- A sequenced datagram by its distance from the expected one. -/
def State.sequenced (s : State) (x : Session) (src : Peer) (d : Dgram) : State :=
  let k := (d.seq + 2 ^ 32 - x.rxNext) % 2 ^ 32
  if k = 0 then s.acceptDgram x src d
  else if k ≤ 255 then (s.cnt .hostKtpRxCnt 0 31 16 1).sendAck x.num
  else if 2 ^ 31 ≤ k then (s.cnt .hostKtpRxCnt 0 15 0 1).sendAck x.num
  else s.badDgram

/-- SESSION_OPEN as a datagram (15 R378); one that spells no request is refused with BAD_MSG. -/
def State.openDgram (s : State) (src : Peer) (d : Dgram) : State :=
  let b := d.payload
  if b.length = 8 ∧ zeroAt b 6 2 then
    s.openSess (.sessionOpen src (BitVec.ofNat 32 d.tag) (BitVec.ofNat 32 d.epoch) (bvAt 32 b 0 4) (bvAt 16 b 4 2)) src d.tag d.epoch
      (leAt b 0 4) (leAt b 4 2)
  else s.sessReply src 0 1 d.tag []

/-- A datagram that meets a full ingress queue is lost (15 R379). -/
def State.dropDgram (s : State) : State := (s.cnt .hostKtpErrCnt 0 31 16 1).flag .hostEvt 0 1

/-- KTP_DATAGRAM. -/
def State.dgramRx (s : State) (src : Peer) (dst udp : Nat) (b : List Byte) : State :=
  if !s.forKtp src dst udp then s
  else if 1024 ≤ s.pwr.ingress then s.dropDgram
  else
    let d := readDgram b
    let opening := d.typ == 1 && !d.flags.testBit 1
    match opening, s.sess d.session with
    | true, _ => if dgramOk 8192 b then (s.dgramWake src d).openDgram src d else s.badDgram
    | false, none => s.badDgram
    | false, some x =>
      if !dgramOk x.maxPayload b then s.badDgram
      else
        let s1 := (s.dgramWake src d).ackDgram x d
        if d.flags.testBit 1 then s1 else s1.sequenced x src d

/-- WAKE_DONE: P0 is reached, and the messages that waited are processed (18 R478). -/
def State.wakeDone (s : State) : State :=
  if s.pwr.state ≠ 0 && s.pwr.waking then
    let ms := s.pwr.wakeMsgs
    let t := s.powerBack
    ({ t with pwr := { t.pwr with wakeMsgs := [], ingress := 0 } }).each ms State.runInstr
  else s

/-! ### Meanings -/

/-- KTP_DATAGRAM (15 R379). -/
def execKtpDatagram (src : Peer) (dst : BitVec 128) (udp : Half) (b : List Byte) (s : State) : Host.Outcome State Fault Refusal :=
  done (s.dgramRx src dst.toNat udp.toNat b)
/-- WAKE_DONE (18 R478). -/
def execWakeDone (s : State) : Host.Outcome State Fault Refusal := done s.wakeDone

end Sys2Proof.Machine
end

