-- ==== Sys2Proof/Machine/Twin.lean ====
section
/-! DEFINITION. The twin (16 R414 to R425): attach, forwarded records, checkpoints, heartbeats, losses and the end of a
takeover. -/

namespace Sys2Proof.Machine

/-! ### Attach (16 R414, R415) -/

/-- RATES of a TRAIN payload. -/
def State.rates (s : State) : Nat := b2n (s.bit .tickCtl 0 1) + 2 * b2n (s.bit .tickCtl 1 1)

/-- Why the peer of link `n` is not the twin; 0 if it is. `t` is the payload of its last TRAIN flit. -/
def State.attachRefusal (s : State) (n : Nat) : Nat :=
  let t := (s.link n).train
  let role := byteAt t 4
  firstFail [
    (numAt t 0 2 == s.twinId, 0x704),
    (role != s.fld .linkTwinCfg 0 16 16, 0x705),
    ((byteAt t 3).testBit 2 && decide (role < 2) && numAt t 8 2 == s.rg .linkTwinMirror && byteAt t 10 == s.rates
      && (t.drop 16).take 48 == s.fwHash, 0x704),
    (!s.twin.changed, 0x706)]

/-- Whether a domain takes LINK ticks from a twin link (16 R415). -/
def State.twinSrc (s : State) (d : Nat) : Bool :=
  let u := (s.td d).srcUse
  u.src == 5 && s.bit .linkChCfg u.link 3

/-- Mirrored domains of this standby are LOCKED to a twin link. -/
def State.mirrorLocked (s : State) : Bool :=
  [0, 1].all (fun d => !s.mirrorsDom d || (s.twinSrc d && (s.td d).mon == .locked))

/-- TWIN_ATTACH: a twin link is UP. -/
def State.twinAttach (s : State) (n : Nat) : State :=
  if !(s.bit .linkTwinCfg 0 31 && s.dev.stage == 2 && (s.twin.state == .attaching || s.twin.state == .refused)
      && (s.link n).state == .up && s.bit .linkChCfg n 3) then s
  else
    let r := s.attachRefusal n
    if r ≠ 0 then
      let s1 : State := { s with twin := { s.twin with state := .refused, refuse := r } }
      if numAt (s.link n).train 0 2 = s.twinId then s1 else s1.event 0x0D03 4 0 n (s.link n).peerId
    else if s.standby && !s.mirrorLocked then s
    else (({ s with twin := { s.twin with state := .attached, refuse := 0 } }).event 0x0A04 s.twinId).twinRecord

/-! ### Forwarded records on the standby (16 R416) -/

def State.mirroring (s : State) : Bool := s.standby && s.twin.state == .attached

/-- Do something that sends nothing to a session. -/
def State.hushed (s : State) (f : State → State) : State :=
  let t := f { s with sessions := [] }
  { t with sessions := s.sessions }

/-- A forwarded message is processed and recorded; nothing answers it. -/
def State.inputMsg (s : State) (r : RecIn) : State :=
  match r.msg with
  | none => s
  | some i => s.hushed (fun s =>
      let p := s.playMsg i
      let t := p.s.fitClock
      if p.later then t else t.ringRecord 2 r.subject r.dom r.body)

/-- A transition of the primary's monitor in a mirrored domain. -/
def State.inputSrc (s : State) (d fr dest : Nat) : State :=
  if !s.mirrorsDom d then s
  else match fr, dest with
    | _, 5 => if (s.td d).ticking then s.updTd d (fun t => { t with mon := .stepPending }) else s
    | _, 0 => if (s.td d).ticking then s.updTd d (fun t => { t with stopReq := true }) else s
    | 5, 1 => s.tickRestart d
    | _, _ => s

/-- What a forwarded record does at once. A stream's FAULT waits for the commit of its sample. -/
def State.applyInput (s : State) (r : RecIn) : State :=
  match r.kind with
  | 2 => if r.played then s.inputMsg r else s
  | 3 => s.inputSrc r.subject (recNo r 0 1) (recNo r 1 1)
  | 7 => if recNo r 2 1 = 1 then s.hushed (fun s => s.contextFault r.subject (recNo r 0 2)) else s
  | 10 => if recNo r 0 1 = TwState.detached.code then { s with twin := { s.twin with detach := true } } else s
  | _ => s

/-- TWIN_INPUT. -/
def State.twinInput (s : State) (b : List Byte) : State :=
  if !s.mirroring then s
  else match parseRec b with
    | none => s
    | some r => ({ s with twin := { s.twin with inputs := s.twin.inputs ++ [r] } }).applyInput r

/-! ### Checkpoints on the standby (16 R417) -/

/-- A new checkpoint starts in the receiving half. -/
def Twin.fresh (t : Twin) (f : Nat) : Twin :=
  if t.ckptF = f then t else { t with ckptF := f, packs := [], wr := 0, abandoned := false }

/-- First byte of the receiving half. -/
def State.halfBase (s : State) (a : Area) : Nat := a.base + (if s.twin.half then a.size else 0)

def State.abandonCkpt (s : State) : State :=
  if s.twin.abandoned then s else ({ s with twin := { s.twin with abandoned := true, packs := [] } }).inc .linkTwinStretchCnt

/-- TWIN_CKPT: a pack of checkpoint `f`, of the stream with handle `h`. -/
def State.twinCkpt (s0 : State) (f h : Nat) (pack : List Byte) : State :=
  if !s0.mirroring then s0
  else
    let s : State := { s0 with twin := s0.twin.fresh f }
    match s.cfg.twinArea with
    | none => s.abandonCkpt
    | some a =>
      if s.twin.abandoned || decide (a.size < s.twin.wr + pack.length) then s.abandonCkpt
      else
        let s1 := s.poke (s.halfBase a + s.twin.wr) pack
        { s1 with twin := { s1.twin with wr := s.twin.wr + pack.length, packs := s.twin.packs ++ [(h, pack)] } }

/-- The frame tick of domain `d` that a checkpoint stands for: that of its packs, else its own. -/
def State.ckptTick (s : State) (d f : Nat) (packs : List (Nat × List Byte)) : Option Nat :=
  let mine := packs.filter (fun e => match s.findHandle e.1 with | some i => (s.stream i).dir.domain == d | none => false)
  match mine.head? with
  | some e => some (numAt e.2 0x98 8)
  | none => if s.mirrorsDom d && !([0, 1].any (fun c => decide (c < d) && s.mirrorsDom c)) then some f else none

/-- Whether a forwarded record lies before a checkpoint. -/
def State.isPast (s : State) (f : Nat) (packs : List (Nat × List Byte)) (r : RecIn) : Bool :=
  match s.ckptTick r.dom f packs with
  | some t => decide (r.tick < t)
  | none => false

/-- A record that no takeover applies again any more: a stream's FAULT has come about. -/
def State.retireInput (s : State) (r : RecIn) : State :=
  if r.kind = 7 ∧ recNo r 2 1 = 0 then
    match s.findHandle r.subject with
    | some i => s.hushed (fun s => s.faultStream i (recNo r 0 2))
    | none => s
  else s

/-- Features and marks that the checkpoint has consumed are dropped. -/
def State.consumed (s : State) (h : Nat) (pack : List Byte) : State :=
  match s.findHandle h, parsePack pack with
  | some i, some k =>
    let hop := s.streamHop (s.stream i)
    let f := fun (n : Nat) => if hop = 0 then 0 else n / hop
    s.updStream i (fun x =>
      { x with feat := { x.feat.pruned (f k.sampleIdx) with fNext := max x.feat.fNext (f k.featurePos), marks := x.feat.marks.filter (fun m => decide (k.sampleIdx ≤ m.1)) } })
  | _, _ => s

/-- TWIN_CKPT_END: the receiving half becomes the complete checkpoint if every pack has come. -/
def State.twinCkptEnd (s0 : State) (f cnt : Nat) : State :=
  if !s0.mirroring then s0
  else
    let s : State := { s0 with twin := s0.twin.fresh f }
    if s.twin.abandoned || s.twin.packs.length != cnt then s
    else
      let ps := s.twin.packs
      let old := s.twin.inputs.filter (s.isPast f ps)
      let s1 := (s.each old State.retireInput).each ps (fun s e => s.consumed e.1 e.2)
      let tw := { s1.twin with complete := ps, packs := [], wr := 0, fc := f, half := !s1.twin.half,
                               inputs := s1.twin.inputs.filter (fun r => !old.contains r) }
      { s1 with twin := tw }

/-! ### Heartbeats and losses (16 R419, R421) -/

def State.hbLoss (s : State) : Nat := s.fld .linkTwinCfg 0 21 18

/-- TWIN_HB: the takes of tick `t` are announced. -/
def State.twinHb (s : State) (d t : Nat) : State :=
  if s.mirroring then { s with twin := { s.twin with lastHb := Tab.set s.twin.lastHb d t, hbMissed := 0 } } else s

/-- The twin is lost; a module that was primary runs alone. -/
def State.twinLost (s : State) : State :=
  let tw := { s.twin.still .lost with packs := s.twin.packs, wr := s.twin.wr, abandoned := s.twin.abandoned }
  ((({ s with twin := tw }).releaseHeld).event 0x0A08 s.twinId).twinRecord

/-- TWIN_HB_LOSS. -/
def State.twinHbLoss (s : State) : State :=
  if s.mirroring && decide (s.hbLoss ≤ s.twin.hbMissed) then
    if s.bit .linkTwinCfg 0 17 then s.twinLost else s.takeOver
  else s

/-- TWIN_PRIMARY_LOSS. -/
def State.twinPrimaryLoss (s : State) : State :=
  if s.forwarding && decide (s.hbLoss ≤ s.twin.hbMissed) then s.twinLost else s

/-- TWIN_ORDER: the TWIN reset silences every output (17 R450). -/
def State.twinOrder (s : State) : State :=
  if s.bit .linkTwinCfg 0 31 && !s.bit .linkTwinCfg 0 16 && s.runs then s.deviceReset .twin else s

/-! ### Checkpoints on the primary (16 R417, R418) -/

/-- The pack of one stream goes out, unless work released before its frame tick or a swap is still under way. -/
def State.ckptOne (s : State) (i f : Nat) : Bool × State :=
  let x := s.stream i
  if !x.isOpen then (true, s)
  else if s.beforeF i f || x.dir.loc == .moving then (false, s)
  else match s.twinLinks.head? with
    | none => (true, s)
    | some n =>
      let r := s.sendOn n s.twinId 1 4 (x.handle i) (leBytes 8 s.twin.ckptF ++ s.packOf i none f)
      (true, { r.2 with twin := { r.2.twin with captured := r.2.twin.captured + 1 } })

def State.ckptAll : List (Nat × Nat) → State → List (Nat × Nat) × State
  | [], s => ([], s)
  | c :: t, s =>
    let r := s.ckptOne c.1 c.2
    let q := State.ckptAll t r.2
    (if r.1 then q.1 else c :: q.1, q.2)

/-- TWIN_CKPT_END follows the last capture. -/
def State.ckptClose (s : State) : State :=
  match s.twinLinks.head? with
  | none => s
  | some n =>
    let r := s.sendOn n s.twinId 1 5 0 (leBytes 8 s.twin.ckptF ++ leBytes 4 s.twin.captured ++ leBytes 4 0)
    { r.2 with twin := { r.2.twin with ckptEnd := some (n, r.1) } }

/-- Captures that wait are made as soon as they can be. -/
def State.ckptStep (s : State) : State :=
  if s.forwarding && s.twin.ckptOpen && s.twin.ckptEnd.isNone then
    let r := State.ckptAll s.twin.capture s
    let s1 : State := { r.2 with twin := { r.2.twin with capture := r.1 } }
    if r.1.isEmpty then s1.ckptClose else s1
  else s

/-- The domain whose frame ticks place checkpoints: the lowest mirrored one that issues ticks. -/
def State.ckptDom (s : State) : Option Nat := find1 [0, 1] (fun d => s.mirrorsDom d && (s.td d).ticking)

/-- A checkpoint begins at frame tick `f` of domain `d`. -/
def State.ckptBegin (s : State) (d f : Nat) : State :=
  let l := (s.streamsWhere (fun x => s.mirrors x.dir.pitch)).map (fun i =>
    (i, if (s.stream i).dir.domain = d then f else (s.td (s.stream i).dir.domain).next))
  let tw := { s.twin with capture := l, captured := 0, ckptF := f, ckptOpen := true, ckptEnd := none, ckptRow := 1 }
  ({ s with twin := tw }).ckptStep

/-- A frame tick without a capture. -/
def State.ckptSkip (s : State) (k : Nat) : State :=
  ({ s with twin := { s.twin with ckptRow := 0, inTime := k } }).inc .linkTwinStretchCnt

/-- The checkpoint at a frame tick (16 R417, R418). -/
def State.ckptFrame (s : State) (d f : Nat) : State :=
  if !s.forwarding || s.ckptDom != some d then s
  else if s.twin.ckptOpen then
    let s1 := if s.twin.stretched then s
      else ({ s with twin := { s.twin with stretched := true } }).event 0x0A06 s.twinId d
    s1.ckptSkip 0
  else if s.twin.stretched && s.twin.ckptRow == 1 then
    if 16 ≤ s.twin.inTime + 1 then ({ s with twin := { s.twin with stretched := false, inTime := 0 } }).ckptBegin d f
    else s.ckptSkip (s.twin.inTime + 1)
  else s.ckptBegin d f

/-! ### Heartbeats of the primary, and what both count at a tick (16 R419, R421) -/

/-- TWIN_HB of the tick after `t`, on every twin link. -/
def State.hbSend (s : State) (d t : Nat) : State :=
  if s.forwarding && s.mirrorsDom d then
    s.each s.twinLinks (fun s n =>
      let r := s.sendOn n s.twinId 0 6 0 (leBytes 1 d ++ leBytes 7 0 ++ leBytes 8 (t + 1))
      { r.2 with twin := { r.2.twin with hbSent := r.2.twin.hbSent ++ [(n * 65536 + r.1, d + 2 * (t + 1))] } })
  else s

/-- Whether the heartbeat of tick `t` came to this standby. -/
def State.hbCame (s : State) (d t : Nat) : Bool := match Tab.get? s.twin.lastHb d with | some k => decide (t ≤ k) | none => false

/-- At the edge of tick `t`: whether its heartbeat was acknowledged, or came; older acknowledgements are forgotten. -/
def State.hbCount (s : State) (d t : Nat) : State :=
  if s.ckptDom != some d then s
  else
    let keep := s.twin.hbAcked.filter (fun h => h.1 != d || decide (t ≤ h.2))
    let ok := if s.forwarding then s.hbOk d t else !s.mirroring || s.hbCame d t
    { s with twin := { s.twin with hbAcked := keep, hbMissed := if ok then 0 else s.twin.hbMissed + 1 } }

/-! ### The end of a takeover (16 R422, R424) -/

/-- The last announced tick of a domain. -/
def State.tA (s : State) (d : Nat) : Nat := Tab.getD s.twin.lastHb d 0

/-- Nothing of a swap of the stream goes on. -/
def State.haltSwaps (s : State) (i : Nat) : State :=
  let stop := fun (e : SwapEng) => match e.cur with
    | some o => if o.stream = i then { e with cur := none } else e
    | none => e
  let s1 := s.dropSwaps i
  { s1 with swap := s1.swap.map (fun (e : Nat × SwapEng) => (e.1, stop e.2)) }

/-- One stream takes the state of its pack; what the forwarded messages gave it stays. -/
def State.restoreOne (s : State) (i : Nat) (k : Pack) : State :=
  let x := s.stream i
  let s1 := (((s.haltSwaps i).deadFrames i 0).sweepChunks).releaseSlot i
  let s2 := s1.placePack i k x.dir.laneCompat
  let h := s.streamHop x
  let fin := match x.feat.endAt with | some e => decide (e * h ≤ k.sampleIdx) | none => false
  s2.updStream i (fun y =>
    { y with dir := { y.dir with endSeen := x.dir.endSeen, state := if fin && y.dir.state == .idle then .ended else y.dir.state },
             feat := { y.feat with frames := x.feat.frames, nextE := x.feat.nextE, endAt := x.feat.endAt, marks := x.feat.marks,
                                   bounds := x.feat.bounds, seeds := x.feat.seeds, cut := y.feat.fNext, chunks := [],
                                   encoded := [] } })

/-- Delivery of one stream resumes after t_a: how many samples are computed and not queued is free (log 65). -/
def State.resumeAfter (s : State) (i : Nat) : State :=
  let r := s.draw
  r.2.updStream i (fun x =>
    { x with del := { x.del with queue := [], taking := false, skip := r.1, heldFrom := some (s.tA x.dir.domain), underSent := false },
             life := { x.life with exec := none, dep := x.life.dep && x.dir.loc != .stored } })

def State.restoreAll (s : State) : State :=
  let put := fun (s : State) (e : Nat × List Byte) => match s.findHandle e.1, parsePack e.2 with
    | some i, some k => if s.mirrors (s.stream i).dir.pitch && !k.faulted then s.restoreOne i k else s
    | _, _ => s
  let s1 := s.each s.twin.complete put
  s1.each (s1.streamsWhere (fun x => s1.mirrors x.dir.pitch)) State.resumeAfter

/-- TWIN_RESTORE_DONE: F_c is restored, and the survivor runs alone. -/
def State.restoreDone (s : State) : State :=
  if s.twin.state = .taking then
    let s1 := s.hushed State.restoreAll
    let ds := [0, 1].filter (fun d => s1.mirrorsDom d)
    let s2 : State := { s1 with twin := { s1.twin.still .alone with complete := [] } }
    let s3 := (s2.event 0x0A07 s2.twinId (ds.headD 0) (s.tA (ds.headD 0))).twinRecord
    s3.each (ds.filter (fun d => s3.twinSrc d)) State.sourceLost
  else s

/-! ### Meanings -/

/-- TWIN_ATTACH (16 R414). -/
def execTwinAttach (n : LinkNo) (s : State) : Host.Outcome State Fault Refusal := done (s.twinAttach n.val)
/-- TWIN_INPUT (16 R416). -/
def execTwinInput (b : List Byte) (s : State) : Host.Outcome State Fault Refusal := done (s.twinInput b)
/-- TWIN_CKPT (16 R417). -/
def execTwinCkpt (f : DWord) (tag : Word) (pack : List Byte) (s : State) : Host.Outcome State Fault Refusal :=
  done (s.twinCkpt f.toNat tag.toNat pack)
/-- TWIN_CKPT_END (16 R417). -/
def execTwinCkptEnd (f : DWord) (cnt : Word) (s : State) : Host.Outcome State Fault Refusal := done (s.twinCkptEnd f.toNat cnt.toNat)
/-- TWIN_HB (16 R419). -/
def execTwinHb (d : Dom) (t : DWord) (s : State) : Host.Outcome State Fault Refusal := done (s.twinHb d.val t.toNat)
/-- TWIN_HB_LOSS (16 R421). -/
def execTwinHbLoss (s : State) : Host.Outcome State Fault Refusal := done s.twinHbLoss
/-- TWIN_PRIMARY_LOSS (16 R421). -/
def execTwinPrimaryLoss (s : State) : Host.Outcome State Fault Refusal := done s.twinPrimaryLoss
/-- TWIN_RESTORE_DONE (16 R422). -/
def execTwinRestoreDone (s : State) : Host.Outcome State Fault Refusal := done s.restoreDone
/-- TWIN_ORDER (16 R421). -/
def execTwinOrder (s : State) : Host.Outcome State Fault Refusal := done s.twinOrder
/-- TILE_DISPATCH (09 R229); a checkpoint capture that waited for a commit is made before the stream's next step starts. -/
def execTileDispatch (q : Quarter) (k : UnitKind) (s : State) : Host.Outcome State Fault Refusal :=
  done (s.ckptStep.tileDispatch q.val k)

end Sys2Proof.Machine
end

