-- ==== Sys2Proof/Machine/LinkRx.lean ====
section
/-! DEFINITION. A received flit (16 R398 to R408, R411, R413): the checks, training, acknowledgements, tick markers, routing
and the messages that arrive whole. -/

namespace Sys2Proof.Machine

/-! ### Checks (16 R400) -/

/-- A discarded flit on an UP link: one NAK until an expected flit comes. -/
def Link.discard (l : Link) : Link := if l.nakSent then l else { l with nakSent := true, nakOwed := true }

def State.crcFail (s : State) (n : Nat) : State :=
  let s1 := s.cnt .linkChErrCnt n 15 0 1
  if (s.link n).state = .up then s1.updLink n Link.discard else s1

/-! ### Training (16 R403, R404) -/

/-- A TRAIN flit in EXCHANGE. -/
def State.trainRx (s : State) (n : Nat) (p : List Byte) : State :=
  let id := numAt p 0 2
  if s.idValid && (byteAt p 3).testBit 1 && id == s.ownId then (s.linkTo n .loopback).event 0x0D03 3 0 n
  else
    let s1 := s.updLink n (fun l => { l with seen := true, train := p })
    if (byteAt p 3).testBit 0 then
      let s2 := s1.linkUp n id (byteAt p 2 % 64)
      if s2.fetching then s2.sendImageReq else s2
    else s1

/-! ### Tick markers (16 R413) -/

/-- Whether a marker's index matches: after lock, it is that of the tick just issued or of the next (01 R27; log 44). -/
def TickDom.indexOk (t : TickDom) (n : Nat) : Bool :=
  !(t.mon == .locked || t.mon == .holdover) || n == t.cnt || n == t.next

/-- A TICK flit marks the domains that take their ticks from the link, unless its base rate or, after lock, its index differs:
it is then discarded and counted, and its edge with it (01 R27, 16 R413; log 44). -/
def State.tickRx (s : State) (n : Nat) (p : List Byte) : State :=
  s.each ([0, 1].filter (fun d => (s.td d).srcUse.src == 5 && (s.td d).srcUse.link == n)) (fun s d =>
    if byteAt p 1 = b2n (s.bit .tickCtl d 1) ∧ (s.td d).indexOk (numAt p 8 8) = true then
      s.updTd d (fun t => { t with mark := some (numAt p 8 8), skipEdge := false })
    else (s.discard d).updTd d (fun t => { t with skipEdge := true }))

/-! ### Messages (16 R411) -/

/-- Whether a twin message comes from the twin, on a twin link. -/
def State.fromTwin (s : State) (n src : Nat) : Bool := s.twinIs src && s.bit .linkChCfg n 3

/-- A whole message. -/
def State.linkMsg (s : State) (n src kind tag : Nat) (b : List Byte) : State :=
  let tw := s.fromTwin n src
  match kind with
  | 1 => if 40 ≤ b.length then s.packXfer src tag b else s
  | 2 => if b.length = 16 then s.packResult src b else s
  | 3 => s.cond tw (fun s => s.twinInput b)
  | 4 => s.cond (tw && decide (8 ≤ b.length)) (fun s => s.twinCkpt (numAt b 0 8) tag (b.drop 8))
  | 5 => s.cond (tw && b.length == 16) (fun s => s.twinCkptEnd (numAt b 0 8) (numAt b 8 4))
  | 6 => s.cond (tw && b.length == 16 && decide (byteAt b 0 < 2)) (fun s => s.twinHb (byteAt b 0) (numAt b 8 8))
  | 7 => s.cond (tw && b.length == 8 && byteAt b 0 == 0) State.twinOrder
  | 8 => s.cond (b.length == 8) (fun s => s.imageReq src (numAt b 0 4))
  | 9 => s.cond (tw && decide (8 ≤ b.length)) (fun s => s.imageData (numAt b 0 4) (numAt b 4 4) (b.drop 8))
  | _ => s

/-- A message whose last flit is there: whole, or a gap. -/
def State.linkWhole (s : State) (n : Nat) (a : LAsm) : State :=
  if 16 ≤ a.data.length ∧ numAt a.data 4 4 + 16 = a.data.length then
    s.linkMsg n a.src (numAt a.data 0 2) (numAt a.data 8 4) (a.data.drop 16)
  else s.dropFlits 1

/-- A MSG flit for the device itself joins its message; a gap discards the message. -/
def State.localFlit (s : State) (n : Nat) (f : Flit) : State :=
  let mine := fun (a : LAsm) => a.src == f.src && a.cls == f.cls
  let old := find1 (s.link n).asm mine
  let s1 := s.updLink n (fun l => { l with asm := l.asm.filter (fun a => !mine a) })
  let put := fun (s : State) (d : List Byte) =>
    let a : LAsm := ⟨f.src, f.msgId, f.cls, d⟩
    if f.isLast then s.linkWhole n a else s.updLink n (fun l => { l with asm := l.asm ++ [a] })
  if f.isFirst then put (if old.isSome then s1.dropFlits 1 else s1) f.payload
  else match old with
    | some a => if a.msgId = f.msgId then put s1 (a.data ++ f.payload) else s1.dropFlits 1
    | none => if f.isLast then s1.dropFlits 1 else s1

/-! ### Routing (16 R407 to R409) -/

def Flit.hop (f : Flit) : Flit := { f with hops := f.hops - 1 }

/-- A transit flit leaves on a link. -/
def State.transit (s : State) (n out : Nat) (f : Flit) : State := s.queueFlits out n [f.hop]

/-- The link that a message partly sent keeps. -/
def Link.pin (l : Link) (f : Flit) : Option Nat :=
  (find1 l.pinned (fun p => p.1 == f.src && p.2.1 == f.msgId)).map (fun p => p.2.2)

/-- A unicast flit in transit. -/
def State.transitUni (s : State) (n : Nat) (f : Flit) : State :=
  let out := if f.isFirst then s.routeLink f.dst f.src f.msgId
    else match (s.link n).pin f with | some o => some o | none => s.routeLink f.dst f.src f.msgId
  let unpin := fun (l : Link) => { l with pinned := l.pinned.filter (fun p => !(p.1 == f.src && p.2.1 == f.msgId)) }
  match out with
  | none => (s.updLink n unpin).dropFlits 1
  | some o =>
    let keep := fun (l : Link) => if f.isLast then unpin l else { unpin l with pinned := (unpin l).pinned ++ [(f.src, f.msgId, o)] }
    let s1 := s.updLink n keep
    if (s.link o).state = .up then s1.transit n o f else s1.dropFlits 1

/-- A multicast flit: copies to every other UP link of its entry, and to the device itself. -/
def State.transitMulti (s : State) (n : Nat) (f : Flit) : State :=
  match s.routeOf f.dst with
  | none => s.dropFlits 1
  | some r =>
    if (s.upLinks r).isEmpty && !r.loc then s.dropFlits 1
    else
      let s1 := s.each ((s.upLinks r).filter (fun o => o != n)) (fun s o => s.transit n o f)
      if r.loc then s1.localFlit n f else s1

/-- A MSG flit that arrived on link `n`. -/
def State.msgFlit (s : State) (n : Nat) (f : Flit) : State :=
  if !s.idValid then s.dropFlits 1
  else if f.dst = s.ownId then s.localFlit n f
  else if f.hops = 0 then s.dropFlits 1
  else if isMulticast f.dst then s.transitMulti n f
  else s.transitUni n f

/-! ### One flit -/

/-- A TICK or MSG flit: the next one expected is taken, another is discarded. -/
def State.seqFlit (s : State) (n : Nat) (f : Flit) : State :=
  if f.seq ≠ (s.link n).rxNext then s.updLink n Link.discard
  else
    let s1 := (s.updLink n (fun l => { l with rxNext := (l.rxNext + 1) % 4096, nakSent := false, nakOwed := false })).ackRx n f.ack
    if f.typ = 3 then s1.tickRx n f.payload else s1.msgFlit n f

/-- A good flit on an UP link. -/
def State.upFlit (s : State) (n : Nat) (f : Flit) : State :=
  match f.typ with
  | 0 => s.ackRx n f.ack
  | 1 => s.linkDown n
  | 2 =>
    let s1 := s.ackRx n f.ack
    if (s1.link n).unacked.isEmpty then s1 else s1.resend n
  | _ => s.seqFlit n f

/-- LINK_FLIT_RX. -/
def State.flitRx (s : State) (n : Nat) (b : List Byte) : State :=
  match (s.link n).state with
  | .up => (match parseFlit b with | none => s.crcFail n | some f => s.upFlit n f)
  | .exchange =>
    (match parseFlit b with
     | none => s.crcFail n
     | some f => if f.typ = 1 then s.trainRx n f.payload else s)
  | _ => s

/-- LINK_FLIT_RX (16 R400). -/
def execLinkFlitRx (n : LinkNo) (b : List Byte) (s : State) : Host.Outcome State Fault Refusal :=
  done (s.cond s.linksRun (fun s => s.flitRx n.val b))

end Sys2Proof.Machine
end

