-- ==== Sys2Proof/Machine/Frames.lean ====
section
/-! DEFINITION. Frame housekeeping (01 R22, R23, R33): stopping a domain, group changes and settings (02 R75, R531),
regrouping (04 R128 to R131), chunk sizes and shedding (07 R190, 10 R276), and frame work (07 R180, R184). -/

namespace Sys2Proof.Machine

def State.domPitches (s : State) (d : Nat) : List Nat := s.builtPitches.filter (fun p => s.pitchDom p == d)

/-! ### The stop of a domain (01 R31, R33) -/

/-- Whether frame tick F is not issued: EN = 0, a rate step, or an entry into P2 or P3 (18 R477). -/
def State.stopsHere (s : State) (d : Nat) : Bool :=
  (s.td d).stopReq || (s.td d).mon == .stepPending || s.pwr.target.isSome

/-- EVT_TICK_STOPPED, with F. -/
def State.stoppedEvt (s : State) (d : Nat) : State := s.event 0x0104 d d (s.td d).next

/-- The domain stops: to OFF if EN was written 0, else to STOPPED; a power entry sends and records nothing. -/
def State.stopDom (s : State) (d : Nat) : State :=
  let t := s.td d
  if t.stopReq then (s.toOff d).stoppedEvt d
  else
    let s1 := (s.portsStop d).updTd d (fun t => { t with mon := .stopped, freeRun := false, srcPend := none, run := 0, runOpen := false })
    if t.mon = .stepPending then (srcRecord s s1 d).stoppedEvt d
    else { s1 with pwr := { s1.pwr with stoppedDoms := addMember d s1.pwr.stoppedDoms } }

/-! ### FRAME_DIV and the books of a domain (01 R22, R37) -/

/-- A pending FRAME_DIV comes into force at a multiple of it; K follows (07 R171). -/
def State.newFrameDiv (s : State) (d t : Nat) : State :=
  match (s.td d).framePend with
  | none => s
  | some v =>
    if t % v = 0 then ((s.updTd d (fun x => { x with frameDiv := v, framePend := none })).refitFrames).fitClock else s

/-- EVT_TICK_OVERRUN of the frame just ended; once-per-frame events may be sent anew. -/
def State.frameBooks (s : State) (d : Nat) : State :=
  let n := (s.td d).ovrFrame
  let s1 := if n = 0 then s else (s.updTd d (fun x => { x with ovrFrame := 0 })).event 0x0105 d d n
  let s2 := s1.each (s1.streamsWhere (fun x => x.dir.domain == d && x.del.underSent)) (fun s i =>
    s.updStream i (fun x => { x with del := { x.del with underSent := false } }))
  let s3 : State := { s2 with swap := s2.swap.map (fun (e : Nat × SwapEng) => (e.1, { e.2 with stallSent := false })) }
  s3.each ((s3.swap.filter (fun e => e.2.waiting.isSome)).map (fun e => e.1)) State.swapStall

/-! ### Group settings (02 R75) -/

/-- Groups whose settings were written. -/
def State.setGroups (s : State) : List Nat :=
  (s.regs.filter (fun e => decide (0x21000 ≤ e.1) && decide (e.1 < 0x23000) && e.1 % 8 == 0)).map (fun e => (e.1 - 0x21000) / 8)

/-- The settings of a group take effect: at a frame tick of its members' domain, of a free group at any. -/
def State.groupFrame (s : State) (d g : Nat) : State :=
  let ms := s.members g
  if ms.all (fun i => (s.stream i).dir.domain == d) then
    let lock := s.bit .sdirGrpCfg g 0
    { s with groups := Tab.modify s.groups g Group.blank (fun x =>
        { x with lockstep := lock, fill := s.fld .sdirGrpCfg g 11 1, holding := x.holding && lock, held := if lock then x.held else 0 }) }
  else s

/-! ### Moving a stream between batches (04 R129, R130, 02 R531) -/

/-- Streams that are not moved at a frame tick. -/
def State.unmovable (s : State) (i : Nat) : Bool :=
  let x := s.stream i
  x.life.exportP.isSome || x.life.dep || s.swapping i || x.dir.state == .faulted

/-- Whether Quarter `q` has a slot for the stream without an eviction. -/
def State.slotThere (s : State) (i q : Nat) : Bool :=
  (s.findSlot q (s.stream i).dir.cls).isSome && decide (s.slotsUsed < 8192)

/-- The stream becomes a row of batch `b`; resident state is copied to its Quarter as an LC swap. -/
def State.moveRow (s : State) (i b : Nat) : State :=
  let x := s.stream i
  match s.batch b, s.voiceModels x.dir.pitch x.dir.voice with
  | some y, some m =>
    let drop := fun (z : Batch) => { z with members := z.members.filter (fun k => k != i) }
    let s1 : State := { s with batches := s.batches.map drop }
    let s2 := ((s1.leaveFrame i).joinBatch i b m.1.id).dropBatches
    if x.dir.loc == .resident && x.dir.quarter != y.quarter then
      match s2.findSlot y.quarter x.dir.cls with
      | some r => s2.queueCopy i y.quarter r.1 r.2 true (s2.swapDeadline i)
      | none => s2
    else s2
  | _, _ => s

/-- Whether a move needs no new slot, or finds one. -/
def State.canMove (s : State) (i b : Nat) : Bool :=
  match s.batch b with
  | some y => (s.stream i).dir.loc != .resident || (s.stream i).dir.quarter == y.quarter || s.slotThere i y.quarter
  | none => false

/-- An accepted group change takes effect (02 R531); it waits while the stream is excluded (R130). The spec does not say what
follows when a PAUSED stream joins a running LOCKSTEP group, or a group with one PAUSED member turns LOCKSTEP: that member
stays PAUSED and the others run on (log 105). -/
def State.groupChange (s : State) (i : Nat) : State :=
  let x := s.stream i
  match x.life.grpPend with
  | none => s
  | some c =>
    if s.unmovable i || !(match c.batch with | some b => s.canMove i b | none => true) then s
    else
      let s1 := (s.updStream i (fun y =>
        { y with dir := { y.dir with group := c.group, phase := c.phase }, life := { y.life with grpPend := none } })).groupTidy x.dir.group
      match c.batch with
      | some b => s1.moveRow i b
      | none => s1

def State.groupChanges (s : State) (d : Nat) : State :=
  s.each (s.streamsWhere (fun x => x.dir.domain == d && x.life.grpPend.isSome)) State.groupChange

/-! ### Regrouping (04 R128) -/

/-- Whether a move into a target would raise its Quarter's tick load. -/
def State.raises (s : State) (i : Nat) (b : Batch) : Bool :=
  let x := s.stream i
  match s.voiceModels x.dir.pitch x.dir.voice with
  | none => true
  | some m => match s.fbatch b.pitch b.quarter m.1.id with
    | none => true
    | some f => decide (f.k < s.kOf x.dir.domain x.dir.d (s.params m.1).hop)

/-- Whether a move of a stream into a batch is skipped; `n` moves into its Quarter were made. -/
def State.skipMove (s : State) (i n : Nat) (b : Batch) : Bool :=
  decide (s.fld .qtrBatchCfg b.quarter 7 0 ≤ n) || !s.slotThere i b.quarter || s.raises i b || s.unmovable i

/-- What regrouping has done so far: the state, moves into each Quarter, and streams that stay. -/
structure Regroup where
  s : State
  moves : Tab Nat
  stay : List Nat
  deriving DecidableEq, Repr

/-- Try the targets in order for one stream. -/
def Regroup.try_ (i : Nat) : List Nat → Regroup → Regroup
  | [], r => { r with stay := i :: r.stay }
  | b :: bs, r =>
    match r.s.batch b with
    | none => Regroup.try_ i bs r
    | some y =>
      let q := y.quarter
      if r.s.skipMove i (Tab.getD r.moves q 0) y then
        Regroup.try_ i bs { r with s := (r.s.inc .qtrMoveSkipCnt q).flag .qtrEvt q 3 }
      else { r with s := (r.s.moveRow i b).inc .qtrRegroupCnt q, moves := Tab.modify r.moves q 0 (fun n => n + 1) }

/-- Move streams from the sources to the targets, one at a time. -/
def Regroup.run (targets sources : List Nat) : Nat → Regroup → Regroup
  | 0, r => r
  | f + 1, r =>
    let free := fun (b : Batch) => b.members.filter (fun i => !r.stay.contains i)
    let cands := sources.zipIdx.filterMap (fun p => (r.s.batch p.1).map (fun b => (b, p.2)))
    match pickMin (fun p => [p.1.members.length, 1000 - p.2]) (cands.filter (fun p => !(free p.1).isEmpty)) with
    | none => r
    | some p =>
      let i := (free p.1).headD 0
      let ts := (targets.filterMap r.s.batch).filter (fun b => decide (b.rows < 64))
      let order := (sortBy (fun b => [64 - b.rows, b.quarter, b.id]) ts).map (fun b => b.id)
      Regroup.run targets sources f (Regroup.try_ i order r)

/-- The LC batches of one key. -/
def Regroup.key (r : Regroup) (bs : List Batch) : Regroup :=
  let n := (bs.map (fun b => b.members.length)).sum
  let keep := ceilDiv n 64
  if bs.length ≤ keep then r
  else
    let ranked := (sortBy (fun b => [1000 - b.members.length, b.quarter, b.id]) bs).map (fun b => b.id)
    Regroup.run (ranked.take keep) (ranked.drop keep) n r

def Batch.key (b : Batch) : List Nat := [b.model, b.domain, b.d, b.phase]

/-- Batches on a Quarter with few rows (04 R131). -/
def State.sparseOn (s : State) (q : Nat) : Nat :=
  (s.batches.filter (fun b => b.quarter == q && decide (b.members.length ≤ s.fld .qtrBatchCfg q 13 8))).length

/-- QTR_STAT.SPARSE and its event (04 R131). -/
def State.sparseFrame (s : State) (p : Nat) : State :=
  let qs := s.quarters p
  let s1 := s.each qs (fun s q => s.setFld .qtrStat q 23 16 (min 255 (s.sparseOn q)))
  let total := (qs.map s.sparseOn).sum
  if total = (s.pitch p).sparse then s1
  else
    let s2 := s1.each (qs.filter (fun q => decide (0 < s.sparseOn q))) (fun s q => s.flag .qtrEvt q 4)
    (s2.updPitch p (fun x => { x with sparse := total })).event 0x0402 p (s.pitchDom p) total

/-- Regrouping in a Pitch (04 R128, R131). -/
def State.regroup (s : State) (p : Nat) : State :=
  let mine := s.batches.filter (fun b => b.pitch == p)
  let keys := sortBy (fun k => k) ((mine.map Batch.key).eraseDups)
  let r := keys.foldl (fun (r : Regroup) k => r.key (mine.filter (fun b => b.key == k))) ⟨s, [], []⟩
  let moves := (r.moves.map (fun e => e.2)).sum
  let gone := mine.length - (r.s.batches.filter (fun b => b.pitch == p)).length
  (if moves = 0 then r.s else r.s.event 0x0401 p (s.pitchDom p) moves gone).sparseFrame p

/-! ### Chunk sizes and shedding (07 R189, R190, 10 R276, 05 R148) -/

/-- CHUNK_CUR changes. -/
def State.resize (s : State) (p c : Nat) : State :=
  if c = (s.pitch p).chunkCur then s.updPitch p (fun x => { x with calm := 0 })
  else
    (((s.updPitch p (fun x => { x with chunkCur := c, calm := 0 })).inc .schedPreResizeCnt p).flag .schedPreEvt p 3).event
      0x0405 p (s.pitchDom p) (256 * 2 ^ c)

/-- The clamp into a newly written range. -/
def State.clampChunk (s : State) (p : Nat) : State :=
  let c := (s.pitch p).chunkCur
  let k := min (max c (s.fld .schedPreCfg p 2 0)) (s.fld .schedPreCfg p 6 4)
  if k = c then s else s.resize p k

/-- R190, after the frame just ended. The spec gives no order between the clamp into a range written last and this update at one
frame tick: the clamp comes first (log 112). -/
def State.chunkFrame (s0 : State) (p : Nat) : State :=
  let s := s0.clampChunk p
  let x := s.pitch p
  if x.lateFrame ≠ 0 || x.ovrFrame ≠ 0 then s.resize p (max (x.chunkCur - 1) (s.fld .schedPreCfg p 2 0))
  else if s.fld .schedPreCfg p 15 8 ≤ x.calm + 1 then s.resize p (min (x.chunkCur + 1) (s.fld .schedPreCfg p 6 4))
  else s.updPitch p (fun x => { x with calm := x.calm + 1 })

/-- Why BE tiles of a Pitch are withheld in the frame that begins: false for an overrun, true for the power cap. -/
def State.shedCause (s : State) (p : Nat) : Option Bool :=
  if (s.pitch p).ovrFrame ≠ 0 then some false
  else if (if s.pitchDom p = 0 then s.pwr.cap0 else s.pwr.cap1).shed then some true
  else none

def State.shedFrame (s : State) (p : Nat) : State :=
  let c := s.shedCause p
  let s1 := s.updPitch p (fun x => { x with shed := c })
  match c with
  | none => s1
  | some b =>
    let s2 := (s1.inc .schedBeShedCnt p).flag .schedPitchEvt p 3
    if (s.pitch p).shed.isSome then s2 else s2.event 0x0406 p (s.pitchDom p) (b2n b)

/-- Events about the frame just ended, and its counts cleared. -/
def State.pitchBooks (s : State) (p : Nat) : State :=
  let x := s.pitch p
  let d := s.pitchDom p
  let s1 := if x.lateFrame = 0 then s else s.event 0x0404 p d x.lateFrame
  let s2 := if x.num = (0, 0, 0) then s1 else s1.event 0x0403 p d (x.num.1 + x.num.2.1 * 2 ^ 32) x.num.2.2
  s2.updPitch p (fun x => { x with lateFrame := 0, ovrFrame := 0, num := (0, 0, 0) })

/-! ### Streams at a frame tick -/

/-- R85: a frame tick passes, and a candidate idle for long is queued for swap-out. -/
def State.idleScan (s : State) (i : Nat) : State :=
  let s1 := s.updStream i (fun x => { x with life := { x.life with idleFrames := x.life.idleFrames + 1 } })
  let n := s.fld .sdirStoreCfg 0 7 0
  let x := s1.stream i
  if n ≠ 0 ∧ n ≤ x.life.idleFrames ∧ s1.candidate i ∧ !s1.queuedFor i then s1.enqueue (x.dir.quarter / 4) (.swapOut i) else s1

/-- Captures that were accepted fall due and are queued (03 R89, R99), and host return sends what it holds (15 R386). -/
def State.streamFrame (s : State) (t i : Nat) : State :=
  let due := match (s.stream i).life.exportP with | some e => e.capAt.isNone | none => false
  let s1 := if due then s.enqueue (s.homeQuarter i / 4) (.capture i) else s
  s1.updStream i (fun x =>
    { x with life := { x.life with exportP := x.life.exportP.map (fun e => if e.capAt.isNone then { e with capAt := some t } else e) },
             del := { x.del with flush := x.del.flush || !x.del.hostBuf.isEmpty } })

/-! ### Frame work (07 R180, R184) -/

/-- The first frame neither computed nor in flight. -/
def State.nextFrame (s : State) (i : Nat) : Nat :=
  let rows := (s.execs.filter (fun e => e.sub == .frame && !e.cancelled)).flatMap (fun e => e.rows)
  (rows.filter (fun r => r.stream == i && r.live)).foldl (fun m r => max m (r.pos + 1)) (s.stream i).feat.fNext

/-- Frames from `f` on that may be computed: those encoded and near enough. -/
def State.readyFrames (s : State) (i hop k : Nat) : Nat → Nat → List Nat
  | 0, _ => []
  | n + 1, f =>
    let x := s.stream i
    if f * hop < x.dir.sampleIdx + 2 * k * hop ∧ (Tab.get? x.feat.encoded f).isSome then f :: s.readyFrames i hop k n (f + 1) else []

/-- Frames of the work of this frame tick that lack their encoded frame and were not deferred before (07 R180). -/
def State.lacking (s : State) (i hop k f : Nat) : List Nat :=
  let x := s.stream i
  ((List.range k).map (fun j => f + j)).filter (fun g =>
    decide (g * hop < x.dir.sampleIdx + 2 * k * hop) && (match x.feat.endAt with | some e => decide (g < e) | none => true)
      && (Tab.get? x.feat.encoded g).isNone && decide (x.life.deferred ≤ g))

/-- Deferred frame work is counted, each frame once. -/
def State.defer (s : State) (i : Nat) (l : List Nat) : State :=
  if l.isEmpty then s
  else
    let p := (s.stream i).dir.pitch
    ((s.updStream i (fun y => { y with life := { y.life with deferred := l.foldl (fun m g => max m (g + 1)) y.life.deferred } })).cnt
      .schedPreMissCnt p 31 0 l.length).flag .schedPreEvt p 1

/-- The reads that the frame work of a stream makes: the entry and embedding of an uncached voice, which may take a cache place,
and the adapter (02 R51, 07 R184). A failed read faults the stream (12 R314); the answer says whether all succeeded. -/
def State.voiceReads (s : State) (i : Nat) : Bool × State :=
  let v := (s.stream i).dir.voice
  let x := s.voice v
  let n := if x.rank = 0 then 0 else x.adapterLen
  if s.voiceBad v then (false, ((s.inc .sdirVtMissCnt).readVoice v).faultStream i 1)
  else if !(s.badIn x.adapterAddr n).isEmpty && n != 0 then (false, ((s.fetchVoice v).failedRead x.adapterAddr n 9).faultStream i 1)
  else (true, s.fetchVoice v)

/-- Frame work of one stream: its frames, and the state after its reads, the adapter check and the count of deferrals. -/
def State.frameOf (s : State) (i : Nat) : List Nat × State :=
  let x := s.stream i
  match s.voiceModels x.dir.pitch x.dir.voice with
  | none => ([], s)
  | some m =>
    let hop := (s.params m.1).hop
    let k := s.kOf x.dir.domain x.dir.d hop
    let f := s.nextFrame i
    let fs := s.readyFrames i hop k k f
    let s1 := s.defer i (s.lacking i hop k f)
    if fs.isEmpty then ([], s1)
    else
      let r := s1.voiceReads i
      if !r.1 then ([], r.2)
      else if !x.life.adapterOk && !r.2.adapterFits x then ([], r.2.faultStream i 6)
      else (fs, (r.2.updStream i (fun y => { y with life := { y.life with adapterOk := true } })).openDep i)

/-- Frames of each stream of a list. -/
def State.framesOf : List Nat → State → List (Nat × List Nat) × State
  | [], s => ([], s)
  | i :: t, s =>
    let r := s.frameOf i
    let q := State.framesOf t r.2
    ((i, r.1) :: q.1, q.2)

/-- Executions of a frame batch: the j-th takes the j-th frame of every stream that has one. -/
def State.frameExecs (s : State) (aco : Model) (q : Nat) (be : Bool) (dl : Nat) (l : List (Nat × List Nat)) : State :=
  let n := (l.map (fun e => e.2.length)).foldl max 0
  s.each (List.range n) (fun s j =>
    let rows := l.filterMap (fun e => (e.2[j]?).map (fun f => ({ stream := e.1, pos := f, live := true, set := [] } : Row)))
    (s.newExec .frame aco q be rows dl).release s.nextId)

def State.frameLive (s : State) (i : Nat) : Bool :=
  let x := s.stream i
  (x.dir.state == .run || x.dir.state == .idle) && !x.isClosing

/-- Frame work of the LC frame batches of a Pitch. -/
def State.frameLc (s : State) (p dl : Nat) : State :=
  s.each (s.fbatches.filter (fun f => f.pitch == p)) (fun s f =>
    match s.model p f.model with
    | none => s
    | some aco =>
      let r := State.framesOf (f.members.filter s.frameLive) s
      r.2.frameExecs aco f.quarter false dl r.1)

/-- Frame work of BE streams, by acoustic model and Quarter, at most 64 rows each. -/
def State.frameBe (s : State) (p : Nat) : State :=
  let is := (s.streamsWhere (fun x => x.dir.be && x.dir.pitch == p)).filter s.frameLive
  let key := fun (i : Nat) => ((s.voice (s.stream i).dir.voice).acoustic, s.homeQuarter i)
  s.each ((is.map key).eraseDups) (fun s k =>
    match s.model p k.1 with
    | none => s
    | some aco => s.each (chunks 64 (is.filter (fun i => key i == k))) (fun s l =>
        let r := State.framesOf l s
        r.2.frameExecs aco k.2 true 0 r.1))

/-- Frame work of a Pitch at frame tick `t` (07 R180). -/
def State.frameWork (s : State) (p t : Nat) : State :=
  if s.noRelease p then s else (s.frameLc p (t + s.frameDiv (s.pitchDom p))).frameBe p

/-! ### Housekeeping of a frame tick (01 R23) -/

/-- What one Pitch does at a frame tick. -/
def State.pitchFrame (s : State) (p : Nat) : State :=
  let wait := (s.pitch p).waitMode
  s.muted p (fun s =>
    ((((((((s.applyPitchCfg p).regroup p).chunkFrame p).shedFrame p).pitchBooks p).modelsUsable p).residency p).orderBe p wait))

/-- Frame tick `t` of domain `d`, up to the release of its work. -/
def State.frameTick (s : State) (d t : Nat) : State :=
  let s1 := (((s.frameBooks d).newFrameDiv d t).applySrc d).cfgFrame d
  let s2 := s1.each s1.setGroups (fun s g => s.groupFrame d g)
  let s3 := (s2.groupChanges d).capFrame d
  let s4 := s3.each (s3.domPitches d) State.pitchFrame
  let is := s4.streamsWhere (fun x => x.dir.domain == d)
  let s5 := (s4.each is (fun s i => s.streamFrame t i)).each is State.idleScan
  let s6 := if s5.twin.detach then s5.twinEnd else s5
  s6.ckptFrame d t

end Sys2Proof.Machine
end

