-- ==== Sys2Proof/Machine/TickEdge.lean ====
section
/-! DEFINITION. One tick of a domain (01 R26): overruns (R36), takes (02 R66 to R72), releases (01 R14, 02 R68, 03 R91), and
what else happens at a tick edge. -/

namespace Sys2Proof.Machine

/-! ### Overruns (01 R36) -/

/-- LC step and frame work whose deadline is the edge of tick `t`. -/
def State.missing (s : State) (d t : Nat) : List Exec :=
  s.execs.filter (fun e => !e.be && e.sub != .chunk && !e.cancelled && s.pitchDom e.pitch == d && e.deadline == t
    && e.rows.any (fun r => r.live))

def State.overrun (s : State) (d t : Nat) : State :=
  let l := s.missing d t
  if l.isEmpty then s
  else
    let s1 := ((s.inc .tickOvrCnt d).flag .tickEvt d 4).updTd d (fun x => { x with ovrFrame := x.ovrFrame + 1 })
    let s2 := s1.each ((l.map (fun e => e.pitch)).eraseDups) (fun s p => s.updPitch p (fun x => { x with ovrFrame := x.ovrFrame + 1 }))
    s2.each l (fun s e => s.updExec e.id (fun x => { x with missAt := some s.cycle }))

/-! ### Takes (02 R66 to R72) -/

/-- The fill value of a stream's destination: the last sample that the slot of a port in HOLD mode delivered, else +0
(14 R357). -/
def State.fillOf (s : State) (x : Stream) : Nat :=
  if x.dir.dest < 256 ∧ s.portHold (x.dir.dest / 32) then Tab.getD (s.port (x.dir.dest / 32)).delivered (x.dir.dest % 32) 0 else 0

/-- A value enters the delivery path (02 R66, 15 R386). -/
def State.deliverTake (s : State) (i v : Nat) : State :=
  let s1 := s.updStream i (fun x => { x with del := { x.del with slot := v, fresh := true, takes := x.del.takes + 1 } })
  if (s.stream i).dir.dest = 0x100 then s1.hostPut i v else s1

/-- A take delivers the next sample of the queue. -/
def State.takeOne (s : State) (i : Nat) : State :=
  match (s.stream i).del.queue with
  | [] => s
  | v :: q =>
    let x := s.stream i
    let s1 := (s.updStream i (fun x => { x with del := { x.del with queue := q, hold := false } })).deliverTake i v
    if x.dir.dest < 256 then s1.updPort (x.dir.dest / 32) (fun y => { y with delivered := Tab.set y.delivered (x.dir.dest % 32) v })
    else s1

/-- A take delivers fill and holds the delivery position, with or without a slip (02 R69). -/
def State.takeFill (s : State) (i : Nat) (slip : Bool) : State :=
  let s1 := s.updStream i (fun x =>
    { x with cnt := if slip then x.cnt.addSlip else x.cnt, del := { x.del with hold := slip } })
  s1.deliverTake i (s.fillOf (s.stream i))

/-- An empty queue at a take in RUN or IDLE (02 R67). -/
def State.underrun (s : State) (i : Nat) : State :=
  let x := s.stream i
  let s1 := (s.updStream i (fun x => { x with cnt := x.cnt.addUnder, del := { x.del with underSent := true } })).flag .sdirEvt 0 2
  if x.del.underSent then s1 else s1.event 0x0205 (x.handle i) x.dir.domain

def Stream.active (x : Stream) : Bool := x.dir.state == .run || x.dir.state == .idle

/-- ENDED and DRAIN: no further samples come. -/
def Stream.finishing (x : Stream) : Bool := x.dir.state == .ended || x.dir.state == .drain

/-- Streams that may take at all; takes of a MOVE stop at its frame tick (03 R99). -/
def Stream.takes (x : Stream) : Bool :=
  !x.dir.be && (x.active || x.finishing) && !x.isClosing
    && !(match x.life.exportP with | some e => e.move && e.capAt.isSome | none => false)

/-- QFILL ≥ PRIME (02 R66). -/
def Stream.primed (x : Stream) : Bool := decide (x.del.prime ≤ x.del.queue.length)

/-- A take of a stream that holds only itself (02 R67, R69, R71); in ENDED and DRAIN an empty queue gives fill and counts
nothing (02 R58). -/
def State.takeAlone (s : State) (i : Nat) : State :=
  let x := s.stream i
  if !x.del.queue.isEmpty then s.takeOne i
  else if x.active then (s.underrun i).takeFill i true
  else s.takeFill i false

/-- Takes begin (02 R66); those held since a takeover count as slips (16 R422). -/
def State.beginTakes (s : State) (t i : Nat) : State :=
  s.updStream i (fun x =>
    let n := match x.del.heldFrom with | some a => (t - a - 1) / max 1 x.dir.d | none => 0
    { x with cnt := { x.cnt with slip := satAdd 32 x.cnt.slip n }, del := { x.del with taking := true, heldFrom := none } })

/-- A stream outside LOCKSTEP groups at a take instant. -/
def State.takeStream (s : State) (t i : Nat) : State :=
  let x := s.stream i
  if x.del.taking then s.takeAlone i
  else if x.del.startTick ≤ t ∧ x.primed then (s.beginTakes t i).takeAlone i
  else s

/-- A member of a group that takes together, once its own takes have begun (02 R66, R72). -/
def State.takeMember (s : State) (i : Nat) : State :=
  let x := s.stream i
  if !x.del.taking then s
  else if x.del.queue.isEmpty then s.takeFill i false else s.takeOne i

/-- A held take of a LOCKSTEP group (02 R72 rule 1, rule 4). -/
def State.holdMember (s : State) (i : Nat) : State :=
  let x := s.stream i
  let s1 := if x.active && x.del.queue.isEmpty then s.underrun i else s
  s1.takeFill i (x.dir.state != .ended)

/-- The effective resume fill (02 R72 rule 3). -/
def State.resumeFill (s : State) (g : Nat) (ms : List Nat) : Nat :=
  ms.foldl (fun m i => min m (s.stream i).dir.qdepth) (s.group g).fill

def State.setHold (s : State) (g : Nat) (h : Bool) (n : Nat) : State :=
  { s with groups := Tab.modify s.groups g Group.blank (fun x => { x with holding := h, held := n }) }

/-- The take of a LOCKSTEP group whose takes have begun, over its members (02 R72). -/
def State.groupTake (s : State) (g d : Nat) (ms : List Nat) : State :=
  let test := ms.filter (fun i => (s.stream i).active)
  let grp := s.group g
  let hold := if grp.holding then test.any (fun i => decide ((s.stream i).del.queue.length < s.resumeFill g ms))
    else test.any (fun i => (s.stream i).del.queue.isEmpty)
  if hold then
    let s1 := if grp.holding then s.setHold g true (grp.held + 1)
      else (((s.setHold g true 1).flag .sdirEvt 0 3).event 0x0207 g d)
    (s1.inc .sdirGrpSlip g).each ms State.holdMember
  else
    let s1 := if grp.holding then (s.setHold g false 0).event 0x0208 g d grp.held else s
    s1.each ms State.takeMember

/-- A LOCKSTEP group at a take instant: with every member primed, the takes of those begin whose START_TICK is reached (02
R66); once one member takes, every member enters the test and the hold (02 R72). -/
def State.takeGroup (s : State) (t g d : Nat) (all : List Nat) : State :=
  let ms := all.filter (fun i => (s.stream i).takes)
  let begin_ := if ms.all (fun i => (s.stream i).primed) then
      ms.filter (fun i => !(s.stream i).del.taking && decide ((s.stream i).del.startTick ≤ t)) else []
  let s1 := s.each begin_ (fun s i => s.beginTakes t i)
  if ms.any (fun i => (s1.stream i).del.taking) then s1.groupTake g d ms else s1

/-- Takes of mirrored streams are held while the heartbeat of the tick is not acknowledged (16 R419). -/
def State.gateHeld (s : State) (i : Nat) : State := if (s.stream i).del.taking then s.takeFill i true else s

/-- All takes at the edge of tick `t`; an output queue with a bad word faults its stream first (12 R319). -/
def State.takesAt (s0 : State) (d t : Nat) : State :=
  let takes := fun (x : Stream) => x.dir.domain == d && x.takes && decide (x.dir.d ≠ 0) && t % x.dir.d == x.dir.phase
  let s := s0.each (s0.streamsWhere (fun x => takes x && x.del.bad)) State.bufParity
  let due := (s.streamsWhere takes).filter
    (fun i => !(s.standingBy && s.mirrors (s.stream i).dir.pitch))
  let held := due.filter (fun i => s.mirrors (s.stream i).dir.pitch && !s.hbOk d t)
  let free := due.filter (fun i => !held.contains i)
  let lock := fun (i : Nat) => match (s.stream i).dir.group with | some g => if (s.group g).lockstep then some g else none | none => none
  let s1 := s.each held State.gateHeld
  let s2 := s1.each (free.filter (fun i => (lock i).isNone)) (fun s i => s.takeStream t i)
  s2.each ((free.filterMap lock).eraseDups) (fun s g => s.takeGroup t g d (free.filter (fun i => lock i == some g)))

/-! ### Releases (01 R14, 02 R56, R68, 03 R91) -/

/-- Whether a conditioning frame covers a sample (07 R169). -/
def State.coveredAt (s : State) (i n : Nat) : Bool :=
  let h := s.streamHop (s.stream i)
  decide (h ≠ 0) && (Tab.get? (s.stream i).feat.cond (n / h)).isSome

/-- A member of a batch at its release tick: whether it releases a step, and the state. -/
def State.releaseRow (s : State) (i : Nat) : Bool × State :=
  let x := s.stream i
  let n := (s.flights i).length
  if !x.active || x.isClosing then (false, s)
  else if !s.coveredAt i (x.dir.sampleIdx + n) then (false, if n = 0 then s.starve i else s)
  else
    let s1 := s.runStream i
    if x.dir.qdepth ≤ x.del.queue.length then
      (false, (s1.updStream i (fun x => { x with cnt := x.cnt.addQfull })).flag .sdirEvt 0 6)
    else if x.dir.loc == .resident && !x.life.dep then (true, s1)
    else (true, (((if x.life.dep then s1 else s1.openDep i).inc .sdirSwapLateCnt).flag .sdirResEvt 0 1))

def State.releaseRows : List Nat → State → List Nat × State
  | [], s => ([], s)
  | i :: t, s =>
    let r := s.releaseRow i
    let q := State.releaseRows t r.2
    (if r.1 then i :: q.1 else q.1, q.2)

/-- The step of one LC batch at its tick. -/
def State.batchStep (s : State) (t : Nat) (b : Batch) : State :=
  s.muted b.pitch (fun s =>
    let r := State.releaseRows b.members s
    match r.2.model b.pitch b.model with
    | none => r.2
    | some voc => if r.1.isEmpty then r.2 else (r.2.stepExec voc b.quarter false r.1 (t + b.d)).release r.2.nextId)

/-- Batches of a domain that step at tick `t`; a standby releases nothing for a mirrored Pitch (16 R416). -/
def State.stepsAt (s : State) (d t : Nat) : State :=
  s.each (s.batches.filter (fun b => b.domain == d && decide (b.d ≠ 0) && t % b.d == b.phase
    && !(s.standingBy && s.mirrors b.pitch))) (fun s b => s.batchStep t b)

/-! ### Markers (16 R413) -/

/-- TICK flits on the links that send the domain's ticks. -/
def State.tickFlits (s : State) (d t : Nat) : State :=
  let f : Flit := { dst := 0, src := s.ownId, typ := 3, flags := 0, hops := 0, seq := 0, ack := 0, msgId := 0,
                    payload := leBytes 1 d ++ leBytes 1 (b2n (s.bit .tickCtl d 1)) ++ leBytes 6 0 ++ leBytes 8 t }
  s.each ((List.range 64).filter (fun n => s.bit .linkChCfg n 1 && s.fld .linkChCfg n 2 2 == d && (s.link n).state == .up))
    (fun s n => s.queueFlits n 64 [f])

/-! ### The tick -/

/-- The tick `t` is issued. A monitor interval begins at an index divisible by 1,024 when none runs; one whose end was not
taken begins anew at the next such index (01 R30). -/
def State.issueTick (s : State) (d t : Nat) : State :=
  s.updTd d (fun x =>
    let begin_ := t % 1024 == 0 && (match x.ivFrom with | none => true | some a => decide (a + 2048 ≤ t))
    { x with next := t + 1, issued := true, hist := histTick x.rate16 x.hist, ivFrom := if begin_ then some t else x.ivFrom,
             edgeNs := s.uptime, edges := if begin_ then 0 else x.edges })

/-- Directory parity of the streams of a domain (12 R321). -/
def State.dirChecks (s : State) (d : Nat) : State :=
  if s.memx.badWords.isEmpty then s else s.each (s.streamsWhere (fun x => x.dir.domain == d)) State.dirCheck

/-- Tick `t` of domain `d` is issued, with what it brings about. An overrun counted at the edge of a frame tick belongs to the
frame that ends there: its deadline fell at the end of that frame (01 R36, R37; log 104). -/
def State.runTick (s : State) (d t : Nat) (frame : Bool) : State :=
  let s1 := ((((s.issueTick d t).dirChecks d).overrun d t).hbCount d t)
  let s2 := if frame then s1.frameTick d t else s1
  let s3 := (s2.takesAt d t).stepsAt d t
  let s4 := if frame then s3.each (s3.domPitches d) (fun s p => s.muted p (fun s => s.frameWork p t)) else s3
  let s5 := s4.each ((s4.domPitches d).filter (fun p => (s4.pitch p).shares)) State.orderShares
  let s6 := (((s5.tickTriggers d t frame).assembleAll d t).rtpTicks d)
  ((s6.hbSend d t).ckptStep).tickFlits d t

/-- TICK_EDGE: in REPLAY the records stamped before the tick come first (19 R496); at a frame tick a stop comes before it. -/
def State.tickEdge (s0 : State) (d : Nat) : State :=
  if !(s0.td d).ticking then s0
  else
    let t := (s0.td d).next
    let s := if s0.replay.active then s0.playTick d t else s0
    if !(s.td d).ticking then s
    else
      let frame := t % max 1 (s.td d).frameDiv == 0
      if frame && s.stopsHere d then s.stopDom d else s.runTick d t frame

/-- TICK_EDGE (01 R26). -/
def execTickEdge (d : Dom) (s : State) : Host.Outcome State Fault Refusal := done (s.tickEdge d.val)

end Sys2Proof.Machine
end

