-- ==== Sys2Proof/Machine/Dispatch.lean ====
section
/-! DEFINITION. The meaning of every command: one arm per row of the table. -/

namespace Sys2Proof.Machine

def exec (i : Instr) (s : State) : Host.Outcome State Fault Refusal :=
  match i with
  | .tickEdge d => Sys2Proof.Machine.execTickEdge d s
  | .sourceEdge d offPpm intervalPpm => Sys2Proof.Machine.execSourceEdge d offPpm intervalPpm s
  | .predictedEdgeMissed d => Sys2Proof.Machine.execPredictedEdgeMissed d s
  | .tickHoldover d => Sys2Proof.Machine.execTickHoldover d s
  | .tickLocked d => Sys2Proof.Machine.execTickLocked d s
  | .monitorIntervalEnd d => Sys2Proof.Machine.execMonitorIntervalEnd d s
  | .tickEnSet d => Sys2Proof.Machine.execTickEnSet d s
  | .tickEnClear d => Sys2Proof.Machine.execTickEnClear d s
  | .tickSrcChange d src mult link => Sys2Proof.Machine.execTickSrcChange d src mult link s
  | .tickRestart d => Sys2Proof.Machine.execTickRestart d s
  | .tickFrameWrite d v => Sys2Proof.Machine.execTickFrameWrite d v s
  | .latchedLoRead rq off => Sys2Proof.Machine.execLatchedLoRead rq off s
  | .rcRead rq off => Sys2Proof.Machine.execRcRead rq off s
  | .registerWrite rq off v => Sys2Proof.Machine.execRegisterWrite rq off v s
  | .streamOpen h p => Sys2Proof.Machine.execStreamOpen h p s
  | .streamCloseDrain h handle => Sys2Proof.Machine.execStreamCloseDrain h handle s
  | .streamCloseAbort h handle => Sys2Proof.Machine.execStreamCloseAbort h handle s
  | .streamDrained ix => Sys2Proof.Machine.execStreamDrained ix s
  | .streamAbortDone ix => Sys2Proof.Machine.execStreamAbortDone ix s
  | .streamPause h handle => Sys2Proof.Machine.execStreamPause h handle s
  | .streamResume h handle => Sys2Proof.Machine.execStreamResume h handle s
  | .streamSetGroup h handle group => Sys2Proof.Machine.execStreamSetGroup h handle group s
  | .streamStats h handle claim => Sys2Proof.Machine.execStreamStats h handle claim s
  | .voiceSet h voice entry => Sys2Proof.Machine.execVoiceSet h voice entry s
  | .voiceClear h voice => Sys2Proof.Machine.execVoiceClear h voice s
  | .feature h m => Sys2Proof.Machine.execFeature h m s
  | .chunkCut ix => Sys2Proof.Machine.execChunkCut ix s
  | .swapStart w => Sys2Proof.Machine.execSwapStart w s
  | .swapOutDone w => Sys2Proof.Machine.execSwapOutDone w s
  | .swapInDone w => Sys2Proof.Machine.execSwapInDone w s
  | .slotCopyDone w => Sys2Proof.Machine.execSlotCopyDone w s
  | .packExportSnapshot h e => Sys2Proof.Machine.execPackExportSnapshot h e s
  | .packExportMove h e => Sys2Proof.Machine.execPackExportMove h e s
  | .packCapture ix => Sys2Proof.Machine.execPackCapture ix s
  | .packDelivered ix => Sys2Proof.Machine.execPackDelivered ix s
  | .packImport h laneMode op pack => Sys2Proof.Machine.execPackImport h laneMode op pack s
  | .execRelease sel => Sys2Proof.Machine.execExecRelease sel s
  | .tileDispatch q k => Sys2Proof.Machine.execTileDispatch q k s
  | .tileEnd q k unit => Sys2Proof.Machine.execTileEnd q k unit s
  | .tileTimeout q k unit => Sys2Proof.Machine.execTileTimeout q k unit s
  | .fetchDiscard exec => Sys2Proof.Machine.execFetchDiscard exec s
  | .cancelComplete exec => Sys2Proof.Machine.execCancelComplete exec s
  | .pitchDispatchResume p => Sys2Proof.Machine.execPitchDispatchResume p s
  | .tstlArm n => Sys2Proof.Machine.execTstlArm n s
  | .tstlPass n => Sys2Proof.Machine.execTstlPass n s
  | .tstlReset n => Sys2Proof.Machine.execTstlReset n s
  | .graphLoad h pitch ctx addr => Sys2Proof.Machine.execGraphLoad h pitch ctx addr s
  | .graphCopyDone p => Sys2Proof.Machine.execGraphCopyDone p s
  | .graphUnload h pitch model => Sys2Proof.Machine.execGraphUnload h pitch model s
  | .graphUnloadDone p model => Sys2Proof.Machine.execGraphUnloadDone p model s
  | .pitchBuild h b => Sys2Proof.Machine.execPitchBuild h b s
  | .pitchBuildDone p => Sys2Proof.Machine.execPitchBuildDone p s
  | .pitchDissolve h pitch => Sys2Proof.Machine.execPitchDissolve h pitch s
  | .ctxRegister h c => Sys2Proof.Machine.execCtxRegister h c s
  | .ctxAdmit h ctx => Sys2Proof.Machine.execCtxAdmit h ctx s
  | .ctxTeardown h ctx => Sys2Proof.Machine.execCtxTeardown h ctx s
  | .ctxSpillDone c => Sys2Proof.Machine.execCtxSpillDone c s
  | .ctxRestoreDone c => Sys2Proof.Machine.execCtxRestoreDone c s
  | .kNop k f => Sys2Proof.Machine.execKNop k f s
  | .kEnd k f => Sys2Proof.Machine.execKEnd k f s
  | .kYield k f => Sys2Proof.Machine.execKYield k f s
  | .kWait k f => Sys2Proof.Machine.execKWait k f s
  | .kWaitMet k => Sys2Proof.Machine.execKWaitMet k s
  | .kPass k f => Sys2Proof.Machine.execKPass k f s
  | .kArm k f => Sys2Proof.Machine.execKArm k f s
  | .kTrst k f => Sys2Proof.Machine.execKTrst k f s
  | .kFlush k f => Sys2Proof.Machine.execKFlush k f s
  | .kInv k f => Sys2Proof.Machine.execKInv k f s
  | .kFence k f => Sys2Proof.Machine.execKFence k f s
  | .kioskReleaseDone k => Sys2Proof.Machine.execKioskReleaseDone k s
  | .kCsr k f => Sys2Proof.Machine.execKCsr k f s
  | .kOpr k f => Sys2Proof.Machine.execKOpr k f s
  | .addi k f => Sys2Proof.Machine.execAddi k f s
  | .lui k f => Sys2Proof.Machine.execLui k f s
  | .salu k f => Sys2Proof.Machine.execSalu k f s
  | .ld k f => Sys2Proof.Machine.execLd k f s
  | .st k f => Sys2Proof.Machine.execSt k f s
  | .vld k f => Sys2Proof.Machine.execVld k f s
  | .vst k f => Sys2Proof.Machine.execVst k f s
  | .beq k f => Sys2Proof.Machine.execBeq k f s
  | .bne k f => Sys2Proof.Machine.execBne k f s
  | .blt k f => Sys2Proof.Machine.execBlt k f s
  | .bltu k f => Sys2Proof.Machine.execBltu k f s
  | .jal k f => Sys2Proof.Machine.execJal k f s
  | .jr k f => Sys2Proof.Machine.execJr k f s
  | .valu k f => Sys2Proof.Machine.execValu k f s
  | .vfma k f => Sys2Proof.Machine.execVfma k f s
  | .vcmp k f => Sys2Proof.Machine.execVcmp k f s
  | .vcvt k f => Sys2Proof.Machine.execVcvt k f s
  | .klog2 k f => Sys2Proof.Machine.execKlog2 k f s
  | .kexp2 k f => Sys2Proof.Machine.execKexp2 k f s
  | .ksqrt k f => Sys2Proof.Machine.execKsqrt k f s
  | .krcp k f => Sys2Proof.Machine.execKrcp k f s
  | .ksincosTurn k f => Sys2Proof.Machine.execKsincosTurn k f s
  | .vmovs k f => Sys2Proof.Machine.execVmovs k f s
  | .vred k f => Sys2Proof.Machine.execVred k f s
  | .vgather k f => Sys2Proof.Machine.execVgather k f s
  | .vscatter k f => Sys2Proof.Machine.execVscatter k f s
  | .kioskOverlength k => Sys2Proof.Machine.execKioskOverlength k s
  | .kioskCacheEvict k addr => Sys2Proof.Machine.execKioskCacheEvict k addr s
  | .kskExcClear k => Sys2Proof.Machine.execKskExcClear k s
  | .blockRead addr rq reads => Sys2Proof.Machine.execBlockRead addr rq reads s
  | .scrubRead addr reads => Sys2Proof.Machine.execScrubRead addr reads s
  | .retryWarnSecond => Sys2Proof.Machine.execRetryWarnSecond s
  | .parityRefetchDone q addr => Sys2Proof.Machine.execParityRefetchDone q addr s
  | .movrEnSet n => Sys2Proof.Machine.execMovrEnSet n s
  | .movrEnClear n => Sys2Proof.Machine.execMovrEnClear n s
  | .movrPauseSet n => Sys2Proof.Machine.execMovrPauseSet n s
  | .movrPauseClear n => Sys2Proof.Machine.execMovrPauseClear n s
  | .movrPaused n => Sys2Proof.Machine.execMovrPaused n s
  | .movrStart n rq => Sys2Proof.Machine.execMovrStart n rq s
  | .movrResume n => Sys2Proof.Machine.execMovrResume n s
  | .movrAbort n => Sys2Proof.Machine.execMovrAbort n s
  | .movrTimerTrigger n => Sys2Proof.Machine.execMovrTimerTrigger n s
  | .movrDescFetch n => Sys2Proof.Machine.execMovrDescFetch n s
  | .movrReadData n => Sys2Proof.Machine.execMovrReadData n s
  | .movrDescComplete n => Sys2Proof.Machine.execMovrDescComplete n s
  | .portEnSet p => Sys2Proof.Machine.execPortEnSet p s
  | .portEnClear p => Sys2Proof.Machine.execPortEnClear p s
  | .portRestart p => Sys2Proof.Machine.execPortRestart p s
  | .portFrameStart p => Sys2Proof.Machine.execPortFrameStart p s
  | .portRxFrame p bclks slots => Sys2Proof.Machine.execPortRxFrame p bclks slots s
  | .portClockLost p => Sys2Proof.Machine.execPortClockLost p s
  | .portClockRegained p => Sys2Proof.Machine.execPortClockRegained p s
  | .portRateMeasure p rate16 => Sys2Proof.Machine.execPortRateMeasure p rate16 s
  | .portPinShort p pin => Sys2Proof.Machine.execPortPinShort p pin s
  | .sdoContention p => Sys2Proof.Machine.execSdoContention p s
  | .wclkOutShort => Sys2Proof.Machine.execWclkOutShort s
  | .ethFrameRx p f => Sys2Proof.Machine.execEthFrameRx p f s
  | .ethLinkChange p up lanes => Sys2Proof.Machine.execEthLinkChange p up lanes s
  | .ethNoLight p => Sys2Proof.Machine.execEthNoLight p s
  | .arpRequest p target src => Sys2Proof.Machine.execArpRequest p target src s
  | .neighbourSolicitation p target src => Sys2Proof.Machine.execNeighbourSolicitation p target src s
  | .icmpEcho p target src data => Sys2Proof.Machine.execIcmpEcho p target src data s
  | .icmpv6Echo p target src data => Sys2Proof.Machine.execIcmpv6Echo p target src data s
  | .ktpDatagram src dst udp data => Sys2Proof.Machine.execKtpDatagram src dst udp data s
  | .ktpAckDelay session => Sys2Proof.Machine.execKtpAckDelay session s
  | .ktpRetxTimeout session => Sys2Proof.Machine.execKtpRetxTimeout session s
  | .ktpSessionIdle session => Sys2Proof.Machine.execKtpSessionIdle session s
  | .sessionOpen src tag epoch evtMask maxPayload => Sys2Proof.Machine.execSessionOpen src tag epoch evtMask maxPayload s
  | .sessionClose h => Sys2Proof.Machine.execSessionClose h s
  | .ping h => Sys2Proof.Machine.execPing h s
  | .status h => Sys2Proof.Machine.execStatus h s
  | .identity h => Sys2Proof.Machine.execIdentity h s
  | .imageUpload h kind offset total data => Sys2Proof.Machine.execImageUpload h kind offset total data s
  | .imageProgramDone ok => Sys2Proof.Machine.execImageProgramDone ok s
  | .resetMgmt h => Sys2Proof.Machine.execResetMgmt h s
  | .mgmtResetFire => Sys2Proof.Machine.execMgmtResetFire s
  | .resetPitch h pitch => Sys2Proof.Machine.execResetPitch h pitch s
  | .regRead h addrs => Sys2Proof.Machine.execRegRead h addrs s
  | .regWrite h entries => Sys2Proof.Machine.execRegWrite h entries s
  | .memRead h addr len => Sys2Proof.Machine.execMemRead h addr len s
  | .memWrite h addr data => Sys2Proof.Machine.execMemWrite h addr data s
  | .configStage h data => Sys2Proof.Machine.execConfigStage h data s
  | .configCommit h => Sys2Proof.Machine.execConfigCommit h s
  | .configCommitTimer => Sys2Proof.Machine.execConfigCommitTimer s
  | .pitchRollDrainDone p => Sys2Proof.Machine.execPitchRollDrainDone p s
  | .configRead h => Sys2Proof.Machine.execConfigRead h s
  | .authPolicy h policy tokens => Sys2Proof.Machine.execAuthPolicy h policy tokens s
  | .attest h nonce => Sys2Proof.Machine.execAttest h nonce s
  | .attestSignDone => Sys2Proof.Machine.execAttestSignDone s
  | .debugLevel h level tokens => Sys2Proof.Machine.execDebugLevel h level tokens s
  | .twinDetach h => Sys2Proof.Machine.execTwinDetach h s
  | .hostReturnSend ix => Sys2Proof.Machine.execHostReturnSend ix s
  | .beHostTake ix => Sys2Proof.Machine.execBeHostTake ix s
  | .ptpSync p seq twoStep t1 t2 freqPpm => Sys2Proof.Machine.execPtpSync p seq twoStep t1 t2 freqPpm s
  | .ptpFollowUp p seq t1 => Sys2Proof.Machine.execPtpFollowUp p seq t1 s
  | .ptpDelayResp p seq t4 => Sys2Proof.Machine.execPtpDelayResp p seq t4 s
  | .ptpAnnounce p clock better => Sys2Proof.Machine.execPtpAnnounce p clock better s
  | .ptpDelayReqTimer p t3 => Sys2Proof.Machine.execPtpDelayReqTimer p t3 s
  | .ptpAnnounceTimeout p => Sys2Proof.Machine.execPtpAnnounceTimeout p s
  | .rtpEnSet r => Sys2Proof.Machine.execRtpEnSet r s
  | .rtpPacketSend r => Sys2Proof.Machine.execRtpPacketSend r s
  | .linkEnSet n => Sys2Proof.Machine.execLinkEnSet n s
  | .linkEnClear n => Sys2Proof.Machine.execLinkEnClear n s
  | .linkSignalDetect n => Sys2Proof.Machine.execLinkSignalDetect n s
  | .linkSeekTimeout n => Sys2Proof.Machine.execLinkSeekTimeout n s
  | .linkPatternDecoded n inverted => Sys2Proof.Machine.execLinkPatternDecoded n inverted s
  | .linkTrainSend n => Sys2Proof.Machine.execLinkTrainSend n s
  | .linkFlitRx n flit => Sys2Proof.Machine.execLinkFlitRx n flit s
  | .linkAckTimeout n => Sys2Proof.Machine.execLinkAckTimeout n s
  | .linkSignalLoss n => Sys2Proof.Machine.execLinkSignalLoss n s
  | .linkRetrainTimer n => Sys2Proof.Machine.execLinkRetrainTimer n s
  | .linkRetryWarn n => Sys2Proof.Machine.execLinkRetryWarn n s
  | .routeInstall => Sys2Proof.Machine.execRouteInstall s
  | .packXfer src tag body => Sys2Proof.Machine.execPackXfer src tag body s
  | .packResult src body => Sys2Proof.Machine.execPackResult src body s
  | .packXferTimeout handle => Sys2Proof.Machine.execPackXferTimeout handle s
  | .twinAttach n => Sys2Proof.Machine.execTwinAttach n s
  | .twinInput record => Sys2Proof.Machine.execTwinInput record s
  | .twinCkpt f tag pack => Sys2Proof.Machine.execTwinCkpt f tag pack s
  | .twinCkptEnd f cnt => Sys2Proof.Machine.execTwinCkptEnd f cnt s
  | .twinHb d tick => Sys2Proof.Machine.execTwinHb d tick s
  | .twinHbLoss => Sys2Proof.Machine.execTwinHbLoss s
  | .twinPrimaryLoss => Sys2Proof.Machine.execTwinPrimaryLoss s
  | .twinTakeover => Sys2Proof.Machine.execTwinTakeover s
  | .twinRestoreDone => Sys2Proof.Machine.execTwinRestoreDone s
  | .twinOrder => Sys2Proof.Machine.execTwinOrder s
  | .imageReq src offset => Sys2Proof.Machine.execImageReq src offset s
  | .imageData offset total data => Sys2Proof.Machine.execImageData offset total data s
  | .imageFetchRetry => Sys2Proof.Machine.execImageFetchRetry s
  | .supplyStagesStart => Sys2Proof.Machine.execSupplyStagesStart s
  | .supplyFault => Sys2Proof.Machine.execSupplyFault s
  | .pwrGoodRise => Sys2Proof.Machine.execPwrGoodRise s
  | .pwrGoodHeldLow => Sys2Proof.Machine.execPwrGoodHeldLow s
  | .pinReset => Sys2Proof.Machine.execPinReset s
  | .pinResetRelease => Sys2Proof.Machine.execPinResetRelease s
  | .deviceStart env => Sys2Proof.Machine.execDeviceStart env s
  | .startStepTimeout step => Sys2Proof.Machine.execStartStepTimeout step s
  | .watchdogTimeout => Sys2Proof.Machine.execWatchdogTimeout s
  | .thermalTrip => Sys2Proof.Machine.execThermalTrip s
  | .thermalRelease => Sys2Proof.Machine.execThermalRelease s
  | .pwrReqP1 => Sys2Proof.Machine.execPwrReqP1 s
  | .pwrReqP2 => Sys2Proof.Machine.execPwrReqP2 s
  | .pwrReqP3 => Sys2Proof.Machine.execPwrReqP3 s
  | .powerEntryDone => Sys2Proof.Machine.execPowerEntryDone s
  | .wakePin => Sys2Proof.Machine.execWakePin s
  | .wakeTimer => Sys2Proof.Machine.execWakeTimer s
  | .wakeDone => Sys2Proof.Machine.execWakeDone s
  | .powerMeasure deciwatts => Sys2Proof.Machine.execPowerMeasure deciwatts s
  | .kioskHaltSet => Sys2Proof.Machine.execKioskHaltSet s
  | .kioskHaltClear => Sys2Proof.Machine.execKioskHaltClear s
  | .kioskStep => Sys2Proof.Machine.execKioskStep s
  | .kioskExcRelease => Sys2Proof.Machine.execKioskExcRelease s
  | .kioskViewWrite v => Sys2Proof.Machine.execKioskViewWrite v s
  | .jtagDbgAccess write addr v => Sys2Proof.Machine.execJtagDbgAccess write addr v s
  | .trecStatus h => Sys2Proof.Machine.execTrecStatus h s
  | .trecRead h seq count => Sys2Proof.Machine.execTrecRead h seq count s
  | .trecAck h seq => Sys2Proof.Machine.execTrecAck h seq s
  | .trecClear h => Sys2Proof.Machine.execTrecClear h s
  | .replayBegin h => Sys2Proof.Machine.execReplayBegin h s
  | .replayData h data => Sys2Proof.Machine.execReplayData h data s
  | .replayEnd h => Sys2Proof.Machine.execReplayEnd h s
  | .flitBoundary n => Sys2Proof.Machine.execFlitBoundary n s
  | .reservedOpcode k w => Sys2Proof.Machine.execReservedOpcode k w s
  | .fetchOutsideImage k => Sys2Proof.Machine.execFetchOutsideImage k s

end Sys2Proof.Machine
end

