-- ==== Sys2Proof/Machine/Time.lean ====
section
/-! DEFINITION. The passing of time: one period of the 24.576 MHz internal reference (01 R40; log 2). -/

namespace Sys2Proof.Machine

/-- Uptime after `k` periods of the reference, in ns: 15,625 / 384 ns each (01 R40). -/
def nsAt (k : Nat) : Nat := k * 15625 / 384

/-- ACLK cycles after `k` periods at clock step `st`: 1.60 − 0.05 · `st` GHz (18 R480), 3,125 / 48 each at step 0. -/
def cycAt (st k : Nat) : Nat := k * 3125 * (32 - st) / 1536

/-- A word of a Kiosk's line is spoilt. -/
def Kiosk.spoil (k : Kiosk) (a w : Nat) : Kiosk :=
  let hit := fun (l : CLine) => if l.addr = a ∧ w < 8 ∧ !l.bad.contains w then { l with bad := l.bad ++ [w] } else l
  { k with lines := k.lines.map hit, wbuf := k.wbuf.map hit }

/-- Stored bits change by themselves: whether and where is a free value (12 R318, R319, R321; log 116). -/
def State.spoil (s : State) (u : Config.Upset) : State :=
  match u with
  | .none => s
  | .word a =>
    let w := a / 8 * 8
    if ((0x100000000000 ≤ w ∧ w < 0x100010000000) ∨ (0x180000000000 ≤ w ∧ w < 0x180000800000)) ∧ !s.memx.badWords.contains w then
      { s with memx := { s.memx with badWords := s.memx.badWords ++ [w] } }
    else s
  | .line k a w => { s with kiosks := Tab.adjust s.kiosks k (fun x => x.spoil a w) }
  | .queue i => { s with streams := Tab.adjust s.streams i (fun x => { x with del := { x.del with bad := !x.del.queue.isEmpty } }) }
  | .cond i => { s with streams := Tab.adjust s.streams i (fun x => { x with feat := { x.feat with bad := !x.feat.cond.isEmpty } }) }

/-- One period passes, in which MCLK_IN is measured (14 R370): uptime rises by 40 or 41 ns with an exact average (01 R40). -/
def idle (s : State) : State :=
  let t := s.spoil (Config.upset s.free)
  { t with free := s.free + 1, dev := { s.dev with mclk := Config.mclkIn s.free }, phase := (s.phase + 1) % 1536, uptime := s.uptime + (nsAt (s.phase + 1) - nsAt s.phase),
           cycle := s.cycle + (cycAt s.pwr.step (s.phase + 1) - cycAt s.pwr.step s.phase) }

end Sys2Proof.Machine
end

