-- ==== Sys2Proof/Safety.lean ====
section
/-! DEFINITION. The terms claims use: when a message reaches its own rule, the state its rule sees, which registers the
reports of a command may change, and when two states agree on the others. -/

namespace Sys2Proof.Machine

/-- A message reaches its own rule: its session is open, no wake comes first, and nothing refuses it (15 R374, R383, R384,
18 R478). -/
abbrev State.accepts (s : State) (i : Instr) (h : Hdr) : Prop :=
  msgHdr i = some h ∧ s.open h.session = true ∧ s.mustWake i = false ∧ s.gate i = 0

/-- The state a message's rule sees: in P1, and while a lower state is being entered, the message is a wake cause (18 R478,
R479). -/
def State.woken (s : State) (i : Instr) : State :=
  s.cond (s.pwr.state == 1 || (s.pwr.target.isSome && !noWake i)) (fun t => t.wake 2)

/-- A message is answered: `u` is the state its rule leaves; its record and its reply with status and payload follow, then the
events it queued (15 R382, R384). -/
def answered (i : Instr) (h : Hdr) (s u : State) (st : Nat) (pay : List Byte) : Host.Outcome State Fault Refusal :=
  .next (finish (u.conclude i h s.epoch st pay))

/-- A Kiosk issues the instruction of a command: it runs a tile, is not halted, the command's word is the one at its PC, and
the word is legal (11 R288, R291). -/
abbrev State.kRuns (s : State) (k : KioskNo) (c : Instr) : Prop :=
  ∃ w, kioskWord c = some (k, w) ∧ s.issues k.val w = true ∧ kioskLegal c = true

/-- Tolcon's record of a transition of a tick domain's monitor (01 R31, 19 R490). -/
def State.monRecord (s : State) (d : Nat) (old new : Mon) : State :=
  s.record 3 d d (leBytes 1 old.code ++ leBytes 1 new.code ++ leBytes 2 0 ++ leBytes 4 (s.rg .tickMeasRate d))

/-- A domain that starts with source `u` at the nominal rate `n` (01 R28, R32). -/
def TickDom.fresh (t : TickDom) (u : TickSrc) (n : Nat) : TickDom :=
  { t with srcUse := u, srcPend := none, edges := 0, ivFrom := none, hist := [], base16 := n, held16 := n, phaseErr := 0, rate16 := n,
           clamp := false }

/-- A domain at the start of ACQUIRE, entered from OFF or STOPPED: no run, and a divider that waits for its first edge (01 R31,
R529). -/
def TickDom.acquiring (t : TickDom) : TickDom :=
  { t with mon := .acquire, freeRun := false, runOpen := false, run := 0, missed := 0, divOn := false, outRange := false,
           mark := none, skipEdge := false }

/-- A domain that has reached LOCKED (01 R31). -/
def TickDom.lockedNow (t : TickDom) : TickDom :=
  { t with mon := .locked, freeRun := false, runOpen := false, run := 0, missed := 0 }

/-- A domain in OFF (01 R32). -/
def TickDom.offNow (t : TickDom) : TickDom :=
  { t with mon := .off, stopReq := false, freeRun := false, srcPend := none, run := 0, runOpen := false }

/-- Offsets of the registers that events, Tolcon records, device faults and a failed read of the management core count and flag
in (12 R313, 15 R389, 19 R492, R498). -/
def reportOffs : List Nat :=
  [RegName.off .hostKtpLossCnt 0, RegName.off .hostEvt 0, RegName.off .trecEvt 0, RegName.off .trecLostCnt 0,
   RegName.off .trecDivergeCnt 0, RegName.off .memcCrcFail 0, RegName.off .memcFailAddrLo 0, RegName.off .memcFailAddrHi 0,
   RegName.off .memcEvt 0] ++ (List.range 64).map (fun c => RegName.off .memcChRetry c)

/-- The same and the registers of a clock step, which a message's conclusion may take (18 R480). -/
def concludeOffs : List Nat := reportOffs ++ [RegName.off .pwrStepCnt 0, RegName.off .pwrEvt 0]

/-- Every register but those at the listed offsets holds what it held. -/
def State.sameRegs (s t : State) (but : List Nat) : Prop :=
  ∀ o, o ∉ but → Tab.get? t.regs o = Tab.get? s.regs o

end Sys2Proof.Machine
end

