-- ==== Sys2Proof/Certificates/Slice0/Obligations.lean ====
section
/-! DEFINITION. The statements for the provers, chapter by chapter. -/

open Sys2Proof Sys2Proof.Machine

/-! ### Ticks (01) -/

/-- 01 R31, R32: a domain in OFF starts with the source its registers name, at the nominal rate: LOCAL goes to LOCKED with its
flag, event and record, any other source to ACQUIRE with its record. In every other state a write of EN = 1 only withdraws a
stop that is pending. -/
def Obligations.TickDomainStarts : Prop :=
  ∀ (d : Dom) (s : State),
    let s1 := s.setFld .tickCtl d 0 0 1
    let t0 := (s.td d).fresh (s1.srcRegs d) (16 * s1.baseRate d)
    ((s.td d).mon = .off → s.fld .tickCtl d 4 2 = 0 →
      exec (.tickEnSet d) s = .next (finish
        ((((s1.setTd d t0.lockedNow).flag .tickEvt d 2).event 0x0101 d d).monRecord d .off .locked))) ∧
    ((s.td d).mon = .off → s.fld .tickCtl d 4 2 ≠ 0 →
      exec (.tickEnSet d) s = .next (finish (((s1.portsStop d).setTd d t0.acquiring).monRecord d .off .acquire))) ∧
    ((s.td d).mon ≠ .off →
      exec (.tickEnSet d) s = .next (finish (s1.setTd d { s.td d with stopReq := false })))

/-- 01 R31, R32: a write of EN = 0 stops a domain that issues ticks at its next frame tick, and takes one that issues none to
OFF at once; a restart leaves STOPPED for ACQUIRE and changes no other state. 01 R22, R34: a FRAME_DIV in range waits for the
next frame tick, another sets TICK_CFG_ERR and changes nothing else. 01 R28, R34: a source change with defined codes is
written, and waits for the next frame tick while ticks are issued, is taken up at once in an ACQUIRE without them, and else when
the domain starts (the last is log 38's reading); an undefined code changes nothing but TICK_CFG_ERR. -/
def Obligations.TickDomainControl : Prop :=
  (∀ (d : Dom) (s : State),
    let s1 := s.setFld .tickCtl d 0 0 0
    let u := (s1.portsStop d).setTd d (s.td d).offNow
    ((s.td d).ticking = true →
      exec (.tickEnClear d) s = .next (finish (s1.setTd d { s.td d with stopReq := true }))) ∧
    ((s.td d).ticking = false → (s.td d).mon ≠ .off →
      exec (.tickEnClear d) s = .next (finish (u.monRecord d (s.td d).mon .off))) ∧
    ((s.td d).mon = .off → exec (.tickEnClear d) s = .next (finish u))) ∧
  (∀ (d : Dom) (s : State),
    ((s.td d).mon = .stopped →
      exec (.tickRestart d) s = .next (finish (((s.portsStop d).setTd d
        ((s.td d).fresh (s.srcRegs d) (16 * s.baseRate d)).acquiring).monRecord d .stopped .acquire))) ∧
    ((s.td d).mon ≠ .stopped → exec (.tickRestart d) s = .next (finish s))) ∧
  (∀ (d : Dom) (v : Word) (s : State),
    let f := v.toNat % 8192
    (64 ≤ f ∧ f ≤ 4096 ∧ f % 64 = 0 →
      exec (.tickFrameWrite d v) s = .next (finish ((s.setFld .tickFrame d 12 0 f).setTd d
        { s.td d with framePend := if f = (s.td d).frameDiv then none else some f }))) ∧
    (¬ (64 ≤ f ∧ f ≤ 4096 ∧ f % 64 = 0) →
      exec (.tickFrameWrite d v) s = .next (finish (s.flag .tickEvt d 5)))) ∧
  (∀ (d : Dom) (src : BitVec 3) (mult : BitVec 2) (link : BitVec 6) (s : State),
    let n : TickSrc := ⟨src.toNat, mult.toNat, link.toNat⟩
    let w := ((s.setFld .tickCtl d 4 2 src.toNat).setFld .tickCtl d 6 5 mult.toNat).setFld .tickCtl d 12 7 link.toNat
    (6 ≤ src.toNat ∨ mult = 3 → exec (.tickSrcChange d src mult link) s = .next (finish (s.flag .tickEvt d 5))) ∧
    (src.toNat < 6 → mult ≠ 3 →
      (s.srcRegs d = n → exec (.tickSrcChange d src mult link) s = .next (finish s)) ∧
      (s.srcRegs d ≠ n →
        ((s.td d).ticking = true →
          exec (.tickSrcChange d src mult link) s = .next (finish (w.setTd d { s.td d with srcPend := some n }))) ∧
        ((s.td d).ticking = false → (s.td d).mon = .acquire →
          exec (.tickSrcChange d src mult link) s = .next (finish
            ((w.portsStop d).setTd d ((s.td d).fresh (w.srcRegs d) (16 * w.baseRate d)).acquiring))) ∧
        ((s.td d).mon = .off ∨ (s.td d).mon = .stopped →
          exec (.tickSrcChange d src mult link) s = .next (finish w)))))

/-- 01 R29, R30, R529: a pin edge between the edges of the divided train moves the divider only; an edge of the train is a raw
edge of the monitor interval while ticks are issued; in LOCKED one within 5 % of a period of its prediction (under PTP one while
its servo is locked, R27) is accepted and steers the generator, any other is discarded and counted; in HOLDOVER and ACQUIRE one
whose interval lies within 2 % extends the run, any other begins it anew, in HOLDOVER discarded and counted; in the other
states nothing follows. The edge of a LINK marker discarded on arrival is a raw edge only (log 44). The rate an edge steers to is
a free value (log 3). 01 R29, R31, R32: a predicted edge without one counts as missing in LOCKED, and the held rate is taken
before the first; with 16 missing ones the domain goes to HOLDOVER at the held rate; 64 accepted intervals in ACQUIRE or HOLDOVER
lock it, from ACQUIRE with a LINK source at the marker's index (log 103). 01 R30, R31: the monitor interval of 1,024 ticks ends:
TICK_MEAS_RATE takes the measured rate; an interval of 512 edges or more outside 2 % is out of range, and the second in a row
is a rate step, with its flag, its event and its record. -/
def Obligations.SourceMonitor : Prop :=
  (∀ (d : Dom) (off : Int) (iv : Nat) (s : State),
    let t := s.td d
    let m := 2 ^ t.srcUse.mult
    let divided := (t.srcUse.src = 1 ∨ t.srcUse.src = 2) ∧ m ≠ 1
    let t1 := if divided then { t with divOn := true, divPh := if t.divOn then (t.divPh + 1) % m else 0 } else t
    let t2 := { t1 with edges := if t.ticking then t.edges + 1 else t.edges }
    let near := 980000 ≤ iv ∧ iv ≤ 1020000
    let good := if s.srcPtp d then s.srcServo d = true else near
    let meets := if s.srcPtp d then s.srcServo d = true else off.natAbs ≤ 50000
    let gives := fun (u : State) => exec (.sourceEdge d off iv) s = .next (finish u)
    if t.srcUse.src = 5 ∧ t.skipEdge = true then gives (s.setTd d { t2 with skipEdge := false })
    else if divided ∧ t.divOn = true ∧ (t.divPh + 1) % m ≠ 0 then gives (s.setTd d t1)
    else
      (t.mon = .locked → meets → gives ((s.setTd d { t2 with missed := 0 }).steer d)) ∧
      (t.mon = .locked → ¬ meets → gives (((s.setTd d t2).inc .tickDiscCnt d).flag .tickEvt d 0)) ∧
      (t.mon = .holdover → good → gives (s.setTd d { t2 with run := t.run + 1 })) ∧
      (t.mon = .holdover → ¬ good → gives (((s.setTd d { t2 with run := 0 }).inc .tickDiscCnt d).flag .tickEvt d 0)) ∧
      (t.mon = .acquire → t.runOpen = false → gives (s.setTd d { t2 with runOpen := true, run := 0 })) ∧
      (t.mon = .acquire → t.runOpen = true → good → gives (s.setTd d { t2 with run := t.run + 1 })) ∧
      (t.mon = .acquire → t.runOpen = true → ¬ good → gives (s.setTd d { t2 with run := 0 })) ∧
      (t.mon = .off ∨ t.mon = .stopped ∨ t.mon = .stepPending → gives (s.setTd d t2))) ∧
  (∀ (d : Dom) (s : State),
    let t := s.td d
    (t.mon = .locked → exec (.predictedEdgeMissed d) s = .next (finish ((s.setTd d
      { t with missed := t.missed + 1, held16 := if t.missed = 0 then t.meanRate else t.held16 }).inc .tickMissCnt d))) ∧
    (t.mon ≠ .locked → exec (.predictedEdgeMissed d) s = .next (finish s))) ∧
  (∀ (d : Dom) (s : State),
    let t := s.td d
    let n := 16 * s.baseRate d
    let c := clampRate n t.held16
    let t1 := { t with mon := .holdover, run := 0, missed := 0, divOn := false, rate16 := c,
                       clamp := decide (c ≤ n * 98 / 100 ∨ n * 102 / 100 ≤ c) }
    (t.mon = .locked → 16 ≤ t.missed → exec (.tickHoldover d) s = .next (finish
      (((((s.setTd d t1).cnt .tickHoldCnt d 15 0 1).flag .tickEvt d 1).event 0x0102 d d).monRecord d .locked .holdover))) ∧
    (t.mon ≠ .locked ∨ t.missed < 16 → exec (.tickHoldover d) s = .next (finish s))) ∧
  (∀ (d : Dom) (s : State),
    let t := s.td d
    let lock := fun (u : State) => (((u.setTd d (u.td d).lockedNow).flag .tickEvt d 2).event 0x0101 d d).monRecord d t.mon .locked
    (t.mon = .acquire → 64 ≤ t.run → exec (.tickLocked d) s = .next (finish (lock ((s.setTd d
      { t with next := (match t.mark with | some k => if t.srcUse.src = 5 then k + 1 else t.next | none => t.next),
               issued := t.issued || t.mark.isSome }).steer d)))) ∧
    (t.mon = .holdover → 64 ≤ t.run → exec (.tickLocked d) s = .next (finish (lock (s.steer d)))) ∧
    (¬ (64 ≤ t.run ∧ (t.mon = .acquire ∨ t.mon = .holdover)) → exec (.tickLocked d) s = .next (finish s))) ∧
  (∀ (d : Dom) (s : State),
    let t := s.td d
    let r := t.edges * t.rate16
    let n := 16 * s.baseRate d
    let ends := t.ticking = true ∧ t.issued = true ∧ t.ivFrom = some (t.cnt - 1024) ∧ 1024 ≤ t.cnt
    let out := 512 ≤ t.edges ∧ (t.mon = .locked ∨ t.mon = .holdover) ∧ (r * 100 < n * 1024 * 98 ∨ n * 1024 * 102 < r * 100)
    let u := (s.setRg .tickMeasRate d (r / 1024 % 2 ^ 24)).setTd d
      { t with edges := 0, outRange := decide out, ivFrom := some t.cnt }
    (ends → ¬ (out ∧ t.outRange = true) → exec (.monitorIntervalEnd d) s = .next (finish u)) ∧
    (ends → out → t.outRange = true →
      let h := if t.mon = .locked ∧ t.missed = 0 then t.meanRate else t.held16
      let c := clampRate n h
      let t1 := { u.td d with mon := .stepPending, missed := 0, run := 0, held16 := h, rate16 := c,
                              clamp := decide (c ≤ n * 98 / 100 ∨ n * 102 / 100 ≤ c) }
      exec (.monitorIntervalEnd d) s = .next (finish
        ((((u.setTd d t1).flag .tickEvt d 3).event 0x0103 d d (u.rg .tickMeasRate d)).monRecord d t.mon .stepPending))) ∧
    (¬ ends → exec (.monitorIntervalEnd d) s = .next (finish s)))

/-- 01 R14, R23, R26, R36: a tick of a domain that issues ticks: its index is issued, overruns are counted, at a frame tick the
frame's work is decided; then come takes, the steps of the batches of its phase, the frame work, the movers' triggers, the
ports' entries, and what leaves on links. 01 R32, R33: at a frame tick at which a stop is due, no tick is issued: the domain is
OFF or STOPPED, and its next index, the streams and their work are kept. 19 R496: in REPLAY the records stamped before the tick
are applied first. A domain that issues no ticks does nothing. -/
def Obligations.TickIsIssued : Prop :=
  (∀ (d : Dom) (s0 : State), (s0.td d).ticking = true →
    let t := (s0.td d).next
    let s := if s0.replay.active then s0.playTick d t else s0
    (s.td d).ticking = true →
    let frame := t % max 1 (s.td d).frameDiv = 0
    let s1 := ((((s.issueTick d t).dirChecks d).overrun d t).hbCount d t)
    let s2 := if frame then s1.frameTick d t else s1
    let s3 := (s2.takesAt d t).stepsAt d t
    let s4 := if frame then s3.each (s3.domPitches d) (fun s p => s.muted p (fun s => s.frameWork p t)) else s3
    let s5 := s4.each ((s4.domPitches d).filter (fun p => (s4.pitch p).shares)) State.orderShares
    (¬ (frame ∧ s.stopsHere d = true) → exec (.tickEdge d) s0 = .next (finish
      ((((((s5.tickTriggers d t (decide frame)).assembleAll d t).rtpTicks d).hbSend d t).ckptStep).tickFlits d t))) ∧
    (frame → s.stopsHere d = true → ∃ u, exec (.tickEdge d) s0 = .next u ∧
      (u.td d).mon = (if (s.td d).stopReq then .off else .stopped) ∧ (u.td d).next = (s.td d).next ∧
      u.streams = s.streams ∧ u.execs = s.execs)) ∧
  (∀ (d : Dom) (s : State), (s.td d).ticking = false → exec (.tickEdge d) s = .next (finish s))

/-! ### Streams and voices (02) -/

/-- 02 R53, R54: an open that every check accepts takes the lowest free entry, which becomes IDLE with its generation kept, the
settings of the message and the device's epoch, and answers its handle; every other entry stays. An open that a check refuses
opens nothing, is counted and flagged, and answers that check's status; the checks of R53 come in their order, so a device
without a free entry answers ERR_DIR_FULL whatever the message holds, and one that has one answers VOICE_INVALID for a voice it
cannot use. What the open reads of the directory on its way to the free entry is checked first (12 R321). -/
def Obligations.StreamOpens : Prop :=
  (∀ (h : Hdr) (p : OpenParams) (s : State), s.accepts (.streamOpen h p) h →
    let c := Instr.streamOpen h p
    let w := (s.woken c).openReads
    match w.openCheck p with
    | .no st bw => exec c s = answered c h s (w.openFailed p st bw) st []
    | _ =>
      let i := w.freeIndex.getD 0
      ∃ u, exec c s = answered c h s u 0 (u.openReply i) ∧
        (u.stream i).dir.state = .idle ∧ (u.stream i).dir.gen = (w.stream i).dir.gen ∧
        (u.stream i).dir.voice = p.voice.toNat ∧ (u.stream i).dir.pitch = p.pitch.toNat ∧
        (u.stream i).dir.domain = p.domain.toNat ∧ (u.stream i).dir.dest = p.dest.toNat ∧
        (u.stream i).dir.epoch = w.cfg.epoch ∧ (u.stream i).dir.group = grpOf p.group ∧
        (u.stream i).dir.sampleIdx = 0 ∧ (u.stream i).dir.loc = .initial ∧
        (u.stream i).del.queue = [] ∧ (u.stream i).del.startTick = p.startTick.toNat ∧ (u.stream i).del.sess = h.session ∧
        (u.stream i).cnt = Stream.blank.cnt ∧
        (∀ j, j ≠ i → u.stream j = w.stream j) ∧ u.pitches = w.pitches ∧ u.ctxs = w.ctxs ∧ u.models = w.models ∧
        u.execs = w.execs ∧ u.groups = w.groups ∧ u.td0 = w.td0 ∧ u.td1 = w.td1) ∧
  (∀ (h : Hdr) (p : OpenParams) (s : State), s.accepts (.streamOpen h p) h →
    let c := Instr.streamOpen h p
    let w := (s.woken c).openReads
    (w.freeIndex = none → exec c s = answered c h s ((w.inc .sdirRefuseCnt).flag .sdirEvt 0 1) 0x102 []) ∧
    (w.freeIndex ≠ none → w.voiceOk p.voice.toNat = false → w.memx.badBlocks = [] →
      exec c s = answered c h s ((w.inc .sdirRefuseCnt).flag .sdirEvt 0 1) 0x103 []))

/-- 02 R56, R532: a close by DRAIN of a stream in IDLE, RUN, PAUSED or ENDED makes it DRAIN, one of a stream in DRAIN or whose
close is under way changes nothing, both answer OK; of a FAULTED stream it answers STREAM_FAULTED. A close by ABORT discards its
queue, keeps the entry until its work is done, which commits nothing, and answers OK at once. 02 R44 to R46, R56: when a close
ends its entry is FREE under the next generation, so that the old handle names no stream, and the last event queued is
STREAM_CLOSED; before its time the command changes nothing. The record's own parity errors are met first (12 R321). -/
def Obligations.StreamCloses : Prop :=
  ((∀ (h : Hdr) (x : Word) (s : State) (i : Nat), s.accepts (.streamCloseDrain h x) h →
     let c := Instr.streamCloseDrain h x
     let w := (s.woken c).dirCheck (x.toNat % 2 ^ 17)
     w.findHandle x.toNat = some i →
     ((w.stream i).dir.state ∈ [.idle, .run, .paused, .ended] → (w.stream i).isClosing = false →
       exec c s = answered c h s (w.setStream i
         { w.stream i with dir := { (w.stream i).dir with state := .drain } }) 0 []) ∧
     ((w.stream i).dir.state ≠ .faulted → (w.stream i).dir.state = .drain ∨ (w.stream i).isClosing = true →
       exec c s = answered c h s w 0 []) ∧
     ((w.stream i).dir.state = .faulted → exec c s = answered c h s w 0x111 [])) ∧
   (∀ (h : Hdr) (x : Word) (s : State) (i : Nat), s.accepts (.streamCloseAbort h x) h →
     let c := Instr.streamCloseAbort h x
     let w := (s.woken c).dirCheck (x.toNat % 2 ^ 17)
     w.findHandle x.toNat = some i →
     let y := w.stream i
     exec c s = answered c h s ((w.deadRows i).setStream i
       { y with life := { y.life with closing := if y.life.closing = .no then .abort else y.life.closing },
                del := { y.del with queue := [], hostBuf := [], taking := false } }) 0 [])) ∧
  ((∀ (i : StreamNo) (s : State),
     ((s.stream i).dir.state = .drain → (s.stream i).del.queue = [] → s.atRest i = true →
       exec (.streamDrained i) s = .next (finish ((s.sendHostBuf i).finishClose i))) ∧
     (¬ ((s.stream i).dir.state = .drain ∧ (s.stream i).del.queue = [] ∧ s.atRest i = true) →
       exec (.streamDrained i) s = .next (finish s))) ∧
   (∀ (i : StreamNo) (s : State),
     ((s.stream i).isOpen = true → (s.stream i).isClosing = true → s.atRest i = true →
       exec (.streamAbortDone i) s = .next (finish (s.finishClose i))) ∧
     (¬ ((s.stream i).isOpen = true ∧ (s.stream i).isClosing = true ∧ s.atRest i = true) →
       exec (.streamAbortDone i) s = .next (finish s))) ∧
   (∀ (i : StreamNo) (s : State), (s.stream i).isOpen = true →
     let u := s.finishClose i
     (u.stream i).dir.state = .free ∧ (u.stream i).dir.gen = nextGen (s.stream i).dir.gen ∧
       u.findHandle ((s.stream i).handle i) = none ∧
       ∃ v : State, u = v.event 0x0203 ((s.stream i).handle i) (s.stream i).dir.domain))

/-- 02 R56, R73, R532: a pause makes PAUSED the stream it names, in a LOCKSTEP group every member, where its state is IDLE, RUN or
ENDED, and ends its takes; a resume makes each of them that is PAUSED IDLE again, with its state on the way in. A command whose
stream's state takes none changes nothing: FAULTED answers STREAM_FAULTED, DRAIN or a close under way CLOSED, a pause of a PAUSED
and a resume of a running stream OK. -/
def Obligations.StreamPausesAndResumes : Prop :=
  (∀ (h : Hdr) (x : Word) (s : State) (i : Nat), s.accepts (.streamPause h x) h →
    let c := Instr.streamPause h x
    let w := (s.woken c).dirCheck (x.toNat % 2 ^ 17)
    w.findHandle x.toNat = some i →
    ((w.stream i).dir.group = none → (w.stream i).dir.state ∈ [.idle, .run, .ended] → (w.stream i).isClosing = false →
      exec c s = answered c h s (w.setStream i
        { w.stream i with dir := { (w.stream i).dir with state := .paused },
                          del := { (w.stream i).del with taking := false } }) 0 []) ∧
    ((w.stream i).dir.state ∈ [.idle, .run, .ended] → (w.stream i).isClosing = false →
      exec c s = answered c h s (w.each (w.withGroup i) (fun s j => s.updStream j Stream.pause)) 0 []) ∧
    ((w.stream i).dir.state = .paused → (w.stream i).isClosing = false → exec c s = answered c h s w 0 []) ∧
    ((w.stream i).dir.state = .faulted → exec c s = answered c h s w 0x111 []) ∧
    ((w.stream i).dir.state ≠ .faulted → (w.stream i).dir.state = .drain ∨ (w.stream i).isClosing = true →
      exec c s = answered c h s w 0x112 [])) ∧
  (∀ (h : Hdr) (x : Word) (s : State) (i : Nat), s.accepts (.streamResume h x) h →
    let c := Instr.streamResume h x
    let w := (s.woken c).dirCheck (x.toNat % 2 ^ 17)
    w.findHandle x.toNat = some i →
    ((w.stream i).dir.group = none → (w.stream i).dir.state = .paused → (w.stream i).isClosing = false →
      exec c s = answered c h s ((w.setStream i
        { w.stream i with dir := { (w.stream i).dir with state := .idle } }).openDep i) 0 []) ∧
    ((w.stream i).dir.state = .paused → (w.stream i).isClosing = false →
      exec c s = answered c h s (w.each (w.withGroup i) (fun s j => s.resume1 j)) 0 []) ∧
    ((w.stream i).dir.state ∈ [.idle, .run, .ended] → (w.stream i).isClosing = false → exec c s = answered c h s w 0 []) ∧
    ((w.stream i).dir.state = .faulted → exec c s = answered c h s w 0x111 []) ∧
    ((w.stream i).dir.state ≠ .faulted → (w.stream i).dir.state = .drain ∨ (w.stream i).isClosing = true →
      exec c s = answered c h s w 0x112 [])) ∧
  (∀ (w : State) (i : Nat), w.withGroup i = (match (w.stream i).dir.group with
    | some g => if (w.group g).lockstep then w.members g else [i]
    | none => [i]))

/-- 02 R44: a handle is its entry's index in bits 16:0 and its generation in bits 31:17, of 1 to 32,767; it names the open
entry, and no generation issued is 0, so that the handle 0 names no stream. 02 R46: a handle of another generation, or of a FREE
entry, answers STALE_HANDLE, counted and flagged, and changes no stream, for every message that names a stream. (`w` is the
state once the record's own parity errors are met, 12 R321: without one it is the state the message finds.) -/
def Obligations.StaleHandles : Prop :=
  (∀ (s : State) (i : Nat), i < 131072 → (s.stream i).isOpen = true → 1 ≤ (s.stream i).dir.gen → (s.stream i).dir.gen ≤ 32767 →
    s.handle i < 2 ^ 32 ∧ s.handle i % 2 ^ 17 = i ∧ s.handle i / 2 ^ 17 = (s.stream i).dir.gen ∧
    s.findHandle (s.handle i) = some i) ∧
  (∀ g, 1 ≤ g → g ≤ 32767 → 1 ≤ nextGen g ∧ nextGen g ≤ 32767) ∧
  (∀ s : State, (∀ i, (s.stream i).dir.gen ≠ 0) → s.findHandle 0 = none) ∧
  (∀ (c : Instr) (h : Hdr) (x : Word) (g : Half) (b : Bool) (m : FeatureMsg) (e : ExportParams) (s : State), m.handle = x →
    e.handle = x →
    c ∈ [.streamCloseDrain h x, .streamCloseAbort h x, .streamPause h x, .streamResume h x, .streamSetGroup h x g,
         .streamStats h x b, .feature h m, .packExportSnapshot h e, .packExportMove h e] →
    s.accepts c h →
    let w := (s.woken c).dirCheck (x.toNat % 2 ^ 17)
    ((w.stream (x.toNat % 2 ^ 17)).dir.gen ≠ x.toNat / 2 ^ 17 ∨ (w.stream (x.toNat % 2 ^ 17)).isOpen = false) →
    exec c s = answered c h s ((w.inc .sdirStaleCnt).flag .sdirEvt 0 0) 0x101 []) ∧
  (∀ (s : State) (i : Nat), s.memx.badWords = [] → s.dirCheck i = s)

/-- 02 R61, 15 R386: STREAM_STATS answers the stream's record and, with CLAIM, makes its session the one that STREAM_DATA goes
to. 02 R531, R532: a group command that the stream's state takes none of answers STREAM_FAULTED or CLOSED; a BE stream, or a group
that R70 forbids, GROUP_MISMATCH; a change that keeps the phase waits for the next frame tick; one that changes it is placed at
the group's phase, its place reserved beside the old one, or refused with the status of the placement. -/
def Obligations.StreamStatsAndGroup : Prop :=
  (∀ (h : Hdr) (x : Word) (claim : Bool) (s : State) (i : Nat), s.accepts (.streamStats h x claim) h →
    let c := Instr.streamStats h x claim
    let w := (s.woken c).dirCheck (x.toNat % 2 ^ 17)
    w.findHandle x.toNat = some i →
    let y := { w.stream i with del := { (w.stream i).del with sess := h.session } }
    (claim = false → exec c s = answered c h s w 0 (w.stream i).record) ∧
    (claim = true → exec c s = answered c h s (w.setStream i y) 0 y.record)) ∧
  (∀ (h : Hdr) (x : Word) (g : Half) (s : State) (i : Nat), s.accepts (.streamSetGroup h x g) h →
    let c := Instr.streamSetGroup h x g
    let w := (s.woken c).dirCheck (x.toNat % 2 ^ 17)
    w.findHandle x.toNat = some i →
    let d := (w.stream i).dir
    let into := grpOf g
    let fits := match into with | none => true | some n => w.groupOk n i d.domain d.d d.dest
    let ph := match into.bind (fun n => w.groupPhase n i) with | some p => p | none => d.phase
    let u := w.unreserve i
    (d.state = .faulted → exec c s = answered c h s w 0x111 []) ∧
    (d.state ≠ .faulted → d.state = .drain ∨ (w.stream i).isClosing = true → exec c s = answered c h s w 0x112 []) ∧
    (d.state ∈ [.idle, .run, .paused, .ended] → (w.stream i).isClosing = false →
      (d.be = true ∨ fits = false → exec c s = answered c h s w 0x109 []) ∧
      (d.be = false → fits = true → ph = d.phase → exec c s = answered c h s (u.setPend i ⟨into, none, ph⟩) 0 []) ∧
      (d.be = false → fits = true → ph ≠ d.phase → u.voiceModels d.pitch d.voice = none →
        exec c s = answered c h s w 0x105 []) ∧
      (d.be = false → fits = true → ph ≠ d.phase → ∀ m, u.voiceModels d.pitch d.voice = some m →
        (∀ st bw, u.admission d.pitch d.domain d.d m.1 m.2 (some ph) = .no st bw →
          exec c s = answered c h s (w.admRefused d.pitch bw) st []) ∧
        (∀ pl, u.admission d.pitch d.domain d.d m.1 m.2 (some ph) = .ok pl →
          let b := u.formBatch d.pitch d.domain d.d m.2 pl
          exec c s = answered c h s ((b.2.updBatch b.1 (fun y => { y with reserved := addMember i y.reserved })).setPend i
            ⟨into, some b.1, ph⟩) 0 []))))

/-- 02 R48, R50: a VOICE_SET that the checks accept writes the entry's 128 bytes: VALID, the payload, the next generation, no
reference, the content's hash; one that a check refuses leaves the entry as it was and answers its status. A VOICE_CLEAR of an
unreferenced valid voice clears its first byte, of one that is not valid changes nothing and answers OK; of a referenced one, or
of one past the table, it answers VOICE_BUSY or VOICE_INVALID and changes nothing. -/
def Obligations.VoiceTable : Prop :=
  (∀ (h : Hdr) (v : Half) (e : List Byte) (s : State), s.accepts (.voiceSet h v e) h →
    let c := Instr.voiceSet h v e
    let gen := ((s.voice v.toNat).gen + 1) % 2 ^ 32
    let hash := sha256 (s.voiceBytes (parseVoice e))
    let u := (s.woken c).poke (s.voiceAddr v.toNat)
      ([1#8] ++ e.drop 1 ++ leBytes 4 gen ++ leBytes 4 0 ++ hash ++ List.replicate 48 0#8)
    let w := { u with vcache := u.vcache.filter (fun x => x != v.toNat) }
    (s.voiceSetCheck v.toNat e = 0 →
      exec c s = answered c h s w 0 (leBytes 4 (w.voice v.toNat).gen ++ leBytes 4 0 ++ (w.voice v.toNat).hash)) ∧
    (s.voiceSetCheck v.toNat e ≠ 0 →
      ∃ t, exec c s = answered c h s t (s.voiceSetCheck v.toNat e) [] ∧ t.mem = s.mem ∧ t.vcache = s.vcache ∧
        t.streams = s.streams ∧ (s.memx.badBlocks = [] → t = s.woken c))) ∧
  (∀ (h : Hdr) (v : Half) (s : State), s.accepts (.voiceClear h v) h →
    let c := Instr.voiceClear h v
    let u := (s.woken c).poke (s.voiceAddr v.toNat) [0#8]
    (16384 ≤ v.toNat → exec c s = answered c h s (s.woken c) 0x103 []) ∧
    (v.toNat < 16384 → (s.voice v.toNat).refcnt ≠ 0 → exec c s = answered c h s (s.woken c) 0x104 []) ∧
    (v.toNat < 16384 → (s.voice v.toNat).refcnt = 0 → (s.voice v.toNat).valid = false →
      exec c s = answered c h s (s.woken c) 0 []) ∧
    (v.toNat < 16384 → (s.voice v.toNat).refcnt = 0 → (s.voice v.toNat).valid = true →
      s.partBad (s.voiceAddr v.toNat) 1 = none →
      exec c s = answered c h s { u with vcache := u.vcache.filter (fun x => x != v.toNat) } 0 []))

/-- 15 R385: a FEATURE that a check refuses changes nothing and answers that check's status; an accepted one sets its marks, then
stores its new frames after the frames held, then sets END, and its reply says how many frames were new and how many marks were
refused; its frames stand under their numbers, and new ones end an END in force. 07 R185, R192: a chunk of the stream's next
frames is cut, one execution for each part between restart boundaries, with a residency dependence, when a case of R185 holds;
otherwise nothing. -/
def Obligations.FeatureFrames : Prop :=
  (∀ (h : Hdr) (m : FeatureMsg) (s : State) (i : Nat), s.accepts (.feature h m) h →
    let c := Instr.feature h m
    let w := (s.woken c).dirCheck (m.handle.toNat % 2 ^ 17)
    w.findHandle m.handle.toNat = some i →
    let st := w.featureCheck i m
    let n := newFrames (w.stream i).feat.nextE m.first.toNat m.frames.length
    let r := State.marks i (m.marks.map markOf) w
    let u := r.2.2.storeFrames i m
    (st ≠ 0 → exec c s = answered c h s w st []) ∧
    (st = 0 → exec c s = answered c h s (if m.endFlag then u.putEnd i else u) 0 (leBytes 4 n ++ leBytes 2 r.1 ++ leBytes 2 r.2.1)) ∧
    (st = 0 → m.marks = [] → m.endFlag = false → m.first.toNat = (w.stream i).feat.nextE → m.frames ≠ [] →
      (w.stream i).dir.state = .run → (w.stream i).dir.loc = .resident →
      ∃ t, exec c s = .next t ∧ (t.stream i).feat.nextE = (w.stream i).feat.nextE + m.frames.length ∧
        (∀ k f, m.frames[k]? = some f → Tab.get? (t.stream i).feat.frames ((w.stream i).feat.nextE + k) = some f) ∧
        (t.stream i).feat.endAt = none ∧ (t.stream i).dir.state = .run ∧
        (t.stream i).dir.sampleIdx = (w.stream i).dir.sampleIdx ∧ ∀ j, j ≠ i → t.stream j = w.stream j)) ∧
  (∀ (i : StreamNo) (s : State),
     match s.nextChunk i with
     | some n =>
       let x := (s.stream i).feat
       let parts := chunkParts x.bounds x.cut n
       ∃ t, exec (.chunkCut i) s = .next t ∧ (t.stream i).feat.cut = x.cut + n ∧
         ((t.stream i).feat.chunks.map (fun c => (c.f0, c.n))) = x.chunks.map (fun c => (c.f0, c.n)) ++ parts ∧
         t.execs.length = s.execs.length + parts.length ∧ (t.stream i).life.dep = true ∧
         t.mem = s.mem ∧ ∀ j : StreamNo, j ≠ i → t.stream j = s.stream j
     | none => exec (.chunkCut i) s = .next (finish s))

/-! ### Residency and packs (03) -/

/-- 03 R83, R86, R89: an idle swap engine takes the operation at the head of its queue when that can go ahead: a swap-in whose
Quarter has a free slot makes the stream MOVING with that slot, one without room has its eviction made or waits, a copy or a
swap-out that nothing holds makes its stream MOVING; an engine at work or with an empty queue starts nothing. 03 R87, R90, R93, 04
R127: what the end of a copy leaves. A swap-out ends STORED with its bytes in the store entry and its slot free, or resident
where the stream is wanted again; a swap-in ends resident with the bytes of the store entry, or with a fresh state, unless a
block of it failed, which leaves the stream STORED and faults it; a copy between Quarters ends resident in the new slot. A bad
word in the slot faults the stream, which stays where it is (log 106). A swap-in without room is tried again when a slot is
freed. -/
def Obligations.SwapsRun : Prop :=
  ((∀ (w : Ward) (s : State) (i : Nat) (lc : Bool) (dl q : Nat) (fresh : Bool) (rest : List SwapOp),
     (s.engine w).cur = none → (s.engine w).queue = .swapIn i lc dl q fresh :: rest → s.evictPending w = false →
     (∀ n k, s.roomFor q (s.stream i).dir.cls = .slot n k →
       ∃ t, exec (.swapStart w) s = .next t ∧ (t.engine w).cur = some (.swapIn i lc dl q fresh) ∧
         (t.stream i).dir = { (s.stream i).dir with loc := .moving, quarter := q, slot := slotUnits (s.stream i).dir.cls n k } ∧
         t.mem = s.mem ∧ ∀ j, j ≠ i → t.stream j = s.stream j) ∧
     (∀ v, s.roomFor q (s.stream i).dir.cls = .evict v →
       let u := (s.evict v).updEngine w (fun e => { e with evicting := some v })
       exec (.swapStart w) s = .next (finish (if (u.engine w).cur.isSome then u else State.tryOps w rest true u))) ∧
     (s.roomFor q (s.stream i).dir.cls = .none →
       exec (.swapStart w) s = .next (finish (State.tryOps w rest true (s.swapWait w i))))) ∧
   (∀ (w : Ward) (s : State) (i q n k dl : Nat) (lc : Bool) (rest : List SwapOp),
     (s.engine w).cur = none → (s.engine w).queue = .copy i q n k lc dl :: rest →
     (∀ e ∈ s.flights i, e.quarter = q) → (s.stream i).dir.loc = .resident →
     exec (.swapStart w) s = .next (finish ((s.beginOp w (.copy i q n k lc dl)).setLoc i .moving))) ∧
   (∀ (w : Ward) (s : State) (i : Nat) (rest : List SwapOp),
     (s.engine w).cur = none → (s.engine w).queue = .swapOut i :: rest → s.candidate i = true → s.flights i = [] →
     exec (.swapStart w) s = .next (finish (s.startOut w i))) ∧
   (∀ (w : Ward) (s : State), (s.engine w).cur.isSome = true ∨ (s.engine w).queue = [] →
     exec (.swapStart w) s = .next (finish s))) ∧
  ((∀ (w : Ward) (s : State) (i : Nat), (s.engine w).cur = some (.swapOut i) →
     let x := s.stream i
     let n := slotBytes x.dir.cls
     let u := ((s.move (s.slotAddr x) (s.storeAddr i) n).rbBytes w n).engineDone w
     (s.badWordsIn (s.slotAddr x) n = [] →
       (x.life.dep = false → exec (.swapOutDone w) s = .next (finish
         (((u.releaseSlot i).setLoc i .stored).inc .sdirSwapOutCnt).retryWaits)) ∧
       (x.life.dep = true → exec (.swapOutDone w) s = .next (finish
         ((((u.setLoc i .resident).closeDep i).inc .sdirSwapReclaimCnt).applyDue i))) ∧
       (∀ k, k < n → u.mem.read (s.storeAddr i + k) = s.mem.read (s.slotAddr x + k)) ∧
       (∀ a, a < s.storeAddr i ∨ s.storeAddr i + n ≤ a → u.mem.read a = s.mem.read a) ∧ u.streams = s.streams) ∧
     (s.badWordsIn (s.slotAddr x) n ≠ [] → exec (.swapOutDone w) s = .next (finish
       ((((s.engineDone w).setLoc i .resident).slotParity i (s.slotAddr x) n).closeDep i)))) ∧
   (∀ (w : Ward) (s : State) (i : Nat) (lc : Bool) (dl q : Nat), (s.engine w).cur = some (.swapIn i lc dl q false) →
     let n := slotBytes (s.stream i).dir.cls
     (s.badIn (s.storeAddr i) n = [] → (s.stream i).feat.marks = [] →
       ∃ t, exec (.swapInDone w) s = .next t ∧ (t.stream i).dir = { (s.stream i).dir with loc := .resident } ∧
         (t.stream i).life.dep = false ∧ (t.engine w).cur = none ∧
         (∀ k, k < n → t.mem.read (s.slotAddr (s.stream i) + k) = s.mem.read (s.storeAddr i + k)) ∧
         (∀ a, a < s.slotAddr (s.stream i) ∨ s.slotAddr (s.stream i) + n ≤ a → t.mem.read a = s.mem.read a) ∧
         ∀ j, j ≠ i → t.stream j = s.stream j) ∧
     (s.badIn (s.storeAddr i) n = [] → exec (.swapInDone w) s = .next (finish
       ((((((((s.move (s.storeAddr i) (s.slotAddr (s.stream i)) n).rbBytes w n).rbLate w (if lc then some dl else none)).engineDone
         w).setLoc i .resident).closeDep i).inc .sdirSwapInCnt).applyDue i))) ∧
     (s.badIn (s.storeAddr i) n ≠ [] → exec (.swapInDone w) s = .next (finish
       ((s.failedRead (s.storeAddr i) n 2).swapInFail w i)))) ∧
   (∀ (w : Ward) (s : State) (i : Nat) (lc : Bool) (dl q : Nat), (s.engine w).cur = some (.swapIn i lc dl q true) →
     exec (.swapInDone w) s = .next (finish
       ((((((s.poke (s.slotAddr (s.stream i)) (s.freshState i)).engineDone w).setLoc i .resident).closeDep i).inc
         .sdirSwapInCnt).applyDue i))) ∧
   (∀ (w : Ward) (s : State) (i q n k dl : Nat) (lc : Bool), (s.engine w).cur = some (.copy i q n k lc dl) →
     let x := s.stream i
     let dest := qBase q + slotUnits x.dir.cls n k * 4096
     let u := ((s.move (s.slotAddr x) dest (slotBytes x.dir.cls)).engineDone w).releaseSlot i
     let at_ := { x with dir := { x.dir with quarter := q, slot := slotUnits x.dir.cls n k, loc := .resident } }
     (s.badWordsIn (s.slotAddr x) (slotBytes x.dir.cls) = [] →
       exec (.slotCopyDone w) s = .next (finish ((((u.setStream i at_).closeDep i).applyDue i).retryWaits)) ∧
       (∀ b, b < slotBytes x.dir.cls → u.mem.read (dest + b) = s.mem.read (s.slotAddr x + b)) ∧
       (∀ a, a < dest ∨ dest + slotBytes x.dir.cls ≤ a → u.mem.read a = s.mem.read a) ∧ u.streams = s.streams) ∧
     (s.badWordsIn (s.slotAddr x) (slotBytes x.dir.cls) ≠ [] → exec (.slotCopyDone w) s = .next (finish
       (((((s.engineDone w).freeSlot q n k).setLoc i .resident).closeDep i).slotParity i (s.slotAddr x)
         (slotBytes x.dir.cls))))))

/-- 03 R98: an export of a stream that has one pending answers ERR_EXPORT_PENDING and changes nothing; another is taken, in
either mode, with the state of the stream on the way in. 03 R99, R100: the capture of an export whose frame tick has come, once
the work released before it is done and the stream is resident, takes the pack as of that tick and ends the export, a MOVE with
its queue and its close; it is sent over a link when its target is a device; until then the command changes nothing. A parity
error in the slot is met first (R93). The pack then leaves as PACK_DATA, or has left on its link, is counted, and its event
follows. -/
def Obligations.PackExports : Prop :=
  (∀ (h : Hdr) (e : ExportParams) (move : Bool) (s : State) (i : Nat),
    let c := if move then Instr.packExportMove h e else Instr.packExportSnapshot h e
    let w := (s.woken c).dirCheck (e.handle.toNat % 2 ^ 17)
    let x : Export :=
      { move := move, toDevice := e.toDevice, device := e.device.toNat, session := h.session,
        tag := h.tag.toNat, opn := openBytes e.op, capAt := none, queue := [], pack := [] }
    s.accepts c h → w.findHandle e.handle.toNat = some i →
    ((w.stream i).life.exportP.isSome = true → exec c s = answered c h s w 0x201 []) ∧
    ((w.stream i).life.exportP = none →
      exec c s = answered c h s (((w.setStream i
        { w.stream i with life := { (w.stream i).life with exportP := some x } }).wakeCtxOf i).openDep i) 0 [])) ∧
  (∀ (i : StreamNo) (s0 : State),
    let s := if (s0.stream i).capturing = true ∧ (s0.stream i).dir.loc = .resident ∧ s0.captureTurn i = true then
      s0.slotParity i (s0.slotAddr (s0.stream i)) (slotBytes (s0.stream i).dir.cls) else s0
    let ready := fun (e : Export) (f : Nat) => (s.stream i).life.exportP = some e ∧ e.capAt = some f ∧
      (s.stream i).dir.loc = .resident ∧ s.beforeF i f = false ∧ s.captureTurn i = true
    (∀ e f, ready e f →
      let x := s.stream i
      let pack := s.packOf i (if e.move then some x.del.queue else none) f
      let xf : Xfer :=
        { idx := i, handle := x.handle i, toDevice := e.toDevice, srcTick := f, dest := e.device, tag := e.tag,
          session := e.session, move := e.move, pack := pack, msg := none, sentAt := s.uptime, delivered := false, answers := 0 }
      let u : State := { s with swap := s.swap.map (fun g => (g.1, { g.2 with queue := g.2.queue.filter (fun o => o != .capture i) })) }
      let v := u.setStream i { x with life := { x.life with exportP := none } }
      let z := if e.move then v.closeAbort i else v
      (e.toDevice = false → exec (.packCapture i) s0 = .next (finish { z with xfers := s.xfers ++ [xf] })) ∧
      (e.toDevice = true →
        let r := z.sendRouted e.device 2 1 e.tag (xferBody e.opn x.dir.laneCompat (x.handle i) pack)
        exec (.packCapture i) s0 = .next (finish { r.2 with xfers := r.2.xfers ++ [{ xf with msg := r.1.id }] }))) ∧
    ((∀ e f, ¬ ready e f) → exec (.packCapture i) s0 = .next (finish s))) ∧
  (∀ (i : StreamNo) (s : State),
    let goes := fun (x : Xfer) => x.idx == i.val && s.deliverable x
    (∀ x, s.xfers.find? goes = some x →
      let same := fun (y : Xfer) => y.idx == i.val && y.srcTick == x.srcTick && y.handle == x.handle
      let tell := fun (u : State) =>
        finish ((u.inc .sdirPackExpCnt).event 0x0302 x.handle (s.stream i).dir.domain x.srcTick)
      (x.toDevice = false → exec (.packDelivered i) s = .next (tell
        (({ s with xfers := s.xfers.filter (fun y => !same y) } : State).sendMsg x.session 0xF2 0 0 s.epoch
          (leBytes 4 x.handle ++ leBytes 4 0 ++ x.pack)))) ∧
      (x.toDevice = true → exec (.packDelivered i) s = .next (tell
        { s with xfers := updWhere same (fun y => { y with delivered := true }) s.xfers }))) ∧
    (s.xfers.find? goes = none → exec (.packDelivered i) s = .next (finish s)))

/-- 03 R101, R102: an import opens a stream that continues where the pack stands; a pack with a bad layout or a bad CRC, of a
faulted stream, whose open a check refuses, or that does not fit the voice and its images, is refused, counted, flagged and
reported, and nothing opens. -/
def Obligations.PackImports : Prop :=
  ∀ (h : Hdr) (lane : Byte) (op : OpenParams) (b : List Byte) (s : State), s.accepts (.packImport h lane op b) h →
    let c := Instr.packImport h lane op b
    let w := s.woken c
    let v := w.openReads
    let no := fun (u : State) st => answered c h s
      (((u.inc .sdirPackRefCnt).flag .sdirResEvt 0 2).event 0x0304 0 (op.domain.toNat % 2) st h.tag.toNat) st []
    (parsePack b = none → exec c s = no w 0x202) ∧
    (parsePack b ≠ none → packCrc b ≠ numAt b 0xC 4 → exec c s = no w 0x203) ∧
    (∀ k, parsePack b = some k → packCrc b = numAt b 0xC 4 →
      (k.faulted = true → exec c s = no w 0x204) ∧
      (k.faulted = false →
        (∀ st bw, v.openCheck op = .no st bw → st ≠ 0 → exec c s = no (v.openFailed op st bw) st) ∧
        (∀ r aco voc, v.openCheck op = r → (r = .be aco voc ∨ ∃ pl, r = .lc aco voc pl) →
          (v.importTail k op (lane == 1) aco voc ≠ 0 →
            exec c s = no v (v.importTail k op (lane == 1) aco voc)) ∧
          (v.importTail k op (lane == 1) aco voc = 0 →
            let i := v.freeIndex.getD 0
            ∃ t, exec c s = .next t ∧ (t.stream i).dir.state = .idle ∧ (t.stream i).dir.loc = .stored ∧
              (t.stream i).dir.sampleIdx = k.sampleIdx ∧ (t.stream i).dir.seed = k.seed ∧ (t.stream i).dir.endSeen = k.endSeen ∧
              (t.stream i).dir.laneCompat = (lane == 1) ∧ (t.stream i).del.queue = k.queue ∧ (t.stream i).feat.marks = k.marks ∧
              ∀ j, j ≠ i → t.stream j = v.stream j))))

/-- 16 R412: a pack from another device is imported and its result goes back, at once where the device is its own target; a
result ends the export it names, or of a multicast export counts an answer, and is reported; a result that no export awaits
changes nothing; a result that does not come within 1 s of the send is reported as lost, and a MOVE's pack goes to its host. -/
def Obligations.PacksOverLinks : Prop :=
  (∀ (src : Half) (tag : Word) (body : List Byte) (s : State),
    let r := s.importPack (byteAt body 32 == 1) (carriedOpen (body.take 32)) (body.drop 40) 0 tag.toNat
    let res := resultBody r.1 (numAt body 36 4) (if r.1 = 0 then r.2.2.2.handle r.2.1 else 0) r.2.2.1
    let o := r.2.2.2.sendRouted src.toNat 2 2 tag.toNat res
    (o.1.loc = false → exec (.packXfer src tag body) s = .next (finish o.2)) ∧
    (o.1.loc = true → exec (.packXfer src tag body) s = .next (finish (o.2.packResult src.toNat res)))) ∧
  (∀ (src : Half) (body : List Byte) (s : State),
    let h := numAt body 4 4
    let st := numAt body 0 2
    let named := fun (x : Xfer) => x.toDevice && x.handle == h && (x.dest == src.toNat || isMulticast x.dest)
    (s.xfers.find? named = none → exec (.packResult src body) s = .next (finish s)) ∧
    (∀ x, s.xfers.find? named = some x →
      let dom := (s.stream x.idx).dir.domain
      let mine := fun (y : Xfer) => y.toDevice && y.handle == h && y.srcTick == x.srcTick
      let u := if st = 0 then s.event 0x0303 h dom (byteAt body 12) else s.event 0x0304 h dom st src.toNat
      (isMulticast x.dest = true → exec (.packResult src body) s = .next (finish
        { u with xfers := updWhere mine (fun y => { y with answers := y.answers + 1 }) s.xfers })) ∧
      (isMulticast x.dest = false → x.delivered = true → exec (.packResult src body) s = .next (finish
        { u with xfers := s.xfers.filter (fun y => !mine y) })) ∧
      (isMulticast x.dest = false → x.delivered = false → exec (.packResult src body) s = .next (finish
        ((({ u with xfers := s.xfers.filter (fun y => !mine y) } : State).inc .sdirPackExpCnt).event 0x0302 h dom x.srcTick))))) ∧
  (∀ (hd : Word) (s : State),
    let late := fun (x : Xfer) => x.toDevice && x.handle == hd.toNat && decide (x.sentAt + 1000000000 ≤ s.uptime)
    (s.xfers.find? late = none → exec (.packXferTimeout hd) s = .next (finish s)) ∧
    (∀ x, s.xfers.find? late = some x →
      let mine := fun (y : Xfer) => y.toDevice && y.handle == hd.toNat && y.srcTick == x.srcTick
      let u : State := { s with xfers := s.xfers.filter (fun y => !mine y) }
      let v := u.event 0x0304 hd.toNat (s.stream x.idx).dir.domain 0x0701 x.dest
      (x.answers ≠ 0 → exec (.packXferTimeout hd) s = .next (finish u)) ∧
      (x.answers = 0 → x.move = false → exec (.packXferTimeout hd) s = .next (finish v)) ∧
      (x.answers = 0 → x.move = true → exec (.packXferTimeout hd) s = .next (finish
        (v.sendMsg x.session 0xF2 0 0 s.epoch (leBytes 4 hd.toNat ++ leBytes 4 0 ++ x.pack))))))

/-! ### Turnstiles, executions and images (09) -/

/-- 09 R231, R235, R236: ARM, PASS and RESET of an unbound Turnstile by SCHED_TSTL_CMD with SCHED_TSTL_ARG; a PASS that finds
it unarmed is dropped, counted and flagged; a PASS of 0 does nothing; every other operation on a bound Turnstile is ignored,
counted and flagged. -/
def Obligations.TurnstileOperations : Prop :=
  (∀ (n : BitVec 14) (s : State), (s.tst n.toNat).bound = none →
    ∃ t, exec (.tstlArm n) s = .next t ∧
      t.tst n.toNat = ⟨0, BitVec.ofNat 24 (s.fld .schedTstlArg 0 23 0), true, decide (s.fld .schedTstlArg 0 23 0 = 0), false, none⟩ ∧
      (∀ m, m ≠ n.toNat → t.tst m = s.tst m) ∧ t.mem = s.mem ∧ t.streams = s.streams ∧ t.execs = s.execs) ∧
  (∀ (n : BitVec 14) (s : State), (s.tst n.toNat).bound = none → (s.tst n.toNat).armed = true →
    s.fld .schedTstlArg 0 23 0 ≠ 0 →
    let x := s.tst n.toNat
    let c := min (x.count.toNat + s.fld .schedTstlArg 0 23 0) 0xFFFFFFFF
    ∃ t, exec (.tstlPass n) s = .next t ∧
      t.tst n.toNat = ⟨BitVec.ofNat 32 c, x.target, true, x.met || decide (x.target.toNat ≤ c),
        x.ovf || decide (x.target.toNat < c), none⟩ ∧
      (∀ m, m ≠ n.toNat → t.tst m = s.tst m) ∧ t.mem = s.mem ∧ t.streams = s.streams ∧ t.execs = s.execs) ∧
  (∀ (n : BitVec 14) (s : State), (s.tst n.toNat).bound = none → (s.tst n.toNat).armed = false →
    s.fld .schedTstlArg 0 23 0 ≠ 0 →
    exec (.tstlPass n) s = .next (finish ((s.inc .schedTstlErrCnt).flag .schedGraphEvt 0 1))) ∧
  (∀ (n : BitVec 14) (s : State), (s.tst n.toNat).bound = none →
    exec (.tstlReset n) s = .next (finish { s with tstl := Tab.set s.tstl n.toNat ⟨0, 0, false, false, false, none⟩ })) ∧
  (∀ (n : BitVec 14) (s : State), s.fld .schedTstlArg 0 23 0 = 0 → exec (.tstlPass n) s = .next (finish s)) ∧
  (∀ (n : BitVec 14) (s : State), (s.tst n.toNat).bound.isSome = true →
    let u := (s.inc .schedTstlErrCnt).flag .schedGraphEvt 0 0
    exec (.tstlArm n) s = .next (finish u) ∧ exec (.tstlReset n) s = .next (finish u) ∧
    (s.fld .schedTstlArg 0 23 0 ≠ 0 → exec (.tstlPass n) s = .next (finish u)))

/-- 09 R234: an execution that is neither released nor cancelled, whose context is RESIDENT and whose Pitch is not held back, is
released when its Pitch's pool has enough free Turnstiles: it holds the lowest of them, each bound to it, and a chunk execution
takes the rows of others of its model with it (07 R187); otherwise it waits, counted once. An execution that is not to be
released stays as it is. 04 R127: a BE release starves the streams without a covering frame, and forms and releases one batch of
at most 64 ready streams of one model and one d, for the first of them in the BE order; a stream that has no slot on the
batch's Quarter is left out (log 108). -/
def Obligations.ExecutionsAreReleased : Prop :=
  (∀ (id : Nat) (e : Exec) (s : State), s.exec? id = some e → e.released = false → e.cancelled = false →
    (s.ctx e.ctx).state = .resident → (if e.sub = .chunk then s.heldPitch e.pitch else s.noRelease e.pitch) = false →
    let n := imgTstlCnt (s.execImg e)
    let pool := (s.freePool e.pitch).take n
    let j := if e.sub = .chunk then s.joinChunks e else s
    (n ≤ pool.length →
      ∃ t, exec (.execRelease (.exec id)) s = .next t ∧
        (∃ x, t.exec? id = some x ∧ x.released = true ∧ x.bound = pool ∧ x.relCycle = s.cycle ∧
          (e.sub ≠ .chunk → x.rows = e.rows) ∧ (∀ r ∈ e.rows, r ∈ x.rows)) ∧
        (∀ k ∈ pool, (t.tst k).bound = some id ∧ (t.tst k).armed = true) ∧
        (∀ k, k ∉ pool → t.tst k = s.tst k) ∧ t.mem = s.mem ∧ t.streams = j.streams) ∧
    (pool.length < n → e.waited = false →
      exec (.execRelease (.exec id)) s = .next (finish
        ((s.updExec id (fun x => { x with waited := true })).inc .schedTstlWaitCnt))) ∧
    (pool.length < n → e.waited = true → exec (.execRelease (.exec id)) s = .next (finish s))) ∧
  (∀ (id : Nat) (s : State),
    (∀ e, s.exec? id = some e → e.released = true ∨ e.cancelled = true ∨ (s.ctx e.ctx).state ≠ .resident ∨
      (if e.sub = .chunk then s.heldPitch e.pitch else s.noRelease e.pitch) = true) →
    exec (.execRelease (.exec id)) s = .next (finish s)) ∧
  (∀ (p : PitchNo) (s : State), s.noRelease p = true → exec (.execRelease (.be p)) s = .next (finish s)) ∧
  (∀ (p : PitchNo) (s : State), s.noRelease p = false →
    let mine := fun (x : Stream) => x.dir.be && x.dir.pitch == p.val
    let s0 := s.each (s.streamsWhere mine) State.starve
    let ready := (s0.streamsWhere mine).filter (s0.beReady p)
    let place := fun (i : Nat) => match s0.streamCtx (s0.stream i) with | some c => (s0.pitch p).beOrder.idxOf c | none => 0
    (ready = [] → exec (.execRelease (.be p)) s = .next (finish s0)) ∧
    (∀ f m, pickMin (fun i => [place i, i]) ready = some f → s0.voiceModels p (s0.stream f).dir.voice = some m →
      let same := ready.filter (fun i => (s0.stream i).dir.d == (s0.stream f).dir.d
        && ((s0.voiceModels p (s0.stream i).dir.voice).map (fun m => m.2.id)) == some m.2.id)
      let q := (s0.stream (same.headD f)).dir.quarter
      let g := State.gatherAll q (same.take 64) s0
      exec (.execRelease (.be p)) s = .next (finish
        (((g.2.each g.1 State.runStream).stepExec m.2 q true g.1 0).release s0.nextId)) ∧
      g.1.length ≤ 64 ∧ ∀ i ∈ g.1, i ∈ ready ∧ (s0.stream i).dir.d = (s0.stream f).dir.d) ∧
    (∀ f, pickMin (fun i => [place i, i]) ready = some f → s0.voiceModels p (s0.stream f).dir.voice = none →
      exec (.execRelease (.be p)) s = .next (finish s0)))

/-- 09 R229, R230: the highest-ranked ready tile that a unit of the kind takes starts on the lowest such unit; where a block that
it needs of a split model's over-budget tiles fails its check, the read fails and the execution's streams fault instead (12
R313, R314). 09 R225, R226, R238: the end of a tile first has the parity of what it reads checked (12 R318, R319): a tile that
waits for a re-fetch does not end; then the task's work is done and the tile ends, and a Kiosk that ran it is idle. A tile of a
cancelled execution retires its task with no PASS and no further tile. The tile of a KIOSK code task ends with its release
instead (11 R297), and a unit that runs nothing ends nothing. 09 R228: a tile that has run 65,536 cycles, but for one on a Kiosk
that the debug unit halts (18 R474), faults its execution's context with FLT_TILE_TIMEOUT and leaves its unit; no other does. -/
def Obligations.TilesRun : Prop :=
  (∀ (q : Quarter) (k : UnitKind) (s : State),
     let s0 := s.ckptStep
     let fit := (s0.readyTiles q k).filterMap (fun t => (s0.unitFor q k t).map (fun u => (t, u)))
     match pickMin (fun p => s0.tileKey p.1) fit with
     | some (c, _) =>
       match s0.stageFail c.exec (s0.splitReads c.exec (s0.execImg c.exec) c) with
       | none => ∃ t, exec (.tileDispatch q k) s = .next t ∧
           (∃ r ∈ t.units, r.exec = c.exec.id ∧ r.task = c.idx ∧ r.running = true ∧ r.start = s0.cycle) ∧ t.tstl = s0.tstl
       | some w => exec (.tileDispatch q k) s = .next (finish ((s0.readFailed (w * 64) 4).faultExec c.exec.id 1))
     | none => exec (.tileDispatch q k) s = .next (finish s0)) ∧
  ((∀ (q : Quarter) (k : UnitKind) (n : Nat) (s : State) (u : UnitRun) (e : Exec) (m : Model),
     s.unitRun q k n = some u → s.exec? u.exec = some e → s.execModel e = some m →
     let b := s.execImg e
     let g := (imgSub b (subNo e.sub)).1 + u.task
     let r := imgTask b g
     let c := if e.cancelled then (s, false) else s.tileParity e.id (s.tileBadWords (s.tileReads u e b g r m))
     let x := (c.1.exec? e.id).getD e
     let ends := fun (t : State) => exec (.tileEnd q k n) s = .next (finish (t.idleKiosk k q n))
     (r.kind ≠ 3 → c.2 = true → exec (.tileEnd q k n) s = .next (finish c.1)) ∧
     (r.kind = 0 → c.2 = false → ends (c.1.squareEnd u x b g r m)) ∧
     (r.kind = 1 → c.2 = false → ends ((c.1.gateTask x b g).tileDone u x b r)) ∧
     (r.kind = 2 → c.2 = false → ends ((c.1.expandTask x b g).tileDone u x b r)) ∧
     (r.kind = 4 → c.2 = false →
       let st := x.tasks[u.task]?
       let w := c.1.markTile x b g ((st.map (fun t => t.tile)).getD 0) (st.bind (fun t => t.mark))
         (decide (r.tiles ≤ (st.map (fun t => t.tile)).getD 0 + 1))
       ends ((w.1.updTask x.id u.task (fun t => { t with mark := some w.2 })).tileDone u x b r)) ∧
     (5 ≤ r.kind → c.2 = false → ends ((c.1.noiseTask x b).tileDone u x b r)) ∧
     (r.kind = 3 → exec (.tileEnd q k n) s = .next (finish s))) ∧
   (∀ (q : Quarter) (k : UnitKind) (n : Nat) (s : State) (u : UnitRun) (e : Exec),
     s.unitRun q k n = some u → s.exec? u.exec = some e → s.execModel e = none →
     let r := imgTask (s.execImg e) ((imgSub (s.execImg e) (subNo e.sub)).1 + u.task)
     exec (.tileEnd q k n) s = .next (finish (if r.kind = 3 then s else (s.tileDone u e (s.execImg e) r).idleKiosk k q n))) ∧
   (∀ (q : Quarter) (k : UnitKind) (n : Nat) (s : State), (∀ u, s.unitRun q k n = some u → s.exec? u.exec = none) →
     exec (.tileEnd q k n) s = .next (finish s)) ∧
   (∀ (q : Quarter) (k : UnitKind) (n : Nat) (s : State) (u : UnitRun) (e : Exec),
     s.unitRun q k n = some u → s.exec? u.exec = some e → e.cancelled = true →
     (imgTask (s.execImg e) ((imgSub (s.execImg e) (subNo e.sub)).1 + u.task)).kind ≠ 3 →
     ∃ t, exec (.tileEnd q k n) s = .next t ∧ (∀ r ∈ t.units, r.exec = e.id → r.task ≠ u.task) ∧ t.tstl = s.tstl)) ∧
  (∀ (q : Quarter) (k : UnitKind) (n : Nat) (s : State) (u : UnitRun), s.unitRun q k n = some u →
    (u.start + 65536 ≤ s.cycle → ¬ (k = .kiosk ∧ (s.kiosk (kioskOf q n)).halted = true) →
      let v := (s.flag .schedGraphEvt 0 3).execFault u.exec 0x10
      exec (.tileTimeout q k n) s = .next (finish ({ v with
        units := v.units.filter (fun x => !(x.quarter == q.val && x.kind == k && x.unit == n && x.running)) }.idleKiosk k q n))) ∧
    (s.cycle < u.start + 65536 ∨ k = .kiosk ∧ (s.kiosk (kioskOf q n)).halted = true →
      exec (.tileTimeout q k n) s = .next (finish s))) ∧
  (∀ (q : Quarter) (k : UnitKind) (n : Nat) (s : State), s.unitRun q k n = none →
    exec (.tileTimeout q k n) s = .next (finish s))

/-- 09 R238: each fetch of a cancelled execution is discarded as it arrives, counted; once none is left and no tile runs, the
execution is gone, its Turnstiles are RESET and free, and SCHED_CANCEL_CNT counts it; before that, and of an execution that is
not cancelled, neither happens. 10 R277: dispatch of a reset Pitch resumes 4,096 cycles after the stop, not before, and a RESET
message that stopped it is answered then (17 R452). -/
def Obligations.Cancellation : Prop :=
  (∀ (id : Nat) (e : Exec) (s : State), s.exec? id = some e → e.cancelled = true → e.fetches ≠ 0 →
    exec (.fetchDiscard id) s = .next (finish
      ((s.updExec id (fun x => { x with fetches := x.fetches - 1 })).inc .schedCancelDiscCnt))) ∧
  (∀ (id : Nat) (e : Exec) (s : State), s.exec? id = some e → e.cancelled = true → e.fetches = 0 → s.runningOf id = [] →
    ∃ t, exec (.cancelComplete id) s = .next t ∧ t.exec? id = none ∧ (∀ n ∈ e.bound, t.tst n = Tstl.reset) ∧
      (∀ n, n ∉ e.bound → t.tst n = s.tst n) ∧ t.mem = s.mem ∧ t.streams = s.streams ∧
      t.rg .schedCancelCnt = min (s.rg .schedCancelCnt % 2 ^ 32 + 1) 0xFFFFFFFF) ∧
  (∀ (id : Nat) (s : State), (∀ e, s.exec? id = some e → e.cancelled = false ∨ e.fetches = 0) →
    exec (.fetchDiscard id) s = .next (finish s)) ∧
  (∀ (id : Nat) (s : State), (∀ e, s.exec? id = some e → e.cancelled = false ∨ e.fetches ≠ 0 ∨ s.runningOf id ≠ []) →
    exec (.cancelComplete id) s = .next (finish s)) ∧
  (∀ (p : PitchNo) (s : State) (c : Nat), (s.pitch p).stopCycle = some c → c + 4096 ≤ s.cycle →
    let u := s.updPitch p (fun x => { x with stopCycle := none, resetMsg := none })
    ((s.pitch p).resetMsg = none → exec (.pitchDispatchResume p) s = .next (finish u)) ∧
    (∀ m, (s.pitch p).resetMsg = some m → exec (.pitchDispatchResume p) s = .next (finish (u.concludeLater m 0 [])))) ∧
  (∀ (p : PitchNo) (s : State), (∀ c, (s.pitch p).stopCycle = some c → s.cycle < c + 4096) →
    exec (.pitchDispatchResume p) s = .next (finish s))

/-- 09 R239, R241, R244: a load for a context that holds its shares, whose checks all pass, is recorded and answers what it
needs; a load that a check refuses changes no state but its count, its flag and its event, and a failed read does what 12 R313
says as well. A load for another context waits until it is RESIDENT: a BE context becomes runnable, an LC context is admitted
first, and a load that it has no room for is refused. A Pitch that is not built and a context that is not there, FAULTED or
another Pitch's are refused. 09 R244, R246: the end of a weight copy leaves the model copied, with the same tiles on every
Quarter of its Pitch; a failed read abandons it; without a copy nothing happens. An unload that nothing uses is accepted and
ends once no copy and no execution of the model is left, and not before; an unload of what is not there or in use is refused. -/
def Obligations.GraphLoads : Prop :=
  ((∀ (h : Hdr) (p : Byte) (c : Half) (a : DWord) (s : State), s.accepts (.graphLoad h p c a) h → p.toNat < 16 →
     (s.pitch p.toNat).built = true → c.toNat < 1024 →
     (s.ctx c.toNat).state = .resident ∨ (s.ctx c.toNat).state = .arriving → (s.ctx c.toNat).pitch = p.toNat →
     let i := Instr.graphLoad h p c a
     let w := s.woken i
     let m := w.newModel p.toNat c.toNat a.toNat
     let st := w.loadCheck p.toNat c.toNat a.toNat
     exec i s = if st = 0 then
         answered i h s (({ w with models := w.models ++ [m] }).nextCopy p.toNat) 0 (loadReply (w.imageAt a.toNat) m)
       else if st = 0x309 then
         answered i h s ((w.failedRead a.toNat (w.imageAt a.toNat).length 5).refuseLoad p.toNat st) st []
       else answered i h s (w.refuseLoad p.toNat st) st []) ∧
   (∀ (h : Hdr) (p : Byte) (c : Half) (a : DWord) (s : State), s.accepts (.graphLoad h p c a) h → p.toNat < 16 →
     (s.pitch p.toNat).built = true → c.toNat < 1024 →
     (s.ctx c.toNat).state = .registered ∨ (s.ctx c.toNat).state = .leaving → (s.ctx c.toNat).pitch = p.toNat →
     let i := Instr.graphLoad h p c a
     let w := s.woken i
     let wait := fun (t : State) => { t with loads := t.loads ++ [⟨⟨i, w.epoch⟩, p.toNat, c.toNat, a.toNat⟩] }
     ((s.ctx c.toNat).be = true → exec i s = .next (finish (wait (w.wakeCtx c.toNat)))) ∧
     ((s.ctx c.toNat).be = false → w.admitCtx c.toNat = none →
       exec i s = answered i h s (w.refuseLoad p.toNat 0x408) 0x408 []) ∧
     (∀ t, (s.ctx c.toNat).be = false → w.admitCtx c.toNat = some t →
       ((t.ctx c.toNat).state ≠ .arriving → exec i s = .next (finish (wait t))) ∧
       ((t.ctx c.toNat).state = .arriving →
         let r := t.loadRep p.toNat c.toNat a.toNat
         exec i s = answered i h s r.s r.st r.pay))) ∧
   (∀ (h : Hdr) (p : Byte) (c : Half) (a : DWord) (s : State), s.accepts (.graphLoad h p c a) h → p.toNat < 16 →
     (s.pitch p.toNat).built = true →
     1024 ≤ c.toNat ∨ (s.ctx c.toNat).state = .free ∨ (s.ctx c.toNat).pitch ≠ p.toNat ∨ (s.ctx c.toNat).state = .faulted →
     let i := Instr.graphLoad h p c a
     exec i s = answered i h s ((s.woken i).refuseLoad p.toNat 0x407) 0x407 []) ∧
   (∀ (h : Hdr) (p : Byte) (c : Half) (a : DWord) (s : State), s.accepts (.graphLoad h p c a) h →
     ¬ (p.toNat < 16 ∧ (s.pitch p.toNat).built = true) →
     let i := Instr.graphLoad h p c a
     exec i s = answered i h s ((s.woken i).refuseLoad p.toNat 0x405) 0x405 [])) ∧
  ((∀ (p : PitchNo) (s : State) (m : Model), find1 s.models (fun x => x.pitch == p.val && x.stage == .copying) = some m →
     s.badIn (m.addr + imgWgtOff (s.image m)) (m.residentBytes (s.image m)) = [] →
     exec (.graphCopyDone p) s = .next (finish
       (((s.each (s.quarters p) (fun s q => s.copyTiles m q)).updModel p m.id (fun x => { x with stage := .copied })).nextCopy p))) ∧
   (∀ (p : PitchNo) (s : State) (m : Model), find1 s.models (fun x => x.pitch == p.val && x.stage == .copying) = some m →
     let at_ := m.addr + imgWgtOff (s.image m)
     let n := m.residentBytes (s.image m)
     s.badIn at_ n ≠ [] →
     exec (.graphCopyDone p) s = .next (finish ((s.failedRead at_ n 5).abandonLoad p m.id))) ∧
   (∀ (p : PitchNo) (s : State), find1 s.models (fun x => x.pitch == p.val && x.stage == .copying) = none →
     exec (.graphCopyDone p) s = .next (finish s)) ∧
   (∀ (h : Hdr) (p : Byte) (id : Half) (s : State), s.accepts (.graphUnload h p id) h →
     let c := Instr.graphUnload h p id
     ((s.pitch p.toNat).built = true → (s.model p.toNat id.toNat).isSome = true → s.modelUsers p.toNat id.toNat = [] →
       exec c s = answered c h s ((s.woken c).updModel p.toNat id.toNat (fun m => { m with unload := true })) 0 []) ∧
     ((s.pitch p.toNat).built = false → exec c s = answered c h s (s.woken c) 0x405 []) ∧
     ((s.pitch p.toNat).built = true → s.model p.toNat id.toNat = none → exec c s = answered c h s (s.woken c) 0x105 []) ∧
     ((s.pitch p.toNat).built = true → (s.model p.toNat id.toNat).isSome = true → s.modelUsers p.toNat id.toNat ≠ [] →
       exec c s = answered c h s (s.woken c) 0x308 [])) ∧
   (∀ (p : PitchNo) (id : Half) (s : State) (m : Model), s.model p id.toNat = some m → m.unload = true →
     m.stage = .copied ∨ m.stage = .usable → (∀ e ∈ s.execs, e.pitch = p.val → e.model ≠ id.toNat) →
     ∃ t, exec (.graphUnloadDone p id) s = .next t ∧ t.model p id.toNat = none ∧ t.streams = s.streams ∧ t.execs = s.execs ∧
       t.ctxs = s.ctxs) ∧
   (∀ (p : PitchNo) (id : Half) (s : State),
     (∀ m, s.model p id.toNat = some m → m.unload = false ∨ m.stage = .queued ∨ m.stage = .copying ∨
       ∃ e ∈ s.execs, e.pitch = p.val ∧ e.model = id.toNat) →
     exec (.graphUnloadDone p id) s = .next (finish s)))

/-! ### Pitches and contexts (10) -/

/-- 10 R247, R248, R250: a build with valid parameters of a Pitch that is free, from free Quarters, starts it, and it is built when
the build ends; a build that a check refuses is answered with its status. A Pitch without contexts is dissolved, and its
Quarters are free again; one with contexts and one that is not built are refused. -/
def Obligations.PitchesAreBuilt : Prop :=
  (∀ (h : Hdr) (b : BuildParams) (s : State), s.accepts (.pitchBuild h b) h → buildCheck s b = 0 →
    ∃ t, exec (.pitchBuild h b) s = .next t ∧ (t.pitch b.pitch.toNat).building = true ∧
      (t.pitch b.pitch.toNat).built = false ∧ (t.pitch b.pitch.toNat).domain = b.domain.toNat ∧
      (t.pitch b.pitch.toNat).qmask = b.qmask.toNat ∧ (t.pitch b.pitch.toNat).epoch = s.epoch ∧
      (∀ p, p ≠ b.pitch.toNat → t.pitch p = s.pitch p) ∧ t.streams = s.streams ∧ t.ctxs = s.ctxs) ∧
  (∀ (h : Hdr) (b : BuildParams) (s : State), s.accepts (.pitchBuild h b) h →
    let w := s.woken (.pitchBuild h b)
    buildCheck w b ≠ 0 → exec (.pitchBuild h b) s = answered (.pitchBuild h b) h s w (buildCheck w b) []) ∧
  (∀ (p : PitchNo) (s : State), (s.pitch p).building = false → exec (.pitchBuildDone p) s = .next (finish s)) ∧
  (∀ (h : Hdr) (p : Byte) (s : State), s.accepts (.pitchDissolve h p) h → ¬ (p.toNat < 16 ∧ (s.pitch p.toNat).built = true) →
    exec (.pitchDissolve h p) s = answered (.pitchDissolve h p) h s (s.woken (.pitchDissolve h p)) 0x405 []) ∧
  (∀ (p : PitchNo) (s : State), (s.pitch p).building = true →
    let u := s.updPitch p (fun x => { x with building := false, built := true })
    exec (.pitchBuildDone p) s = .next (finish
      ((u.record 5 p (s.pitchDom p) (leBytes 4 (s.pitch p).epoch ++ leBytes 4 0)).event 0x0504 p (s.pitchDom p)))) ∧
  (∀ (h : Hdr) (p : Byte) (s : State), s.accepts (.pitchDissolve h p) h → p.toNat < 16 → (s.pitch p.toNat).built = true →
    s.ctxOf p.toNat (fun c => c.state != .free) = [] →
    ∃ t, exec (.pitchDissolve h p) s = .next t ∧ t.pitch p.toNat = Pitch.blank ∧
      (∀ r, r ≠ p.toNat → t.pitch r = s.pitch r) ∧ t.streams = s.streams ∧ t.ctxs = s.ctxs) ∧
  (∀ (h : Hdr) (p : Byte) (s : State), s.accepts (.pitchDissolve h p) h → p.toNat < 16 → (s.pitch p.toNat).built = true →
    s.ctxOf p.toNat (fun c => c.state != .free) ≠ [] →
    exec (.pitchDissolve h p) s = answered (.pitchDissolve h p) h s (s.woken (.pitchDissolve h p)) 0x404 [])

/-- 10 R252, R257, R260: a context is registered with the shares its message states, or refused by the first check that fails;
an admission of an LC context in REGISTERED grants its shares when they fit, and the context is ARRIVING, or promises them and
lets others leave, or is refused for want of room; a teardown leaves the context FREE. 10 R257, R265: a LEAVING context whose
executions are gone is REGISTERED once its working share is copied out, with its event, and contexts that wait for room are
granted theirs; a parity error in the share faults it. An ARRIVING context has its share back, with its models; a failed read
faults it. Neither end does anything to a context in another state. -/
def Obligations.ContextMessages : Prop :=
  ((∀ (h : Hdr) (c : CtxParams) (s : State), s.accepts (.ctxRegister h c) h → ctxCheck s c = 0 →
     let i := Instr.ctxRegister h c
     exec i s = answered i h s ((s.woken i).updCtx c.ctx.toNat (fun _ =>
       { Ctx.blank with state := .registered, be := c.cls == 1#8, pitch := c.pitch.toNat, weight := c.weight.toNat,
                        wPages := c.weightPages.toNat, kPages := c.workPages.toNat, spill := c.spill.toNat })) 0 []) ∧
   (∀ (h : Hdr) (c : CtxParams) (s : State), s.accepts (.ctxRegister h c) h →
     let w := s.woken (.ctxRegister h c)
     ctxCheck w c ≠ 0 → exec (.ctxRegister h c) s = answered (.ctxRegister h c) h s w (ctxCheck w c) []) ∧
   (∀ (h : Hdr) (c : Half) (s : State), s.accepts (.ctxAdmit h c) h → c.toNat < 1024 →
     let i := Instr.ctxAdmit h c
     let w := s.woken i
     let x := s.ctx c.toNat
     (x.state ≠ .free → x.be = true → exec i s = answered i h s w 0x409 []) ∧
     (x.state ≠ .free → x.be = false → x.state ≠ .registered → exec i s = answered i h s w 0x406 []) ∧
     (x.state = .registered → x.be = false → x.granting ≠ none → exec i s = answered i h s w 0 []) ∧
     (x.state = .registered → x.be = false → x.granting = none → w.makeRoom c.toNat = none →
       exec i s = answered i h s w 0x408 []) ∧
     (∀ t, x.state = .registered → x.be = false → x.granting = none → w.makeRoom c.toNat = some t →
       exec i s = answered i h s t 0 [])) ∧
   (∀ (h : Hdr) (c : Half) (s : State) (w k : Nat), s.accepts (.ctxAdmit h c) h → c.toNat < 1024 →
     (s.ctx c.toNat).state = .registered → (s.ctx c.toNat).be = false → (s.ctx c.toNat).granting = none →
     s.fits c.toNat [] = some (w, k) → s.loads = [] →
     ∃ t, exec (.ctxAdmit h c) s = .next t ∧ (t.ctx c.toNat).state = .arriving ∧ (t.ctx c.toNat).wBase = w ∧
       (t.ctx c.toNat).kBase = k ∧ (∀ d, d ≠ c.toNat → t.ctx d = s.ctx d) ∧ t.streams = s.streams) ∧
   (∀ (h : Hdr) (c : Half) (s : State), s.accepts (.ctxTeardown h c) h → c.toNat < 1024 → (s.ctx c.toNat).state ≠ .free →
     ∃ t, exec (.ctxTeardown h c) s = .next t ∧ (t.ctx c.toNat).state = .free) ∧
   (∀ (h : Hdr) (c : Half) (s : State), ¬ (c.toNat < 1024 ∧ (s.ctx c.toNat).state ≠ .free) →
     (s.accepts (.ctxAdmit h c) h → exec (.ctxAdmit h c) s = answered (.ctxAdmit h c) h s (s.woken (.ctxAdmit h c)) 0x407 []) ∧
     (s.accepts (.ctxTeardown h c) h →
       exec (.ctxTeardown h c) s = answered (.ctxTeardown h c) h s (s.woken (.ctxTeardown h c)) 0x407 []))) ∧
  ((∀ (c : CtxNo) (s : State), (s.ctx c).state = .leaving →
     (∀ e ∈ s.execs, e.ctx = c.val → e.released = false ∧ e.cancelled = false) →
     let x := s.ctx c
     let n := x.kPages * 65536
     let qs := s.quarters x.pitch
     let bad := qs.flatMap (fun q => s.badWordsIn (s.shareBase c q) n)
     let s1 := s.each qs.zipIdx (fun s q => (s.move (s.shareBase c q.1) (s.spillAt c q.2) n).rbBytes (q.1 / 4) n)
     (bad = [] →
       exec (.ctxSpillDone c) s = .next (finish (((s1.updCtx c (fun x => { x with state := .registered, everSpilled := true })).event
         0x0508 c (s.pitchDom x.pitch)).tryGrants x.pitch)) ∧
       ((∀ d, (s.ctx d).granting = none) →
         ∃ t, exec (.ctxSpillDone c) s = .next t ∧ (t.ctx c).state = .registered ∧ (t.ctx c).everSpilled = true ∧
           (∀ d : CtxNo, d ≠ c → t.ctx d = s.ctx d) ∧ t.streams = s.streams ∧ t.execs = s.execs)) ∧
     (bad ≠ [] →
       let s2 := ((s1.flag .memcEvt 0 2).cnt .memcParFaultCnt 0 31 0 bad.length).updCtx c (fun x => { x with state := .faulted, fault := 3 })
       exec (.ctxSpillDone c) s = .next (finish
         ((s2.each (s2.ctxStreams c) (fun s i => s.faultStream i 3 true)).ctxFaultEvent c 3 x.pitch 0)))) ∧
   (∀ (c : CtxNo) (s : State),
     (s.ctx c).state ≠ .leaving ∨ (∃ e ∈ s.execs, e.ctx = c.val ∧ (e.released = true ∨ e.cancelled = true)) →
     exec (.ctxSpillDone c) s = .next (finish s)) ∧
   (∀ (c : CtxNo) (s : State), (s.ctx c).state = .arriving → (s.ctx c).restored = false →
     let x := s.ctx c
     let n := x.kPages * 65536
     let qs := s.quarters x.pitch
     (s.badIn x.spill (n * qs.length) = [] →
       let s1 := s.each qs.zipIdx (fun s q => (s.move (s.spillAt c q.2) (s.shareBase c q.1) n).rbBytes (q.1 / 4) n)
       let back := (s.pitchModels x.pitch).filter (fun m => m.ctx == c.val && !m.first && m.stage == .queued)
       exec (.ctxRestoreDone c) s = .next (finish ((s1.updCtx c (fun x => { x with restored := true })).each back State.copyBack)) ∧
       ∃ t, exec (.ctxRestoreDone c) s = .next t ∧ (t.ctx c).restored = true ∧ (t.ctx c).state = .arriving ∧
         (∀ d : CtxNo, d ≠ c → t.ctx d = s.ctx d) ∧ t.streams = s.streams ∧ t.execs = s.execs) ∧
     (s.badIn x.spill (n * qs.length) ≠ [] →
       exec (.ctxRestoreDone c) s = .next (finish ((s.failedRead x.spill (n * qs.length) 2).restoreFail c)))) ∧
   (∀ (c : CtxNo) (s : State), (s.ctx c).state ≠ .arriving ∨ (s.ctx c).restored = true →
     exec (.ctxRestoreDone c) s = .next (finish s)))

/-! ### Kiosks (11) -/

/-- 11 R282: A0 reads as zero and discards writes, M0 reads as all ones and discards writes; every other register reads what
was written last and keeps it when another is written; a vector write changes the enabled lanes only. -/
def Obligations.KioskRegisters : Prop :=
  (∀ (x : Kiosk) (v : BitVec 64) (m : BitVec 32), x.rA 0 = 0 ∧ x.wA 0 v = x ∧ x.rM 0 = 0xFFFFFFFF ∧ x.wM 0 m = x) ∧
  (∀ (x : Kiosk) (n m : Nat) (v : BitVec 64), x.a.length = 32 → 0 < n → n < 32 →
    (x.wA n v).rA m = if m = n then v else x.rA m) ∧
  (∀ (x : Kiosk) (n m : Nat) (v : BitVec 32), x.m.length = 8 → 0 < n → n < 8 →
    (x.wM n v).rM m = if m = n then v else x.rM m) ∧
  (∀ (x : Kiosk) (n m i : Nat) (mask : BitVec 32) (g : Nat → BitVec 32), x.v.length = 32 → n < 32 → i < 32 →
    (x.wV n mask g).lane m i = if m = n ∧ mask.getLsbD i = true then g i else x.lane m i)

/-- 11 R285, R287: what each scalar instruction writes, and that nothing else changes: ADDI, LUI, SALU (a shift by 64 or more
writes a free value, log 59), KCSR, KOPR, KNOP. 11 R287: a branch goes to PC + 4 · OFF when its condition holds, else to PC +
4; JAL saves PC + 4; JR goes to the register's low 32 bits; nothing else changes. -/
def Obligations.KioskScalars : Prop :=
  ((∀ (k : KioskNo) (f : FI) (s : State), s.kRuns k (.addi k f) →
     exec (.addi k f) s = .next (finish (s.updKiosk k (fun x =>
       { x.wA f.d.toNat (x.rA f.a.toNat + f.imm.signExtend 64) with pc := pcAfter x.pc 1 })))) ∧
   (∀ (k : KioskNo) (f : FI) (s : State), s.kRuns k (.lui k f) →
     exec (.lui k f) s = .next (finish (s.updKiosk k (fun x =>
       { x.wA f.d.toNat ((f.imm.signExtend 64) <<< 16) with pc := pcAfter x.pc 1 })))) ∧
   (∀ (k : KioskNo) (f : FV) (s : State) (v : BitVec 64), s.kRuns k (.salu k f) →
     let a := (s.kiosk k).rA f.a.toNat
     let b := (s.kiosk k).rA f.b.toNat
     (f.fn = 0 ∧ v = a + b ∨ f.fn = 1 ∧ v = a - b ∨ f.fn = 2 ∧ v = a * b ∨ f.fn = 7 ∧ v = a &&& b ∨ f.fn = 8 ∧ v = a ||| b ∨
       f.fn = 9 ∧ v = a ^^^ b ∨ f.fn = 10 ∧ b.toNat < 64 ∧ v = a <<< b.toNat ∨ f.fn = 11 ∧ b.toNat < 64 ∧ v = a >>> b.toNat ∨
       f.fn = 12 ∧ b.toNat < 64 ∧ v = a.sshiftRight b.toNat ∨ f.fn = 14 ∧ v = (if a.slt b then 1 else 0) ∨
       f.fn = 15 ∧ v = (if a.ult b then 1 else 0)) →
     exec (.salu k f) s = .next (finish (s.updKiosk k (fun x => { x.wA f.d.toNat v with pc := pcAfter x.pc 1 })))) ∧
   (∀ (k : KioskNo) (f : FV) (s : State), s.kRuns k (.salu k f) → f.fn = 10 ∨ f.fn = 11 ∨ f.fn = 12 →
     64 ≤ ((s.kiosk k).rA f.b.toNat).toNat →
     exec (.salu k f) s = .next (finish ({ s with free := s.free + 1 }.updKiosk k (fun x =>
       { x.wA f.d.toNat (BitVec.ofNat 64 (Config.freeNat s.free)) with pc := pcAfter x.pc 1 })))) ∧
   (∀ (k : KioskNo) (f : FS) (s : State), s.kRuns k (.kCsr k f) →
     exec (.kCsr k f) s = .next (finish (s.updKiosk k (fun x =>
       { x.wA f.a.toNat (BitVec.ofNat 64 (s.csr k f.imm.toNat)) with pc := pcAfter x.pc 1 })))) ∧
   (∀ (k : KioskNo) (f : FS) (s : State), s.kRuns k (.kOpr k f) →
     exec (.kOpr k f) s = .next (finish (s.updKiosk k (fun x =>
       { x.wA f.a.toNat (x.opr.getD f.imm.toNat 0) with pc := pcAfter x.pc 1 })))) ∧
   (∀ (k : KioskNo) (f : FS) (s : State), s.kRuns k (.kNop k f) →
     exec (.kNop k f) s = .next (finish (s.updKiosk k (fun x => { x with pc := pcAfter x.pc 1 }))))) ∧
  ((∀ (k : KioskNo) (f : FB) (s : State),
     let a := (s.kiosk k).rA f.a.toNat
     let b := (s.kiosk k).rA f.b.toNat
     let goes := fun (p : Bool) => Host.Outcome.next (φ := Fault) (ρ := Refusal) (finish (s.updKiosk k (fun x =>
       { x with pc := pcAfter x.pc (if p then f.off.toInt else 1) })))
     (s.kRuns k (.beq k f) → exec (.beq k f) s = goes (a == b)) ∧
     (s.kRuns k (.bne k f) → exec (.bne k f) s = goes (a != b)) ∧
     (s.kRuns k (.blt k f) → exec (.blt k f) s = goes (a.slt b)) ∧
     (s.kRuns k (.bltu k f) → exec (.bltu k f) s = goes (a.ult b))) ∧
   (∀ (k : KioskNo) (f : FI) (s : State),
     (s.kRuns k (.jal k f) → exec (.jal k f) s = .next (finish (s.updKiosk k (fun x =>
       { x.wA f.d.toNat (BitVec.ofNat 64 (pcAfter x.pc 1)) with pc := pcAfter x.pc f.imm.toInt })))) ∧
     (s.kRuns k (.jr k f) → exec (.jr k f) s = .next (finish (s.updKiosk k (fun x =>
       { x with pc := (x.rA f.a.toNat).toNat % 2 ^ 32 }))))))

/-- 11 R287, R289, R290: each vector instruction writes the enabled lanes of its destination, a compare its mask (bits of
disabled lanes are free values, log 59), VRED and VMOVS their scalar (of a lane above 31 a free value, log 59), and nothing
else. -/
def Obligations.KioskVectors : Prop :=
  (∀ (k : KioskNo) (f : FV) (s : State),
    let lanes := fun (g : Kiosk → Nat → BitVec 32) => Host.Outcome.next (φ := Fault) (ρ := Refusal)
      (finish (s.updKiosk k (fun x => { x.wV f.d.toNat (x.rM f.msk.toNat) (g x) with pc := pcAfter x.pc 1 })))
    (s.kRuns k (.valu k f) → exec (.valu k f) s =
      lanes (fun x i => valuLane f.fn.toNat f.ty.toNat (x.lane f.a.toNat i) (x.lane f.b.toNat i))) ∧
    (s.kRuns k (.vfma k f) → exec (.vfma k f) s =
      lanes (fun x i => vfmaLane f.ty.toNat (x.lane f.a.toNat i) (x.lane f.b.toNat i) (x.lane f.d.toNat i))) ∧
    (s.kRuns k (.klog2 k f) → exec (.klog2 k f) s = lanes (fun x i => BitVec.ofNat 32 (kLog2 (x.lane f.a.toNat i).toNat))) ∧
    (s.kRuns k (.kexp2 k f) → exec (.kexp2 k f) s = lanes (fun x i => BitVec.ofNat 32 (kExp2 (x.lane f.a.toNat i).toNat))) ∧
    (s.kRuns k (.ksqrt k f) → exec (.ksqrt k f) s = lanes (fun x i => BitVec.ofNat 32 (kSqrt (x.lane f.a.toNat i).toNat))) ∧
    (s.kRuns k (.krcp k f) → exec (.krcp k f) s = lanes (fun x i => BitVec.ofNat 32 (kRcp (x.lane f.a.toNat i).toNat)))) ∧
  (∀ (k : KioskNo) (f : FV) (s : State), s.kRuns k (.ksincosTurn k f) →
    exec (.ksincosTurn k f) s = .next (finish (s.updKiosk k (fun x =>
      let m := x.rM f.msk.toNat
      let r := fun (i : Nat) => kSincosTurn (x.lane f.a.toNat i).toNat
      { (x.wV f.d.toNat m (fun i => BitVec.ofNat 32 (r i).1)).wV (f.d.toNat + 1) m (fun i => BitVec.ofNat 32 (r i).2) with
        pc := pcAfter x.pc 1 })))) ∧
  (∀ (k : KioskNo) (f : FV) (s : State), s.kRuns k (.vcmp k f) →
    ∃ t, exec (.vcmp k f) s = .next t ∧ (t.kiosk k).pc = pcAfter (s.kiosk k).pc 1 ∧ (t.kiosk k).a = (s.kiosk k).a ∧
      (t.kiosk k).v = (s.kiosk k).v ∧ t.mem = s.mem ∧
      (∀ i, i < 32 → ((s.kiosk k).rM f.msk.toNat).getLsbD i = true → 0 < f.d.toNat → (s.kiosk k).m.length = 8 →
        ((t.kiosk k).rM f.d.toNat).getLsbD i =
          vcmpLane f.fn.toNat f.ty.toNat ((s.kiosk k).lane f.a.toNat i) ((s.kiosk k).lane f.b.toNat i)) ∧
      ∀ n, n ≠ f.d.toNat → (t.kiosk k).rM n = (s.kiosk k).rM n) ∧
  (∀ (k : KioskNo) (f : FV) (s : State), s.kRuns k (.vcvt k f) → cvtPair f = false →
    exec (.vcvt k f) s = .next (finish (s.updKiosk k (fun x =>
      { x with v := x.v.set f.d.toNat (lanesOfBytes ((cvtBytes f (x.rM f.msk.toNat) (x.vBytes f.a.toNat) (x.vBytes f.d.toNat)
                 (x.rA f.b.toNat)).take 128)),
               pc := pcAfter x.pc 1 })))) ∧
  (∀ (k : KioskNo) (f : FV) (s : State), s.kRuns k (.vcvt k f) → cvtPair f = true →
    exec (.vcvt k f) s = .next (finish (s.updKiosk k (fun x =>
      let out := cvtBytes f (x.rM f.msk.toNat) (x.vBytes f.a.toNat) (x.vBytes f.d.toNat ++ x.vBytes (f.d.toNat + 1)) (x.rA f.b.toNat)
      { x with v := (x.v.set f.d.toNat (lanesOfBytes (out.take 128))).set (f.d.toNat + 1) (lanesOfBytes (out.drop 128)),
               pc := pcAfter x.pc 1 })))) ∧
  (∀ (k : KioskNo) (f : FV) (s : State), s.kRuns k (.vmovs k f) →
    (f.fn = 0 → exec (.vmovs k f) s = .next (finish (s.updKiosk k (fun x =>
      { x.wV f.d.toNat (x.rM f.msk.toNat) (fun _ => (x.rA f.a.toNat).setWidth 32) with pc := pcAfter x.pc 1 })))) ∧
    (f.fn = 1 → exec (.vmovs k f) s = .next (finish (s.updKiosk k (fun x =>
      { x.wV f.d.toNat (x.rM f.msk.toNat) (fun i => BitVec.ofNat 32 i) with pc := pcAfter x.pc 1 })))) ∧
    (f.fn = 2 → ((s.kiosk k).rA f.b.toNat).toNat < 32 → exec (.vmovs k f) s = .next (finish (s.updKiosk k (fun x =>
      { x.wA f.d.toNat (((s.kiosk k).lane f.a.toNat ((s.kiosk k).rA f.b.toNat).toNat).setWidth 64) with
        pc := pcAfter x.pc 1 })))) ∧
    (f.fn = 2 → 32 ≤ ((s.kiosk k).rA f.b.toNat).toNat → exec (.vmovs k f) s = .next (finish
      ({ s with free := s.free + 1 }.updKiosk k (fun x =>
        { x.wA f.d.toNat (BitVec.ofNat 64 (Config.freeNat s.free % 2 ^ 32)) with pc := pcAfter x.pc 1 }))))) ∧
  (∀ (k : KioskNo) (f : FV) (s : State), s.kRuns k (.vred k f) →
    exec (.vred k f) s = .next (finish (s.updKiosk k (fun x =>
      { x.wA f.d.toNat (BitVec.ofNat 64 (vredSum (x.rM f.msk.toNat) (x.lane f.a.toNat))) with pc := pcAfter x.pc 1 }))))

/-- 11 R287, R291: a load whose pieces are all served writes what they hold, little-endian (where no data comes back, a free
value, log 57); a store whose pieces are all served goes on; an access that is not served is an exception at its address; a
scalar access that is not aligned to its size is the exception ALIGN and changes no register and no memory by itself. -/
def Obligations.KioskLoadsAndStores : Prop :=
  (∀ (k : KioskNo) (f : FM) (s : State), s.kRuns k (.ld k f) →
    match s.kioskLoad k none [((s.kiosk k).scalarAddr f, 2 ^ f.sz.toNat)] with
    | .ok v t => exec (.ld k f) s = .next (finish (t.updKiosk k (fun x => { x.wA f.d.toNat (BitVec.ofNat 64 (leNat (v.headD []))) with pc := pcAfter x.pc 1 })))
    | .exc c a t => exec (.ld k f) s = .next (finish (t.kioskExc k c (some a)))
    | .wait t => exec (.ld k f) s = .next (finish t)
    | .stop t => ∃ v : List (List Byte), exec (.ld k f) s = .next (finish ({ t with free := t.free + 1 }.updKiosk k (fun x =>
        { x.wA f.d.toNat (BitVec.ofNat 64 (leNat (v.headD []))) with pc := pcAfter x.pc 1 })))) ∧
  (∀ (k : KioskNo) (f : FM) (s : State), s.kRuns k (.vld k f) →
    let a := (s.kiosk k).vectorAddr f
    let m := (s.kiosk k).rM f.msk.toNat
    match s.kioskLoad k (some a) ((onLanes m).map (fun i => (a + 4 * i, 4))) with
    | .ok v t => exec (.vld k f) s = .next (finish (t.updKiosk k (fun x => { x.putLanes f.d.toNat m v with pc := pcAfter x.pc 1 })))
    | .exc c a t => exec (.vld k f) s = .next (finish (t.kioskExc k c (some a)))
    | .wait t => exec (.vld k f) s = .next (finish t)
    | .stop t => ∃ v : List (List Byte), exec (.vld k f) s = .next (finish ({ t with free := t.free + 1 }.updKiosk k (fun x =>
        { x.putLanes f.d.toNat m v with pc := pcAfter x.pc 1 })))) ∧
  (∀ (k : KioskNo) (f : FV) (s : State), s.kRuns k (.vgather k f) →
    let m := (s.kiosk k).rM f.msk.toNat
    match s.kioskLoad k none ((onLanes m).map (fun i => ((s.kiosk k).laneAddr f i, 4))) with
    | .ok v t => exec (.vgather k f) s = .next (finish (t.updKiosk k (fun x => { x.putLanes f.d.toNat m v with pc := pcAfter x.pc 1 })))
    | .exc c a t => exec (.vgather k f) s = .next (finish (t.kioskExc k c (some a)))
    | .wait t => exec (.vgather k f) s = .next (finish t)
    | .stop t => ∃ v : List (List Byte), exec (.vgather k f) s = .next (finish ({ t with free := t.free + 1 }.updKiosk k (fun x =>
        { x.putLanes f.d.toNat m v with pc := pcAfter x.pc 1 })))) ∧
  (∀ (k : KioskNo) (f : FM) (s : State), s.kRuns k (.st k f) →
    let x := s.kiosk k
    match s.kioskStore k none [(x.scalarAddr f, leBytes (2 ^ f.sz.toNat) (x.rA f.d.toNat).toNat)] with
    | .ok _ t => exec (.st k f) s = .next (finish (t.updKiosk k (fun x => { x with pc := pcAfter x.pc 1 })))
    | .exc c a t => exec (.st k f) s = .next (finish (t.kioskExc k c (some a)))
    | .wait t | .stop t => exec (.st k f) s = .next (finish t)) ∧
  (∀ (k : KioskNo) (f : FM) (s : State), s.kRuns k (.vst k f) →
    let x := s.kiosk k
    let a := x.vectorAddr f
    match s.kioskStore k (some a) ((onLanes (x.rM f.msk.toNat)).map (fun i =>
        (a + 4 * i, leBytes 4 (x.lane f.d.toNat i).toNat))) with
    | .ok _ t => exec (.vst k f) s = .next (finish (t.updKiosk k (fun x => { x with pc := pcAfter x.pc 1 })))
    | .exc c a t => exec (.vst k f) s = .next (finish (t.kioskExc k c (some a)))
    | .wait t | .stop t => exec (.vst k f) s = .next (finish t)) ∧
  (∀ (k : KioskNo) (f : FV) (s : State), s.kRuns k (.vscatter k f) →
    let x := s.kiosk k
    match s.kioskStore k none ((onLanes (x.rM f.msk.toNat)).map (fun i =>
        (x.laneAddr f i, leBytes 4 (x.lane f.d.toNat i).toNat))) with
    | .ok _ t => exec (.vscatter k f) s = .next (finish (t.updKiosk k (fun x => { x with pc := pcAfter x.pc 1 })))
    | .exc c a t => exec (.vscatter k f) s = .next (finish (t.kioskExc k c (some a)))
    | .wait t | .stop t => exec (.vscatter k f) s = .next (finish t)) ∧
  (∀ (k : KioskNo) (f : FM) (s : State), (s.kiosk k).scalarAddr f % 2 ^ f.sz.toNat ≠ 0 →
    (s.kRuns k (.ld k f) → exec (.ld k f) s = .next (finish (s.kioskExc k 2 (some ((s.kiosk k).scalarAddr f))))) ∧
    (s.kRuns k (.st k f) → exec (.st k f) s = .next (finish (s.kioskExc k 2 (some ((s.kiosk k).scalarAddr f))))))

/-- 11 R293, R297: a store that hits the data cache or misses it reaches no memory; KFLUSH starts the write-backs of its range
and keeps its lines, KINV also drops them; an eviction lands what stands for the block, oldest first, and drops its line, and a
line that is clean leaves memory as it is. -/
def Obligations.KioskCaches : Prop :=
  (∀ (k : KioskNo) (f : FS) (s : State), s.kRuns k (.kFlush k f) →
    exec (.kFlush k f) s = .next (finish (s.updKiosk k (fun x =>
      { x.startFlush (x.flushes f) with pc := pcAfter x.pc 1 })))) ∧
  (∀ (k : KioskNo) (f : FS) (s : State), s.kRuns k (.kInv k f) →
    exec (.kInv k f) s = .next (finish (s.updKiosk k (fun x =>
      { x.startFlush (x.flushes f) with lines := x.lines.filter (fun l => !x.flushes f l), pc := pcAfter x.pc 1 })))) ∧
  (∀ (k : KioskNo) (addr : Nat) (s : State),
    let a := addr / 64 * 64
    let at_ := fun (l : CLine) => l.addr == a
    let x := s.kiosk k
    let s1 := (s.updKiosk k (fun x => { x with flight := x.flight.filter (fun l => !at_ l), wbuf := x.wbuf.filter (fun l => !at_ l) })).landAll k
      (x.flight.filter at_ ++ x.wbuf.filter at_)
    exec (.kioskCacheEvict k addr) s = .next (finish ((s1.updKiosk k (fun x => { x with lines := x.lines.filter (fun l => l.addr != a) })).landAll
      k ((x.lines.filter at_).filter CLine.isDirty)))) ∧
  (∀ (k : KioskNo) (addr : Nat) (s : State) (l : CLine), (s.kiosk k).lines = [l] → l.addr = addr / 64 * 64 →
    l.isDirty = false → (s.kiosk k).flight = [] → (s.kiosk k).wbuf = [] →
    ∃ t, exec (.kioskCacheEvict k addr) s = .next t ∧ (t.kiosk k).lines = [] ∧ t.mem = s.mem ∧ t.memx = s.memx) ∧
  (∀ (k : KioskNo) (s : State) (a : Nat) (bs : List Byte), (s.kiosk k).wbuf.length < 8 →
    (s.cachedStore k a bs).mem = s.mem ∧ (s.cachedStore k a bs).memx = s.memx)

/-- 09 R235, 11 R287, R297 to R299, R301: KPASS, KYIELD, KEND and KFENCE begin a release, and what they hold back proceeds
once it is done: the Turnstile is passed, the next instruction follows, or the tile ends, with A1 to A31 saved at a KYIELD;
KYIELD outside the boundary of its tile and KEND before the last tile are exceptions; KWAIT waits until its Turnstile is armed
and met, and acquires then; KARM (a target above 24 bits is a free value, log 59) and KTRST act on a Turnstile of the Pitch's
pool; one outside the pool is dropped, counted and faulted. A Kiosk that waits for nothing that is met goes on waiting, and
one that releases nothing does nothing. A halt takes hold once the instruction has completed (18 R474). -/
def Obligations.KioskSynchronisation : Prop :=
  (∀ (k : KioskNo) (f : FS) (s : State), s.inPool (s.kioskPitch k) ((s.kiosk k).tstIdx f.a.toNat) = true →
    (s.kRuns k (.kPass k f) → exec (.kPass k f) s = .next (finish (s.updKiosk k (fun x =>
      { x with run := .release, rel := some (.pass ((s.kiosk k).tstIdx f.a.toNat) f.imm.toNat) })))) ∧
    (s.kRuns k (.kWait k f) → exec (.kWait k f) s = .next (finish (s.updKiosk k (fun x =>
      { x with run := .wait, waitT := (s.kiosk k).tstIdx f.a.toNat })))) ∧
    (s.kRuns k (.kArm k f) → ((s.kiosk k).rA f.b.toNat).toNat < 2 ^ 24 →
      exec (.kArm k f) s = .next (finish ((s.armTst ((s.kiosk k).tstIdx f.a.toNat)
        (BitVec.ofNat 24 ((s.kiosk k).rA f.b.toNat).toNat)).updKiosk k (fun x => { x with pc := pcAfter x.pc 1 })))) ∧
    (s.kRuns k (.kArm k f) → 2 ^ 24 ≤ ((s.kiosk k).rA f.b.toNat).toNat →
      exec (.kArm k f) s = .next (finish (({ s with free := s.free + 1 }.armTst ((s.kiosk k).tstIdx f.a.toNat)
        (BitVec.ofNat 24 (Config.freeNat s.free))).updKiosk k (fun x => { x with pc := pcAfter x.pc 1 })))) ∧
    (s.kRuns k (.kTrst k f) → exec (.kTrst k f) s = .next (finish
      ((s.resetTst ((s.kiosk k).tstIdx f.a.toNat)).updKiosk k (fun x => { x with pc := pcAfter x.pc 1 }))))) ∧
  (∀ (k : KioskNo) (f : FS) (s : State), s.inPool (s.kioskPitch k) ((s.kiosk k).tstIdx f.a.toNat) = false →
    let no := Host.Outcome.next (φ := Fault) (ρ := Refusal) (finish
      (((s.inc .schedTstlErrCnt).flag .schedGraphEvt 0 0).kioskExc k 7 (some ((s.kiosk k).tstIdx f.a.toNat))))
    (s.kRuns k (.kPass k f) → exec (.kPass k f) s = no) ∧ (s.kRuns k (.kWait k f) → exec (.kWait k f) s = no) ∧
    (s.kRuns k (.kArm k f) → exec (.kArm k f) s = no) ∧ (s.kRuns k (.kTrst k f) → exec (.kTrst k f) s = no)) ∧
  (∀ (k : KioskNo) (f : FS) (s : State),
    (s.kRuns k (.kFence k f) → exec (.kFence k f) s = .next (finish (s.updKiosk k (fun x =>
      { x with run := .release, rel := some .fence })))) ∧
    (s.kRuns k (.kEnd k f) → s.lastTile k = true → exec (.kEnd k f) s = .next (finish (s.updKiosk k (fun x =>
      { x with run := .release, rel := some .fin })))) ∧
    (s.kRuns k (.kEnd k f) → s.lastTile k = false → exec (.kEnd k f) s = .next (finish (s.kioskExc k 5 none))) ∧
    (s.kRuns k (.kYield k f) → s.lastTile k = false → (s.kiosk k).pc = s.boundPc k → f.a = 0 →
      exec (.kYield k f) s = .next (finish (s.updKiosk k (fun x => { x with run := .release, rel := some .yield, waitT := 0 })))) ∧
    (s.kRuns k (.kYield k f) → s.lastTile k = false → (s.kiosk k).pc = s.boundPc k → f.a ≠ 0 →
      exec (.kYield k f) s = .next (finish (if s.inPool (s.kioskPitch k) ((s.kiosk k).tstIdx f.a.toNat) then
          s.updKiosk k (fun x => { x with run := .release, rel := some .yield, waitT := (s.kiosk k).tstIdx f.a.toNat + 1 })
        else ((s.inc .schedTstlErrCnt).flag .schedGraphEvt 0 0).kioskExc k 7 (some ((s.kiosk k).tstIdx f.a.toNat))))) ∧
    (s.kRuns k (.kYield k f) → s.lastTile k = true ∨ (s.kiosk k).pc ≠ s.boundPc k →
      exec (.kYield k f) s = .next (finish (s.kioskExc k 5 none)))) ∧
  (∀ (k : KioskNo) (s : State),
    ((s.kiosk k).run = .wait → s.tstMet (s.kiosk k).waitT = true →
      exec (.kWaitMet k) s = .next (finish (s.updKiosk k (fun x =>
        { x.acquire with run := .run, pc := pcAfter x.pc 1, haltAt := if x.halt then s.cycle else x.haltAt })))) ∧
    ((s.kiosk k).run ≠ .wait ∨ s.tstMet (s.kiosk k).waitT = false → exec (.kWaitMet k) s = .next (finish s))) ∧
  (∀ (k : KioskNo) (s : State), (s.kiosk k).run = .release →
    let on := fun (u : State) => (u.updKiosk k (fun x => { x with run := .run, rel := none, pc := pcAfter x.pc 1 })).settle k
    let u := s.landRelease k
    ((s.kiosk k).rel = some .fence → exec (.kioskReleaseDone k) s = .next (finish (on (s.landFlight k)))) ∧
    (∀ t n, (s.kiosk k).rel = some (.pass t n) → exec (.kioskReleaseDone k) s = .next (finish (on (u.passTst t n)))) ∧
    (∀ r t, u.unitRun (k / 16) .kiosk (k % 16) = some r → u.kioskTask k = some t →
      let v := (u.tileDone r t.1 t.2.1 t.2.2).updKiosk k (fun x => { x with run := .idle, exec := none, rel := none })
      ((s.kiosk k).rel = some .fin → exec (.kioskReleaseDone k) s = .next (finish v)) ∧
      ((s.kiosk k).rel = some .yield → exec (.kioskReleaseDone k) s = .next (finish (v.updTask t.1.id (u.kiosk k).task (fun y =>
        { y with saved := (u.kiosk k).a, waitT := if (u.kiosk k).waitT = 0 then none else some ((u.kiosk k).waitT - 1) }))))) ∧
    ((s.kiosk k).rel = some .fin ∨ (s.kiosk k).rel = some .yield → u.unitRun (k / 16) .kiosk (k % 16) = none ∨ u.kioskTask k = none →
      exec (.kioskReleaseDone k) s = .next (finish u))) ∧
  (∀ (k : KioskNo) (s : State), (s.kiosk k).run ≠ .release ∨ (s.kiosk k).rel = none →
    exec (.kioskReleaseDone k) s = .next (finish s)) ∧
  (∀ (k : KioskNo) (s : State) (t n : Nat), (s.kiosk k).run = .release → (s.kiosk k).rel = some (.pass t n) →
    (s.kiosk k).halt = false → (s.kiosk k).flight = [] → (s.kiosk k).wbuf = [] → (s.kiosk k).lines = [] →
    exec (.kioskReleaseDone k) s = .next (finish
      ((s.passTst t n).updKiosk k (fun x => { x with run := .run, rel := none, pc := pcAfter x.pc 1 }))))

/-- 11 R288, R301 to R303, 18 R475: an illegal word, a PC outside the image and an over-long tile are exceptions, and nothing
happens otherwise; an instruction whose word is not at its Kiosk's PC changes nothing (log 11). An exception records its cause
and PC with VALID and its address, and stops the Kiosk; with HALT_ON_EXC at debug level 2 it is held and faults nothing yet,
otherwise it faults the context of the Kiosk's execution; a write of 1 to VALID clears the record. -/
def Obligations.KioskExceptions : Prop :=
  (∀ (i : Instr) (k : KioskNo) (w : Nat) (s : State), kioskWord i = some (k, w) →
    (s.issues k w = false → exec i s = .next (finish s)) ∧
    (s.issues k w = true → kioskLegal i = false → exec i s = .next (finish (s.kioskExc k 1 none)))) ∧
  (∀ (k : KioskNo) (w : Word) (s : State), s.issues k w.toNat = true →
    (∀ i, kioskDecode k w.toNat = some i → kioskLegal i = false) →
    exec (.reservedOpcode k w) s = .next (finish (s.kioskExc k 1 none))) ∧
  (∀ (k : KioskNo) (w : Word) (s : State),
    s.issues k w.toNat = false ∨ (∃ i, kioskDecode k w.toNat = some i ∧ kioskLegal i = true) →
    exec (.reservedOpcode k w) s = .next (finish s)) ∧
  (∀ (k : KioskNo) (s : State),
    s.kioskRuns k = false ∨ (s.kiosk k).halt = true ∨ (s.fetchWord k).isSome = true →
    exec (.fetchOutsideImage k) s = .next (finish s)) ∧
  (∀ (k : KioskNo) (s : State), s.kioskRuns k = true → (s.kiosk k).halt = false → s.fetchWord k = none →
    exec (.fetchOutsideImage k) s = .next (finish (s.kioskExc k 4 (some (s.kiosk k).pc)))) ∧
  (∀ (k : KioskNo) (s : State),
    let runs := (s.kioskTask k).isSome = true ∧
      ((s.kiosk k).run = .run ∨ (s.kiosk k).run = .wait ∨ (s.kiosk k).run = .release) ∧ (s.kiosk k).halted = false
    (runs → (s.kiosk k).start + 2048 ≤ s.cycle → exec (.kioskOverlength k) s = .next (finish (s.kioskExc k 6 none))) ∧
    (¬ runs ∨ s.cycle < (s.kiosk k).start + 2048 → exec (.kioskOverlength k) s = .next (finish s))) ∧
  (∀ (k : KioskNo) (s : State), ∃ t, exec (.kskExcClear k) s = .next t ∧
    t.rg .kskExc (k / 16) (k % 16) = 0 ∧ t.rg .kskExcPc (k / 16) (k % 16) = 0 ∧ t.rg .kskExcAddrLo (k / 16) (k % 16) = 0 ∧
    t.rg .kskExcAddrHi (k / 16) (k % 16) = 0 ∧ t.kiosks = s.kiosks ∧ t.mem = s.mem) ∧
  (∀ (k : KioskNo) (s : State) (cause e : Nat) (addr : Option Nat), (s.kiosk k).haltExc = false ∨ s.sec.level < 2 →
    (s.kiosk k).exec = some e →
    s.kioskExc k cause addr = (((s.recordExc k cause (s.kiosk k).pc addr).updKiosk k (fun x =>
      { x with run := .exc, rel := none })).execFault e (if cause = 7 then 0x11 else 0x11 + cause))) ∧
  (∀ (k : KioskNo) (s : State) (cause addr : Nat), cause < 16 → addr < 2 ^ 48 → (s.kiosk k).haltExc = true → 2 ≤ s.sec.level →
    let t := s.kioskExc k cause (some addr)
    t.rg .kskExc (k / 16) (k % 16) = cause + 2 ^ 31 ∧ t.rg .kskExcPc (k / 16) (k % 16) = (s.kiosk k).pc % 2 ^ 32 ∧
      t.rg .kskExcAddrLo (k / 16) (k % 16) = addr % 2 ^ 32 ∧ t.rg .kskExcAddrHi (k / 16) (k % 16) = addr / 2 ^ 32 ∧
      (t.kiosk k).run = .exc ∧ (t.kiosk k).held = some cause ∧ t.execs = s.execs ∧ t.ctxs = s.ctxs ∧ t.streams = s.streams)

/-- 11 R286, R287: a Kiosk word keeps every field of its instruction: it has 32 bits and decodes to the instruction that was
encoded, a special function with the FN that names it. -/
def Obligations.KioskWordsRoundTrip : Prop :=
  ∀ (i : Instr) (k : KioskNo) (w : Nat), kioskWord i = some (k, w) → w < 2 ^ 32 ∧
    kioskDecode k w = some (match i with
      | .klog2 k f => .klog2 k { f with fn := 0 }
      | .kexp2 k f => .kexp2 k { f with fn := 1 }
      | .ksqrt k f => .ksqrt k { f with fn := 2 }
      | .krcp k f => .krcp k { f with fn := 3 }
      | .ksincosTurn k f => .ksincosTurn k { f with fn := 4 }
      | j => j)

/-! ### Memory checks (12) -/

/-- 12 R312, R313, R314: a read whose data matches its check value changes nothing; one that a re-read clears is counted; one that
fails four times is counted, latched with its address and requester, reported, leaves its block bad and is charged to its owner.
12 R316: with EN, a patrol read of the next block in order, at its start not before the PERIOD of the last pass is over, moves the
patrol on; any other does nothing. 12 R317: a second with more cleared retries than RETRY_WARN is flagged and reported once (log
127). 12 R320: a parity re-fetch rewrites the block from its image, or faults the executions that wait for it where the image's
block fails its check; a block that no image holds keeps its bytes, and an end that nothing waits for does nothing. -/
def Obligations.BlockReads : Prop :=
  ((∀ (a : BitVec 48) (rq : MemReq) (d : List Byte) (c : BitVec 16) (rest : List (List Byte × BitVec 16)) (s : State),
     d.length = 64 → blockCheck a.toNat d = c.toNat → exec (.blockRead a rq ((d, c) :: rest)) s = .next (finish s)) ∧
   (∀ (a : BitVec 48) (rq : MemReq) (reads : List (List Byte × BitVec 16)) (s : State),
     (firstGood a.toNat reads = some 0 → exec (.blockRead a rq reads) s = .next (finish s)) ∧
     (∀ n, firstGood a.toNat reads = some (n + 1) →
       let u := (s.inc .memcCrcRetry).cnt .memcChRetry (chanOf a.toNat) 15 0 1
       exec (.blockRead a rq reads) s = .next (finish
         { u with memx := { s.memx with retries := s.memx.retries.add (s.uptime / 1000000000) 1 } })) ∧
     (firstGood a.toNat reads = none → 4 ≤ reads.length →
       exec (.blockRead a rq reads) s = .next (finish ((s.readFailed a.toNat (reqCode rq)).charge a.toNat rq))) ∧
     (firstGood a.toNat reads = none → reads.length < 4 → exec (.blockRead a rq reads) s = .next (finish s))) ∧
   (∀ (a : BitVec 48) (reads : List (List Byte × BitVec 16)) (s : State), firstGood a.toNat reads = none → 4 ≤ reads.length →
     ∃ t, exec (.blockRead a .host reads) s = .next t ∧ a.toNat / 64 ∈ t.memx.badBlocks ∧
       t.rg .memcFailAddrLo = a.toNat / 64 * 64 % 2 ^ 32 ∧
       t.rg .memcFailAddrHi = (a.toNat / 64 * 64 / 2 ^ 32 % 65536 + chanOf a.toNat * 2 ^ 16 + 8 * 2 ^ 24) ∧
       t.mem = s.mem ∧ t.streams = s.streams ∧ t.execs = s.execs)) ∧
  ((∀ (a : BitVec 48) (reads : List (List Byte × BitVec 16)) (s : State),
     let turn := s.bit .memcScrubCfg 0 0 = true ∧ a.toNat / 64 = s.memx.patrol ∧ (s.memx.patrol = 0 → s.passDue = true)
     let last := decide (0x3E00000000 / 64 ≤ s.memx.patrol + 1)
     let u := { s with memx := { s.memx with
       patrol := if last then 0 else s.memx.patrol + 1, scrubbing := !last,
       passAt := if s.memx.patrol = 0 then some s.uptime else s.memx.passAt,
       passHours := if s.memx.patrol = 0 then s.fld .memcScrubCfg 0 15 8 else s.memx.passHours } }
     (turn → firstGood a.toNat reads = some 0 → exec (.scrubRead a reads) s = .next (finish u)) ∧
     (∀ n, turn → firstGood a.toNat reads = some (n + 1) → exec (.scrubRead a reads) s = .next (finish (u.retried a.toNat))) ∧
     (turn → firstGood a.toNat reads = none → 4 ≤ reads.length →
       exec (.scrubRead a reads) s = .next (finish ((u.readFailed a.toNat 6).inc .memcScrubFail))) ∧
     (turn → firstGood a.toNat reads = none → reads.length < 4 → exec (.scrubRead a reads) s = .next (finish u)) ∧
     (¬ turn → exec (.scrubRead a reads) s = .next (finish s))) ∧
   (∀ (s : State),
     let w := s.fld .memcCrcCfg 0 15 0
     let r := s.memx.retries
     let due := w ≠ 0 ∧ w < r.count ∧ r.warned ≠ r.sec + 1
     let u := { s with memx := { s.memx with retries := { r with warned := r.sec + 1 } } }
     (due → exec .retryWarnSecond s = .next (finish ((u.flag .memcEvt 0 1).event 0x0602 0 0 r.count))) ∧
     (¬ due → exec .retryWarnSecond s = .next (finish s))) ∧
   (∀ (q : Quarter) (a : BitVec 48) (s : State),
     let b := a.toNat / 64 * 64
     let mine := fun (r : Refetch) => r.quarter == q.val && r.addr / 64 == a.toNat / 64
     let rest := s.memx.refetch.filter (fun r => !mine r)
     (∀ src, s.memx.refetch.any mine = true → s.imageByte q b = some src → s.badIn src 64 = [] →
       ∃ t, exec (.parityRefetchDone q a) s = .next t ∧ t.memx.refetch = rest ∧
         (∀ k, k < 64 → t.mem.read (b + k) = s.mem.read (src + k)) ∧
         (∀ x, x < b ∨ b + 64 ≤ x → t.mem.read x = s.mem.read x) ∧ t.streams = s.streams) ∧
     (∀ src, s.memx.refetch.any mine = true → s.imageByte q b = some src → s.badIn src 64 ≠ [] →
       ∃ u : State, exec (.parityRefetchDone q a) s = .next (finish ((u.failedRead src 64 4).each
           ((s.memx.refetch.filter mine).filterMap (fun r => r.exec)) (fun s e => s.faultExec e 1))) ∧
         u.memx.refetch = rest ∧ u.mem = s.mem ∧ u.streams = s.streams ∧ u.execs = s.execs) ∧
     (s.memx.refetch.any mine = true → s.imageByte q b = none →
       ∃ t, exec (.parityRefetchDone q a) s = .next t ∧ t.memx.refetch = rest ∧ (∀ x, t.mem.read x = s.mem.read x) ∧
         t.streams = s.streams) ∧
     (s.memx.refetch.any mine = false → exec (.parityRefetchDone q a) s = .next (finish s))))

/-! ### Movers (13) -/

/-- 13 R332, R340, R345, R347, R348: EN written 1 makes an OFF channel whose settings pass IDLE at its head, else sets CFG_ERR;
START of an IDLE or EMPTY channel, by one that may, fetches; ABORT ends what an active channel does and leaves it IDLE at its
head, and EN written 0 does the same and turns it OFF; PAUSE holds a channel that has drained and gives its state back with a
trigger that came meanwhile; a HALTED channel resumes. In every other state the command changes nothing, but for PAUSE itself. -/
def Obligations.MoverControl : Prop :=
  (∀ (n : ChanNo) (s : State),
    ((s.chan n).state = .off → s.enOk n = true →
      exec (.movrEnSet n) s = .next (finish (((s.setFld .movrChCtl n 0 0 1).updChan n (fun c =>
        { Chan.reset with state := .idle, cur := s.chanHead n, enTime := s.uptime, cause := c.cause, kind := c.kind, dir := c.dir,
                          err := c.err })).raiseFor n))) ∧
    ((s.chan n).state = .off → s.enOk n = false → exec (.movrEnSet n) s = .next (finish (s.flag .movrChEvt n 3))) ∧
    ((s.chan n).state ≠ .off → exec (.movrEnSet n) s = .next (finish s))) ∧
  (∀ (n : ChanNo) (s : State),
    let ended := if (s.chan n).state = .idle then s else s.endChan n 2
    ((s.chan n).state ≠ .off → exec (.movrEnClear n) s = .next (finish (((ended.withdraw n).setFld .movrChCtl n 0 0 0).updChan n
      (fun c => { c with state := .off })))) ∧
    ((s.chan n).state = .off → exec (.movrEnClear n) s = .next (finish s))) ∧
  (∀ (n : ChanNo) (s : State) (rq : Requester),
    let may := ((s.chan n).state = .idle ∨ (s.chan n).state = .empty) ∧ s.startOk n rq = true
    (may → exec (.movrStart n rq) s = .next (finish (s.updChan n (fun c =>
      { c with state := .run, desc := none, pos := 0, wprot := false, gen := s.startGen rq, trigTime := none })))) ∧
    (¬ may → exec (.movrStart n rq) s = .next (finish s))) ∧
  (∀ (n : ChanNo) (s : State), exec (.movrPauseSet n) s = .next (finish (s.setFld .movrChCtl n 1 1 1))) ∧
  (∀ (n : ChanNo) (s : State),
    let drained := s.chanPause n = true ∧ (s.chan n).state ∈ [.run, .waitTrig, .waitPreq] ∧ (s.chan n).burst = false ∧
      (s.chan n).held = []
    (drained → exec (.movrPaused n) s = .next (finish (s.updChan n (fun c => { c with state := .paused, back := c.state })))) ∧
    (¬ drained → exec (.movrPaused n) s = .next (finish s))) ∧
  (∀ (n : ChanNo) (s : State),
    let s1 := s.setFld .movrChCtl n 1 1 0
    let c := s.chan n
    let back := if c.state = .paused then c.back else c.state
    (∀ t ts, back = .waitTrig → c.trigs = t :: ts → exec (.movrPauseClear n) s = .next (finish ((s1.updChan n (fun c =>
      { c with trigs := ts, gen := t.1, trigTime := some t.2 })).goChan n))) ∧
    (c.state = .paused → c.back = .waitTrig → c.trigs = [] →
      exec (.movrPauseClear n) s = .next (finish (s1.updChan n (fun c => { c with state := .waitTrig })))) ∧
    (c.state = .paused → c.back ≠ .waitTrig →
      exec (.movrPauseClear n) s = .next (finish ((s1.updChan n (fun c => { c with state := .run })).goChan n))) ∧
    (c.state ≠ .paused → c.state ≠ .waitTrig ∨ c.trigs = [] → exec (.movrPauseClear n) s = .next (finish s1))) ∧
  (∀ (n : ChanNo) (s : State),
    ((s.chan n).state = .halted → exec (.movrResume n) s = .next (finish (s.updChan n (fun c =>
      { c with state := if s.chanPause n then .paused else .run, back := .run, desc := if c.kind = 1 then none else c.desc })))) ∧
    ((s.chan n).state ≠ .halted → exec (.movrResume n) s = .next (finish s))) ∧
  (∀ (n : ChanNo) (s : State),
    ((s.chan n).state ≠ .off → (s.chan n).state ≠ .idle →
      ∃ t, exec (.movrAbort n) s = .next t ∧ (t.chan n).state = .idle ∧ (t.chan n).trigs = [] ∧ (t.chan n).cur = s.chanHead n ∧
        (t.chan n).desc = none ∧ (∀ m, m ≠ n.val → t.chan m = s.chan m) ∧ t.streams = s.streams ∧ t.execs = s.execs ∧
        ((s.chan n).desc = none → t.mem = s.mem)) ∧
    ((s.chan n).state = .off ∨ (s.chan n).state = .idle → exec (.movrAbort n) s = .next (finish s)))

/-- 13 R328 to R333, R335, R342, R346: a running channel fetches the descriptor at CUR: one the channel owns and that obeys R331
is taken, and waits for a trigger or a request it needs; one it does not own leaves it EMPTY; one that breaks R331 and a fetch
that fails halt it. A linear move of memory reads what the next write needs and stores it, up to the end of the destination's
block. A completed descriptor has its STATUS word replaced if it is as it was fetched, and hands on to the next or ends the list;
a STATUS write that fails halts it. A due timer triggers. In any other state the command changes nothing. -/
def Obligations.MoverDescriptors : Prop :=
  ((∀ (n : ChanNo) (s : State), (s.chan n).state = .run → (s.chan n).desc = none → s.chanPause n = false →
     (∀ h, s.readHalt n (s.chan n).cur 32 1 = some h → exec (.movrDescFetch n) s = .next (finish (s.badAccess n h))) ∧
     (s.readHalt n (s.chan n).cur 32 1 = none →
       let d := s.readDesc (s.chan n).cur
       let u := if (s.chan n).cur < lpddrTop then s.rbBytes (n / 64) 64 else s
       (d.status.testBit 31 = false →
         exec (.movrDescFetch n) s = .next (finish ((u.updChan n (fun c => { c with state := .empty })).autoStart n)) ∧
         (s.bit .movrChCtl n 2 = false →
           exec (.movrDescFetch n) s = .next (finish (u.updChan n (fun c => { c with state := .empty }))))) ∧
       (d.status.testBit 31 = true → d.ok (s.chanPeriph n) = false → exec (.movrDescFetch n) s = .next (finish
         ((u.updChan n (fun c => { c with desc := some d, pos := 0 })).haltChan n ⟨5, 1, false, (s.chan n).cur⟩))) ∧
       (d.status.testBit 31 = true → d.ok (s.chanPeriph n) = true →
         (d.waitTrig = false → d.preq = false →
           ∃ t, exec (.movrDescFetch n) s = .next t ∧ (t.chan n).state = .run ∧ (t.chan n).desc = some d ∧ (t.chan n).pos = 0 ∧
             (∀ m, m ≠ n.val → t.chan m = s.chan m) ∧ t.mem = s.mem) ∧
         (d.waitTrig = true → (s.chan n).trigs = [] →
           ∃ t, exec (.movrDescFetch n) s = .next t ∧ (t.chan n).state = .waitTrig ∧ (t.chan n).desc = some d ∧ (t.chan n).pos = 0 ∧
             (∀ m, m ≠ n.val → t.chan m = s.chan m) ∧ t.mem = s.mem) ∧
         (∀ g ts, d.waitTrig = true → (s.chan n).trigs = g :: ts → d.preq = false →
           ∃ t, exec (.movrDescFetch n) s = .next t ∧ (t.chan n).state = .run ∧ (t.chan n).desc = some d ∧ (t.chan n).pos = 0 ∧
             (t.chan n).trigs = ts ∧ (t.chan n).gen = g.1 ∧ (t.chan n).trigTime = some g.2 ∧
             (∀ m, m ≠ n.val → t.chan m = s.chan m) ∧ t.mem = s.mem) ∧
         (d.preq = true → d.waitTrig = false ∨ (s.chan n).trigs ≠ [] →
           ∃ t, exec (.movrDescFetch n) s = .next t ∧ ((t.chan n).state = .run ∨ (t.chan n).state = .waitPreq) ∧
             (t.chan n).desc = some d ∧ (t.chan n).pos = 0 ∧ t.mem = s.mem)))) ∧
   (∀ (n : ChanNo) (s : State), (s.chan n).state ≠ .run ∨ (s.chan n).desc ≠ none ∨ s.chanPause n = true →
     exec (.movrDescFetch n) s = .next (finish s))) ∧
  ((∀ (n : ChanNo) (s : State) (d : Desc),
     let c := s.chan n
     let goes := c.state = .run ∧ c.pos < d.len ∧ (s.chanPause n = false ∨ c.burst = true ∨ c.held ≠ []) ∧
       (d.preq = false ∨ c.request = true ∨ c.burst = true)
     let asks := c.state = .waitPreq ∧ 17 ≤ s.chanPeriph n ∧ s.chanPause n = false
     c.desc = some d →
     (goes → d.preq = false ∨ c.burst = true → exec (.movrReadData n) s = .next (finish (s.movePiece n d))) ∧
     (goes → d.preq = true → c.burst = false → exec (.movrReadData n) s = .next (finish
       ((s.updChan n (fun c => { c with request := false, burst := true, late := false })).movePiece n d))) ∧
     (asks → exec (.movrReadData n) s = .next (finish (s.raiseFree n))) ∧
     (¬ goes → ¬ asks → exec (.movrReadData n) s = .next (finish s))) ∧
   (∀ (n : ChanNo) (s : State), (s.chan n).desc = none → exec (.movrReadData n) s = .next (finish s)) ∧
   (∀ (n : ChanNo) (s : State) (d : Desc), (s.chan n).state = .run → (s.chan n).desc = some d → (s.chan n).pos < d.len →
     (s.chan n).held = [] → d.list = 0 → d.swap = 0 → d.preq = false → s.chanPause n = false →
     let src := d.src + (s.chan n).pos
     let dst := d.dst + (s.chan n).pos
     let k := min (64 - dst % 64) (d.len - (s.chan n).pos)
     (∀ j, j < k → s.readHalt n ((src + j) / 64 * 64) 64 0 = none) → s.writeHalt n dst k 0 = none → s.moverAcc n dst true = .ok →
     ∃ t, exec (.movrReadData n) s = .next t ∧ (t.chan n).pos = (s.chan n).pos + k ∧ (t.chan n).state = .run ∧
       (∀ j, j < k → t.mem.read (dst + j) = s.byteOf (src + j)) ∧
       (∀ a, a < dst ∨ dst + k ≤ a → t.mem.read a = s.mem.read a) ∧ t.streams = s.streams)) ∧
  ((∀ (n : ChanNo) (s : State) (d : Desc), (s.chan n).state = .run → (s.chan n).desc = some d → (s.chan n).pos = d.len →
     let at_ := (s.chan n).cur + 0x1C
     let t0 := s.fld .movrChTstl n 13 0
     (∀ h, s.statusHalt n at_ = some h → exec (.movrDescComplete n) s = .next (finish (s.badAccess n h))) ∧
     (s.statusHalt n at_ = none →
       ¬ (d.pass = true ∧ (s.chan n).gen.isSome = true ∧ ∃ p, s.chanOwner n = some p ∧ s.inPool p t0 = false) →
       ∃ t, exec (.movrDescComplete n) s = .next t ∧ (t.chan n).cur = (if d.next.testBit 0 then s.chanHead n else d.next) ∧
         (t.chan n).desc = none ∧ (t.chan n).pos = 0 ∧
         t.mem = if s.mem.leN at_ 4 = d.status ∧ s.moverAcc n at_ true = .ok
           then s.mem.write at_ (leBytes 4 (statusWord d 0 d.len (s.chan n).wprot)) else s.mem) ∧
     (∀ e p, s.statusHalt n at_ = none → d.pass = true → (s.chan n).gen = some e → s.chanOwner n = some p → s.inPool p t0 = false →
       ∃ u : State, exec (.movrDescComplete n) s = .next (finish (u.execFault e 0x11)) ∧
         (u.chan n).cur = (if d.next.testBit 0 then s.chanHead n else d.next) ∧ (u.chan n).desc = none)) ∧
   (∀ (n : ChanNo) (s : State), (s.chan n).state ≠ .run ∨ (∀ d, (s.chan n).desc = some d → (s.chan n).pos ≠ d.len) →
     exec (.movrDescComplete n) s = .next (finish s))) ∧
  (∀ (n : ChanNo) (s : State),
    let due := (s.chan n).state ≠ .off ∧ s.fld .movrChTrig n 2 0 = 3 ∧
      (s.chan n).enTime + ((s.chan n).timerK + 1) * s.fld .movrChTimer n 23 0 * 1000 ≤ s.uptime
    (due → exec (.movrTimerTrigger n) s = .next (finish
      ((s.updChan n (fun c => { c with timerK := c.timerK + 1 })).trigger n none))) ∧
    (due → (s.chan n).state = .idle → (s.chan n).trigs.length < 15 → s.bit .movrChCtl n 2 = false →
      exec (.movrTimerTrigger n) s = .next (finish (s.updChan n (fun c =>
        { c with timerK := c.timerK + 1, trigs := c.trigs ++ [(none, s.uptime)] })))) ∧
    (¬ due → exec (.movrTimerTrigger n) s = .next (finish s)))

/-! ### Audio ports (14) -/

/-- 14 R354, R361, R365, R366: EN written 1 with settings that pass starts the port with an empty FIFO, else sets CFG_ERR; EN
written 0 withdraws its requests and holds the pins it drives low, BCLK and FSYNC with SDO but in SLAVE clocking; RESTART waits
for the next frame start. 14 R367, R368, 19 R503: a lost clock and its return, a rate outside 2 %, a shorted pin that is driven,
a contended SDO and a shorted WCLK_OUT: what each sets and reports. Where the port is not enabled, has lost its clock already,
has not counted 64 good frames, or does not drive the pin, nothing changes. -/
def Obligations.PortControl : Prop :=
  (∀ (p : PortNo) (s : State), s.bit .portCfg p 0 = false →
    (s.portEnOk p = true → exec (.portEnSet p) s = .next (finish
      (((s.setFld .portCfg p 0 0 1).updPort p (fun x => { x with fifo := [], primed := false, repeated := false, good := 0 })).raiseTx p))) ∧
    (s.portEnOk p = false → exec (.portEnSet p) s = .next (finish (s.flag .portEvt p 5))) ∧
    exec (.portEnClear p) s = .next (finish s) ∧ exec (.portRestart p) s = .next (finish s)) ∧
  (∀ (p : PortNo) (s : State), s.bit .portCfg p 0 = true →
    exec (.portEnSet p) s = .next (finish s) ∧
    exec (.portEnClear p) s = .next (finish (((s.withdrawPort p).setFld .portCfg p 0 0 0).emit
      (.port p ⟨if s.portClk p = 2 then [] else s.pinsOn p, [], []⟩))) ∧
    exec (.portRestart p) s = .next (finish (s.updPort p (fun x => { x with restart := true })))) ∧
  ((∀ (p : PortNo) (s : State),
     let had := s.bit .portCfg p 0 = true ∧ s.portClk p ≠ 0 ∧ (s.port p).noclk = false
     (had → exec (.portClockLost p) s = .next (finish
       (((s.withdrawPort p).updPort p (fun x => { x with noclk := true, good := 0, fifo := [], repeated := false })).event 0x0803 p
         (s.portDom p) 0))) ∧
     (¬ had → exec (.portClockLost p) s = .next (finish s))) ∧
   (∀ (p : PortNo) (s : State),
     ((s.port p).noclk = true → 64 ≤ (s.port p).good →
       exec (.portClockRegained p) s = .next (finish
         ((((s.updPort p (fun x => { x with noclk := false, primed := false })).event 0x0803 p (s.portDom p) 1).raiseTx p).raiseRx p))) ∧
     ((s.port p).noclk = false ∨ (s.port p).good < 64 → exec (.portClockRegained p) s = .next (finish s))) ∧
   (∀ (p : PortNo) (rate : Nat) (s : State),
     let nom := 16 * s.baseRate (s.portDom p) / s.portPdiv p
     (s.bit .portCfg p 0 = true → s.portPdiv p ≠ 0 →
       (98 * nom ≤ 100 * rate ∧ 100 * rate ≤ 102 * nom →
         exec (.portRateMeasure p rate) s = .next (finish (s.updPort p (fun x => { x with rateErr := false })))) ∧
       (100 * rate < 98 * nom ∨ 102 * nom < 100 * rate →
         exec (.portRateMeasure p rate) s = .next (finish
           ((s.updPort p (fun x => { x with rateErr := true })).event 0x0803 p (s.portDom p) 2 rate)))) ∧
     (s.bit .portCfg p 0 = false ∨ s.portPdiv p = 0 → exec (.portRateMeasure p rate) s = .next (finish s))) ∧
   (∀ (p : PortNo) (pin : PortPin) (s : State),
     (s.driven p pin = true → exec (.portPinShort p pin) s = .next (finish ((s.updPort p (fun x =>
       { x with pinFault := true, off := if x.off.contains pin then x.off else x.off ++ [pin] })).event 0x0804 p (s.portDom p)))) ∧
     (s.driven p pin = false → exec (.portPinShort p pin) s = .next (finish s))) ∧
   (∀ (p : PortNo) (s : State), exec (.sdoContention p) s = .next (finish ((s.updPort p (fun x =>
     { x with contend := true, off := if x.off.contains .sdo then x.off else x.off ++ [.sdo] })).event 0x0804 p (s.portDom p)))) ∧
   (∀ (s : State), exec .wclkOutShort s = .next (finish ({ s with dev := { s.dev with wclkShort := true } }.event 0x0D03 1))))

/-- 14 R358, R362, R365: at a frame start an enabled port with its clock sends, after a restart that waits, the entry of its STREAM
slots and the words of its MOVER slots, with their bits and FSYNC on the pins it drives, unless it is silent; without its clock
it sends nothing. A primed independent port sends the oldest entry of its FIFO. A port that is not enabled sends only what it is
given before full function (17 R427). 14 R361, R364, R367: a received frame of the right length counts as good, and its words
enter the receive FIFO, or with no room are an overrun that HOLD drops whole and the others fill up; one of a wrong length is a
frame error; a port without its clock only counts the frame (log 102). -/
def Obligations.PortFrames : Prop :=
  ((∀ (p : PortNo) (s : State), s.bit .portCfg p 0 = true → (s.port p).noclk = false ∨ s.portClk p = 0 →
     let s0 := if (s.port p).restart then s.restartNow p else s
     let r := s0.frameEntry p (s.portFollow p && (s.port (s.portLeader p)).repeated)
     let m := r.1.moverWords p
     let dead := s.portClk p == 0 && !s.hbOk (s.portDom p) (s.tick (s.portDom p))
     let ws := s.frameWords p (if dead then [] else r.2) m.2
     (s.portSilent p = false → exec (.portFrameStart p) s = .next (finish ((m.1.emit (.port p (m.1.portOut p ws))).raiseTx p))) ∧
     (s.portSilent p = true → exec (.portFrameStart p) s = .next (finish (m.1.raiseTx p)))) ∧
   (∀ (p : PortNo) (s : State), s.bit .portCfg p 0 = true → (s.port p).noclk = true → s.portClk p ≠ 0 →
     exec (.portFrameStart p) s = .next (finish (if (s.port p).restart then s.restartNow p else s))) ∧
   (∀ (p : PortNo) (s : State), s.bit .portCfg p 0 = false →
     (Tab.get? s.dev.bootPorts p = none → exec (.portFrameStart p) s = .next (finish s)) ∧
     (∀ f, Tab.get? s.dev.bootPorts p = some f → exec (.portFrameStart p) s = .next (finish (s.emit (.port p f))))) ∧
   (∀ (p : PortNo) (s : State), s.bit .portCfg p 0 = true → (s.port p).restart = false → (s.port p).noclk = false →
     s.portClk p ≠ 0 → s.portFollow p = false → s.portLive p = true → (s.port p).primed = true → 8 ≤ (s.port p).fifo.length →
     s.slotsWith p 2 = [] → s.portSilent p = false →
     ∃ t, exec (.portFrameStart p) s = .next t ∧ (t.port p).fifo = (s.port p).fifo.drop 1 ∧
       (t.port p).lastEntry = (s.port p).fifo.headD [] ∧
       Out.port p (s.portOut p (s.frameWords p ((s.port p).fifo.headD []) [])) ∈ t.out ∧ t.mem = s.mem ∧
       t.streams = s.streams)) ∧
  (∀ (p : PortNo) (n : Nat) (ws : List Word) (s : State),
    let bad := s.portClk p = 2 ∧ n ≠ s.portSlots p * s.slotBits p
    let got := (s.rxSlots p).map (fun k => ((ws.map (fun w => w.toNat)).getD k 0 % 2 ^ s.slotBits p) * 2 ^ (32 - s.slotBits p))
    let room := 1024 - (s.port p).rx.length
    let u := s.updPort p (fun x => { x with good := x.good + 1 })
    (s.bit .portCfg p 0 = false → exec (.portRxFrame p n ws) s = .next (finish s)) ∧
    (s.bit .portCfg p 0 = true → bad → exec (.portRxFrame p n ws) s = .next (finish
      (((s.inc .portFrameErrCnt p).flag .portEvt p 3).updPort p (fun x => { x with good := 0 })))) ∧
    (s.bit .portCfg p 0 = true → ¬ bad → (s.port p).noclk = true → exec (.portRxFrame p n ws) s = .next (finish u)) ∧
    (s.bit .portCfg p 0 = true → ¬ bad → (s.port p).noclk = false →
      ((s.rxSlots p).length ≤ room → exec (.portRxFrame p n ws) s = .next (finish
        ((s.updPort p (fun x => { x with good := x.good + 1, rx := x.rx ++ got })).raiseRx p))) ∧
      (room < (s.rxSlots p).length → s.portHold p = true → exec (.portRxFrame p n ws) s = .next (finish (u.xrun p false))) ∧
      (room < (s.rxSlots p).length → s.portHold p = false → exec (.portRxFrame p n ws) s = .next (finish
        ((((u.updPort p (fun x =>
          { x with rx := x.rx ++ got.take room, rxSlotLost := true, rxRot := (x.rxRot + (got.length - room)) % max 1 got.length })).slotLostEvt
            p (s.port p).rxSlotLost).xrun p false).raiseRx p)))))

/-! ### Registers and memory from outside (00, 15) -/

/-- 00 R9: an access to an offset of no register changes nothing; over KTP a read of it answers zeros, and a read or a write of
it the status UNMAPPED. 00 R6, 01 R43: a write of a flag register clears the bits written 1 and keeps
every other bit and register; a read of a counter that clears on read clears it alone; a read of TICK_CNT_LO latches the upper
word for its requester. Any access does what the register's own rules say. 11 R291: only a Kiosk's access can be one that it may
not make, to another Pitch's channel, to any other register it would write, or to the security or debug block; that access is the
exception ACCESS at its address. -/
def Obligations.RegisterAccess : Prop :=
  (∀ (rq : Requester) (off v : Word) (s : State), regAt off.toNat = none →
    (s.mayReach rq off.toNat true = true → exec (.registerWrite rq off v) s = .next (finish s)) ∧
    (s.mayReach rq off.toNat false = true →
      exec (.rcRead rq off) s = .next (finish s) ∧ exec (.latchedLoRead rq off) s = .next (finish s))) ∧
  (∀ (rq : Requester) (off : Word) (wr : Bool) (s : State), (∀ k, rq ≠ .kiosk k) → s.mayReach rq off.toNat wr = true) ∧
  (∀ (rq : Requester) (off v : Word) (s : State),
    (s.mayReach rq off.toNat true = true →
      exec (.registerWrite rq off v) s = .next (finish (s.regWriteAt rq off.toNat v.toNat).2)) ∧
    (s.mayReach rq off.toNat false = true →
      exec (.rcRead rq off) s = .next (finish (s.regRead1 rq off.toNat).2.2) ∧
      exec (.latchedLoRead rq off) s = .next (finish (s.regRead1 rq off.toNat).2.2))) ∧
  (∀ (k : KioskNo) (off v : Word) (s : State),
    let no := Host.Outcome.next (φ := Fault) (ρ := Refusal) (finish (s.kioskExc k 3 (some (0x200000000000 + off.toNat))))
    (s.mayReach (.kiosk k) off.toNat true = false → exec (.registerWrite (.kiosk k) off v) s = no) ∧
    (s.mayReach (.kiosk k) off.toNat false = false →
      exec (.rcRead (.kiosk k) off) s = no ∧ exec (.latchedLoRead (.kiosk k) off) s = no)) ∧
  (∀ (h : Hdr) (as : List DWord) (s : State), s.accepts (.regRead h as) h → as ≠ [] → (∀ a ∈ as, regOff a.toNat = none) →
    let c := Instr.regRead h as
    exec c s = answered c h s (s.woken c) 8 (List.replicate (4 * as.length) 0#8)) ∧
  (∀ (h : Hdr) (as : List DWord) (s : State), s.accepts (.regRead h as) h → as ≠ [] →
    (∀ a ∈ as, ∃ o, regOff a.toNat = some o ∧ regAt o = none) →
    let c := Instr.regRead h as
    exec c s = answered c h s (s.woken c) 8 (List.replicate (4 * as.length) 0#8)) ∧
  (∀ (h : Hdr) (es : List (DWord × Word)) (s : State), s.accepts (.regWrite h es) h → es ≠ [] →
    (∀ e ∈ es, ∀ o, regOff e.1.toNat = some o → regAt o = none) →
    let c := Instr.regWrite h es
    exec c s = answered c h s (s.woken c) 8 []) ∧
  (∀ (rq : Requester) (off v : Word) (s : State) (r : RegName) (i j : Nat), regAt off.toNat = some (r, i, j) →
    s.mayReach rq off.toNat true = true →
    r ∈ [.tickEvt, .sdirEvt, .sdirResEvt, .qtrEvt, .qtrNumEvt, .schedPreEvt, .qtrConvEvt, .schedGraphEvt, .schedPitchEvt,
         .qtrKskEvt, .memcEvt, .movrChEvt, .portEvt, .hostEvt, .linkEvt, .secEvt, .pwrEvt, .trecEvt] → j = 0 →
    ∃ t, exec (.registerWrite rq off v) s = .next t ∧
      (∀ n, n < 32 → (t.rg r i).testBit n = ((s.rg r i).testBit n && !(r.card.w1c.testBit n && v.getLsbD n))) ∧
      s.sameRegs t [r.off i] ∧ t.mem = s.mem ∧ t.streams = s.streams ∧ t.execs = s.execs ∧ t.kiosks = s.kiosks) ∧
  (∀ (rq : Requester) (off : Word) (s : State) (r : RegName) (i : Nat), regAt off.toNat = some (r, i, 0) →
    s.mayReach rq off.toNat false = true → r.card.rc ≠ 0 → r.latches = [] →
    ∃ t, exec (.rcRead rq off) s = .next t ∧
      (∀ n, n < 32 → (t.rg r i).testBit n = ((s.rg r i).testBit n && !r.card.rc.testBit n)) ∧
      s.sameRegs t [r.off i] ∧ t.mem = s.mem ∧ t.streams = s.streams ∧ t.shadows = s.shadows) ∧
  (∀ (rq : Requester) (off : Word) (s : State) (d : Dom), off.toNat = RegName.tickCntLo.off d →
    ∃ t, exec (.latchedLoRead rq off) s = .next t ∧
      t.shadow rq (RegName.tickCntHi.off d) = (s.td d).cnt / 2 ^ 32 % 2 ^ 32 ∧ t.regs = s.regs ∧
      ∀ q o, q ≠ rq ∨ o ≠ RegName.tickCntHi.off d → t.shadow q o = s.shadow q o)

/-- 15 R384: REG_READ answers the words of its registers in order and the first status that is not 0, and what the reads change
has changed; REG_WRITE writes in order and answers the first status that is not 0. 15 R384, 18 R466: MEM_READ of more than
262,144 bytes is refused as too long; a range that a region does not allow, or that lies outside memory, is answered with its
status and changes nothing; a read of LPDDR5X answers its bytes, or CRC where a block fails its check; a read of SRAM or the
directory acts on parity first. MEM_WRITE goes block by block; where every block is allowed and good it stores its bytes, of
which every other byte of LPDDR5X is unchanged. -/
def Obligations.HostAccess : Prop :=
  ((∀ (h : Hdr) (as : List DWord) (s : State), s.accepts (.regRead h as) h →
     let c := Instr.regRead h as
     let x := State.readRegs (.session h.session) (as.map BitVec.toNat) (0, [], s.woken c)
     exec c s = answered c h s x.2.2 x.1 x.2.1) ∧
   (∀ (h : Hdr) (es : List (DWord × Word)) (s : State), s.accepts (.regWrite h es) h →
     let c := Instr.regWrite h es
     let x := State.writeRegs (.session h.session) (es.map (fun e => (e.1.toNat, e.2.toNat))) (0, s.woken c)
     exec c s = answered c h s x.2 x.1 []) ∧
   (∀ (h : Hdr) (a : DWord) (o : Nat) (s : State), s.accepts (.regRead h [a]) h → regOff a.toNat = some o →
     let c := Instr.regRead h [a]
     let x := (s.woken c).regRead1 (.session h.session) o
     exec c s = answered c h s x.2.2 x.1 (leBytes 4 x.2.1)) ∧
   (∀ (h : Hdr) (a : DWord) (v : Word) (o : Nat) (s : State), s.accepts (.regWrite h [(a, v)]) h → regOff a.toNat = some o →
     let c := Instr.regWrite h [(a, v)]
     let x := (s.woken c).regWriteAt (.session h.session) o v.toNat
     exec c s = answered c h s x.2 x.1 [])) ∧
  ((∀ (h : Hdr) (a : DWord) (n : Word) (s : State), s.accepts (.memRead h a n) h →
     let c := Instr.memRead h a n
     let w := s.woken c
     let st := w.hostRange a.toNat n.toNat
     (262144 < n.toNat → exec c s = answered c h s w 3 []) ∧
     (n.toNat ≤ 262144 → st ≠ 0 → exec c s = answered c h s w st []) ∧
     (n.toNat ≤ 262144 → st = 0 → a.toNat < lpddrTop →
       (s.badIn a.toNat n.toNat = [] → exec c s = answered c h s w 0 (w.bytesAt a.toNat n.toNat)) ∧
       (∀ b bs, s.badIn a.toNat n.toNat = b :: bs → exec c s = answered c h s (w.readFailed (b * 64) 8) 9 [])) ∧
     (n.toNat ≤ 262144 → st = 0 → lpddrTop ≤ a.toNat →
       let r := w.hostParity (w.badWordsIn a.toNat n.toNat)
       (r.2 = false → exec c s = answered c h s r.1 0 (r.1.bytesAt a.toNat n.toNat)) ∧
       (r.2 = true → exec c s = answered c h s r.1 9 []))) ∧
   (∀ (h : Hdr) (a : DWord) (n : Word) (s : State), s.accepts (.memRead h a n) h → a.toNat + n.toNat ≤ lpddrTop →
     (∀ k, k < n.toNat → s.hostMay (a.toNat + k) = true) → s.badIn a.toNat n.toNat = [] → n.toNat ≤ 262144 →
     let c := Instr.memRead h a n
     exec c s = answered c h s (s.woken c) 0 (s.mem.readN a.toNat n.toNat)) ∧
   (∀ (h : Hdr) (a : DWord) (d : List Byte) (s : State), s.accepts (.memWrite h a d) h →
     let c := Instr.memWrite h a d
     let w := s.woken c
     let st := w.hostRange a.toNat d.length
     (st ≠ 0 → exec c s = answered c h s w st []) ∧
     (st = 0 →
       let r := State.hostBlocks ((hostParts a.toNat d.length).map (fun b => (b.1, (d.drop (b.1 - a.toNat)).take b.2))) (0, w)
       exec c s = answered c h s r.2 r.1 [])) ∧
   (∀ (h : Hdr) (a : DWord) (d : List Byte) (s : State), s.accepts (.memWrite h a d) h → a.toNat + d.length ≤ lpddrTop →
     (∀ k, k < d.length → s.hostMay (a.toNat + k) = true) → s.memx.badBlocks = [] → s.cfg.trec = none →
     ∃ t, exec (.memWrite h a d) s = .next t ∧ (∀ k, k < d.length → t.mem.read (a.toNat + k) = d.getD k 0#8) ∧
       (∀ b, b < a.toNat ∨ a.toNat + d.length ≤ b → t.mem.read b = s.mem.read b) ∧ t.streams = s.streams ∧ t.execs = s.execs) ∧
   (∀ (h : Hdr) (a : DWord) (n : Word) (d : List Byte) (s : State), zoneOf a.toNat = .none →
     (s.accepts (.memRead h a n) h → n.toNat ≤ 262144 →
       exec (.memRead h a n) s = answered (.memRead h a n) h s (s.woken (.memRead h a n)) 8 []) ∧
     (s.accepts (.memWrite h a d) h →
       exec (.memWrite h a d) s = answered (.memWrite h a d) h s (s.woken (.memWrite h a d)) 8 [])))

/-! ### Ethernet, KTP and host return (15) -/

/-- 15 R372, R373, R375, 19 R504: on a port in use, a frame with a bad check sequence, too long, a pause frame, or with tags that
are not the port's one is counted, any other changes nothing; a port that is not in use receives nothing; a change of link state
is reported; a port that serves answers for its own addresses, and for no other, and one that does not serve answers nothing. -/
def Obligations.EthernetFrames : Prop :=
  (∀ (p : EthNo) (f : EthFrame) (s : State),
    let on := s.bit .hostPortCfg p 0 = true ∧ (p.val = 0 ∨ s.pwr.state < 2)
    let tagged := f.tags = [] ∨ (s.bit .hostPortCfg p 2 = true ∧ ∃ v, f.tags = [v] ∧ v.toNat = s.fld .hostPortCfg p 15 4)
    (on → f.fcsOk = false → exec (.ethFrameRx p f) s = .next (finish (s.cnt .hostPortErrCnt p 31 16 1))) ∧
    (on → f.fcsOk = true → 9216 < f.len ∨ f.pause = true ∨ ¬ tagged →
      exec (.ethFrameRx p f) s = .next (finish (s.cnt .hostPortErrCnt p 15 0 1))) ∧
    (on → f.fcsOk = true → f.len ≤ 9216 → f.pause = false → tagged → exec (.ethFrameRx p f) s = .next (finish s)) ∧
    (¬ on → exec (.ethFrameRx p f) s = .next (finish s))) ∧
  (∀ (p : EthNo) (up : Bool) (lanes : BitVec 4) (s : State),
    let u := s.updEth p (fun e => { e with link := up, lanes := lanes.toNat })
    ((s.ethPort p).link = up → exec (.ethLinkChange p up lanes) s = .next (finish u)) ∧
    ((s.ethPort p).link ≠ up → exec (.ethLinkChange p up lanes) s = .next (finish (u.event 0x0901 p)))) ∧
  (∀ (p : EthNo) (s : State),
    exec (.ethNoLight p) s = .next (finish ((s.updEth p (fun e => { e with link := false, lanes := 0 })).eventIf
      (fun x => x.peer.port.val != p.val) 0x0D03 2 0 p 0))) ∧
  (∀ (p : EthNo) (a : Word) (src : Peer) (d : List Byte) (s : State),
    let own := s.serves p = true ∧ a.toNat ≠ 0 ∧ a.toNat = s.rg .hostIpv4 p
    (own → exec (.arpRequest p a src) s = .next (finish (s.emit (.net (.arpReply p src a.toNat)))) ∧
      exec (.icmpEcho p a src d) s = .next (finish (s.emit (.net (.echoReply p src d))))) ∧
    (¬ own → exec (.arpRequest p a src) s = .next (finish s) ∧ exec (.icmpEcho p a src d) s = .next (finish s))) ∧
  (∀ (p : EthNo) (a : BitVec 128) (src : Peer) (d : List Byte) (s : State),
    let own := s.serves p = true ∧ (a.toNat = s.linkLocal p ∨ (a.toNat ≠ 0 ∧ a.toNat = s.ipv6 p))
    (own → exec (.neighbourSolicitation p a src) s = .next (finish (s.emit (.net (.neighbourAdvert p src a.toNat)))) ∧
      exec (.icmpv6Echo p a src d) s = .next (finish (s.emit (.net (.echoReply p src d))))) ∧
    (¬ own → exec (.neighbourSolicitation p a src) s = .next (finish s) ∧ exec (.icmpv6Echo p a src d) s = .next (finish s)))

/-- 15 R376, R377, R379, R380: a datagram for this device's KTP that meets no full ingress queue opens a session or belongs to one:
a malformed one, or of no session, is counted and discarded; the next datagram of a session is accepted, one after a gap or
received before is counted and acknowledged again, one far off is discarded; an acknowledgement alone only frees what it passes.
One that meets a full queue is counted as dropped, and one for another address or port is not taken. An acknowledgement owed leaves
when its delay ends; a timeout sends every unacknowledged datagram again with the timeout doubled, and the last one loses the
session, as 60 s of silence do; before their time none of these does anything. -/
def Obligations.KtpDatagrams : Prop :=
  (∀ (src : Peer) (dst : BitVec 128) (udp : Half) (data : List Byte) (s : State),
    let d := readDgram data
    let opens := d.typ = 1 ∧ d.flags.testBit 1 = false
    let does := fun (t : State) => exec (.ktpDatagram src dst udp data) s = .next (finish t)
    (s.forKtp src dst.toNat udp.toNat = false → does s) ∧
    (s.forKtp src dst.toNat udp.toNat = true → 1024 ≤ s.pwr.ingress →
      does ((s.cnt .hostKtpErrCnt 0 31 16 1).flag .hostEvt 0 1)) ∧
    (s.forKtp src dst.toNat udp.toNat = true → s.pwr.ingress < 1024 →
      (opens → dgramOk 8192 data = true → does ((s.dgramWake src d).openDgram src d)) ∧
      (opens → dgramOk 8192 data = false → does s.badDgram) ∧
      (¬ opens → s.sess d.session = none → does s.badDgram) ∧
      (∀ x, ¬ opens → s.sess d.session = some x →
        let w := (s.dgramWake src d).ackDgram x d
        let k := (d.seq + 2 ^ 32 - x.rxNext) % 2 ^ 32
        (dgramOk x.maxPayload data = false → does s.badDgram) ∧
        (dgramOk x.maxPayload data = true → d.flags.testBit 1 = true → does w) ∧
        (dgramOk x.maxPayload data = true → d.flags.testBit 1 = false →
          (k = 0 → does (w.acceptDgram x src d)) ∧
          (0 < k → k ≤ 255 → does ((w.cnt .hostKtpRxCnt 0 31 16 1).sendAck x.num)) ∧
          (2 ^ 31 ≤ k → does ((w.cnt .hostKtpRxCnt 0 15 0 1).sendAck x.num)) ∧
          (255 < k → k < 2 ^ 31 → does w.badDgram))))) ∧
  (∀ (x : Session) (src : Peer) (d : Dgram) (s : State), d.flags.testBit 2 = true →
    s.acceptDgram x src d = s.updSess x.num (fun y =>
      { y with rxNext := (y.rxNext + 1) % 2 ^ 32, gotSeq := true, ackOwed := true, owedAt := if y.ackOwed then y.owedAt else s.uptime,
               lastRx := s.uptime, peer := src, part := some (joinPart x.part d) })) ∧
  (∀ (n : Nat) (s : State),
    let due := ∃ x, s.sess n = some x ∧ x.ackOwed = true ∧ x.owedAt + s.fld .hostKtpCfg 0 27 20 * 1000 ≤ s.uptime
    (due → exec (.ktpAckDelay n) s = .next (finish (s.sendAck n))) ∧
    (¬ due → exec (.ktpAckDelay n) s = .next (finish s))) ∧
  (∀ (n : Nat) (s : State) (x : Session), s.sess n = some x → x.unacked ≠ [] → x.timerAt + x.rto * 1000 ≤ s.uptime →
    (x.expiries + 1 < s.fld .hostKtpCfg 0 19 16 →
      ∃ t, exec (.ktpRetxTimeout n) s = .next t ∧ t.rg .hostKtpRetxCnt = min (s.rg .hostKtpRetxCnt % 2 ^ 32 + x.unacked.length) 0xFFFFFFFF ∧
        (∀ d ∈ x.unacked, Out.ktp x.peer { x.stamp d with flags := (x.stamp d).flags ||| 8 } ∈ t.out) ∧
        t.mem = s.mem ∧ t.streams = s.streams) ∧
    (s.fld .hostKtpCfg 0 19 16 ≤ x.expiries + 1 → exec (.ktpRetxTimeout n) s = .next (finish (s.loseSess n)))) ∧
  (∀ (n : Nat) (s : State), (∀ x, s.sess n = some x → x.unacked = [] ∨ s.uptime < x.timerAt + x.rto * 1000) →
    exec (.ktpRetxTimeout n) s = .next (finish s)) ∧
  (∀ (n : Nat) (s : State),
    (∀ x, s.sess n = some x → x.lastRx + 60000000000 ≤ s.uptime → exec (.ktpSessionIdle n) s = .next (finish (s.loseSess n))) ∧
    ((∀ x, s.sess n = some x → s.uptime < x.lastRx + 60000000000) → exec (.ktpSessionIdle n) s = .next (finish s))) ∧
  (∀ (n : Nat) (s : State), (s.loseSess n).sess n = none ∧ (s.loseSess n).mem = s.mem ∧ (s.loseSess n).streams = s.streams)

/-- 15 R378, R384: SESSION_OPEN of a new host opens the next session number unless 16 are open, which answers BUSY; a repeated one
answers its session again; one that a check refuses answers that check's status, and one on a port that does not serve answers
nothing. SESSION_CLOSE ends its session after the reply; PING, STATUS, IDENTITY, CONFIG_READ and TREC_CTL STATUS answer their
records. 15 R383, R384, 18 R478: a message of no open session does nothing; one that needs a wake waits for it; one that a check
before its own rule refuses answers that check's status alone. -/
def Obligations.Sessions : Prop :=
  (∀ (src : Peer) (tag epoch mask : Word) (mp : Half) (s : State),
    let i := Instr.sessionOpen src tag epoch mask mp
    let ok := s.gate i = 0 ∧ (epoch = 0 ∨ epoch.toNat = s.epoch)
    (s.serves src.port = false → exec i s = .next (finish s)) ∧
    (s.serves src.port = true → s.gate i ≠ 0 → exec i s = .next (finish (s.sessReply src 0 (s.gate i) tag.toNat []))) ∧
    (s.serves src.port = true → s.gate i = 0 → epoch ≠ 0 → epoch.toNat ≠ s.epoch →
      exec i s = .next (finish (s.sessReply src 0 4 tag.toNat []))) ∧
    (∀ x, s.serves src.port = true → ok → s.reopened src tag.toNat = some x →
      exec i s = .next (finish (s.sessReply src x.num 0 tag.toNat s.openPayload))) ∧
    (s.serves src.port = true → ok → s.reopened src tag.toNat = none →
      (s.sessions.length < 16 →
        let x := s.newSess src tag.toNat mask.toNat mp.toNat
        let u := { s with sessions := s.sessions ++ [x], nextSession := nextSess s.nextSession }
        exec i s = .next (finish ((u.recordMsg i x.num 0 s.openPayload).2.sessReply src x.num 0 tag.toNat s.openPayload))) ∧
      (16 ≤ s.sessions.length → exec i s = .next (finish ((s.recordMsg i 0 7 []).2.sessReply src 0 7 tag.toNat []))))) ∧
  (∀ (h : Hdr) (s : State), s.accepts (.sessionClose h) h →
    let c := Instr.sessionClose h
    exec c s = .next (finish (((s.woken c).conclude c h s.epoch 0 []).dropSess h.session))) ∧
  (∀ (h : Hdr) (s : State),
    (s.accepts (.ping h) h → exec (.ping h) s = answered (.ping h) h s (s.woken (.ping h)) 0 s.pingPay) ∧
    (s.accepts (.status h) h → exec (.status h) s = answered (.status h) h s (s.woken (.status h)) 0 s.statusPay) ∧
    (s.accepts (.identity h) h → exec (.identity h) s = answered (.identity h) h s (s.woken (.identity h)) 0 s.identityPay) ∧
    (s.accepts (.configRead h) h →
      exec (.configRead h) s = answered (.configRead h) h s (s.woken (.configRead h)) 0 s.configRead) ∧
    (s.accepts (.trecStatus h) h →
      exec (.trecStatus h) s = answered (.trecStatus h) h s (s.woken (.trecStatus h)) 0 s.trec.header)) ∧
  (∀ (i : Instr) (h : Hdr) (s : State), msgHdr i = some h →
    (s.open h.session = false → exec i s = .next (finish s)) ∧
    (s.open h.session = true → s.mustWake i = true → exec i s = .next (finish
      { s.wake 2 with pwr := { (s.wake 2).pwr with wakeMsgs := s.pwr.wakeMsgs ++ [i] } })) ∧
    (s.open h.session = true → s.mustWake i = false → s.gate i ≠ 0 →
      exec i s = .next (finish ((if s.gate i = 0x801 then (s.woken i).flag .trecEvt 0 1 else s.woken i).reply i h none (s.gate i)
        s.epoch []))))

/-- 15 R386: the host-return buffer of a stream leaves as STREAM_DATA when it holds a batch, or a frame tick or ENDED found it
non-empty, and the session's window has room, and not otherwise; a BE stream's next sample enters it while it has room and the
domain issues ticks, and not otherwise; a queue with a parity error faults its stream instead (12 R319). -/
def Obligations.HostReturn : Prop :=
  (∀ (i : StreamNo) (s : State),
    let x := s.stream i
    let goes := x.isOpen = true ∧ (x.dir.dest = 0x100 ∨ s.replay.active = true) ∧ s.winRoom (s.dataSess x) = true ∧
      (x.del.flush = true ∨ x.dir.state = .ended ∨ s.retBatch ≤ x.del.hostBuf.length)
    (goes → x.del.hostBuf ≠ [] →
      ∃ t, exec (.hostReturnSend i) s = .next t ∧ (t.stream i).del.hostBuf = [] ∧
        (t.stream i).del.hostFirst = x.del.hostFirst + x.del.hostBuf.length ∧ (t.stream i).del.flush = false ∧
        (t.stream i).dir = x.dir ∧ (∀ j : StreamNo, j ≠ i → t.stream j = s.stream j) ∧ t.mem = s.mem) ∧
    (¬ goes ∨ x.del.hostBuf = [] → exec (.hostReturnSend i) s = .next (finish s))) ∧
  (∀ (i : StreamNo) (s : State),
    let x := s.stream i
    let takes := x.isOpen = true ∧ x.dir.be = true ∧ x.dir.dest = 0x100 ∧ x.dir.state ≠ .paused ∧ x.dir.state ≠ .faulted ∧
      x.isClosing = false ∧ (∀ e, x.life.exportP = some e → e.move = true → e.capAt = none) ∧
      (s.td x.dir.domain).ticking = true ∧ x.del.hostBuf.length < 4096
    (∀ v q, takes → x.del.queue = v :: q → x.del.bad = false →
      ∃ t, exec (.beHostTake i) s = .next t ∧ (t.stream i).del.queue = q ∧
        (t.stream i).del.hostBuf = (if s.replay.active then x.del.hostBuf else x.del.hostBuf ++ [v]) ∧
        (t.stream i).del.takes = x.del.takes + 1 ∧
        (t.stream i).dir = x.dir ∧ (∀ j : StreamNo, j ≠ i → t.stream j = s.stream j) ∧ t.mem = s.mem) ∧
    (takes → x.del.queue ≠ [] → x.del.bad = true → exec (.beHostTake i) s = .next (finish (s.bufParity i))) ∧
    (¬ takes ∨ x.del.queue = [] → exec (.beHostTake i) s = .next (finish s)))

/-- 15 R391, R392: a Sync's offset is measured against the path delay, in one or two steps, and a frequency beyond 2 % is a rate
step of the domains that follow the port; the sixteenth offset in a row below 1 µs locks the servo; a delay answer sets the path
delay; a better clock becomes the master and a silent one is dropped; an instance that is off or has no master does nothing. 15
R393, R395: an RTP stream starts while its port's servo is locked, else sets CFG_ERR; once its media clock has filled a packet, the
packet leaves with its header, its samples and its route, unless the device may not send (16 R416, 19 R499). -/
def Obligations.PtpAndRtp : Prop :=
  (∀ (p : EthNo) (seq : Half) (t1 t2 ppm : Int) (s : State),
    (s.ptpOn p = true →
      exec (.ptpSync p seq true t1 t2 ppm) s = .next (finish
        ((s.updPtp p (fun x => { x with pendSync := some (seq.toNat, t2) })).ptpFreq p ppm)) ∧
      exec (.ptpSync p seq false t1 t2 ppm) s = .next (finish ((s.ptpMeasure p t1 t2).ptpFreq p ppm)) ∧
      ((s.ptpI p).pendSync = some (seq.toNat, t2) → exec (.ptpFollowUp p seq t1) s = .next (finish (s.ptpMeasure p t1 t2))) ∧
      ((∀ t, (s.ptpI p).pendSync ≠ some (seq.toNat, t)) → exec (.ptpFollowUp p seq t1) s = .next (finish s))) ∧
    (s.ptpOn p = false → ∀ two, exec (.ptpSync p seq two t1 t2 ppm) s = .next (finish s) ∧
      exec (.ptpFollowUp p seq t1) s = .next (finish s))) ∧
  (∀ (p : Nat) (ppm : Int) (s : State), ppm.natAbs ≤ 20000 → s.ptpFreq p ppm = s) ∧
  (∀ (p : EthNo) (t1 t2 : Int) (s : State), (t2 - t1 - (s.ptpI p).pathDelay).natAbs < 1000 → (s.ptpI p).locked = false →
    let t := s.ptpMeasure p t1 t2
    t.rg .hostPtpOffset p = ((t2 - t1 - (s.ptpI p).pathDelay) % 2 ^ 32).toNat ∧
      (t.ptpI p).locked = decide (16 ≤ (s.ptpI p).underRun + 1)) ∧
  (∀ (p : EthNo) (seq : Half) (t3 t4 : Int) (s : State),
    (s.ptpOn p = true →
      (let q := (s.ptpI p).delaySeq % 65536
       exec (.ptpDelayReqTimer p t3) s = .next (finish ((s.updPtp p (fun x => { x with t3 := t3, delaySeq := q + 1 })).emit
         (.net (.delayReq p (s.fld .hostPtpCfg p 21 16) (s.bit .hostPtpCfg p 2) q))))) ∧
      ((s.ptpI p).delaySeq = seq.toNat + 1 →
        exec (.ptpDelayResp p seq t4) s = .next (finish (s.updPtp p (fun x =>
          { x with pathDelay := ((x.t2 - x.t1) + (t4 - x.t3)) / 2 })))) ∧
      ((s.ptpI p).delaySeq ≠ seq.toNat + 1 → exec (.ptpDelayResp p seq t4) s = .next (finish s)) ∧
      exec (.ptpAnnounceTimeout p) s = .next (finish
        ((s.updPtp p (fun x => { x with master := none, pendSync := none })).ptpLock p false))) ∧
    (s.ptpOn p = false → exec (.ptpDelayReqTimer p t3) s = .next (finish s) ∧
      exec (.ptpDelayResp p seq t4) s = .next (finish s) ∧ exec (.ptpAnnounceTimeout p) s = .next (finish s))) ∧
  (∀ (p : EthNo) (clock : DWord) (better : Bool) (s : State),
    let taken := s.bit .hostPtpCfg p 0 = true ∧ (better = true ∨ (s.ptpI p).master = none) ∧ (s.ptpI p).master ≠ some clock.toNat
    (taken → exec (.ptpAnnounce p clock better) s = .next (finish
      ((s.updPtp p (fun x => { x with master := some clock.toNat })).event 0x0904 p 0 clock.toNat))) ∧
    (¬ taken → exec (.ptpAnnounce p clock better) s = .next (finish s))) ∧
  (∀ (r : RtpNo) (s : State),
    (s.rtpOn r = true → exec (.rtpEnSet r) s = .next (finish s)) ∧
    (s.rtpOn r = false → (s.ptpI (s.rtpPort r)).locked = true →
      exec (.rtpEnSet r) s = .next (finish
        { s.setFld .hostRtpCtl r 0 0 1 with
          rtp := Tab.set s.rtp r { Rtp.start with ts := s.mediaIdx (s.rtpPort r) (s.rtpDom r) + 1 } })) ∧
    (s.rtpOn r = false → (s.ptpI (s.rtpPort r)).locked = false →
      exec (.rtpEnSet r) s = .next (finish (s.flag .hostEvt 0 6)))) ∧
  (∀ (r : RtpNo) (s : State),
    let u := s.rtpAdvance r
    let x := u.rtpS r
    let n := s.rtpLen r
    let d := s.rtpDom r
    let ts := (x.ts - x.pkt.length + s.fld .hostRtpCfg 0 31 16) % 2 ^ 32
    let ws := (x.pkt.take n).flatMap (fun w => if s.hbOk d (s.tick d) then w else w.map (fun _ => 0))
    let v := u.updRtp r (fun y => { y with pkt := y.pkt.drop n, seq := (y.seq + 1) % 65536 })
    let may := s.replay.active = false ∧ s.silenced d = false
    (s.rtpOn r = false → exec (.rtpPacketSend r) s = .next (finish s)) ∧
    (s.rtpOn r = true → x.pkt.length < n → exec (.rtpPacketSend r) s = .next (finish u)) ∧
    (s.rtpOn r = true → n ≤ x.pkt.length → may → exec (.rtpPacketSend r) s = .next (finish (v.emit
      (.rtp r (s.rtpRoute r) x.seq ts (s.rtpHeader r x.seq ts ++ ws.flatMap (beBytes (s.rtpBits r / 8))))))) ∧
    (s.rtpOn r = true → n ≤ x.pkt.length → ¬ may → exec (.rtpPacketSend r) s = .next (finish v)) ∧
    (s.rtpDirect r = true → u = s))

/-! ### Images, resets and the start (17, 21) -/

/-- 17 R436 to R439: a chunk that its checks refuse ends the upload; one that is stored is answered, and the last one of a whole
image that passes waits for its programming, while an image that fails its checks is refused and discarded; a first chunk in
Groundsheet goes into the erased partition, later ones after it, and in stage 2 into the update area. The end of programming
answers the last chunk, and in Groundsheet lets the start go on where the image clears its HOLD; with nothing programmed it does
nothing. A module that fetches its firmware asks its twin, again 60 s after the last request, and stores what the twin sends; the
twin answers from its own partition; a module that does not fetch, or is not the one asked, does nothing. -/
def Obligations.ImageUploads : Prop :=
  (∀ (h : Hdr) (kind : Byte) (off total : Word) (d : List Byte) (s : State), s.accepts (.imageUpload h kind off total d) h →
    let c := Instr.imageUpload h kind off total d
    let w := s.woken c
    let st := s.chunkStatus h.session kind.toNat off.toNat total.toNat d.length
    let old := if off = 0 then [] else ((s.dev.upload.map (fun u => u.data)).getD [])
    let u : Upload := { session := h.session, kind := kind.toNat, total := total.toNat, data := old ++ d }
    let v := w.storeChunk u off.toNat d
    let e : State := { v with dev := { v.dev with upload := none, upd := 0 } }
    let img := v.gathered u
    (st ≠ 0 → exec c s = answered c h s { w with dev := { s.dev with upload := none, upd := 0 } } st []) ∧
    (st = 0 → u.data.length < total.toNat → exec c s = answered c h s v 0 []) ∧
    (st = 0 → total.toNat ≤ u.data.length →
      (∀ b, v.gatherBad u = some b →
        exec c s = answered c h s ((e.readFailed (b * 64) (reqCode .mgmt)).deviceFault 0x22 (b * 64)) 0x503 []) ∧
      (v.gatherBad u = none → v.imageStatus kind.toNat img ≠ 0 →
        exec c s = answered c h s e (v.imageStatus kind.toNat img) []) ∧
      (v.gatherBad u = none → v.imageStatus kind.toNat img = 0 →
        let p : Option (PendMsg × Upload) := some (⟨c, s.epoch⟩, { u with data := img })
        exec c s = .next (finish { v with dev := { v.dev with upload := none, upd := 2, program := p } })))) ∧
  (∀ (u : Upload) (off : Nat) (d : List Byte) (s : State),
    let t := { s with dev := { s.dev with upload := some u, upd := 1 } }
    (s.dev.stage = 2 → ∀ a, s.cfg.update = some a → s.storeChunk u off d = t.poke (a.base + off) d) ∧
    (s.dev.stage ≠ 2 → s.storeChunk u off d = t.setPart u.kind u.data)) ∧
  (∀ (ok : Bool) (s : State),
    (s.dev.program = none → exec (.imageProgramDone ok) s = .next (finish s)) ∧
    (∀ m u, s.dev.program = some (m, u) →
      let good := ok && s.flash.present
      let v := { s with dev := { s.dev with program := none, upd := if good && s.dev.stage == 2 then 3 else 0 } }
      let x := (v.setPart u.kind (if good then u.data else [])).concludeLater m (if good then 0 else 0x506) []
      let on := good = true ∧ x.dev.stage = 0 ∧ x.clearsHold u.kind = true
      (¬ on → exec (.imageProgramDone ok) s = .next (finish x)) ∧
      (on → exec (.imageProgramDone ok) s = .next (finish { x with dev := { x.dev with hold := 0, starting := true } })))) ∧
  (∀ (s : State),
    let due := s.fetching = true ∧ s.dev.fetchAt + 60000000000 ≤ s.uptime
    let off := match s.dev.upload with | some u => if u.session = 0 then u.data.length else 0 | none => 0
    let t := { s with dev := { s.dev with fetchAt := s.uptime } }
    (∀ n, due → s.twinLinks.head? = some n →
      exec .imageFetchRetry s = .next (finish (t.sendOn n s.twinId 0 8 0 (leBytes 4 off ++ leBytes 4 0)).2)) ∧
    (due → s.twinLinks.head? = none → exec .imageFetchRetry s = .next (finish t)) ∧
    (¬ due → exec .imageFetchRetry s = .next (finish s))) ∧
  (∀ (src : Half) (off : Word) (s : State),
    let asked := s.dev.stage = 2 ∧ s.twinIs src.toNat = true ∧ off.toNat < s.flash.firmware.length
    (∀ n, asked → s.twinLinks.head? = some n →
      exec (.imageReq src off) s = .next (finish (s.sendOn n src.toNat 2 9 0
        (leBytes 4 off.toNat ++ leBytes 4 s.flash.firmware.length ++ (s.flash.firmware.drop off.toNat).take imageChunk)).2)) ∧
    (¬ asked ∨ s.twinLinks.head? = none → exec (.imageReq src off) s = .next (finish s))) ∧
  (∀ (off total : Word) (d : List Byte) (s : State),
    let r := s.uploadChunk ⟨.imageFetchRetry, 0⟩ 0 0 off.toNat total.toNat d
    (s.fetching = false → exec (.imageData off total d) s = .next (finish s)) ∧
    (s.fetching = true → r.1 = 0 → r.2.1 = false → exec (.imageData off total d) s = .next (finish r.2.2.sendImageReq)) ∧
    (s.fetching = true → r.1 ≠ 0 ∨ r.2.1 = true → exec (.imageData off total d) s = .next (finish r.2.2)) ∧
    (s.fetching = true → s.dev.upload = none → off = 0 → d.length < total.toNat → total.toNat ≤ partSize 0 →
      let u : Upload := { session := 0, kind := 0, total := total.toNat, data := d }
      exec (.imageData off total d) s = .next (finish
        ((({ s with dev := { s.dev with upload := some u, upd := 1 } }).setPart 0 d).sendImageReq))))

/-- 17 R450 to R456, 21 R513 to R516, R521: which event causes a device-wide reset and which does not: RST_N while power is good,
the watchdog while it is armed, a management reset 10 ms after its reply, PWR_GOOD once the supplies and the temperature let it
rise, and a stage that fails or a temperature that trips; each does nothing of the kind where its condition does not hold. RESET
of a built Pitch answers the one before it, resets the Pitch and answers when that ends; of any other it is refused. -/
def Obligations.ResetCauses : Prop :=
  (∀ (h : Hdr) (s : State), s.accepts (.resetMgmt h) h →
    let c := Instr.resetMgmt h
    exec c s = answered c h s (s.woken c).resetSoon 0 []) ∧
  (∀ (s : State), s.resetSoon.dev = { s.dev with mgmtReset := some (s.dev.mgmtReset.getD s.uptime) }) ∧
  (∀ (s : State),
    let due := s.dev.pwrGood = true ∧ ∃ t, s.dev.mgmtReset = some t ∧ t + 10000000 ≤ s.uptime
    (due → exec .mgmtResetFire s = .next (finish (s.deviceReset .mgmt))) ∧
    (¬ due → exec .mgmtResetFire s = .next (finish s))) ∧
  (∀ (s : State),
    let due := s.dev.pwrGood = true ∧ s.dev.wdogArmed = true
    (due → exec .watchdogTimeout s = .next (finish (s.deviceReset .wdog))) ∧
    (¬ due → exec .watchdogTimeout s = .next (finish s))) ∧
  (∀ (s : State),
    let t := { s with dev := { s.dev with rstLow := true } }
    (s.dev.pwrGood = true → exec .pinReset s = .next (finish (t.deviceReset .pin))) ∧
    (s.dev.pwrGood = false → exec .pinReset s = .next (finish t))) ∧
  (∀ (s : State), exec .pinResetRelease s = .next (finish { s with dev := { s.dev with rstLow := false } })) ∧
  (∀ (s : State), exec .supplyStagesStart s = .next (finish { s with dev := { s.dev with supplies := true } })) ∧
  (∀ (s : State), exec .supplyFault s = .next (finish { s with dev := { s.dev with supplies := false } }.stagesOff)) ∧
  (∀ (s : State), exec .pwrGoodHeldLow s = .next (finish s.stagesOff)) ∧
  (∀ (s : State),
    let may := s.dev.pwrGood = false ∧ s.dev.supplies = true ∧ s.dev.trip = false
    (may → exec .pwrGoodRise s = .next (finish ({ s with dev := { s.dev with pwrGood := true } }.deviceReset .por))) ∧
    (¬ may → exec .pwrGoodRise s = .next (finish s))) ∧
  (∀ (s : State), exec .thermalTrip s = .next (finish { s with dev := { s.dev with trip := true } }.stagesOff)) ∧
  (∀ (s : State),
    let t := { s with dev := { s.dev with trip := false } }
    (s.dev.trip = true → s.dev.pwrGood = false → s.dev.supplies = true →
      exec .thermalRelease s = .next (finish ({ t with dev := { t.dev with pwrGood := true } }.deviceReset .por))) ∧
    (s.dev.trip = true → s.dev.pwrGood = true ∨ s.dev.supplies = false → exec .thermalRelease s = .next (finish t)) ∧
    (s.dev.trip = false → exec .thermalRelease s = .next (finish s))) ∧
  (∀ (h : Hdr) (p : Byte) (s : State), s.accepts (.resetPitch h p) h →
    let c := Instr.resetPitch h p
    let x := s.pitch p.toNat
    let own := fun (x : Pitch) => { x with resetMsg := some ⟨c, s.epoch⟩ }
    (p.toNat < 16 → x.built = true → x.resetMsg = none →
      exec c s = .next (finish (((s.woken c).resetPitch p.toNat 0 0 []).updPitch p.toNat own))) ∧
    (∀ o, p.toNat < 16 → x.built = true → x.resetMsg = some o →
      exec c s = .next (finish ((((s.woken c).concludeLater o 0 []).resetPitch p.toNat 0 0 []).updPitch p.toNat own))) ∧
    (¬ (p.toNat < 16 ∧ x.built = true) → exec c s = answered c h s (s.woken c) 0x405 []))

/-- 17 R426, R450, R451, R454, R456, 21 R513, R514: what a reset leaves: Groundsheet with nothing running; LPDDR5X kept but
after a power-on; the uptime and the flash kept; retired entries stay retired; P4 loses all memory. -/
def Obligations.ResetLeaves : Prop :=
  (∀ (s : State) (c : Cause), s.dev.starting = false → c ≠ .por →
    let t := s.deviceReset c
    t.dev.stage = 0 ∧ t.dev.hold = 0 ∧ t.dev.starting = true ∧ t.dev.cause = c ∧ t.cfg = Cfg.reset ∧ t.sessions = [] ∧
      t.execs = [] ∧ t.units = [] ∧ t.pitches = [] ∧ t.ctxs = [] ∧ t.models = [] ∧ t.links = [] ∧ t.kiosks = [] ∧
      t.sec.level = 0 ∧ t.sec.maxSeen = 0 ∧ t.pwr = Pwr.reset ∧ t.uptime = s.uptime ∧ t.memx.badBlocks = s.memx.badBlocks ∧
      (∀ a, t.mem.read a = if a < lpddrTop then s.mem.read a else 0#8) ∧
      (∀ i, (t.stream i).dir.state = .free) ∧
      (s.dev.program = none → t.flash = s.flash)) ∧
  (∀ (s : State), s.dev.starting = false →
    let t := s.deviceReset .por
    t.dev.stage = 0 ∧ t.dev.cause = .por ∧ t.mem = [] ∧ t.uptime = 0 ∧ t.streams = [] ∧ t.sessions = [] ∧ t.nextSession = 1 ∧
      t.trec = Trec.reset) ∧
  (∀ (s : State), s.stagesOff.mem = [] ∧ s.stagesOff.pwr.state = 4 ∧ s.stagesOff.dev.starting = false ∧
    s.stagesOff.dev.pwrGood = false)

/-- 17 R427 to R432: a start ends in stage 2, or is held in Groundsheet with a code; a module whose flash does not answer, is too
small, or has no directory, is held at step 2 with that step's code; a step that takes too long holds the device with its code, a
free one (log 63) where the spec names none. A module that is not starting, whose RST_N is low or whose power is not good starts
nothing. -/
def Obligations.DeviceStarts : Prop :=
  (∀ (env : StartEnv) (s : State), s.dev.starting = true → s.dev.rstLow = false → s.dev.pwrGood = true → s.dev.holdStep ≠ 3 →
    s.dev.hold = 0 →
    (env.flashAnswers = false ∨ env.flashMiB < 64 →
      ∃ t, exec (.deviceStart env) s = .next t ∧ t.dev.hold = 1 ∧ t.dev.holdStep = 2 ∧ t.dev.stage = 0 ∧
        t.dev.starting = false ∧ t.mem = s.mem) ∧
    (env.flashAnswers = true → 64 ≤ env.flashMiB → env.dirOk = false →
      ∃ t, exec (.deviceStart env) s = .next t ∧ t.dev.hold = 2 ∧ t.dev.holdStep = 2 ∧ t.dev.stage = 0 ∧ t.dev.starting = false ∧
        t.mem = s.mem)) ∧
  (∀ (env : StartEnv) (s : State), s.dev.starting = true → s.dev.rstLow = false → s.dev.pwrGood = true → s.dev.hold = 0 →
    ∃ t, exec (.deviceStart env) s = .next t ∧ t.dev.starting = false ∧
      (t.dev.hold = 0 → t.dev.stage = 2 ∧ t.dev.startMs = env.startMs) ∧ (t.dev.hold ≠ 0 → t.dev.stage = 0)) ∧
  (∀ (env : StartEnv) (s : State), s.dev.starting = false ∨ s.dev.rstLow = true ∨ s.dev.pwrGood = false →
    exec (.deviceStart env) s = .next (finish s)) ∧
  (∀ (s : State), s.dev.starting = true → s.dev.pwrGood = true →
    exec (.startStepTimeout 2) s = .next (finish (s.holdAt 3 2)) ∧
    exec (.startStepTimeout 3) s = .next (finish ((s.holdAt 4 3).fetchLinks)) ∧
    exec (.startStepTimeout 4) s = .next (finish (s.holdAt 6 4)) ∧
    (∀ n, n = 1 ∨ 5 ≤ n ∧ n ≤ 8 →
      exec (.startStepTimeout n) s = .next (finish ({ s with free := s.free + 1 }.holdAt (1 + Config.freeNat s.free % 6) n)))) ∧
  (∀ (s : State) (n : Nat), s.dev.starting = false ∨ s.dev.pwrGood = false ∨ n = 0 ∨ 8 < n →
    exec (.startStepTimeout n) s = .next (finish s))

/-- 17 R445, R446, R448: staged records whose form, values and classes pass join those staged, and the reply told how many
bytes are staged; others are refused. A commit takes them all under the next epoch, unless nothing is staged or a roll is under
way; with no domain ticking they take force 1 ms later, and not before or otherwise. A drained Pitch takes the epoch of its roll;
one of a ticking domain that does not drain, or whose units run, does nothing. -/
def Obligations.Configuration : Prop :=
  (∀ (h : Hdr) (d : List Byte) (s : State), s.accepts (.configStage h d) h →
    let c := Instr.configStage h d
    let l := parseRecs (d.length + 1) d
    let n := s.cfg.stagedBytes + ((l.getD []).map recSize).sum
    (stageStatus s.cfg.stagedBytes l = 0 →
      exec c s = answered c h s { s.woken c with cfg := { s.cfg with staged := s.cfg.staged ++ l.getD [], stagedBytes := n } } 0
        (leBytes 4 n)) ∧
    (∀ st, st ≠ 0 → stageStatus s.cfg.stagedBytes l = st → exec c s = answered c h s (s.woken c) st [])) ∧
  (∀ (h : Hdr) (s : State), s.accepts (.configCommit h) h →
    let c := Instr.configCommit h
    (s.cfg.staged = [] → exec c s = answered c h s (s.woken c) 0x50B []) ∧
    (s.cfg.staged ≠ [] → s.cfg.rolling = true → exec c s = answered c h s (s.woken c) 0x50C []) ∧
    (s.cfg.staged ≠ [] → s.cfg.rolling = false →
      let e := if s.cfg.epoch = 0xFFFFFFFF then 1 else s.cfg.epoch + 1
      let k : Commit := { recs := s.cfg.staged.zipIdx.map (fun p => (p.2, p.1)), epoch := e, since := s.uptime }
      exec c s = answered c h s
        { s.woken c with cfg := { s.cfg with staged := [], stagedBytes := 0, commit := some k, rolling := true, rollEpoch := e } } 0
        (leBytes 4 e))) ∧
  (∀ (s : State),
    let due := s.td0.ticking = false ∧ s.td1.ticking = false ∧ ∃ k, s.cfg.commit = some k ∧ k.since + 1000000 ≤ s.uptime
    (due → exec .configCommitTimer s = .next (finish (s.commitApply 0))) ∧
    (¬ due → exec .configCommitTimer s = .next (finish s)) ∧
    (∀ k, due → s.cfg.commit = some k → k.recs = [] → s.builtPitches = [] →
      ∃ t, exec .configCommitTimer s = .next t ∧ t.cfg.epoch = k.epoch ∧ t.cfg.commit = none ∧ t.cfg.rolling = false)) ∧
  (∀ (p : PitchNo) (s : State),
    let ticks := (s.td (s.pitchDom p)).ticking = true ∨ s.cfg.commit.isSome = true
    let drained := s.draining p = true ∧ s.pitchQuiet p = true
    let d := s.cycle - s.cfg.drainFrom.getD s.cycle
    (ticks → drained → exec (.pitchRollDrainDone p) s = .next (finish (((s.applyClass (.pitch p)).adopt p d).nextRoll))) ∧
    (ticks → ¬ drained → exec (.pitchRollDrainDone p) s = .next (finish s)) ∧
    (¬ ticks → exec (.pitchRollDrainDone p) s = .next (finish ((s.rollIdle p).rollEnd p))) ∧
    (s.cfg.rolling = true → s.cfg.commit = none → s.cfg.nextPitch = p → s.cfg.drainFrom.isSome = true →
      (s.pitch p).built = true → (s.pitch p).roll = true → (s.td (s.pitchDom p)).ticking = true → s.pitchQuiet p = true →
      s.cfg.toApply = [] → (∀ q, q ≠ p.val → (s.pitch q).roll = false) →
      ∃ t, exec (.pitchRollDrainDone p) s = .next t ∧ (t.pitch p).epoch = s.cfg.rollEpoch ∧ (t.pitch p).roll = false ∧
        t.cfg.rolling = false ∧ t.streams = s.streams ∧ t.execs = s.execs))

/-! ### Security, power and debug (18) -/

/-- 18 R460, R461, R468 to R472: an attestation is signed, and answered when the signer is done, which then reports to those it
refused; a busy signer refuses another, and a module without an identity every one. A policy that passes every check comes into
force, one that fails is counted and reported, and one that the flash cannot keep is refused. A level not above the one in force
or the free one needs no token; a higher one takes the tokens the policy asks for, and a refusal is counted and reported. -/
def Obligations.Security : Prop :=
  (∀ (h : Hdr) (nonce : List Byte) (s : State), s.accepts (.attest h nonce) h →
    let c := Instr.attest h nonce
    let w := s.woken c
    (s.sec.signer = none → s.sec.idOk = true → exec c s = .next (finish
      { w with sec := { s.sec with signer := some ⟨⟨c, s.epoch⟩, w.report nonce⟩ } })) ∧
    (s.sec.signer = none → s.sec.idOk = false → exec c s = answered c h s w 0x608 []) ∧
    (s.sec.signer.isSome = true → h.session ∉ s.sec.refused →
      exec c s = answered c h s { w with sec := { s.sec with refused := s.sec.refused ++ [h.session] } } 0x607 []) ∧
    (s.sec.signer.isSome = true → h.session ∈ s.sec.refused → exec c s = answered c h s w 0x607 [])) ∧
  (∀ (s : State),
    (s.sec.signer = none → exec .attestSignDone s = .next (finish s)) ∧
    (∀ j, s.sec.signer = some j →
      exec .attestSignDone s = .next (finish (s.concludeLater j.msg 0 (withSigs j.report)).signerFree))) ∧
  (∀ (s : State), s.signerFree =
    ({ s with sec := { s.sec with signer := none, refused := [] } }).each s.sec.refused (fun s n =>
      s.eventIf (fun x => x.num == n) 0x0C04 n 0 0 0)) ∧
  (∀ (h : Hdr) (b : List Byte) (ts : List (List Byte)) (s : State), s.accepts (.authPolicy h b ts) h →
    let c := Instr.authPolicy h b ts
    let w := s.woken c
    let st := s.policyStatus b ts
    let told := fun (u : State) => ((u.inc .secRefCnt).flag .secEvt 0 0).event 0x0C01 h.session 0 st 0x80
    (st = 0x607 ↔ s.sec.signer.isSome = true) ∧
    (st ≠ 0 → st ≠ 0x607 ∨ h.session ∈ s.sec.refused → exec c s = answered c h s (told w) st []) ∧
    (st = 0x607 → h.session ∉ s.sec.refused →
      exec c s = answered c h s (told { w with sec := { s.sec with refused := s.sec.refused ++ [h.session] } }) st []) ∧
    (st = 0 → s.flash.present = false ∨ s.flash.counterAuth = false → exec c s = answered c h s w 0x609 []) ∧
    (st = 0 → s.flash.present = true → s.flash.counterAuth = true →
      exec c s = answered c h s (w.policyInForce b) 0 [] ∧
      ∃ t, exec c s = .next t ∧ t.sec.lifecycle = leAt b 8 1 ∧ t.sec.policy = some b ∧ t.flash.ctr2 = s.flash.ctr2 + 1 ∧
        t.dev.mgmtReset = (if leAt b 8 1 = 3 then some (s.dev.mgmtReset.getD s.uptime) else s.dev.mgmtReset) ∧
        ((∀ k, (s.kiosk k).held = none) → t.streams = s.streams ∧ t.execs = s.execs))) ∧
  (∀ (h : Hdr) (l : Byte) (ts : List (List Byte)) (s : State), s.accepts (.debugLevel h l ts) h →
    let c := Instr.debugLevel h l ts
    let w := s.woken c
    let n := l.toNat
    let st := firstFail (s.tokenRows ⟨1, fitTo 48 s.sec.challenge, s.flash.ctr2⟩ n ts)
    (3 < n → exec c s = answered c h s (w.inc .secRefCnt) 0x60A []) ∧
    (n ≤ 3 → n ≤ s.sec.level → exec c s = answered c h s ((w.levelTo n 0).levelRecord n) 0 []) ∧
    (n ≤ 3 → s.sec.level < n → n ≤ s.freeLevel →
      exec c s = answered c h s (((w.levelTo n 0).levelRecord n).newChallenge) 0 []) ∧
    (n ≤ 3 → s.sec.level < n → s.freeLevel < n → st ≠ 0 →
      exec c s = answered c h s (((w.inc .secRefCnt).flag .secEvt 0 0).event 0x0C01 h.session 0 st 0x82) st []) ∧
    (n ≤ 3 → s.sec.level < n → s.freeLevel < n → st = 0 →
      let k := countTokens (ts.filter (fun t => decide (n ≤ leAt t 6 1)))
      exec c s = answered c h s (((w.levelTo n k).levelRecord n).newChallenge) 0 []) ∧
    (n ≤ 3 → n ≤ s.sec.level ∨ n ≤ s.freeLevel → (∀ k, (s.kiosk k).held = none) →
      ∃ t, exec c s = .next t ∧ t.sec.level = n ∧ t.sec.maxSeen = (if s.sec.level = n then s.sec.maxSeen else max s.sec.maxSeen n) ∧
        t.sec.lifecycle = s.sec.lifecycle ∧ t.streams = s.streams ∧ t.execs = s.execs) ∧
    (n ≤ 3 → s.sec.level < n → s.freeLevel < n → ts = [] → s.sec.lifecycle ≠ 0 → 1 ≤ s.policyByte 9 →
      exec c s = answered c h s (((w.inc .secRefCnt).flag .secEvt 0 0).event 0x0C01 h.session 0 0x604 0x82) 0x604 []))

/-- 18 R476 to R479: a request for P1 changes the state at once, one for P2 or P3 is entered when both domains have stopped; a
request that a condition forbids is refused with its code and flagged, and one outside P0 that is accepted changes nothing; a
cause wakes the device in a lower state or on the way down, the first cause counts, and the wake ends in P0. 18 R480, R481: a
measurement above the cap takes a clock step while one is left, and at the floor notes the miss; below it, 50 calm ones in a row
take a step back. -/
def Obligations.PowerStates : Prop :=
  (∀ (s : State), s.p1Ok = true →
    let busy := s.pitches.any (fun e => e.2.built || e.2.building)
    (s.pwr.state = 0 →
      exec .pwrReqP1 s = .next (finish (s.powerTo 1 0)) ∧
      exec .pwrReqP2 s = .next (finish { s with pwr := { s.pwr with target := some 2 } }) ∧
      (busy = false → exec .pwrReqP3 s = .next (finish { s with pwr := { s.pwr with target := some 3 } }))) ∧
    (s.pwr.state ≠ 0 →
      exec .pwrReqP1 s = .next (finish s) ∧ exec .pwrReqP2 s = .next (finish s) ∧
      (busy = false → exec .pwrReqP3 s = .next (finish s))) ∧
    (busy = true → exec .pwrReqP3 s = .next (finish ({ s with pwr := { s.pwr with refuse := 0x60C } }.flag .pwrEvt 0 0)))) ∧
  (∀ (s : State), s.p1Ok = false →
    let r := { s with pwr := { s.pwr with refuse := 0x60B } }.flag .pwrEvt 0 0
    exec .pwrReqP1 s = .next (finish r) ∧ exec .pwrReqP2 s = .next (finish r) ∧ exec .pwrReqP3 s = .next (finish r)) ∧
  (∀ (s : State),
    let stays := s.pwr.target = none ∨ s.td0.ticking = true ∨ s.td1.ticking = true
    let ds := [0, 1].filter (fun d => (s.td d).mon == .acquire)
    let u := s.each ds (fun s d => s.updTd d (fun t => { t with mon := .stopped }))
    let v := { u with pwr := { u.pwr with stoppedDoms := u.pwr.stoppedDoms ++ ds } }
    (stays → exec .powerEntryDone s = .next (finish s)) ∧
    (∀ k, s.pwr.target = some k → ¬ stays →
      let x := (if v.hasTwin then v.twinEnd else v).powerTo k 0
      exec .powerEntryDone s = .next (finish { x with pwr := { x.pwr with waking := x.pwr.wakePend.isSome } })) ∧
    (∀ k, s.pwr.target = some k → s.td0.mon ∈ [.off, .stopped] → s.td1.mon ∈ [.off, .stopped] → s.hasTwin = false →
      ∃ t, exec .powerEntryDone s = .next t ∧ t.pwr.state = k ∧ t.pwr.target = none ∧ t.td0 = s.td0 ∧ t.td1 = s.td1 ∧
        t.streams = s.streams ∧ t.ctxs = s.ctxs)) ∧
  (∀ (s : State),
    let deaf := s.pwr.waking = true ∨ s.pwr.wakePend.isSome = true ∨ (s.pwr.state = 0 ∧ s.pwr.target = none)
    let woke := fun k => { s with pwr := { s.pwr with wakePend := some k, waking := decide (s.pwr.state ≠ 0) } }
    let due := s.bit .pwrCtl 0 8 = true ∧ s.pwr.state ≠ 0 ∧ s.pwr.entered + s.rg .pwrWakeTimer * 1000000 ≤ s.uptime
    (deaf → exec .wakePin s = .next (finish s)) ∧
    (¬ deaf → exec .wakePin s = .next (finish (woke 1))) ∧
    (deaf ∨ ¬ due → exec .wakeTimer s = .next (finish s)) ∧
    (¬ deaf → due → exec .wakeTimer s = .next (finish (woke 3)))) ∧
  (∀ (s : State),
    let wakes := s.pwr.state ≠ 0 ∧ s.pwr.waking = true
    let t := s.powerBack
    (wakes → exec .wakeDone s = .next (finish
      (({ t with pwr := { t.pwr with wakeMsgs := [], ingress := 0 } }).each s.pwr.wakeMsgs State.runInstr))) ∧
    (¬ wakes → exec .wakeDone s = .next (finish s)) ∧
    (∀ k, wakes → s.pwr.wakeMsgs = [] → s.pwr.wakePend = some k → s.pwr.stoppedDoms = [] →
      ∃ t, exec .wakeDone s = .next t ∧ t.pwr.state = 0 ∧ t.pwr.wake = k ∧ t.pwr.waking = false ∧ t.td0 = s.td0 ∧ t.td1 = s.td1 ∧
        t.streams = s.streams)) ∧
  (∀ (dw : Nat) (s : State),
    let cap := s.fld .pwrCap 0 9 0 * 10
    let u := s.setRg .pwrMeas 0 (min dw 65535)
    let calm := if dw * 100 ≤ 95 * cap then s.pwr.calm + 1 else 0
    let v := { u with pwr := { u.pwr with calm := calm, atFloor := false } }
    let back := 50 ≤ calm ∧ s.capShed = false ∧ 0 < s.pwr.step
    let stepTo := fun (x : State) (k : Nat) =>
      ((({ x with pwr := { x.pwr with step := k, calm := 0 } }).inc .pwrStepCnt).flag .pwrEvt 0 2)
    (s.pwr.state ≠ 0 → exec (.powerMeasure dw) s = .next (finish u)) ∧
    (s.pwr.state = 0 → cap < dw → s.pwr.step < s.clockFloor →
      exec (.powerMeasure dw) s = .next (finish (stepTo u (s.pwr.step + 1)))) ∧
    (s.pwr.state = 0 → cap < dw → s.clockFloor ≤ s.pwr.step →
      exec (.powerMeasure dw) s = .next (finish (u.capOver dw))) ∧
    (s.pwr.state = 0 → dw ≤ cap → back → exec (.powerMeasure dw) s = .next (finish (stepTo v (s.pwr.step - 1)))) ∧
    (s.pwr.state = 0 → dw ≤ cap → ¬ back → exec (.powerMeasure dw) s = .next (finish v))) ∧
  (∀ (dw : Nat) (s : State),
    let t := s.capOver dw
    t.pwr.atFloor = true ∧ t.pwr.calm = 0 ∧ t.pwr.cap0.seen = true ∧ t.pwr.cap1.seen = true ∧ t.pwr.step = s.pwr.step ∧
      t.streams = s.streams ∧
      (s.capShed = true → t.pwr.capMiss = true ∧ t.bit .pwrEvt 0 1 = true) ∧
      (s.capShed = false → t.regs = s.regs ∧ t.sessions = s.sessions))

/-- 18 R471, R474, R475, R483: at debug level 2 the selected Kiosk halts, goes on, runs one instruction, lets a held exception
go and takes a written register; below it, and where the Kiosk is not in the state each needs, none of these does anything. A step
onto a word that cannot be fetched or is no instruction takes its exception. JTAG reads and writes registers and aligned words of
memory within its level, and nothing in P2 and P3. -/
def Obligations.KioskDebug : Prop :=
  (∀ (s : State) (v : Word), s.sec.level < 2 →
    exec .kioskHaltSet s = .next (finish s) ∧ exec .kioskHaltClear s = .next (finish s) ∧ exec .kioskStep s = .next (finish s) ∧
    exec .kioskExcRelease s = .next (finish s) ∧ exec (.kioskViewWrite v) s = .next (finish s)) ∧
  (∀ (s : State), 2 ≤ s.sec.level →
    let k := s.dbgKiosk
    exec .kioskHaltSet s = .next (finish (s.updKiosk k (fun x => if x.halt then x else
      { x with halt := true, haltAt := if x.run = .idle ∨ x.run = .run then s.cycle else x.haltAt })))) ∧
  (∀ (s : State), 2 ≤ s.sec.level →
    let x := s.kiosk s.dbgKiosk
    let u := fun (t : State) => t.updKiosk s.dbgKiosk (fun x => { x with halt := false })
    (x.halt = false → exec .kioskHaltClear s = .next (finish s)) ∧
    (x.halt = true → x.halted = true → x.held = none →
      exec .kioskHaltClear s = .next (finish (u (s.kioskResumed s.dbgKiosk)))) ∧
    (x.halt = true → x.halted = false ∨ x.held ≠ none → exec .kioskHaltClear s = .next (finish (u s)))) ∧
  (∀ (s : State), 2 ≤ s.sec.level →
    let k := s.dbgKiosk
    let may := (s.kiosk k).halt = true ∧ (s.kiosk k).held = none ∧ s.kioskRuns k = true
    let u := (s.kioskResumed k).updKiosk k (fun x => { x with halt := false })
    let after := fun (t : State) => t.updKiosk k (fun y => { y with halt := true, haltAt := s.cycle })
    let code := fun w => kioskDecode ⟨k % 256, Nat.mod_lt _ (by decide)⟩ w
    (¬ may → exec .kioskStep s = .next (finish s)) ∧
    (may → u.fetchWord k = none → exec .kioskStep s = .next (finish (after (u.kioskExc k 4 (some (s.kiosk k).pc))))) ∧
    (∀ w i, may → u.fetchWord k = some w → code w = some i → kioskLegal i = true →
      exec .kioskStep s = .next (finish (after (u.kioskDo i)))) ∧
    (∀ w i, may → u.fetchWord k = some w → code w = some i → kioskLegal i = false →
      exec .kioskStep s = .next (finish (after (u.kioskExc k 1 none)))) ∧
    (∀ w, may → u.fetchWord k = some w → code w = none →
      exec .kioskStep s = .next (finish (after (u.kioskExc k 1 none))))) ∧
  (∀ (s : State), 2 ≤ s.sec.level →
    (∀ c, (s.kiosk s.dbgKiosk).held = some c →
      exec .kioskExcRelease s = .next (finish ((s.updKiosk s.dbgKiosk (fun x => { x with held := none })).excFault s.dbgKiosk c))) ∧
    ((s.kiosk s.dbgKiosk).held = none → exec .kioskExcRelease s = .next (finish s))) ∧
  (∀ (s : State) (v : Word), 2 ≤ s.sec.level →
    ((s.kiosk s.dbgKiosk).halted = true → exec (.kioskViewWrite v) s = .next (finish
      ((s.updKiosk s.dbgKiosk (fun x => s.viewPut x v.toNat)).record 8 s.dbgKiosk s.defaultDom
        (leBytes 2 (s.fld .dbgKskViewSel 0 6 0) ++ leBytes 2 0 ++ leBytes 4 v.toNat)))) ∧
    ((s.kiosk s.dbgKiosk).halted = false → exec (.kioskViewWrite v) s = .next (finish s))) ∧
  (∀ (a : DWord) (v : Word) (s : State),
    let wr := exec (.jtagDbgAccess true a v) s
    let rd := exec (.jtagDbgAccess false a v) s
    (2 ≤ s.pwr.state ∨ s.sec.level < 3 → wr = .next (finish s)) ∧
    (2 ≤ s.pwr.state ∨ s.sec.level = 0 → rd = .next (finish (s.emit (.jtag 0)))) ∧
    (∀ o, regOff a.toNat = some o →
      (s.pwr.state < 2 → 3 ≤ s.sec.level → wr = .next (finish (s.regWriteAt .mgmt o v.toNat).2)) ∧
      (s.pwr.state < 2 → 1 ≤ s.sec.level →
        rd = .next (finish ((s.regRead1 .mgmt o).2.2.emit (.jtag (s.regRead1 .mgmt o).2.1))))) ∧
    (regOff a.toNat = none → a.toNat % 4 = 0 →
      (s.pwr.state < 2 → 3 ≤ s.sec.level → wr = .next (finish (s.hostWrite a.toNat (leBytes 4 v.toNat)).2)) ∧
      (s.pwr.state < 2 → 1 ≤ s.sec.level →
        let r := s.hostRead a.toNat 4
        rd = .next (finish (r.2.2.emit (.jtag (leNat r.2.1)))))) ∧
    (regOff a.toNat = none → a.toNat % 4 ≠ 0 → s.pwr.state < 2 →
      (3 ≤ s.sec.level → wr = .next (finish s)) ∧ (1 ≤ s.sec.level → rd = .next (finish (s.emit (.jtag 0))))))

/-! ### Chip links and the twin (16) -/

/-- 16 R403, R404, 18 R476: the states of a link: off and on, a detected signal, 5 ms without one, a decoded pattern, a training
flit sent every 1 µs, the loss of an UP link's signal and the next attempt after 1 ms; a training flit received in EXCHANGE is
noted, brings the link UP once the peer has seen ours, or shows a loop of the device onto itself. In every other state of the
link, before its time, and outside P0 and P1 for what needs the link to run, these do nothing. -/
def Obligations.LinkStates : Prop :=
  (∀ (n : LinkNo) (s : State),
    let on := s.setFld .linkChCfg n 0 0 1
    ((s.link n).state = .off →
      exec (.linkEnSet n) s = .next (finish (on.updLink n (fun l => { l with state := .seek, since := s.uptime, trainAt := none })))) ∧
    ((s.link n).state ≠ .off → exec (.linkEnSet n) s = .next (finish on))) ∧
  (∀ (n : LinkNo) (s : State),
    let u := (s.setFld .linkChCfg n 0 0 0).linkTo n .off
    ((s.link n).state = .up → exec (.linkEnClear n) s = .next (finish (u.event 0x0A02 n))) ∧
    ((s.link n).state ≠ .up → exec (.linkEnClear n) s = .next (finish u))) ∧
  (∀ (n : LinkNo) (b : Bool) (s : State),
    let l := s.link n
    let late := fun ns => l.since + ns ≤ s.uptime
    let trains := s.pwr.state < 2 ∧ l.state = .exchange ∧ ∀ t, l.trainAt = some t → t + 1000 ≤ s.uptime
    (l.state = .seek → exec (.linkSignalDetect n) s = .next (finish
      (s.updLink n (fun l => { l with state := .align, since := s.uptime })))) ∧
    (l.state ≠ .seek → exec (.linkSignalDetect n) s = .next (finish s)) ∧
    (l.state = .seek → late 5000000 → exec (.linkSeekTimeout n) s = .next (finish
      (s.updLink n (fun l => { l with crossed := !l.crossed, since := s.uptime })))) ∧
    (l.state ≠ .seek ∨ ¬ late 5000000 → exec (.linkSeekTimeout n) s = .next (finish s)) ∧
    (l.state = .align → exec (.linkPatternDecoded n b) s = .next (finish (s.updLink n (fun l =>
      { l with state := .exchange, inverted := b, seen := false, train := [], since := s.uptime, trainAt := none })))) ∧
    (l.state ≠ .align → exec (.linkPatternDecoded n b) s = .next (finish s)) ∧
    (trains → exec (.linkTrainSend n) s = .next (finish ((s.updLink n (fun l => { l with trainAt := some s.uptime })).emit (.train n
      ({ idleFlit l.rxNext with src := s.ownId, typ := 1, payload := s.trainPayload n } : Flit).bytes)))) ∧
    (¬ trains → exec (.linkTrainSend n) s = .next (finish s)) ∧
    (l.state = .up → exec (.linkSignalLoss n) s = .next (finish
      (((s.linkTo n .down).cnt .linkChErrCnt n 31 28 1).event 0x0A02 n))) ∧
    (l.state ≠ .up → exec (.linkSignalLoss n) s = .next (finish s)) ∧
    (l.state = .down ∨ l.state = .loopback → late 1000000 →
      exec (.linkRetrainTimer n) s = .next (finish (s.linkTo n .seek))) ∧
    (¬ (l.state = .down ∨ l.state = .loopback) ∨ ¬ late 1000000 → exec (.linkRetrainTimer n) s = .next (finish s))) ∧
  (∀ (n : LinkNo) (b : List Byte) (s : State),
    (2 ≤ s.pwr.state ∨ ((s.link n).state ≠ .up ∧ (s.link n).state ≠ .exchange) → exec (.linkFlitRx n b) s = .next (finish s)) ∧
    (s.pwr.state < 2 → (s.link n).state = .exchange →
      (parseFlit b = none → exec (.linkFlitRx n b) s = .next (finish (s.cnt .linkChErrCnt n 15 0 1))) ∧
      (∀ f, parseFlit b = some f → f.typ ≠ 1 → exec (.linkFlitRx n b) s = .next (finish s)) ∧
      (∀ f, parseFlit b = some f → f.typ = 1 →
        let id := numAt f.payload 0 2
        let own := s.idValid = true ∧ (byteAt f.payload 3).testBit 1 = true ∧ id = s.ownId
        let u := s.updLink n (fun l => { l with seen := true, train := f.payload })
        let w := u.linkUp n id (byteAt f.payload 2 % 64)
        (own → exec (.linkFlitRx n b) s = .next (finish ((s.linkTo n .loopback).event 0x0D03 3 0 n))) ∧
        (¬ own → (byteAt f.payload 3).testBit 0 = false → exec (.linkFlitRx n b) s = .next (finish u)) ∧
        (¬ own → (byteAt f.payload 3).testBit 0 = true →
          exec (.linkFlitRx n b) s = .next (finish (if w.fetching then w.sendImageReq else w))) ∧
        (¬ own → (byteAt f.payload 3).testBit 0 = true → s.dev.stage = 2 →
          ∃ t, exec (.linkFlitRx n b) s = .next t ∧ (t.link n).state = .up ∧ (t.link n).peerId = id ∧
            (t.link n).rxNext = 0 ∧ (t.link n).train = f.payload ∧ (∀ m, m ≠ n.val → t.link m = s.link m) ∧ t.mem = s.mem))))

/-- 16 R399 to R402, R406, R409, R410, 18 R476: on an UP link an acknowledgement frees what it passes; a flit out of order, or with
a bad CRC, is discarded and one NAK is owed; a training flit takes the link DOWN, and a NAK sends what is unacknowledged again; an
owed NAK leaves first, then a queued flit, else IDLE; 20 µs without an acknowledgement send every unacknowledged flit again, and
the 32nd act of sending again takes the link DOWN; a second's resends beyond the threshold are reported once; a staged route entry
of a valid base is installed, another is flagged. A link that is not UP, or outside P0 and P1, carries nothing. -/
def Obligations.LinkFlits : Prop :=
  (∀ (n : LinkNo) (b : List Byte) (s : State), s.pwr.state < 2 → (s.link n).state = .up → parseFlit b = none →
    exec (.linkFlitRx n b) s = .next (finish ((s.cnt .linkChErrCnt n 15 0 1).updLink n (fun l =>
      if l.nakSent then l else { l with nakSent := true, nakOwed := true })))) ∧
  (∀ (n : LinkNo) (b : List Byte) (s : State) (f : Flit), s.pwr.state < 2 → (s.link n).state = .up → parseFlit b = some f →
    let got := exec (.linkFlitRx n b) s
    let a := s.ackRx n f.ack
    let due := (s.updLink n (fun l => { l with rxNext := (l.rxNext + 1) % 4096, nakSent := false, nakOwed := false })).ackRx n f.ack
    (f.typ = 0 → got = .next (finish a)) ∧
    (f.typ = 1 → got = .next (finish (((s.linkTo n .down).cnt .linkChErrCnt n 31 28 1).event 0x0A02 n))) ∧
    (f.typ = 2 → (a.link n).unacked = [] → got = .next (finish a)) ∧
    (f.typ = 2 → (a.link n).unacked ≠ [] → got = .next (finish (a.resend n))) ∧
    (f.typ = 3 → f.seq = (s.link n).rxNext → got = .next (finish (due.tickRx n f.payload))) ∧
    (f.typ = 4 → f.seq = (s.link n).rxNext → got = .next (finish (due.msgFlit n f))) ∧
    (f.typ = 3 ∨ f.typ = 4 → f.seq ≠ (s.link n).rxNext →
      got = .next (finish (s.updLink n (fun l => if l.nakSent then l else { l with nakSent := true, nakOwed := true })))) ∧
    (f.typ = 0 → (s.link n).unacked = [] → got = .next (finish s)) ∧
    (f.typ = 0 → ∀ g, (s.link n).unacked = [g] → g.seq < 4095 → f.ack = g.seq + 1 → g.typ = 3 →
      got = .next (finish (s.updLink n (fun l => { l with unacked := [], resends := 0, ackAt := s.uptime })))) ∧
    (f.typ = 4 → f.seq = (s.link n).rxNext → (s.link n).unacked = [] → s.idValid = true → f.dst = s.ownId → f.isFirst = true →
      f.isLast = false → (s.link n).asm = [] →
      ∃ t, got = .next t ∧ (t.link n).asm = [⟨f.src, f.msgId, f.cls, f.payload⟩] ∧
        (t.link n).rxNext = ((s.link n).rxNext + 1) % 4096 ∧ (∀ m, m ≠ n.val → t.link m = s.link m) ∧ t.mem = s.mem)) ∧
  (∀ (n : LinkNo) (s : State),
    let l := s.link n
    let runs := s.pwr.state < 2 ∧ l.state = .up
    let idles := s.emit (.flit n (idleFlit l.rxNext).bytes)
    (¬ runs → exec (.flitBoundary n) s = .next (finish s)) ∧
    (runs → l.nakOwed = true → exec (.flitBoundary n) s = .next (finish ((s.updLink n (fun l => { l with nakOwed := false })).emit
      (.flit n ({ idleFlit l.rxNext with typ := 2 } : Flit).bytes)))) ∧
    (runs → l.nakOwed = false → l.queue = [] ∨ 512 ≤ l.unacked.length ∨ l.next = none →
      exec (.flitBoundary n) s = .next (finish idles)) ∧
    (∀ q, runs → l.nakOwed = false → l.unacked.length < 512 → l.next = some q →
      let r := l.takeFlit q s.uptime
      exec (.flitBoundary n) s = .next (finish ((s.updLink n (fun _ => r.2)).emit (.flit n r.1.bytes)))) ∧
    (∀ q, runs → l.nakOwed = false → l.queue = [q] → q.flit.typ = 3 → l.unacked.length < 512 →
      let f : Flit := { q.flit with seq := l.txSeq, ack := l.rxNext }
      ∃ t, exec (.flitBoundary n) s = .next t ∧ (t.link n).unacked = l.unacked ++ [f] ∧ (t.link n).queue = [] ∧
        (t.link n).txSeq = (l.txSeq + 1) % 4096 ∧ Out.flit n f.bytes ∈ t.out)) ∧
  (∀ (n : LinkNo) (s : State),
    let l := s.link n
    let late := l.state = .up ∧ l.unacked ≠ [] ∧ l.ackAt + 20000 ≤ s.uptime
    let k := l.unacked.length
    let u := (s.each l.unacked (fun s f => s.emitFlit n { f with ack := l.rxNext })).cnt .linkChErrCnt n 27 16 k
    let v := u.updLink n (fun l =>
      { l with resends := l.resends + 1, retries := l.retries.add s.second k, ackAt := s.uptime })
    (¬ late → exec (.linkAckTimeout n) s = .next (finish s)) ∧
    (late → l.resends < 31 → exec (.linkAckTimeout n) s = .next (finish v)) ∧
    (late → 31 ≤ l.resends → exec (.linkAckTimeout n) s = .next (finish
      (((v.linkTo n .down).cnt .linkChErrCnt n 31 28 1).event 0x0A02 n))) ∧
    (late → l.resends < 31 → ∃ t, exec (.linkAckTimeout n) s = .next t ∧ (t.link n).state = .up ∧ (t.link n).unacked = l.unacked ∧
      (t.link n).resends = l.resends + 1 ∧
      (∀ f ∈ l.unacked, Out.flit n ({ f with ack := l.rxNext } : Flit).bytes ∈ t.out) ∧ t.mem = s.mem)) ∧
  (∀ (n : LinkNo) (s : State),
    let r := (s.link n).retries
    let w := s.fld .linkCtl 0 31 16
    let due := w ≠ 0 ∧ w < r.count ∧ r.warned ≠ r.sec + 1
    let u := s.updLink n (fun l => { l with retries := { r with warned := r.sec + 1 } })
    (due → exec (.linkRetryWarn n) s = .next (finish ((u.flag .linkEvt 0 1).event 0x0A03 n 0 r.count))) ∧
    (¬ due → exec (.linkRetryWarn n) s = .next (finish s))) ∧
  (∀ (s : State),
    let b := leBytes 4 (s.rg .linkRtData0) ++ leBytes 4 (s.rg .linkRtData1) ++ leBytes 4 (s.rg .linkRtData2)
    let ok := numAt b 0 2 % 2 ^ (byteAt b 2 % 16) = 0 ∧ byteAt b 2 < 16
    (ok → exec .routeInstall s = .next (finish { s with routes := Tab.set s.routes (s.fld .linkRtIdx 0 11 0) b })) ∧
    (¬ ok → exec .routeInstall s = .next (finish (s.flag .linkEvt 0 2))))

/-- 16 R414 to R419: a twin whose training data match is attached, a standby's only while its mirrored domains are locked to a
twin link; another is refused with its code. An attached standby takes forwarded records, stores the packs of a checkpoint in the
half that receives, abandons one that does not fit, makes it the complete one when all its packs have come, and notes
heartbeats; a module that is not an attached standby takes none of these. A detach waits for the next frame tick, and is refused
where there is no twin. -/
def Obligations.TwinMirrors : Prop :=
  (∀ (n : LinkNo) (s : State),
    let may := s.bit .linkTwinCfg 0 31 = true ∧ s.dev.stage = 2 ∧ (s.twin.state = .attaching ∨ s.twin.state = .refused) ∧
      (s.link n).state = .up ∧ s.bit .linkChCfg n 3 = true
    let r := s.attachRefusal n
    let no := { s with twin := { s.twin with state := .refused, refuse := r } }
    (¬ may → exec (.twinAttach n) s = .next (finish s)) ∧
    (may → r ≠ 0 → numAt (s.link n).train 0 2 = s.twinId → exec (.twinAttach n) s = .next (finish no)) ∧
    (may → r ≠ 0 → numAt (s.link n).train 0 2 ≠ s.twinId →
      r = 0x704 ∧ exec (.twinAttach n) s = .next (finish (no.event 0x0D03 4 0 n (s.link n).peerId))) ∧
    (may → r = 0 → s.standby = true → s.mirrorLocked = false → exec (.twinAttach n) s = .next (finish s)) ∧
    (may → r = 0 → s.standby = false ∨ s.mirrorLocked = true → exec (.twinAttach n) s = .next (finish
      (({ s with twin := { s.twin with state := .attached, refuse := 0 } }.event 0x0A04 s.twinId).twinRecord)))) ∧
  (∀ (n : LinkNo) (s : State), numAt (s.link n).train 0 2 ≠ s.twinId → s.attachRefusal n = 0x704) ∧
  (∀ (b : List Byte) (s : State),
    (s.mirroring = false ∨ parseRec b = none → exec (.twinInput b) s = .next (finish s)) ∧
    (∀ r, s.mirroring = true → parseRec b = some r →
      let u := { s with twin := { s.twin with inputs := s.twin.inputs ++ [r] } }
      exec (.twinInput b) s = .next (finish (u.applyInput r)) ∧
      (r.kind ∉ [2, 3, 7, 10] → exec (.twinInput b) s = .next (finish u)) ∧
      (r.kind = 10 → leAt r.body 0 1 = 6 → exec (.twinInput b) s = .next (finish
        { u with twin := { u.twin with detach := true } })))) ∧
  (∀ (f : DWord) (tag : Word) (pack : List Byte) (s : State),
    let u := { s with twin := if s.twin.ckptF = f.toNat then s.twin else
      { s.twin with ckptF := f.toNat, packs := [], wr := 0, abandoned := false } }
    (s.mirroring = false → exec (.twinCkpt f tag pack) s = .next (finish s)) ∧
    (s.mirroring = true →
      s.cfg.twinArea = none ∨ u.twin.abandoned = true ∨ (∃ a, s.cfg.twinArea = some a ∧ a.size < u.twin.wr + pack.length) →
      (u.twin.abandoned = true → exec (.twinCkpt f tag pack) s = .next (finish u)) ∧
      (u.twin.abandoned = false → exec (.twinCkpt f tag pack) s = .next (finish
        ({ u with twin := { u.twin with abandoned := true, packs := [] } }.inc .linkTwinStretchCnt)))) ∧
    (∀ a, s.mirroring = true → s.cfg.twinArea = some a → u.twin.abandoned = false → u.twin.wr + pack.length ≤ a.size →
      ∃ t, exec (.twinCkpt f tag pack) s = .next t ∧ t.twin.packs = u.twin.packs ++ [(tag.toNat, pack)] ∧
        t.twin.wr = u.twin.wr + pack.length ∧ t.twin.ckptF = f.toNat ∧
        t.mem = s.mem.write (a.base + (if s.twin.half then a.size else 0) + u.twin.wr) pack ∧ t.streams = s.streams)) ∧
  (∀ (f : DWord) (cnt : Word) (s : State),
    let u := { s with twin := if s.twin.ckptF = f.toNat then s.twin else
      { s.twin with ckptF := f.toNat, packs := [], wr := 0, abandoned := false } }
    let whole := u.twin.abandoned = false ∧ u.twin.packs.length = cnt.toNat
    (s.mirroring = false → exec (.twinCkptEnd f cnt) s = .next (finish s)) ∧
    (s.mirroring = true → ¬ whole → exec (.twinCkptEnd f cnt) s = .next (finish u)) ∧
    (s.mirroring = true → whole → ∃ t : State, exec (.twinCkptEnd f cnt) s = .next t ∧ t.twin.complete = u.twin.packs ∧
      t.twin.packs = [] ∧ t.twin.wr = 0 ∧ t.twin.fc = f.toNat ∧ t.twin.half = !s.twin.half) ∧
    (s.mirroring = true → whole → s.twin.inputs = [] → u.twin.packs = [] → exec (.twinCkptEnd f cnt) s = .next (finish
      { u with twin := { u.twin with complete := [], packs := [], wr := 0, fc := f.toNat, half := !s.twin.half } }))) ∧
  (∀ (d : Dom) (k : DWord) (s : State),
    (s.mirroring = true → exec (.twinHb d k) s = .next (finish
      { s with twin := { s.twin with lastHb := Tab.set s.twin.lastHb d k.toNat, hbMissed := 0 } })) ∧
    (s.mirroring = false → exec (.twinHb d k) s = .next (finish s))) ∧
  (∀ (h : Hdr) (s : State), s.accepts (.twinDetach h) h →
    let c := Instr.twinDetach h
    (s.hasTwin = true → exec c s = answered c h s { s.woken c with twin := { s.twin with detach := true } } 0 []) ∧
    (s.hasTwin = false → exec c s = answered c h s (s.woken c) 0x703 []))

/-- 16 R421, R422, R424, 17 R450: after HB_LOSS ticks without a heartbeat an automatic standby takes over and another only
reports the loss, as a primary does; before that nothing happens; a command takes over as well; the end of the restore leaves the
survivor alone; an order resets the primary, and nothing else. -/
def Obligations.TwinTakesOver : Prop :=
  (∀ (s : State),
    let lost := s.mirroring = true ∧ s.hbLoss ≤ s.twin.hbMissed
    (lost → s.bit .linkTwinCfg 0 17 = true → exec .twinHbLoss s = .next (finish s.twinLost)) ∧
    (lost → s.bit .linkTwinCfg 0 17 = false → exec .twinHbLoss s = .next (finish s.takeOver)) ∧
    (¬ lost → exec .twinHbLoss s = .next (finish s))) ∧
  (∀ (s : State),
    let lost := s.forwarding = true ∧ s.hbLoss ≤ s.twin.hbMissed
    (lost → exec .twinPrimaryLoss s = .next (finish s.twinLost)) ∧
    (¬ lost → exec .twinPrimaryLoss s = .next (finish s))) ∧
  (∀ (s : State), s.twinLost.twin.state = .lost ∧ s.twinLost.twin.fwdWait = [] ∧ s.twinLost.streams = s.streams) ∧
  (∀ (s : State),
    let may := s.standby = true ∧ (s.twin.state = .attached ∨ s.twin.state = .lost)
    let u := s.each s.twinLinks (fun s n => (s.sendOn n s.twinId 0 7 0 (leBytes 8 0)).2)
    (may → exec .twinTakeover s = .next (finish ({ u with twin := { u.twin with state := .taking } }.twinRecord))) ∧
    (may → ∃ t, exec .twinTakeover s = .next t ∧ t.twin.state = .taking ∧ t.streams = s.streams ∧
      t.twin.complete = s.twin.complete ∧ t.twin.inputs = s.twin.inputs) ∧
    (¬ may → exec .twinTakeover s = .next (finish s))) ∧
  (∀ (s : State),
    let u := s.hushed State.restoreAll
    let ds := [0, 1].filter (fun d => u.mirrorsDom d)
    let v := { u with twin := { u.twin.still .alone with complete := [] } }
    let w := (v.event 0x0A07 v.twinId (ds.headD 0) (s.tA (ds.headD 0))).twinRecord
    (s.twin.state = .taking → exec .twinRestoreDone s = .next (finish
      (w.each (ds.filter (fun d => w.twinSrc d)) State.sourceLost))) ∧
    (s.twin.state ≠ .taking → exec .twinRestoreDone s = .next (finish s)) ∧
    (s.twin.state = .taking → s.twin.complete = [] → s.streams = [] →
      ∃ t, exec .twinRestoreDone s = .next t ∧ t.twin.state = .alone ∧ t.twin.complete = [] ∧ t.streams = [] ∧
        t.execs = s.execs)) ∧
  (∀ (s : State),
    let obeys := s.bit .linkTwinCfg 0 31 = true ∧ s.bit .linkTwinCfg 0 16 = false ∧ s.dev.pwrGood = true
    (obeys → exec .twinOrder s = .next (finish (s.deviceReset .twin))) ∧
    (¬ obeys → exec .twinOrder s = .next (finish s)))

/-! ### The recorder (19) -/

/-- 19 R491 to R496, R501: READ answers the records it names, refuses a range that is not held and reports a block that fails its
check; ACK moves the drain point, at most to the head; CLEAR begins a new run, but not in replay; a replay begins on an empty
device with one session, takes records in order and ends with a reset, and each of these is refused where its condition does not
hold. -/
def Obligations.Recorder : Prop :=
  (∀ (h : Hdr) (q : DWord) (n : Word) (s : State), s.accepts (.trecRead h q n) h →
    let c := Instr.trecRead h q n
    let w := s.woken c
    let k := min n.toNat (s.trec.headSeq - q.toNat)
    (s.cfg.trec = none ∨ q.toNat < s.trec.tailSeq ∨ s.trec.headSeq ≤ q.toNat → exec c s = answered c h s w 0x802 []) ∧
    (∀ a b, s.cfg.trec = some a → s.trec.tailSeq ≤ q.toNat → q.toNat < s.trec.headSeq →
      s.recRead a k (s.recOff a q.toNat) (((s.sess h.session).map (fun x => x.maxPayload)).getD 0) = some b →
      exec c s = answered c h s w 0 b) ∧
    (∀ a b, s.cfg.trec = some a → s.trec.tailSeq ≤ q.toNat → q.toNat < s.trec.headSeq →
      s.recRead a k (s.recOff a q.toNat) (((s.sess h.session).map (fun x => x.maxPayload)).getD 0) = none →
      s.recBad a k (s.recOff a q.toNat) = some b →
      exec c s = answered c h s (w.readFailed (b * 64) (reqCode .mgmt)) 0x803 []) ∧
    (∀ a, s.cfg.trec = some a → s.trec.tailSeq ≤ q.toNat → q.toNat < s.trec.headSeq → s.memx.badBlocks = [] → n = 1 →
      let off := s.recOff a q.toNat
      let l := max 16 (s.mem.leN (a.base + off) 4)
      (∀ x, s.sess h.session = some x → l ≤ x.maxPayload) →
      exec c s = answered c h s w 0 (s.mem.readN (a.base + off) l))) ∧
  (∀ (h : Hdr) (q : DWord) (s : State), s.accepts (.trecAck h q) h →
    let c := Instr.trecAck h q
    let held := s.trec.drainSeq ≤ q.toNat ∧ q.toNat ≤ s.trec.headSeq
    (¬ held → exec c s = answered c h s (s.woken c) 0x802 []) ∧
    (held → s.cfg.trec = none → exec c s = answered c h s { s.woken c with trec := { s.trec with drainSeq := q.toNat } } 0 []) ∧
    (∀ a, held → s.cfg.trec = some a →
      exec c s = answered c h s
        { s.woken c with trec := { s.trec with drainSeq := q.toNat, drainOff := s.recOff a q.toNat } } 0 [])) ∧
  (∀ (h : Hdr) (s : State), s.accepts (.trecClear h) h →
    let c := Instr.trecClear h
    (s.replay.active = true → exec c s = answered c h s (s.woken c) 0x804 []) ∧
    (s.replay.active = false →
      let t := { s.trec with tail := s.trec.head, headSeq := 0, tailSeq := 0, drainSeq := 0, drainOff := s.trec.head }
      let u := ({ s.woken c with trec := t }).startRecord
      exec c s = answered c h s u 0 (leBytes 8 u.trec.headSeq))) ∧
  (∀ (h : Hdr) (s : State), s.accepts (.replayBegin h) h →
    let c := Instr.replayBegin h
    let empty := s.dev.stage = 2 ∧ s.pitches.all (fun e => !e.2.built && !e.2.building) = true ∧
      s.ctxs.all (fun e => e.2.state == .free) = true ∧ s.twin.state ≠ .attached ∧ s.sessions.length = 1
    (¬ empty → exec c s = answered c h s (s.woken c) 0x804 []) ∧
    (empty → s.replay.active = true → exec c s = answered c h s (s.woken c) 0 []) ∧
    (empty → s.replay.active = false →
      exec c s = answered c h s { s.woken c with replay := { Replay.reset with active := true, session := h.session } } 0 [])) ∧
  (∀ (h : Hdr) (d : List Byte) (s : State), s.accepts (.replayData h d) h →
    let c := Instr.replayData h d
    let w := s.woken c
    let r := w.takeRecs (d.length / 16 + 1) d 0
    (s.replay.active = false → exec c s = answered c h s w 0x804 []) ∧
    (s.replay.active = true → exec c s = answered c h s
      (r.2.2.each r.2.2.replay.stopped (fun s k => s.playTick k (s.td k).next)) r.1 (leBytes 4 r.2.1)) ∧
    (∀ r q, s.replay.active = true → parseRec d = some r → d.length = leAt d 0 4 → s.replay.lastSeq = some q → r.seq = q + 1 →
      r.kind ≠ 1 → r.kind ≠ 0xFFFF → s.recRefusal r = 0 → s.replay.stopped = [] →
      exec c s = answered c h s
        { w with replay := { s.replay with lastSeq := some r.seq, queue := s.replay.queue ++ [r],
                                           bytes := s.replay.bytes + r.size } } 0 (leBytes 4 1))) ∧
  (∀ (h : Hdr) (s : State), s.accepts (.replayEnd h) h →
    let c := Instr.replayEnd h
    (s.replay.active = true → exec c s = answered c h s (s.woken c).resetSoon 0 []) ∧
    (s.replay.active = false → exec c s = answered c h s (s.woken c) 0x804 []))

/-! ### The whole machine -/

/-- A step takes the command at the front of the queue and runs it on the state with the queue's rest; no command stops the
machine: each answers a next state. The idle step, a period of the internal reference, is the model's choice (log 2). -/
def Obligations.StepRunsTheFrontCommand : Prop :=
  (∀ (c : Instr) (rest : List Instr) (s : State), step { s with pending := c :: rest } = exec c { s with pending := rest }) ∧
  (∀ (s : State), s.pending = [] → step s = .next (idle s)) ∧
  (∀ (c : Instr) (s : State), ∃ t, exec c s = .next t)

/-- 01 R40: uptime counts ns from the 24.576 MHz reference with an exact average: 384 periods of it are 15,625 ns, each 40 or
41 ns. That an idle step is one period is the model's choice (log 2), and so is what else it may change: stored bits that spoil,
and the measured MCLK_IN, are free values of each period (logs 116, 120). -/
def Obligations.UptimeIsExact : Prop :=
  (∀ (s : State), s.phase < 1536 → (idle s).uptime = s.uptime + 40 ∨ (idle s).uptime = s.uptime + 41) ∧
  (∀ (s : State), s.phase < 1536 → s.phase % 384 = 0 → (idle^[384] s).uptime = s.uptime + 15625) ∧
  (∀ (s : State), s.phase < 1536 → (idle s).phase < 1536 ∧ (idle s).mem = s.mem ∧ (idle s).regs = s.regs ∧
    (idle s).sessions = s.sessions ∧ (idle s).td0 = s.td0 ∧ (idle s).td1 = s.td1 ∧ (idle s).execs = s.execs ∧
    (idle s).units = s.units ∧ (idle s).chans = s.chans ∧ (idle s).ports = s.ports ∧ (idle s).links = s.links ∧
    (idle s).pending = s.pending ∧ (idle s).out = s.out) ∧
  (∀ (s : State) (i : Nat), ∃ b c, (idle s).stream i = { s.stream i with
    del := { (s.stream i).del with bad := b }, feat := { (s.stream i).feat with bad := c } })

/-- What the reports of a command change: an event changes session queues and the counters of lost events; a record changes
the ring's bytes and words, the twin's queue and the recorder's counters; the end of a command sends; nothing else. -/
def Obligations.ReportsChangeNothingElse : Prop :=
  (∀ (s : State) (code subject dom a b : Nat), ∃ ss rs,
    s.event code subject dom a b = { s with sessions := ss, regs := rs } ∧ s.sameRegs (s.event code subject dom a b) reportOffs) ∧
  (∀ (s : State), ∃ ss o, finish s = { s with sessions := ss, out := o }) ∧
  (∀ (s : State) (kind subject dom : Nat) (body : List Byte),
    let t := s.record kind subject dom body
    ∃ ss rs m mx ls id rp fs tr, t =
      { s with sessions := ss, regs := rs, mem := m, memx := mx, links := ls, msgId := id, replay := rp, faultSec := fs, trec := tr } ∧
      s.sameRegs t reportOffs ∧ (s.cfg.trec = none → t.mem = s.mem) ∧
      (∀ a x, s.cfg.trec = some a → 0x10000 + recLen body.length ≤ a.size → 0x10000 ≤ s.trec.head → s.trec.head < a.size →
        x < a.base ∨ a.base + a.size ≤ x → t.mem.read x = s.mem.read x))

/-- 17 R426, R450, 12 R315 and the cards: the machine after reset: mask ROM in stage 0, mode and level 0, no command waiting,
nothing running, memory zero, every domain off, every stream free, every register at its card's value. -/
def Obligations.ResetState : Prop :=
  State.reset.pending = [] ∧ State.reset.dev.stage = 0 ∧ State.reset.dev.starting = true ∧ State.reset.sec.lifecycle = 0 ∧
  State.reset.sec.level = 0 ∧ State.reset.pwr.state = 0 ∧ State.reset.uptime = 0 ∧ State.reset.cfg.epoch = 0 ∧
  State.reset.sessions = [] ∧ State.reset.execs = [] ∧ State.reset.units = [] ∧ State.reset.nextSession = 1 ∧
  State.reset.mem.wf = true ∧ (∀ a, State.reset.mem.read a = 0#8) ∧
  (∀ d, (State.reset.td d).mon = .off ∧ (State.reset.td d).next = 0) ∧
  (∀ i, (State.reset.stream i).dir.state = .free ∧ (State.reset.stream i).dir.gen = 1) ∧
  (∀ n, (State.reset.link n).state = .off ∧ (State.reset.chan n).state = .off ∧ State.reset.tst n = Tstl.reset) ∧
  (∀ r i j, State.reset.rg r i j = r.card.reset + i * r.card.step)

/-- Every step keeps memory canonical: addresses strictly rising, no listed byte zero. -/
def Obligations.MemoryStaysCanonical : Prop :=
  ∀ (s t : State), s.mem.wf = true → step s = .next t → t.mem.wf = true
end

