-- ==== Sys2Proof/Laws/Memory.lean ====
section
/-! SUPPORT. Laws of memory: reading after a store, what a store leaves alone, and that every operation keeps the canonical
form. -/

namespace Sys2Proof.Machine

/-! ### The canonical form -/

theorem Memory.wfFrom_mono {m : Memory} {a b : Nat} (h : b ≤ a) (w : Memory.wfFrom a m = true) : Memory.wfFrom b m = true := by
  cases m with
  | nil => rfl
  | cons c t =>
    obtain ⟨k, v⟩ := c
    simp only [Memory.wfFrom, Bool.and_eq_true, decide_eq_true_eq] at w ⊢
    exact ⟨⟨by omega, w.1.2⟩, w.2⟩

/-- Every listed address of a canonical memory is at or above its bound, and its byte is not 0. -/
theorem Memory.wfFrom_mem {m : Memory} {a : Nat} (w : Memory.wfFrom a m = true) : ∀ c ∈ m, a ≤ c.1 ∧ c.2 ≠ 0#8 := by
  induction m generalizing a with
  | nil => intro c hc; cases hc
  | cons d t ih =>
    obtain ⟨k, v⟩ := d
    simp only [Memory.wfFrom, Bool.and_eq_true, decide_eq_true_eq] at w
    intro c hc
    rcases List.mem_cons.mp hc with rfl | hc
    · exact ⟨w.1.1, w.1.2⟩
    · exact ⟨by have := (ih w.2 c hc).1; omega, (ih w.2 c hc).2⟩

theorem Memory.wfFrom_filter {m : Memory} {a : Nat} (p : Host.Cell → Bool) (w : Memory.wfFrom a m = true) :
    Memory.wfFrom a (m.filter p) = true := by
  induction m generalizing a with
  | nil => rfl
  | cons d t ih =>
    obtain ⟨k, v⟩ := d
    simp only [Memory.wfFrom, Bool.and_eq_true, decide_eq_true_eq] at w
    rw [List.filter_cons]
    split
    · simp only [Memory.wfFrom, Bool.and_eq_true, decide_eq_true_eq]
      exact ⟨w.1, ih w.2⟩
    · exact Memory.wfFrom_mono (by omega) (ih w.2)

/-- Leaving cells out keeps the canonical form. -/
theorem Memory.wf_filter {m : Memory} (p : Host.Cell → Bool) (w : m.wf = true) : Memory.wf (m.filter p) = true :=
  Memory.wfFrom_filter p w

/-- A canonical list, whose addresses lie below `b`, before one whose addresses lie from `b` on. -/
theorem Memory.wfFrom_append {m n : Memory} {a b : Nat} (hm : Memory.wfFrom a m = true) (hb : ∀ c ∈ m, c.1 < b)
    (hn : Memory.wfFrom b n = true) (hab : a ≤ b) : Memory.wfFrom a (m ++ n) = true := by
  induction m generalizing a with
  | nil => exact Memory.wfFrom_mono hab hn
  | cons d t ih =>
    obtain ⟨k, v⟩ := d
    simp only [Memory.wfFrom, Bool.and_eq_true, decide_eq_true_eq] at hm
    simp only [List.cons_append, Memory.wfFrom, Bool.and_eq_true, decide_eq_true_eq]
    have hk : k < b := hb _ (List.mem_cons_self ..)
    exact ⟨hm.1, ih hm.2 (fun c hc => hb c (List.mem_cons_of_mem _ hc)) hk⟩

theorem Memory.wfFrom_above {m : Memory} {a b : Nat} (w : Memory.wfFrom a m = true) (h : ∀ c ∈ m, b ≤ c.1) :
    Memory.wfFrom b m = true := by
  cases m with
  | nil => rfl
  | cons d t =>
    obtain ⟨k, v⟩ := d
    simp only [Memory.wfFrom, Bool.and_eq_true, decide_eq_true_eq] at w ⊢
    exact ⟨⟨h _ (List.mem_cons_self ..), w.1.2⟩, w.2⟩

/-- Replacing a range by canonical cells of that range keeps the canonical form. -/
theorem Memory.wf_splice {m cells : Memory} {a len : Nat} (w : m.wf = true) (hc : Memory.wfFrom a cells = true)
    (hl : ∀ c ∈ cells, c.1 < a + len) : (m.splice a len cells).wf = true := by
  have h1 : Memory.wfFrom 0 (m.filter (fun c => decide (c.1 < a))) = true := Memory.wfFrom_filter _ w
  have h2 : Memory.wfFrom (a + len) (m.filter (fun c => decide (a + len ≤ c.1))) = true :=
    Memory.wfFrom_above (Memory.wfFrom_filter _ w) (fun c hc => by simpa using (List.mem_filter.mp hc).2)
  unfold Memory.splice Memory.wf
  rw [List.append_assoc]
  refine Memory.wfFrom_append h1 (fun c hc => by simpa using (List.mem_filter.mp hc).2) ?_ (Nat.zero_le a)
  exact Memory.wfFrom_append hc hl h2 (Nat.le_add_right a len)

theorem Memory.wfFrom_cellsAt (a : Nat) (bs : List Byte) : Memory.wfFrom a (Memory.cellsAt a bs) = true := by
  induction bs generalizing a with
  | nil => rfl
  | cons b t ih =>
    simp only [Memory.cellsAt]
    split
    · exact Memory.wfFrom_mono (Nat.le_succ a) (ih (a + 1))
    · rename_i h
      simp only [Memory.wfFrom, Bool.and_eq_true, decide_eq_true_eq]
      exact ⟨⟨Nat.le_refl a, h⟩, ih (a + 1)⟩

theorem Memory.cellsAt_lt (a : Nat) (bs : List Byte) : ∀ c ∈ Memory.cellsAt a bs, c.1 < a + bs.length := by
  induction bs generalizing a with
  | nil => intro c hc; cases hc
  | cons b t ih =>
    intro c hc
    simp only [Memory.cellsAt] at hc
    simp only [List.length_cons]
    split at hc
    · have := ih (a + 1) c hc; omega
    · rcases List.mem_cons.mp hc with rfl | hc
      · simp
      · have := ih (a + 1) c hc; omega

/-- A store keeps the canonical form. -/
theorem Memory.wf_write {m : Memory} (a : Nat) (bs : List Byte) (w : m.wf = true) : (m.write a bs).wf = true :=
  Memory.wf_splice w (Memory.wfFrom_cellsAt a bs) (Memory.cellsAt_lt a bs)

theorem Memory.wf_writeLe {m : Memory} (a n v : Nat) (w : m.wf = true) : (m.writeLe a n v).wf = true := Memory.wf_write a _ w

/-- Setting a range to zero keeps the canonical form. -/
theorem Memory.wf_zero {m : Memory} (a len : Nat) (w : m.wf = true) : (m.zero a len).wf = true :=
  Memory.wf_splice w rfl (fun _ hc => nomatch hc)

theorem Memory.wfFrom_shift {m : Memory} {a src dst len : Nat} (w : Memory.wfFrom a m = true) (ha : src ≤ a) :
    Memory.wfFrom (a - src + dst) ((m.slice src len).map (fun c => (c.1 - src + dst, c.2))) = true := by
  induction m generalizing a with
  | nil => rfl
  | cons d t ih =>
    obtain ⟨k, v⟩ := d
    simp only [Memory.wfFrom, Bool.and_eq_true, decide_eq_true_eq] at w
    have ht := ih w.2 (by omega)
    unfold Memory.slice at ht ⊢
    rw [List.filter_cons]
    split
    · simp only [List.map_cons, Memory.wfFrom, Bool.and_eq_true, decide_eq_true_eq]
      exact ⟨⟨by omega, w.1.2⟩, Memory.wfFrom_mono (by omega) ht⟩
    · exact Memory.wfFrom_mono (by omega) ht

/-- The cells of a slice lie in its range. -/
theorem Memory.slice_range {m : Memory} {a len : Nat} : ∀ c ∈ m.slice a len, a ≤ c.1 ∧ c.1 < a + len := by
  intro c hc
  simpa using (List.mem_filter.mp hc).2

/-- A copy keeps the canonical form. -/
theorem Memory.wf_copy {m : Memory} (src dst len : Nat) (w : m.wf = true) : (m.copy src dst len).wf = true := by
  refine Memory.wf_splice w ?_ ?_
  · have hs : Memory.wfFrom src (m.slice src len) = true :=
      Memory.wfFrom_above (Memory.wfFrom_filter _ w) (fun c hc => (Memory.slice_range c hc).1)
    have h := Memory.wfFrom_shift (src := src) (dst := dst) (len := len) hs (Nat.le_refl src)
    rw [show (Memory.slice (m.slice src len) src len) = m.slice src len from by
      unfold Memory.slice; rw [List.filter_filter]; simp] at h
    exact Memory.wfFrom_mono (by omega) h
  · intro c hc
    obtain ⟨d, hd, rfl⟩ := List.mem_map.mp hc
    have := Memory.slice_range d hd
    show d.1 - src + dst < dst + len
    omega

/-! ### Reads -/

@[simp] theorem Memory.read_nil (a : Nat) : Memory.read [] a = 0#8 := rfl

/-- A filter by address that keeps an address keeps its byte. -/
theorem Memory.read_filter_of {m : Memory} {p : Host.Cell → Bool} {a : Nat} (h : ∀ v, p (a, v) = true) :
    Memory.read (m.filter p) a = m.read a := by
  induction m with
  | nil => rfl
  | cons d t ih =>
    obtain ⟨k, v⟩ := d
    rw [List.filter_cons]
    by_cases hk : k = a
    · subst hk; simp [h, Memory.read]
    · split <;> simp [Memory.read, hk, ih]

/-- An address that no cell lists reads as 0. -/
theorem Memory.read_absent {m : Memory} {a : Nat} (h : ∀ c ∈ m, c.1 ≠ a) : m.read a = 0#8 := by
  induction m with
  | nil => rfl
  | cons d t ih =>
    obtain ⟨k, v⟩ := d
    rw [Memory.read, if_neg (h _ (List.mem_cons_self ..))]
    exact ih (fun c hc => h c (List.mem_cons_of_mem _ hc))

theorem Memory.read_append_left {m n : Memory} {a : Nat} (h : ∀ c ∈ n, c.1 ≠ a) : (m ++ n).read a = m.read a := by
  induction m with
  | nil => exact Memory.read_absent h
  | cons d t ih =>
    obtain ⟨k, v⟩ := d
    simp only [List.cons_append, Memory.read, ih]

theorem Memory.read_append_right {m n : Memory} {a : Nat} (h : ∀ c ∈ m, c.1 ≠ a) : (m ++ n).read a = n.read a := by
  induction m with
  | nil => rfl
  | cons d t ih =>
    obtain ⟨k, v⟩ := d
    simp only [List.cons_append, Memory.read]
    rw [if_neg (h _ (List.mem_cons_self ..))]
    exact ih (fun c hc => h c (List.mem_cons_of_mem _ hc))

/-- What a replaced range reads: its cells inside, the old bytes outside. -/
theorem Memory.read_splice {m cells : Memory} {a len x : Nat} (hc : ∀ c ∈ cells, a ≤ c.1 ∧ c.1 < a + len) :
    (m.splice a len cells).read x = if a ≤ x ∧ x < a + len then cells.read x else m.read x := by
  unfold Memory.splice
  have lo : ∀ c ∈ m.filter (fun c => decide (c.1 < a)), c.1 < a := fun c h => by simpa using (List.mem_filter.mp h).2
  have hi : ∀ c ∈ m.filter (fun c => decide (a + len ≤ c.1)), a + len ≤ c.1 := fun c h => by simpa using (List.mem_filter.mp h).2
  split
  · rename_i hx
    rw [Memory.read_append_left (fun c h => by have := hi c h; omega),
      Memory.read_append_right (fun c h => by have := lo c h; omega)]
  · rename_i hx
    by_cases h : x < a
    · rw [Memory.read_append_left (fun c hm => by have := hi c hm; omega),
        Memory.read_append_left (fun c hm => by have := hc c hm; omega), Memory.read_filter_of (fun v => by simpa using h)]
    · rw [List.append_assoc, Memory.read_append_right (fun c hm => by have := lo c hm; omega),
        Memory.read_append_right (fun c hm => by have := hc c hm; omega),
        Memory.read_filter_of (fun v => by simp; omega)]

theorem Memory.cellsAt_ge (a : Nat) (bs : List Byte) : ∀ c ∈ Memory.cellsAt a bs, a ≤ c.1 ∧ c.1 < a + bs.length := fun c hc =>
  ⟨(Memory.wfFrom_mem (Memory.wfFrom_cellsAt a bs) c hc).1, Memory.cellsAt_lt a bs c hc⟩

theorem Memory.read_cellsAt (a k : Nat) (bs : List Byte) : (Memory.cellsAt a bs).read (a + k) = bs.getD k 0#8 := by
  induction bs generalizing a k with
  | nil => simp [Memory.cellsAt]
  | cons b t ih =>
    simp only [Memory.cellsAt]
    cases k with
    | zero =>
      split
      · rename_i h
        rw [Memory.read_absent (fun c hc => by have := (Memory.cellsAt_ge (a + 1) t c hc).1; omega)]
        simp [h]
      · simp [Memory.read]
    | succ k =>
      have h := ih (a + 1) k
      rw [show a + 1 + k = a + (k + 1) from by omega] at h
      split
      · simpa using h
      · rw [Memory.read, if_neg (by omega)]; simpa using h

/-- A store: the bytes stored inside its range, every other byte as before. -/
theorem Memory.read_write (m : Memory) (a x : Nat) (bs : List Byte) :
    (m.write a bs).read x = if a ≤ x ∧ x < a + bs.length then bs.getD (x - a) 0#8 else m.read x := by
  unfold Memory.write
  rw [Memory.read_splice (Memory.cellsAt_ge a bs)]
  split
  · rename_i h
    have := Memory.read_cellsAt a (x - a) bs
    rwa [show a + (x - a) = x from by omega] at this
  · rfl

/-- A byte stored is read back. -/
theorem Memory.read_write_in {m : Memory} {a k : Nat} {bs : List Byte} (h : k < bs.length) :
    (m.write a bs).read (a + k) = bs.getD k 0#8 := by
  rw [Memory.read_write, if_pos (by omega)]
  congr 1
  omega

/-- A store leaves every other byte. -/
theorem Memory.read_write_out {m : Memory} {a x : Nat} {bs : List Byte} (h : x < a ∨ a + bs.length ≤ x) :
    (m.write a bs).read x = m.read x := by
  rw [Memory.read_write, if_neg (by omega)]

/-- A range set to zero. -/
theorem Memory.read_zero (m : Memory) (a len x : Nat) :
    (m.zero a len).read x = if a ≤ x ∧ x < a + len then 0#8 else m.read x :=
  Memory.read_splice (fun _ hc => nomatch hc)

theorem Memory.read_shift {m : Memory} {src dst len k : Nat} (h : k < len) :
    Memory.read ((m.slice src len).map (fun c => (c.1 - src + dst, c.2))) (dst + k) = m.read (src + k) := by
  induction m with
  | nil => rfl
  | cons d t ih =>
    obtain ⟨a, v⟩ := d
    unfold Memory.slice at ih ⊢
    rw [List.filter_cons]
    by_cases ha : a = src + k
    · subst ha
      rw [if_pos (by simp; omega)]
      simp only [List.map_cons, Memory.read, if_true]
      rw [if_pos (by omega)]
    · rw [Memory.read, if_neg ha]
      split
      · rename_i hp
        simp only [Bool.and_eq_true, decide_eq_true_eq] at hp
        simp only [List.map_cons, Memory.read]
        rw [if_neg (by omega)]
        exact ih
      · exact ih

/-- A copy: the source's bytes at the destination, every other byte as before. -/
theorem Memory.read_copy (m : Memory) (src dst len x : Nat) :
    (m.copy src dst len).read x = if dst ≤ x ∧ x < dst + len then m.read (src + (x - dst)) else m.read x := by
  unfold Memory.copy
  rw [Memory.read_splice]
  · split
    · rename_i h
      have := Memory.read_shift (m := m) (src := src) (dst := dst) (len := len) (k := x - dst) (by omega)
      rwa [show dst + (x - dst) = x from by omega] at this
    · rfl
  · intro c hc
    obtain ⟨d, hd, rfl⟩ := List.mem_map.mp hc
    have := Memory.slice_range d hd
    show dst ≤ d.1 - src + dst ∧ d.1 - src + dst < dst + len
    omega

theorem Memory.read_slice {m : Memory} {a len x : Nat} (h : a ≤ x ∧ x < a + len) : (m.slice a len).read x = m.read x :=
  Memory.read_filter_of (fun v => by simp [h.1, h.2])

/-- The bytes of a range, one by one. -/
theorem Memory.readN_eq (m : Memory) (a n : Nat) : m.readN a n = (List.range n).map (fun i => m.read (a + i)) := by
  unfold Memory.readN
  exact List.map_congr_left (fun i hi => Memory.read_slice ⟨by omega, by have := List.mem_range.mp hi; omega⟩)

@[simp] theorem Memory.readN_length (m : Memory) (a n : Nat) : (m.readN a n).length = n := by simp [Memory.readN]

end Sys2Proof.Machine
end

