-- ==== Sys2Proof/Laws/Access.lean ====
section
/-! SUPPORT. The three operations that store into memory: what they leave in it, that they keep its canonical form, and that
they change memory and its bad checks only. -/

namespace Sys2Proof.Machine

theorem State.poke_mem (s : State) (a : Nat) (bs : List Byte) : (s.poke a bs).mem = s.mem.write a bs := rfl
theorem State.wipe_mem (s : State) (a n : Nat) : (s.wipe a n).mem = s.mem.zero a n := rfl
theorem State.move_mem (s : State) (src dst n : Nat) : (s.move src dst n).mem = s.mem.copy src dst n := rfl

theorem State.poke_wf {s : State} (a : Nat) (bs : List Byte) (w : s.mem.wf = true) : (s.poke a bs).mem.wf = true :=
  Memory.wf_write a bs w
theorem State.wipe_wf {s : State} (a n : Nat) (w : s.mem.wf = true) : (s.wipe a n).mem.wf = true := Memory.wf_zero a n w
theorem State.move_wf {s : State} (src dst n : Nat) (w : s.mem.wf = true) : (s.move src dst n).mem.wf = true :=
  Memory.wf_copy src dst n w

theorem State.poke_read_in {s : State} {a k : Nat} {bs : List Byte} (h : k < bs.length) :
    (s.poke a bs).mem.read (a + k) = bs.getD k 0#8 := Memory.read_write_in h
theorem State.poke_read_out {s : State} {a x : Nat} {bs : List Byte} (h : x < a ∨ a + bs.length ≤ x) :
    (s.poke a bs).mem.read x = s.mem.read x := Memory.read_write_out h

/-- A store changes memory and the blocks and words known bad, and nothing else. -/
theorem State.poke_frame (s : State) (a : Nat) (bs : List Byte) :
    ∃ x, s.poke a bs = { s with mem := s.mem.write a bs, memx := x } := ⟨_, rfl⟩
theorem State.wipe_frame (s : State) (a n : Nat) : ∃ x, s.wipe a n = { s with mem := s.mem.zero a n, memx := x } := ⟨_, rfl⟩
theorem State.move_frame (s : State) (src dst n : Nat) :
    ∃ x, s.move src dst n = { s with mem := s.mem.copy src dst n, memx := x } := ⟨_, rfl⟩

@[simp] theorem State.wipe_regs (s : State) (a n : Nat) : (s.wipe a n).regs = s.regs := rfl
@[simp] theorem State.wipe_streams (s : State) (a n : Nat) : (s.wipe a n).streams = s.streams := rfl
@[simp] theorem State.wipe_execs (s : State) (a n : Nat) : (s.wipe a n).execs = s.execs := rfl
@[simp] theorem State.wipe_kiosks (s : State) (a n : Nat) : (s.wipe a n).kiosks = s.kiosks := rfl
@[simp] theorem State.move_regs (s : State) (src dst n : Nat) : (s.move src dst n).regs = s.regs := rfl
@[simp] theorem State.move_streams (s : State) (src dst n : Nat) : (s.move src dst n).streams = s.streams := rfl
@[simp] theorem State.move_execs (s : State) (src dst n : Nat) : (s.move src dst n).execs = s.execs := rfl
@[simp] theorem State.move_kiosks (s : State) (src dst n : Nat) : (s.move src dst n).kiosks = s.kiosks := rfl

end Sys2Proof.Machine
end

