-- ==== Sys2Proof/Laws/State.lean ====
section
/-! SUPPORT. What the named updates of the state leave alone, one lemma per field and update. -/

namespace Sys2Proof.Machine

section
variable (s : State) (r : RegName) (i v j : Nat)
@[simp] theorem State.setRg_pending : (s.setRg r i v j).pending = s.pending := rfl
@[simp] theorem State.setRg_free : (s.setRg r i v j).free = s.free := rfl
@[simp] theorem State.setRg_cycle : (s.setRg r i v j).cycle = s.cycle := rfl
@[simp] theorem State.setRg_uptime : (s.setRg r i v j).uptime = s.uptime := rfl
@[simp] theorem State.setRg_phase : (s.setRg r i v j).phase = s.phase := rfl
@[simp] theorem State.setRg_shadows : (s.setRg r i v j).shadows = s.shadows := rfl
@[simp] theorem State.setRg_td0 : (s.setRg r i v j).td0 = s.td0 := rfl
@[simp] theorem State.setRg_td1 : (s.setRg r i v j).td1 = s.td1 := rfl
@[simp] theorem State.setRg_streams : (s.setRg r i v j).streams = s.streams := rfl
@[simp] theorem State.setRg_groups : (s.setRg r i v j).groups = s.groups := rfl
@[simp] theorem State.setRg_vcache : (s.setRg r i v j).vcache = s.vcache := rfl
@[simp] theorem State.setRg_pages : (s.setRg r i v j).pages = s.pages := rfl
@[simp] theorem State.setRg_swap : (s.setRg r i v j).swap = s.swap := rfl
@[simp] theorem State.setRg_batches : (s.setRg r i v j).batches = s.batches := rfl
@[simp] theorem State.setRg_fbatches : (s.setRg r i v j).fbatches = s.fbatches := rfl
@[simp] theorem State.setRg_nextId : (s.setRg r i v j).nextId = s.nextId := rfl
@[simp] theorem State.setRg_pitches : (s.setRg r i v j).pitches = s.pitches := rfl
@[simp] theorem State.setRg_ctxs : (s.setRg r i v j).ctxs = s.ctxs := rfl
@[simp] theorem State.setRg_models : (s.setRg r i v j).models = s.models := rfl
@[simp] theorem State.setRg_loads : (s.setRg r i v j).loads = s.loads := rfl
@[simp] theorem State.setRg_execs : (s.setRg r i v j).execs = s.execs := rfl
@[simp] theorem State.setRg_parts : (s.setRg r i v j).parts = s.parts := rfl
@[simp] theorem State.setRg_units : (s.setRg r i v j).units = s.units := rfl
@[simp] theorem State.setRg_tstl : (s.setRg r i v j).tstl = s.tstl := rfl
@[simp] theorem State.setRg_kiosks : (s.setRg r i v j).kiosks = s.kiosks := rfl
@[simp] theorem State.setRg_mem : (s.setRg r i v j).mem = s.mem := rfl
@[simp] theorem State.setRg_memx : (s.setRg r i v j).memx = s.memx := rfl
@[simp] theorem State.setRg_chans : (s.setRg r i v j).chans = s.chans := rfl
@[simp] theorem State.setRg_ports : (s.setRg r i v j).ports = s.ports := rfl
@[simp] theorem State.setRg_sessions : (s.setRg r i v j).sessions = s.sessions := rfl
@[simp] theorem State.setRg_nextSession : (s.setRg r i v j).nextSession = s.nextSession := rfl
@[simp] theorem State.setRg_eth : (s.setRg r i v j).eth = s.eth := rfl
@[simp] theorem State.setRg_ptp : (s.setRg r i v j).ptp = s.ptp := rfl
@[simp] theorem State.setRg_rtp : (s.setRg r i v j).rtp = s.rtp := rfl
@[simp] theorem State.setRg_links : (s.setRg r i v j).links = s.links := rfl
@[simp] theorem State.setRg_routes : (s.setRg r i v j).routes = s.routes := rfl
@[simp] theorem State.setRg_msgId : (s.setRg r i v j).msgId = s.msgId := rfl
@[simp] theorem State.setRg_xfers : (s.setRg r i v j).xfers = s.xfers := rfl
@[simp] theorem State.setRg_twin : (s.setRg r i v j).twin = s.twin := rfl
@[simp] theorem State.setRg_dev : (s.setRg r i v j).dev = s.dev := rfl
@[simp] theorem State.setRg_cfg : (s.setRg r i v j).cfg = s.cfg := rfl
@[simp] theorem State.setRg_flash : (s.setRg r i v j).flash = s.flash := rfl
@[simp] theorem State.setRg_sec : (s.setRg r i v j).sec = s.sec := rfl
@[simp] theorem State.setRg_pwr : (s.setRg r i v j).pwr = s.pwr := rfl
@[simp] theorem State.setRg_trec : (s.setRg r i v j).trec = s.trec := rfl
@[simp] theorem State.setRg_replay : (s.setRg r i v j).replay = s.replay := rfl
@[simp] theorem State.setRg_faultSec : (s.setRg r i v j).faultSec = s.faultSec := rfl
@[simp] theorem State.setRg_out : (s.setRg r i v j).out = s.out := rfl
end

section
variable (s : State) (r : RegName) (i hi lo v : Nat)
@[simp] theorem State.setFld_pending : (s.setFld r i hi lo v).pending = s.pending := rfl
@[simp] theorem State.setFld_free : (s.setFld r i hi lo v).free = s.free := rfl
@[simp] theorem State.setFld_cycle : (s.setFld r i hi lo v).cycle = s.cycle := rfl
@[simp] theorem State.setFld_uptime : (s.setFld r i hi lo v).uptime = s.uptime := rfl
@[simp] theorem State.setFld_phase : (s.setFld r i hi lo v).phase = s.phase := rfl
@[simp] theorem State.setFld_shadows : (s.setFld r i hi lo v).shadows = s.shadows := rfl
@[simp] theorem State.setFld_td0 : (s.setFld r i hi lo v).td0 = s.td0 := rfl
@[simp] theorem State.setFld_td1 : (s.setFld r i hi lo v).td1 = s.td1 := rfl
@[simp] theorem State.setFld_streams : (s.setFld r i hi lo v).streams = s.streams := rfl
@[simp] theorem State.setFld_groups : (s.setFld r i hi lo v).groups = s.groups := rfl
@[simp] theorem State.setFld_vcache : (s.setFld r i hi lo v).vcache = s.vcache := rfl
@[simp] theorem State.setFld_pages : (s.setFld r i hi lo v).pages = s.pages := rfl
@[simp] theorem State.setFld_swap : (s.setFld r i hi lo v).swap = s.swap := rfl
@[simp] theorem State.setFld_batches : (s.setFld r i hi lo v).batches = s.batches := rfl
@[simp] theorem State.setFld_fbatches : (s.setFld r i hi lo v).fbatches = s.fbatches := rfl
@[simp] theorem State.setFld_nextId : (s.setFld r i hi lo v).nextId = s.nextId := rfl
@[simp] theorem State.setFld_pitches : (s.setFld r i hi lo v).pitches = s.pitches := rfl
@[simp] theorem State.setFld_ctxs : (s.setFld r i hi lo v).ctxs = s.ctxs := rfl
@[simp] theorem State.setFld_models : (s.setFld r i hi lo v).models = s.models := rfl
@[simp] theorem State.setFld_loads : (s.setFld r i hi lo v).loads = s.loads := rfl
@[simp] theorem State.setFld_execs : (s.setFld r i hi lo v).execs = s.execs := rfl
@[simp] theorem State.setFld_parts : (s.setFld r i hi lo v).parts = s.parts := rfl
@[simp] theorem State.setFld_units : (s.setFld r i hi lo v).units = s.units := rfl
@[simp] theorem State.setFld_tstl : (s.setFld r i hi lo v).tstl = s.tstl := rfl
@[simp] theorem State.setFld_kiosks : (s.setFld r i hi lo v).kiosks = s.kiosks := rfl
@[simp] theorem State.setFld_mem : (s.setFld r i hi lo v).mem = s.mem := rfl
@[simp] theorem State.setFld_memx : (s.setFld r i hi lo v).memx = s.memx := rfl
@[simp] theorem State.setFld_chans : (s.setFld r i hi lo v).chans = s.chans := rfl
@[simp] theorem State.setFld_ports : (s.setFld r i hi lo v).ports = s.ports := rfl
@[simp] theorem State.setFld_sessions : (s.setFld r i hi lo v).sessions = s.sessions := rfl
@[simp] theorem State.setFld_nextSession : (s.setFld r i hi lo v).nextSession = s.nextSession := rfl
@[simp] theorem State.setFld_eth : (s.setFld r i hi lo v).eth = s.eth := rfl
@[simp] theorem State.setFld_ptp : (s.setFld r i hi lo v).ptp = s.ptp := rfl
@[simp] theorem State.setFld_rtp : (s.setFld r i hi lo v).rtp = s.rtp := rfl
@[simp] theorem State.setFld_links : (s.setFld r i hi lo v).links = s.links := rfl
@[simp] theorem State.setFld_routes : (s.setFld r i hi lo v).routes = s.routes := rfl
@[simp] theorem State.setFld_msgId : (s.setFld r i hi lo v).msgId = s.msgId := rfl
@[simp] theorem State.setFld_xfers : (s.setFld r i hi lo v).xfers = s.xfers := rfl
@[simp] theorem State.setFld_twin : (s.setFld r i hi lo v).twin = s.twin := rfl
@[simp] theorem State.setFld_dev : (s.setFld r i hi lo v).dev = s.dev := rfl
@[simp] theorem State.setFld_cfg : (s.setFld r i hi lo v).cfg = s.cfg := rfl
@[simp] theorem State.setFld_flash : (s.setFld r i hi lo v).flash = s.flash := rfl
@[simp] theorem State.setFld_sec : (s.setFld r i hi lo v).sec = s.sec := rfl
@[simp] theorem State.setFld_pwr : (s.setFld r i hi lo v).pwr = s.pwr := rfl
@[simp] theorem State.setFld_trec : (s.setFld r i hi lo v).trec = s.trec := rfl
@[simp] theorem State.setFld_replay : (s.setFld r i hi lo v).replay = s.replay := rfl
@[simp] theorem State.setFld_faultSec : (s.setFld r i hi lo v).faultSec = s.faultSec := rfl
@[simp] theorem State.setFld_out : (s.setFld r i hi lo v).out = s.out := rfl
end

section
variable (s : State) (r : RegName) (i hi lo n : Nat)
@[simp] theorem State.cnt_pending : (s.cnt r i hi lo n).pending = s.pending := rfl
@[simp] theorem State.cnt_free : (s.cnt r i hi lo n).free = s.free := rfl
@[simp] theorem State.cnt_cycle : (s.cnt r i hi lo n).cycle = s.cycle := rfl
@[simp] theorem State.cnt_uptime : (s.cnt r i hi lo n).uptime = s.uptime := rfl
@[simp] theorem State.cnt_phase : (s.cnt r i hi lo n).phase = s.phase := rfl
@[simp] theorem State.cnt_shadows : (s.cnt r i hi lo n).shadows = s.shadows := rfl
@[simp] theorem State.cnt_td0 : (s.cnt r i hi lo n).td0 = s.td0 := rfl
@[simp] theorem State.cnt_td1 : (s.cnt r i hi lo n).td1 = s.td1 := rfl
@[simp] theorem State.cnt_streams : (s.cnt r i hi lo n).streams = s.streams := rfl
@[simp] theorem State.cnt_groups : (s.cnt r i hi lo n).groups = s.groups := rfl
@[simp] theorem State.cnt_vcache : (s.cnt r i hi lo n).vcache = s.vcache := rfl
@[simp] theorem State.cnt_pages : (s.cnt r i hi lo n).pages = s.pages := rfl
@[simp] theorem State.cnt_swap : (s.cnt r i hi lo n).swap = s.swap := rfl
@[simp] theorem State.cnt_batches : (s.cnt r i hi lo n).batches = s.batches := rfl
@[simp] theorem State.cnt_fbatches : (s.cnt r i hi lo n).fbatches = s.fbatches := rfl
@[simp] theorem State.cnt_nextId : (s.cnt r i hi lo n).nextId = s.nextId := rfl
@[simp] theorem State.cnt_pitches : (s.cnt r i hi lo n).pitches = s.pitches := rfl
@[simp] theorem State.cnt_ctxs : (s.cnt r i hi lo n).ctxs = s.ctxs := rfl
@[simp] theorem State.cnt_models : (s.cnt r i hi lo n).models = s.models := rfl
@[simp] theorem State.cnt_loads : (s.cnt r i hi lo n).loads = s.loads := rfl
@[simp] theorem State.cnt_execs : (s.cnt r i hi lo n).execs = s.execs := rfl
@[simp] theorem State.cnt_parts : (s.cnt r i hi lo n).parts = s.parts := rfl
@[simp] theorem State.cnt_units : (s.cnt r i hi lo n).units = s.units := rfl
@[simp] theorem State.cnt_tstl : (s.cnt r i hi lo n).tstl = s.tstl := rfl
@[simp] theorem State.cnt_kiosks : (s.cnt r i hi lo n).kiosks = s.kiosks := rfl
@[simp] theorem State.cnt_mem : (s.cnt r i hi lo n).mem = s.mem := rfl
@[simp] theorem State.cnt_memx : (s.cnt r i hi lo n).memx = s.memx := rfl
@[simp] theorem State.cnt_chans : (s.cnt r i hi lo n).chans = s.chans := rfl
@[simp] theorem State.cnt_ports : (s.cnt r i hi lo n).ports = s.ports := rfl
@[simp] theorem State.cnt_sessions : (s.cnt r i hi lo n).sessions = s.sessions := rfl
@[simp] theorem State.cnt_nextSession : (s.cnt r i hi lo n).nextSession = s.nextSession := rfl
@[simp] theorem State.cnt_eth : (s.cnt r i hi lo n).eth = s.eth := rfl
@[simp] theorem State.cnt_ptp : (s.cnt r i hi lo n).ptp = s.ptp := rfl
@[simp] theorem State.cnt_rtp : (s.cnt r i hi lo n).rtp = s.rtp := rfl
@[simp] theorem State.cnt_links : (s.cnt r i hi lo n).links = s.links := rfl
@[simp] theorem State.cnt_routes : (s.cnt r i hi lo n).routes = s.routes := rfl
@[simp] theorem State.cnt_msgId : (s.cnt r i hi lo n).msgId = s.msgId := rfl
@[simp] theorem State.cnt_xfers : (s.cnt r i hi lo n).xfers = s.xfers := rfl
@[simp] theorem State.cnt_twin : (s.cnt r i hi lo n).twin = s.twin := rfl
@[simp] theorem State.cnt_dev : (s.cnt r i hi lo n).dev = s.dev := rfl
@[simp] theorem State.cnt_cfg : (s.cnt r i hi lo n).cfg = s.cfg := rfl
@[simp] theorem State.cnt_flash : (s.cnt r i hi lo n).flash = s.flash := rfl
@[simp] theorem State.cnt_sec : (s.cnt r i hi lo n).sec = s.sec := rfl
@[simp] theorem State.cnt_pwr : (s.cnt r i hi lo n).pwr = s.pwr := rfl
@[simp] theorem State.cnt_trec : (s.cnt r i hi lo n).trec = s.trec := rfl
@[simp] theorem State.cnt_replay : (s.cnt r i hi lo n).replay = s.replay := rfl
@[simp] theorem State.cnt_faultSec : (s.cnt r i hi lo n).faultSec = s.faultSec := rfl
@[simp] theorem State.cnt_out : (s.cnt r i hi lo n).out = s.out := rfl
end

section
variable (s : State) (r : RegName) (i : Nat)
@[simp] theorem State.inc_pending : (s.inc r i).pending = s.pending := rfl
@[simp] theorem State.inc_free : (s.inc r i).free = s.free := rfl
@[simp] theorem State.inc_cycle : (s.inc r i).cycle = s.cycle := rfl
@[simp] theorem State.inc_uptime : (s.inc r i).uptime = s.uptime := rfl
@[simp] theorem State.inc_phase : (s.inc r i).phase = s.phase := rfl
@[simp] theorem State.inc_shadows : (s.inc r i).shadows = s.shadows := rfl
@[simp] theorem State.inc_td0 : (s.inc r i).td0 = s.td0 := rfl
@[simp] theorem State.inc_td1 : (s.inc r i).td1 = s.td1 := rfl
@[simp] theorem State.inc_streams : (s.inc r i).streams = s.streams := rfl
@[simp] theorem State.inc_groups : (s.inc r i).groups = s.groups := rfl
@[simp] theorem State.inc_vcache : (s.inc r i).vcache = s.vcache := rfl
@[simp] theorem State.inc_pages : (s.inc r i).pages = s.pages := rfl
@[simp] theorem State.inc_swap : (s.inc r i).swap = s.swap := rfl
@[simp] theorem State.inc_batches : (s.inc r i).batches = s.batches := rfl
@[simp] theorem State.inc_fbatches : (s.inc r i).fbatches = s.fbatches := rfl
@[simp] theorem State.inc_nextId : (s.inc r i).nextId = s.nextId := rfl
@[simp] theorem State.inc_pitches : (s.inc r i).pitches = s.pitches := rfl
@[simp] theorem State.inc_ctxs : (s.inc r i).ctxs = s.ctxs := rfl
@[simp] theorem State.inc_models : (s.inc r i).models = s.models := rfl
@[simp] theorem State.inc_loads : (s.inc r i).loads = s.loads := rfl
@[simp] theorem State.inc_execs : (s.inc r i).execs = s.execs := rfl
@[simp] theorem State.inc_parts : (s.inc r i).parts = s.parts := rfl
@[simp] theorem State.inc_units : (s.inc r i).units = s.units := rfl
@[simp] theorem State.inc_tstl : (s.inc r i).tstl = s.tstl := rfl
@[simp] theorem State.inc_kiosks : (s.inc r i).kiosks = s.kiosks := rfl
@[simp] theorem State.inc_mem : (s.inc r i).mem = s.mem := rfl
@[simp] theorem State.inc_memx : (s.inc r i).memx = s.memx := rfl
@[simp] theorem State.inc_chans : (s.inc r i).chans = s.chans := rfl
@[simp] theorem State.inc_ports : (s.inc r i).ports = s.ports := rfl
@[simp] theorem State.inc_sessions : (s.inc r i).sessions = s.sessions := rfl
@[simp] theorem State.inc_nextSession : (s.inc r i).nextSession = s.nextSession := rfl
@[simp] theorem State.inc_eth : (s.inc r i).eth = s.eth := rfl
@[simp] theorem State.inc_ptp : (s.inc r i).ptp = s.ptp := rfl
@[simp] theorem State.inc_rtp : (s.inc r i).rtp = s.rtp := rfl
@[simp] theorem State.inc_links : (s.inc r i).links = s.links := rfl
@[simp] theorem State.inc_routes : (s.inc r i).routes = s.routes := rfl
@[simp] theorem State.inc_msgId : (s.inc r i).msgId = s.msgId := rfl
@[simp] theorem State.inc_xfers : (s.inc r i).xfers = s.xfers := rfl
@[simp] theorem State.inc_twin : (s.inc r i).twin = s.twin := rfl
@[simp] theorem State.inc_dev : (s.inc r i).dev = s.dev := rfl
@[simp] theorem State.inc_cfg : (s.inc r i).cfg = s.cfg := rfl
@[simp] theorem State.inc_flash : (s.inc r i).flash = s.flash := rfl
@[simp] theorem State.inc_sec : (s.inc r i).sec = s.sec := rfl
@[simp] theorem State.inc_pwr : (s.inc r i).pwr = s.pwr := rfl
@[simp] theorem State.inc_trec : (s.inc r i).trec = s.trec := rfl
@[simp] theorem State.inc_replay : (s.inc r i).replay = s.replay := rfl
@[simp] theorem State.inc_faultSec : (s.inc r i).faultSec = s.faultSec := rfl
@[simp] theorem State.inc_out : (s.inc r i).out = s.out := rfl
end

section
variable (s : State) (r : RegName) (i bit : Nat)
@[simp] theorem State.flag_pending : (s.flag r i bit).pending = s.pending := rfl
@[simp] theorem State.flag_free : (s.flag r i bit).free = s.free := rfl
@[simp] theorem State.flag_cycle : (s.flag r i bit).cycle = s.cycle := rfl
@[simp] theorem State.flag_uptime : (s.flag r i bit).uptime = s.uptime := rfl
@[simp] theorem State.flag_phase : (s.flag r i bit).phase = s.phase := rfl
@[simp] theorem State.flag_shadows : (s.flag r i bit).shadows = s.shadows := rfl
@[simp] theorem State.flag_td0 : (s.flag r i bit).td0 = s.td0 := rfl
@[simp] theorem State.flag_td1 : (s.flag r i bit).td1 = s.td1 := rfl
@[simp] theorem State.flag_streams : (s.flag r i bit).streams = s.streams := rfl
@[simp] theorem State.flag_groups : (s.flag r i bit).groups = s.groups := rfl
@[simp] theorem State.flag_vcache : (s.flag r i bit).vcache = s.vcache := rfl
@[simp] theorem State.flag_pages : (s.flag r i bit).pages = s.pages := rfl
@[simp] theorem State.flag_swap : (s.flag r i bit).swap = s.swap := rfl
@[simp] theorem State.flag_batches : (s.flag r i bit).batches = s.batches := rfl
@[simp] theorem State.flag_fbatches : (s.flag r i bit).fbatches = s.fbatches := rfl
@[simp] theorem State.flag_nextId : (s.flag r i bit).nextId = s.nextId := rfl
@[simp] theorem State.flag_pitches : (s.flag r i bit).pitches = s.pitches := rfl
@[simp] theorem State.flag_ctxs : (s.flag r i bit).ctxs = s.ctxs := rfl
@[simp] theorem State.flag_models : (s.flag r i bit).models = s.models := rfl
@[simp] theorem State.flag_loads : (s.flag r i bit).loads = s.loads := rfl
@[simp] theorem State.flag_execs : (s.flag r i bit).execs = s.execs := rfl
@[simp] theorem State.flag_parts : (s.flag r i bit).parts = s.parts := rfl
@[simp] theorem State.flag_units : (s.flag r i bit).units = s.units := rfl
@[simp] theorem State.flag_tstl : (s.flag r i bit).tstl = s.tstl := rfl
@[simp] theorem State.flag_kiosks : (s.flag r i bit).kiosks = s.kiosks := rfl
@[simp] theorem State.flag_mem : (s.flag r i bit).mem = s.mem := rfl
@[simp] theorem State.flag_memx : (s.flag r i bit).memx = s.memx := rfl
@[simp] theorem State.flag_chans : (s.flag r i bit).chans = s.chans := rfl
@[simp] theorem State.flag_ports : (s.flag r i bit).ports = s.ports := rfl
@[simp] theorem State.flag_sessions : (s.flag r i bit).sessions = s.sessions := rfl
@[simp] theorem State.flag_nextSession : (s.flag r i bit).nextSession = s.nextSession := rfl
@[simp] theorem State.flag_eth : (s.flag r i bit).eth = s.eth := rfl
@[simp] theorem State.flag_ptp : (s.flag r i bit).ptp = s.ptp := rfl
@[simp] theorem State.flag_rtp : (s.flag r i bit).rtp = s.rtp := rfl
@[simp] theorem State.flag_links : (s.flag r i bit).links = s.links := rfl
@[simp] theorem State.flag_routes : (s.flag r i bit).routes = s.routes := rfl
@[simp] theorem State.flag_msgId : (s.flag r i bit).msgId = s.msgId := rfl
@[simp] theorem State.flag_xfers : (s.flag r i bit).xfers = s.xfers := rfl
@[simp] theorem State.flag_twin : (s.flag r i bit).twin = s.twin := rfl
@[simp] theorem State.flag_dev : (s.flag r i bit).dev = s.dev := rfl
@[simp] theorem State.flag_cfg : (s.flag r i bit).cfg = s.cfg := rfl
@[simp] theorem State.flag_flash : (s.flag r i bit).flash = s.flash := rfl
@[simp] theorem State.flag_sec : (s.flag r i bit).sec = s.sec := rfl
@[simp] theorem State.flag_pwr : (s.flag r i bit).pwr = s.pwr := rfl
@[simp] theorem State.flag_trec : (s.flag r i bit).trec = s.trec := rfl
@[simp] theorem State.flag_replay : (s.flag r i bit).replay = s.replay := rfl
@[simp] theorem State.flag_faultSec : (s.flag r i bit).faultSec = s.faultSec := rfl
@[simp] theorem State.flag_out : (s.flag r i bit).out = s.out := rfl
end

section
variable (s : State) (o : Out)
@[simp] theorem State.emit_pending : (s.emit o).pending = s.pending := rfl
@[simp] theorem State.emit_free : (s.emit o).free = s.free := rfl
@[simp] theorem State.emit_cycle : (s.emit o).cycle = s.cycle := rfl
@[simp] theorem State.emit_uptime : (s.emit o).uptime = s.uptime := rfl
@[simp] theorem State.emit_phase : (s.emit o).phase = s.phase := rfl
@[simp] theorem State.emit_regs : (s.emit o).regs = s.regs := rfl
@[simp] theorem State.emit_shadows : (s.emit o).shadows = s.shadows := rfl
@[simp] theorem State.emit_td0 : (s.emit o).td0 = s.td0 := rfl
@[simp] theorem State.emit_td1 : (s.emit o).td1 = s.td1 := rfl
@[simp] theorem State.emit_streams : (s.emit o).streams = s.streams := rfl
@[simp] theorem State.emit_groups : (s.emit o).groups = s.groups := rfl
@[simp] theorem State.emit_vcache : (s.emit o).vcache = s.vcache := rfl
@[simp] theorem State.emit_pages : (s.emit o).pages = s.pages := rfl
@[simp] theorem State.emit_swap : (s.emit o).swap = s.swap := rfl
@[simp] theorem State.emit_batches : (s.emit o).batches = s.batches := rfl
@[simp] theorem State.emit_fbatches : (s.emit o).fbatches = s.fbatches := rfl
@[simp] theorem State.emit_nextId : (s.emit o).nextId = s.nextId := rfl
@[simp] theorem State.emit_pitches : (s.emit o).pitches = s.pitches := rfl
@[simp] theorem State.emit_ctxs : (s.emit o).ctxs = s.ctxs := rfl
@[simp] theorem State.emit_models : (s.emit o).models = s.models := rfl
@[simp] theorem State.emit_loads : (s.emit o).loads = s.loads := rfl
@[simp] theorem State.emit_execs : (s.emit o).execs = s.execs := rfl
@[simp] theorem State.emit_parts : (s.emit o).parts = s.parts := rfl
@[simp] theorem State.emit_units : (s.emit o).units = s.units := rfl
@[simp] theorem State.emit_tstl : (s.emit o).tstl = s.tstl := rfl
@[simp] theorem State.emit_kiosks : (s.emit o).kiosks = s.kiosks := rfl
@[simp] theorem State.emit_mem : (s.emit o).mem = s.mem := rfl
@[simp] theorem State.emit_memx : (s.emit o).memx = s.memx := rfl
@[simp] theorem State.emit_chans : (s.emit o).chans = s.chans := rfl
@[simp] theorem State.emit_ports : (s.emit o).ports = s.ports := rfl
@[simp] theorem State.emit_sessions : (s.emit o).sessions = s.sessions := rfl
@[simp] theorem State.emit_nextSession : (s.emit o).nextSession = s.nextSession := rfl
@[simp] theorem State.emit_eth : (s.emit o).eth = s.eth := rfl
@[simp] theorem State.emit_ptp : (s.emit o).ptp = s.ptp := rfl
@[simp] theorem State.emit_rtp : (s.emit o).rtp = s.rtp := rfl
@[simp] theorem State.emit_links : (s.emit o).links = s.links := rfl
@[simp] theorem State.emit_routes : (s.emit o).routes = s.routes := rfl
@[simp] theorem State.emit_msgId : (s.emit o).msgId = s.msgId := rfl
@[simp] theorem State.emit_xfers : (s.emit o).xfers = s.xfers := rfl
@[simp] theorem State.emit_twin : (s.emit o).twin = s.twin := rfl
@[simp] theorem State.emit_dev : (s.emit o).dev = s.dev := rfl
@[simp] theorem State.emit_cfg : (s.emit o).cfg = s.cfg := rfl
@[simp] theorem State.emit_flash : (s.emit o).flash = s.flash := rfl
@[simp] theorem State.emit_sec : (s.emit o).sec = s.sec := rfl
@[simp] theorem State.emit_pwr : (s.emit o).pwr = s.pwr := rfl
@[simp] theorem State.emit_trec : (s.emit o).trec = s.trec := rfl
@[simp] theorem State.emit_replay : (s.emit o).replay = s.replay := rfl
@[simp] theorem State.emit_faultSec : (s.emit o).faultSec = s.faultSec := rfl
end

section
variable (s : State) (n : Nat) (f : Session → Session)
@[simp] theorem State.updSess_pending : (s.updSess n f).pending = s.pending := rfl
@[simp] theorem State.updSess_free : (s.updSess n f).free = s.free := rfl
@[simp] theorem State.updSess_cycle : (s.updSess n f).cycle = s.cycle := rfl
@[simp] theorem State.updSess_uptime : (s.updSess n f).uptime = s.uptime := rfl
@[simp] theorem State.updSess_phase : (s.updSess n f).phase = s.phase := rfl
@[simp] theorem State.updSess_regs : (s.updSess n f).regs = s.regs := rfl
@[simp] theorem State.updSess_shadows : (s.updSess n f).shadows = s.shadows := rfl
@[simp] theorem State.updSess_td0 : (s.updSess n f).td0 = s.td0 := rfl
@[simp] theorem State.updSess_td1 : (s.updSess n f).td1 = s.td1 := rfl
@[simp] theorem State.updSess_streams : (s.updSess n f).streams = s.streams := rfl
@[simp] theorem State.updSess_groups : (s.updSess n f).groups = s.groups := rfl
@[simp] theorem State.updSess_vcache : (s.updSess n f).vcache = s.vcache := rfl
@[simp] theorem State.updSess_pages : (s.updSess n f).pages = s.pages := rfl
@[simp] theorem State.updSess_swap : (s.updSess n f).swap = s.swap := rfl
@[simp] theorem State.updSess_batches : (s.updSess n f).batches = s.batches := rfl
@[simp] theorem State.updSess_fbatches : (s.updSess n f).fbatches = s.fbatches := rfl
@[simp] theorem State.updSess_nextId : (s.updSess n f).nextId = s.nextId := rfl
@[simp] theorem State.updSess_pitches : (s.updSess n f).pitches = s.pitches := rfl
@[simp] theorem State.updSess_ctxs : (s.updSess n f).ctxs = s.ctxs := rfl
@[simp] theorem State.updSess_models : (s.updSess n f).models = s.models := rfl
@[simp] theorem State.updSess_loads : (s.updSess n f).loads = s.loads := rfl
@[simp] theorem State.updSess_execs : (s.updSess n f).execs = s.execs := rfl
@[simp] theorem State.updSess_parts : (s.updSess n f).parts = s.parts := rfl
@[simp] theorem State.updSess_units : (s.updSess n f).units = s.units := rfl
@[simp] theorem State.updSess_tstl : (s.updSess n f).tstl = s.tstl := rfl
@[simp] theorem State.updSess_kiosks : (s.updSess n f).kiosks = s.kiosks := rfl
@[simp] theorem State.updSess_mem : (s.updSess n f).mem = s.mem := rfl
@[simp] theorem State.updSess_memx : (s.updSess n f).memx = s.memx := rfl
@[simp] theorem State.updSess_chans : (s.updSess n f).chans = s.chans := rfl
@[simp] theorem State.updSess_ports : (s.updSess n f).ports = s.ports := rfl
@[simp] theorem State.updSess_nextSession : (s.updSess n f).nextSession = s.nextSession := rfl
@[simp] theorem State.updSess_eth : (s.updSess n f).eth = s.eth := rfl
@[simp] theorem State.updSess_ptp : (s.updSess n f).ptp = s.ptp := rfl
@[simp] theorem State.updSess_rtp : (s.updSess n f).rtp = s.rtp := rfl
@[simp] theorem State.updSess_links : (s.updSess n f).links = s.links := rfl
@[simp] theorem State.updSess_routes : (s.updSess n f).routes = s.routes := rfl
@[simp] theorem State.updSess_msgId : (s.updSess n f).msgId = s.msgId := rfl
@[simp] theorem State.updSess_xfers : (s.updSess n f).xfers = s.xfers := rfl
@[simp] theorem State.updSess_twin : (s.updSess n f).twin = s.twin := rfl
@[simp] theorem State.updSess_dev : (s.updSess n f).dev = s.dev := rfl
@[simp] theorem State.updSess_cfg : (s.updSess n f).cfg = s.cfg := rfl
@[simp] theorem State.updSess_flash : (s.updSess n f).flash = s.flash := rfl
@[simp] theorem State.updSess_sec : (s.updSess n f).sec = s.sec := rfl
@[simp] theorem State.updSess_pwr : (s.updSess n f).pwr = s.pwr := rfl
@[simp] theorem State.updSess_trec : (s.updSess n f).trec = s.trec := rfl
@[simp] theorem State.updSess_replay : (s.updSess n f).replay = s.replay := rfl
@[simp] theorem State.updSess_faultSec : (s.updSess n f).faultSec = s.faultSec := rfl
@[simp] theorem State.updSess_out : (s.updSess n f).out = s.out := rfl
end

section
variable (s : State) (d : Nat) (x : TickDom)
@[simp] theorem State.setTd_pending : (s.setTd d x).pending = s.pending := by unfold State.setTd; split <;> rfl
@[simp] theorem State.setTd_free : (s.setTd d x).free = s.free := by unfold State.setTd; split <;> rfl
@[simp] theorem State.setTd_cycle : (s.setTd d x).cycle = s.cycle := by unfold State.setTd; split <;> rfl
@[simp] theorem State.setTd_uptime : (s.setTd d x).uptime = s.uptime := by unfold State.setTd; split <;> rfl
@[simp] theorem State.setTd_phase : (s.setTd d x).phase = s.phase := by unfold State.setTd; split <;> rfl
@[simp] theorem State.setTd_regs : (s.setTd d x).regs = s.regs := by unfold State.setTd; split <;> rfl
@[simp] theorem State.setTd_shadows : (s.setTd d x).shadows = s.shadows := by unfold State.setTd; split <;> rfl
@[simp] theorem State.setTd_streams : (s.setTd d x).streams = s.streams := by unfold State.setTd; split <;> rfl
@[simp] theorem State.setTd_groups : (s.setTd d x).groups = s.groups := by unfold State.setTd; split <;> rfl
@[simp] theorem State.setTd_vcache : (s.setTd d x).vcache = s.vcache := by unfold State.setTd; split <;> rfl
@[simp] theorem State.setTd_pages : (s.setTd d x).pages = s.pages := by unfold State.setTd; split <;> rfl
@[simp] theorem State.setTd_swap : (s.setTd d x).swap = s.swap := by unfold State.setTd; split <;> rfl
@[simp] theorem State.setTd_batches : (s.setTd d x).batches = s.batches := by unfold State.setTd; split <;> rfl
@[simp] theorem State.setTd_fbatches : (s.setTd d x).fbatches = s.fbatches := by unfold State.setTd; split <;> rfl
@[simp] theorem State.setTd_nextId : (s.setTd d x).nextId = s.nextId := by unfold State.setTd; split <;> rfl
@[simp] theorem State.setTd_pitches : (s.setTd d x).pitches = s.pitches := by unfold State.setTd; split <;> rfl
@[simp] theorem State.setTd_ctxs : (s.setTd d x).ctxs = s.ctxs := by unfold State.setTd; split <;> rfl
@[simp] theorem State.setTd_models : (s.setTd d x).models = s.models := by unfold State.setTd; split <;> rfl
@[simp] theorem State.setTd_loads : (s.setTd d x).loads = s.loads := by unfold State.setTd; split <;> rfl
@[simp] theorem State.setTd_execs : (s.setTd d x).execs = s.execs := by unfold State.setTd; split <;> rfl
@[simp] theorem State.setTd_parts : (s.setTd d x).parts = s.parts := by unfold State.setTd; split <;> rfl
@[simp] theorem State.setTd_units : (s.setTd d x).units = s.units := by unfold State.setTd; split <;> rfl
@[simp] theorem State.setTd_tstl : (s.setTd d x).tstl = s.tstl := by unfold State.setTd; split <;> rfl
@[simp] theorem State.setTd_kiosks : (s.setTd d x).kiosks = s.kiosks := by unfold State.setTd; split <;> rfl
@[simp] theorem State.setTd_mem : (s.setTd d x).mem = s.mem := by unfold State.setTd; split <;> rfl
@[simp] theorem State.setTd_memx : (s.setTd d x).memx = s.memx := by unfold State.setTd; split <;> rfl
@[simp] theorem State.setTd_chans : (s.setTd d x).chans = s.chans := by unfold State.setTd; split <;> rfl
@[simp] theorem State.setTd_ports : (s.setTd d x).ports = s.ports := by unfold State.setTd; split <;> rfl
@[simp] theorem State.setTd_sessions : (s.setTd d x).sessions = s.sessions := by unfold State.setTd; split <;> rfl
@[simp] theorem State.setTd_nextSession : (s.setTd d x).nextSession = s.nextSession := by unfold State.setTd; split <;> rfl
@[simp] theorem State.setTd_eth : (s.setTd d x).eth = s.eth := by unfold State.setTd; split <;> rfl
@[simp] theorem State.setTd_ptp : (s.setTd d x).ptp = s.ptp := by unfold State.setTd; split <;> rfl
@[simp] theorem State.setTd_rtp : (s.setTd d x).rtp = s.rtp := by unfold State.setTd; split <;> rfl
@[simp] theorem State.setTd_links : (s.setTd d x).links = s.links := by unfold State.setTd; split <;> rfl
@[simp] theorem State.setTd_routes : (s.setTd d x).routes = s.routes := by unfold State.setTd; split <;> rfl
@[simp] theorem State.setTd_msgId : (s.setTd d x).msgId = s.msgId := by unfold State.setTd; split <;> rfl
@[simp] theorem State.setTd_xfers : (s.setTd d x).xfers = s.xfers := by unfold State.setTd; split <;> rfl
@[simp] theorem State.setTd_twin : (s.setTd d x).twin = s.twin := by unfold State.setTd; split <;> rfl
@[simp] theorem State.setTd_dev : (s.setTd d x).dev = s.dev := by unfold State.setTd; split <;> rfl
@[simp] theorem State.setTd_cfg : (s.setTd d x).cfg = s.cfg := by unfold State.setTd; split <;> rfl
@[simp] theorem State.setTd_flash : (s.setTd d x).flash = s.flash := by unfold State.setTd; split <;> rfl
@[simp] theorem State.setTd_sec : (s.setTd d x).sec = s.sec := by unfold State.setTd; split <;> rfl
@[simp] theorem State.setTd_pwr : (s.setTd d x).pwr = s.pwr := by unfold State.setTd; split <;> rfl
@[simp] theorem State.setTd_trec : (s.setTd d x).trec = s.trec := by unfold State.setTd; split <;> rfl
@[simp] theorem State.setTd_replay : (s.setTd d x).replay = s.replay := by unfold State.setTd; split <;> rfl
@[simp] theorem State.setTd_faultSec : (s.setTd d x).faultSec = s.faultSec := by unfold State.setTd; split <;> rfl
@[simp] theorem State.setTd_out : (s.setTd d x).out = s.out := by unfold State.setTd; split <;> rfl
end

section
variable (s : State) (d : Nat) (f : TickDom → TickDom)
@[simp] theorem State.updTd_pending : (s.updTd d f).pending = s.pending := by simp only [State.updTd, State.setTd_pending]
@[simp] theorem State.updTd_free : (s.updTd d f).free = s.free := by simp only [State.updTd, State.setTd_free]
@[simp] theorem State.updTd_cycle : (s.updTd d f).cycle = s.cycle := by simp only [State.updTd, State.setTd_cycle]
@[simp] theorem State.updTd_uptime : (s.updTd d f).uptime = s.uptime := by simp only [State.updTd, State.setTd_uptime]
@[simp] theorem State.updTd_phase : (s.updTd d f).phase = s.phase := by simp only [State.updTd, State.setTd_phase]
@[simp] theorem State.updTd_regs : (s.updTd d f).regs = s.regs := by simp only [State.updTd, State.setTd_regs]
@[simp] theorem State.updTd_shadows : (s.updTd d f).shadows = s.shadows := by simp only [State.updTd, State.setTd_shadows]
@[simp] theorem State.updTd_streams : (s.updTd d f).streams = s.streams := by simp only [State.updTd, State.setTd_streams]
@[simp] theorem State.updTd_groups : (s.updTd d f).groups = s.groups := by simp only [State.updTd, State.setTd_groups]
@[simp] theorem State.updTd_vcache : (s.updTd d f).vcache = s.vcache := by simp only [State.updTd, State.setTd_vcache]
@[simp] theorem State.updTd_pages : (s.updTd d f).pages = s.pages := by simp only [State.updTd, State.setTd_pages]
@[simp] theorem State.updTd_swap : (s.updTd d f).swap = s.swap := by simp only [State.updTd, State.setTd_swap]
@[simp] theorem State.updTd_batches : (s.updTd d f).batches = s.batches := by simp only [State.updTd, State.setTd_batches]
@[simp] theorem State.updTd_fbatches : (s.updTd d f).fbatches = s.fbatches := by simp only [State.updTd, State.setTd_fbatches]
@[simp] theorem State.updTd_nextId : (s.updTd d f).nextId = s.nextId := by simp only [State.updTd, State.setTd_nextId]
@[simp] theorem State.updTd_pitches : (s.updTd d f).pitches = s.pitches := by simp only [State.updTd, State.setTd_pitches]
@[simp] theorem State.updTd_ctxs : (s.updTd d f).ctxs = s.ctxs := by simp only [State.updTd, State.setTd_ctxs]
@[simp] theorem State.updTd_models : (s.updTd d f).models = s.models := by simp only [State.updTd, State.setTd_models]
@[simp] theorem State.updTd_loads : (s.updTd d f).loads = s.loads := by simp only [State.updTd, State.setTd_loads]
@[simp] theorem State.updTd_execs : (s.updTd d f).execs = s.execs := by simp only [State.updTd, State.setTd_execs]
@[simp] theorem State.updTd_parts : (s.updTd d f).parts = s.parts := by simp only [State.updTd, State.setTd_parts]
@[simp] theorem State.updTd_units : (s.updTd d f).units = s.units := by simp only [State.updTd, State.setTd_units]
@[simp] theorem State.updTd_tstl : (s.updTd d f).tstl = s.tstl := by simp only [State.updTd, State.setTd_tstl]
@[simp] theorem State.updTd_kiosks : (s.updTd d f).kiosks = s.kiosks := by simp only [State.updTd, State.setTd_kiosks]
@[simp] theorem State.updTd_mem : (s.updTd d f).mem = s.mem := by simp only [State.updTd, State.setTd_mem]
@[simp] theorem State.updTd_memx : (s.updTd d f).memx = s.memx := by simp only [State.updTd, State.setTd_memx]
@[simp] theorem State.updTd_chans : (s.updTd d f).chans = s.chans := by simp only [State.updTd, State.setTd_chans]
@[simp] theorem State.updTd_ports : (s.updTd d f).ports = s.ports := by simp only [State.updTd, State.setTd_ports]
@[simp] theorem State.updTd_sessions : (s.updTd d f).sessions = s.sessions := by simp only [State.updTd, State.setTd_sessions]
@[simp] theorem State.updTd_nextSession : (s.updTd d f).nextSession = s.nextSession := by simp only [State.updTd, State.setTd_nextSession]
@[simp] theorem State.updTd_eth : (s.updTd d f).eth = s.eth := by simp only [State.updTd, State.setTd_eth]
@[simp] theorem State.updTd_ptp : (s.updTd d f).ptp = s.ptp := by simp only [State.updTd, State.setTd_ptp]
@[simp] theorem State.updTd_rtp : (s.updTd d f).rtp = s.rtp := by simp only [State.updTd, State.setTd_rtp]
@[simp] theorem State.updTd_links : (s.updTd d f).links = s.links := by simp only [State.updTd, State.setTd_links]
@[simp] theorem State.updTd_routes : (s.updTd d f).routes = s.routes := by simp only [State.updTd, State.setTd_routes]
@[simp] theorem State.updTd_msgId : (s.updTd d f).msgId = s.msgId := by simp only [State.updTd, State.setTd_msgId]
@[simp] theorem State.updTd_xfers : (s.updTd d f).xfers = s.xfers := by simp only [State.updTd, State.setTd_xfers]
@[simp] theorem State.updTd_twin : (s.updTd d f).twin = s.twin := by simp only [State.updTd, State.setTd_twin]
@[simp] theorem State.updTd_dev : (s.updTd d f).dev = s.dev := by simp only [State.updTd, State.setTd_dev]
@[simp] theorem State.updTd_cfg : (s.updTd d f).cfg = s.cfg := by simp only [State.updTd, State.setTd_cfg]
@[simp] theorem State.updTd_flash : (s.updTd d f).flash = s.flash := by simp only [State.updTd, State.setTd_flash]
@[simp] theorem State.updTd_sec : (s.updTd d f).sec = s.sec := by simp only [State.updTd, State.setTd_sec]
@[simp] theorem State.updTd_pwr : (s.updTd d f).pwr = s.pwr := by simp only [State.updTd, State.setTd_pwr]
@[simp] theorem State.updTd_trec : (s.updTd d f).trec = s.trec := by simp only [State.updTd, State.setTd_trec]
@[simp] theorem State.updTd_replay : (s.updTd d f).replay = s.replay := by simp only [State.updTd, State.setTd_replay]
@[simp] theorem State.updTd_faultSec : (s.updTd d f).faultSec = s.faultSec := by simp only [State.updTd, State.setTd_faultSec]
@[simp] theorem State.updTd_out : (s.updTd d f).out = s.out := by simp only [State.updTd, State.setTd_out]
end

section
variable (s : State) (i : Nat) (x : Stream)
@[simp] theorem State.setStream_pending : (s.setStream i x).pending = s.pending := rfl
@[simp] theorem State.setStream_free : (s.setStream i x).free = s.free := rfl
@[simp] theorem State.setStream_cycle : (s.setStream i x).cycle = s.cycle := rfl
@[simp] theorem State.setStream_uptime : (s.setStream i x).uptime = s.uptime := rfl
@[simp] theorem State.setStream_phase : (s.setStream i x).phase = s.phase := rfl
@[simp] theorem State.setStream_regs : (s.setStream i x).regs = s.regs := rfl
@[simp] theorem State.setStream_shadows : (s.setStream i x).shadows = s.shadows := rfl
@[simp] theorem State.setStream_td0 : (s.setStream i x).td0 = s.td0 := rfl
@[simp] theorem State.setStream_td1 : (s.setStream i x).td1 = s.td1 := rfl
@[simp] theorem State.setStream_groups : (s.setStream i x).groups = s.groups := rfl
@[simp] theorem State.setStream_vcache : (s.setStream i x).vcache = s.vcache := rfl
@[simp] theorem State.setStream_pages : (s.setStream i x).pages = s.pages := rfl
@[simp] theorem State.setStream_swap : (s.setStream i x).swap = s.swap := rfl
@[simp] theorem State.setStream_batches : (s.setStream i x).batches = s.batches := rfl
@[simp] theorem State.setStream_fbatches : (s.setStream i x).fbatches = s.fbatches := rfl
@[simp] theorem State.setStream_nextId : (s.setStream i x).nextId = s.nextId := rfl
@[simp] theorem State.setStream_pitches : (s.setStream i x).pitches = s.pitches := rfl
@[simp] theorem State.setStream_ctxs : (s.setStream i x).ctxs = s.ctxs := rfl
@[simp] theorem State.setStream_models : (s.setStream i x).models = s.models := rfl
@[simp] theorem State.setStream_loads : (s.setStream i x).loads = s.loads := rfl
@[simp] theorem State.setStream_execs : (s.setStream i x).execs = s.execs := rfl
@[simp] theorem State.setStream_parts : (s.setStream i x).parts = s.parts := rfl
@[simp] theorem State.setStream_units : (s.setStream i x).units = s.units := rfl
@[simp] theorem State.setStream_tstl : (s.setStream i x).tstl = s.tstl := rfl
@[simp] theorem State.setStream_kiosks : (s.setStream i x).kiosks = s.kiosks := rfl
@[simp] theorem State.setStream_mem : (s.setStream i x).mem = s.mem := rfl
@[simp] theorem State.setStream_memx : (s.setStream i x).memx = s.memx := rfl
@[simp] theorem State.setStream_chans : (s.setStream i x).chans = s.chans := rfl
@[simp] theorem State.setStream_ports : (s.setStream i x).ports = s.ports := rfl
@[simp] theorem State.setStream_sessions : (s.setStream i x).sessions = s.sessions := rfl
@[simp] theorem State.setStream_nextSession : (s.setStream i x).nextSession = s.nextSession := rfl
@[simp] theorem State.setStream_eth : (s.setStream i x).eth = s.eth := rfl
@[simp] theorem State.setStream_ptp : (s.setStream i x).ptp = s.ptp := rfl
@[simp] theorem State.setStream_rtp : (s.setStream i x).rtp = s.rtp := rfl
@[simp] theorem State.setStream_links : (s.setStream i x).links = s.links := rfl
@[simp] theorem State.setStream_routes : (s.setStream i x).routes = s.routes := rfl
@[simp] theorem State.setStream_msgId : (s.setStream i x).msgId = s.msgId := rfl
@[simp] theorem State.setStream_xfers : (s.setStream i x).xfers = s.xfers := rfl
@[simp] theorem State.setStream_twin : (s.setStream i x).twin = s.twin := rfl
@[simp] theorem State.setStream_dev : (s.setStream i x).dev = s.dev := rfl
@[simp] theorem State.setStream_cfg : (s.setStream i x).cfg = s.cfg := rfl
@[simp] theorem State.setStream_flash : (s.setStream i x).flash = s.flash := rfl
@[simp] theorem State.setStream_sec : (s.setStream i x).sec = s.sec := rfl
@[simp] theorem State.setStream_pwr : (s.setStream i x).pwr = s.pwr := rfl
@[simp] theorem State.setStream_trec : (s.setStream i x).trec = s.trec := rfl
@[simp] theorem State.setStream_replay : (s.setStream i x).replay = s.replay := rfl
@[simp] theorem State.setStream_faultSec : (s.setStream i x).faultSec = s.faultSec := rfl
@[simp] theorem State.setStream_out : (s.setStream i x).out = s.out := rfl
end

section
variable (s : State) (i : Nat) (f : Stream → Stream)
@[simp] theorem State.updStream_pending : (s.updStream i f).pending = s.pending := rfl
@[simp] theorem State.updStream_free : (s.updStream i f).free = s.free := rfl
@[simp] theorem State.updStream_cycle : (s.updStream i f).cycle = s.cycle := rfl
@[simp] theorem State.updStream_uptime : (s.updStream i f).uptime = s.uptime := rfl
@[simp] theorem State.updStream_phase : (s.updStream i f).phase = s.phase := rfl
@[simp] theorem State.updStream_regs : (s.updStream i f).regs = s.regs := rfl
@[simp] theorem State.updStream_shadows : (s.updStream i f).shadows = s.shadows := rfl
@[simp] theorem State.updStream_td0 : (s.updStream i f).td0 = s.td0 := rfl
@[simp] theorem State.updStream_td1 : (s.updStream i f).td1 = s.td1 := rfl
@[simp] theorem State.updStream_groups : (s.updStream i f).groups = s.groups := rfl
@[simp] theorem State.updStream_vcache : (s.updStream i f).vcache = s.vcache := rfl
@[simp] theorem State.updStream_pages : (s.updStream i f).pages = s.pages := rfl
@[simp] theorem State.updStream_swap : (s.updStream i f).swap = s.swap := rfl
@[simp] theorem State.updStream_batches : (s.updStream i f).batches = s.batches := rfl
@[simp] theorem State.updStream_fbatches : (s.updStream i f).fbatches = s.fbatches := rfl
@[simp] theorem State.updStream_nextId : (s.updStream i f).nextId = s.nextId := rfl
@[simp] theorem State.updStream_pitches : (s.updStream i f).pitches = s.pitches := rfl
@[simp] theorem State.updStream_ctxs : (s.updStream i f).ctxs = s.ctxs := rfl
@[simp] theorem State.updStream_models : (s.updStream i f).models = s.models := rfl
@[simp] theorem State.updStream_loads : (s.updStream i f).loads = s.loads := rfl
@[simp] theorem State.updStream_execs : (s.updStream i f).execs = s.execs := rfl
@[simp] theorem State.updStream_parts : (s.updStream i f).parts = s.parts := rfl
@[simp] theorem State.updStream_units : (s.updStream i f).units = s.units := rfl
@[simp] theorem State.updStream_tstl : (s.updStream i f).tstl = s.tstl := rfl
@[simp] theorem State.updStream_kiosks : (s.updStream i f).kiosks = s.kiosks := rfl
@[simp] theorem State.updStream_mem : (s.updStream i f).mem = s.mem := rfl
@[simp] theorem State.updStream_memx : (s.updStream i f).memx = s.memx := rfl
@[simp] theorem State.updStream_chans : (s.updStream i f).chans = s.chans := rfl
@[simp] theorem State.updStream_ports : (s.updStream i f).ports = s.ports := rfl
@[simp] theorem State.updStream_sessions : (s.updStream i f).sessions = s.sessions := rfl
@[simp] theorem State.updStream_nextSession : (s.updStream i f).nextSession = s.nextSession := rfl
@[simp] theorem State.updStream_eth : (s.updStream i f).eth = s.eth := rfl
@[simp] theorem State.updStream_ptp : (s.updStream i f).ptp = s.ptp := rfl
@[simp] theorem State.updStream_rtp : (s.updStream i f).rtp = s.rtp := rfl
@[simp] theorem State.updStream_links : (s.updStream i f).links = s.links := rfl
@[simp] theorem State.updStream_routes : (s.updStream i f).routes = s.routes := rfl
@[simp] theorem State.updStream_msgId : (s.updStream i f).msgId = s.msgId := rfl
@[simp] theorem State.updStream_xfers : (s.updStream i f).xfers = s.xfers := rfl
@[simp] theorem State.updStream_twin : (s.updStream i f).twin = s.twin := rfl
@[simp] theorem State.updStream_dev : (s.updStream i f).dev = s.dev := rfl
@[simp] theorem State.updStream_cfg : (s.updStream i f).cfg = s.cfg := rfl
@[simp] theorem State.updStream_flash : (s.updStream i f).flash = s.flash := rfl
@[simp] theorem State.updStream_sec : (s.updStream i f).sec = s.sec := rfl
@[simp] theorem State.updStream_pwr : (s.updStream i f).pwr = s.pwr := rfl
@[simp] theorem State.updStream_trec : (s.updStream i f).trec = s.trec := rfl
@[simp] theorem State.updStream_replay : (s.updStream i f).replay = s.replay := rfl
@[simp] theorem State.updStream_faultSec : (s.updStream i f).faultSec = s.faultSec := rfl
@[simp] theorem State.updStream_out : (s.updStream i f).out = s.out := rfl
end

section
variable (s : State) (p : Nat) (f : Pitch → Pitch)
@[simp] theorem State.updPitch_pending : (s.updPitch p f).pending = s.pending := rfl
@[simp] theorem State.updPitch_free : (s.updPitch p f).free = s.free := rfl
@[simp] theorem State.updPitch_cycle : (s.updPitch p f).cycle = s.cycle := rfl
@[simp] theorem State.updPitch_uptime : (s.updPitch p f).uptime = s.uptime := rfl
@[simp] theorem State.updPitch_phase : (s.updPitch p f).phase = s.phase := rfl
@[simp] theorem State.updPitch_regs : (s.updPitch p f).regs = s.regs := rfl
@[simp] theorem State.updPitch_shadows : (s.updPitch p f).shadows = s.shadows := rfl
@[simp] theorem State.updPitch_td0 : (s.updPitch p f).td0 = s.td0 := rfl
@[simp] theorem State.updPitch_td1 : (s.updPitch p f).td1 = s.td1 := rfl
@[simp] theorem State.updPitch_streams : (s.updPitch p f).streams = s.streams := rfl
@[simp] theorem State.updPitch_groups : (s.updPitch p f).groups = s.groups := rfl
@[simp] theorem State.updPitch_vcache : (s.updPitch p f).vcache = s.vcache := rfl
@[simp] theorem State.updPitch_pages : (s.updPitch p f).pages = s.pages := rfl
@[simp] theorem State.updPitch_swap : (s.updPitch p f).swap = s.swap := rfl
@[simp] theorem State.updPitch_batches : (s.updPitch p f).batches = s.batches := rfl
@[simp] theorem State.updPitch_fbatches : (s.updPitch p f).fbatches = s.fbatches := rfl
@[simp] theorem State.updPitch_nextId : (s.updPitch p f).nextId = s.nextId := rfl
@[simp] theorem State.updPitch_ctxs : (s.updPitch p f).ctxs = s.ctxs := rfl
@[simp] theorem State.updPitch_models : (s.updPitch p f).models = s.models := rfl
@[simp] theorem State.updPitch_loads : (s.updPitch p f).loads = s.loads := rfl
@[simp] theorem State.updPitch_execs : (s.updPitch p f).execs = s.execs := rfl
@[simp] theorem State.updPitch_parts : (s.updPitch p f).parts = s.parts := rfl
@[simp] theorem State.updPitch_units : (s.updPitch p f).units = s.units := rfl
@[simp] theorem State.updPitch_tstl : (s.updPitch p f).tstl = s.tstl := rfl
@[simp] theorem State.updPitch_kiosks : (s.updPitch p f).kiosks = s.kiosks := rfl
@[simp] theorem State.updPitch_mem : (s.updPitch p f).mem = s.mem := rfl
@[simp] theorem State.updPitch_memx : (s.updPitch p f).memx = s.memx := rfl
@[simp] theorem State.updPitch_chans : (s.updPitch p f).chans = s.chans := rfl
@[simp] theorem State.updPitch_ports : (s.updPitch p f).ports = s.ports := rfl
@[simp] theorem State.updPitch_sessions : (s.updPitch p f).sessions = s.sessions := rfl
@[simp] theorem State.updPitch_nextSession : (s.updPitch p f).nextSession = s.nextSession := rfl
@[simp] theorem State.updPitch_eth : (s.updPitch p f).eth = s.eth := rfl
@[simp] theorem State.updPitch_ptp : (s.updPitch p f).ptp = s.ptp := rfl
@[simp] theorem State.updPitch_rtp : (s.updPitch p f).rtp = s.rtp := rfl
@[simp] theorem State.updPitch_links : (s.updPitch p f).links = s.links := rfl
@[simp] theorem State.updPitch_routes : (s.updPitch p f).routes = s.routes := rfl
@[simp] theorem State.updPitch_msgId : (s.updPitch p f).msgId = s.msgId := rfl
@[simp] theorem State.updPitch_xfers : (s.updPitch p f).xfers = s.xfers := rfl
@[simp] theorem State.updPitch_twin : (s.updPitch p f).twin = s.twin := rfl
@[simp] theorem State.updPitch_dev : (s.updPitch p f).dev = s.dev := rfl
@[simp] theorem State.updPitch_cfg : (s.updPitch p f).cfg = s.cfg := rfl
@[simp] theorem State.updPitch_flash : (s.updPitch p f).flash = s.flash := rfl
@[simp] theorem State.updPitch_sec : (s.updPitch p f).sec = s.sec := rfl
@[simp] theorem State.updPitch_pwr : (s.updPitch p f).pwr = s.pwr := rfl
@[simp] theorem State.updPitch_trec : (s.updPitch p f).trec = s.trec := rfl
@[simp] theorem State.updPitch_replay : (s.updPitch p f).replay = s.replay := rfl
@[simp] theorem State.updPitch_faultSec : (s.updPitch p f).faultSec = s.faultSec := rfl
@[simp] theorem State.updPitch_out : (s.updPitch p f).out = s.out := rfl
end

section
variable (s : State) (c : Nat) (f : Ctx → Ctx)
@[simp] theorem State.updCtx_pending : (s.updCtx c f).pending = s.pending := rfl
@[simp] theorem State.updCtx_free : (s.updCtx c f).free = s.free := rfl
@[simp] theorem State.updCtx_cycle : (s.updCtx c f).cycle = s.cycle := rfl
@[simp] theorem State.updCtx_uptime : (s.updCtx c f).uptime = s.uptime := rfl
@[simp] theorem State.updCtx_phase : (s.updCtx c f).phase = s.phase := rfl
@[simp] theorem State.updCtx_regs : (s.updCtx c f).regs = s.regs := rfl
@[simp] theorem State.updCtx_shadows : (s.updCtx c f).shadows = s.shadows := rfl
@[simp] theorem State.updCtx_td0 : (s.updCtx c f).td0 = s.td0 := rfl
@[simp] theorem State.updCtx_td1 : (s.updCtx c f).td1 = s.td1 := rfl
@[simp] theorem State.updCtx_streams : (s.updCtx c f).streams = s.streams := rfl
@[simp] theorem State.updCtx_groups : (s.updCtx c f).groups = s.groups := rfl
@[simp] theorem State.updCtx_vcache : (s.updCtx c f).vcache = s.vcache := rfl
@[simp] theorem State.updCtx_pages : (s.updCtx c f).pages = s.pages := rfl
@[simp] theorem State.updCtx_swap : (s.updCtx c f).swap = s.swap := rfl
@[simp] theorem State.updCtx_batches : (s.updCtx c f).batches = s.batches := rfl
@[simp] theorem State.updCtx_fbatches : (s.updCtx c f).fbatches = s.fbatches := rfl
@[simp] theorem State.updCtx_nextId : (s.updCtx c f).nextId = s.nextId := rfl
@[simp] theorem State.updCtx_pitches : (s.updCtx c f).pitches = s.pitches := rfl
@[simp] theorem State.updCtx_models : (s.updCtx c f).models = s.models := rfl
@[simp] theorem State.updCtx_loads : (s.updCtx c f).loads = s.loads := rfl
@[simp] theorem State.updCtx_execs : (s.updCtx c f).execs = s.execs := rfl
@[simp] theorem State.updCtx_parts : (s.updCtx c f).parts = s.parts := rfl
@[simp] theorem State.updCtx_units : (s.updCtx c f).units = s.units := rfl
@[simp] theorem State.updCtx_tstl : (s.updCtx c f).tstl = s.tstl := rfl
@[simp] theorem State.updCtx_kiosks : (s.updCtx c f).kiosks = s.kiosks := rfl
@[simp] theorem State.updCtx_mem : (s.updCtx c f).mem = s.mem := rfl
@[simp] theorem State.updCtx_memx : (s.updCtx c f).memx = s.memx := rfl
@[simp] theorem State.updCtx_chans : (s.updCtx c f).chans = s.chans := rfl
@[simp] theorem State.updCtx_ports : (s.updCtx c f).ports = s.ports := rfl
@[simp] theorem State.updCtx_sessions : (s.updCtx c f).sessions = s.sessions := rfl
@[simp] theorem State.updCtx_nextSession : (s.updCtx c f).nextSession = s.nextSession := rfl
@[simp] theorem State.updCtx_eth : (s.updCtx c f).eth = s.eth := rfl
@[simp] theorem State.updCtx_ptp : (s.updCtx c f).ptp = s.ptp := rfl
@[simp] theorem State.updCtx_rtp : (s.updCtx c f).rtp = s.rtp := rfl
@[simp] theorem State.updCtx_links : (s.updCtx c f).links = s.links := rfl
@[simp] theorem State.updCtx_routes : (s.updCtx c f).routes = s.routes := rfl
@[simp] theorem State.updCtx_msgId : (s.updCtx c f).msgId = s.msgId := rfl
@[simp] theorem State.updCtx_xfers : (s.updCtx c f).xfers = s.xfers := rfl
@[simp] theorem State.updCtx_twin : (s.updCtx c f).twin = s.twin := rfl
@[simp] theorem State.updCtx_dev : (s.updCtx c f).dev = s.dev := rfl
@[simp] theorem State.updCtx_cfg : (s.updCtx c f).cfg = s.cfg := rfl
@[simp] theorem State.updCtx_flash : (s.updCtx c f).flash = s.flash := rfl
@[simp] theorem State.updCtx_sec : (s.updCtx c f).sec = s.sec := rfl
@[simp] theorem State.updCtx_pwr : (s.updCtx c f).pwr = s.pwr := rfl
@[simp] theorem State.updCtx_trec : (s.updCtx c f).trec = s.trec := rfl
@[simp] theorem State.updCtx_replay : (s.updCtx c f).replay = s.replay := rfl
@[simp] theorem State.updCtx_faultSec : (s.updCtx c f).faultSec = s.faultSec := rfl
@[simp] theorem State.updCtx_out : (s.updCtx c f).out = s.out := rfl
end

section
variable (s : State) (n : Nat) (f : Link → Link)
@[simp] theorem State.updLink_pending : (s.updLink n f).pending = s.pending := rfl
@[simp] theorem State.updLink_free : (s.updLink n f).free = s.free := rfl
@[simp] theorem State.updLink_cycle : (s.updLink n f).cycle = s.cycle := rfl
@[simp] theorem State.updLink_uptime : (s.updLink n f).uptime = s.uptime := rfl
@[simp] theorem State.updLink_phase : (s.updLink n f).phase = s.phase := rfl
@[simp] theorem State.updLink_regs : (s.updLink n f).regs = s.regs := rfl
@[simp] theorem State.updLink_shadows : (s.updLink n f).shadows = s.shadows := rfl
@[simp] theorem State.updLink_td0 : (s.updLink n f).td0 = s.td0 := rfl
@[simp] theorem State.updLink_td1 : (s.updLink n f).td1 = s.td1 := rfl
@[simp] theorem State.updLink_streams : (s.updLink n f).streams = s.streams := rfl
@[simp] theorem State.updLink_groups : (s.updLink n f).groups = s.groups := rfl
@[simp] theorem State.updLink_vcache : (s.updLink n f).vcache = s.vcache := rfl
@[simp] theorem State.updLink_pages : (s.updLink n f).pages = s.pages := rfl
@[simp] theorem State.updLink_swap : (s.updLink n f).swap = s.swap := rfl
@[simp] theorem State.updLink_batches : (s.updLink n f).batches = s.batches := rfl
@[simp] theorem State.updLink_fbatches : (s.updLink n f).fbatches = s.fbatches := rfl
@[simp] theorem State.updLink_nextId : (s.updLink n f).nextId = s.nextId := rfl
@[simp] theorem State.updLink_pitches : (s.updLink n f).pitches = s.pitches := rfl
@[simp] theorem State.updLink_ctxs : (s.updLink n f).ctxs = s.ctxs := rfl
@[simp] theorem State.updLink_models : (s.updLink n f).models = s.models := rfl
@[simp] theorem State.updLink_loads : (s.updLink n f).loads = s.loads := rfl
@[simp] theorem State.updLink_execs : (s.updLink n f).execs = s.execs := rfl
@[simp] theorem State.updLink_parts : (s.updLink n f).parts = s.parts := rfl
@[simp] theorem State.updLink_units : (s.updLink n f).units = s.units := rfl
@[simp] theorem State.updLink_tstl : (s.updLink n f).tstl = s.tstl := rfl
@[simp] theorem State.updLink_kiosks : (s.updLink n f).kiosks = s.kiosks := rfl
@[simp] theorem State.updLink_mem : (s.updLink n f).mem = s.mem := rfl
@[simp] theorem State.updLink_memx : (s.updLink n f).memx = s.memx := rfl
@[simp] theorem State.updLink_chans : (s.updLink n f).chans = s.chans := rfl
@[simp] theorem State.updLink_ports : (s.updLink n f).ports = s.ports := rfl
@[simp] theorem State.updLink_sessions : (s.updLink n f).sessions = s.sessions := rfl
@[simp] theorem State.updLink_nextSession : (s.updLink n f).nextSession = s.nextSession := rfl
@[simp] theorem State.updLink_eth : (s.updLink n f).eth = s.eth := rfl
@[simp] theorem State.updLink_ptp : (s.updLink n f).ptp = s.ptp := rfl
@[simp] theorem State.updLink_rtp : (s.updLink n f).rtp = s.rtp := rfl
@[simp] theorem State.updLink_routes : (s.updLink n f).routes = s.routes := rfl
@[simp] theorem State.updLink_msgId : (s.updLink n f).msgId = s.msgId := rfl
@[simp] theorem State.updLink_xfers : (s.updLink n f).xfers = s.xfers := rfl
@[simp] theorem State.updLink_twin : (s.updLink n f).twin = s.twin := rfl
@[simp] theorem State.updLink_dev : (s.updLink n f).dev = s.dev := rfl
@[simp] theorem State.updLink_cfg : (s.updLink n f).cfg = s.cfg := rfl
@[simp] theorem State.updLink_flash : (s.updLink n f).flash = s.flash := rfl
@[simp] theorem State.updLink_sec : (s.updLink n f).sec = s.sec := rfl
@[simp] theorem State.updLink_pwr : (s.updLink n f).pwr = s.pwr := rfl
@[simp] theorem State.updLink_trec : (s.updLink n f).trec = s.trec := rfl
@[simp] theorem State.updLink_replay : (s.updLink n f).replay = s.replay := rfl
@[simp] theorem State.updLink_faultSec : (s.updLink n f).faultSec = s.faultSec := rfl
@[simp] theorem State.updLink_out : (s.updLink n f).out = s.out := rfl
end

end Sys2Proof.Machine
end

