-- ==== Sys2Proof/Laws/Kiosk.lean ====
section
/-! SUPPORT. Kiosks: what writing a register leaves alone, and how an instruction that issues runs. -/

namespace Sys2Proof.Machine

/-- A write of a scalar register changes scalar registers only. -/
theorem Kiosk.wA_frame (x : Kiosk) (n : Nat) (v : BitVec 64) : ∃ a, x.wA n v = { x with a := a } := by
  unfold Kiosk.wA
  split
  · exact ⟨x.a, rfl⟩
  · exact ⟨_, rfl⟩

/-- A write of a mask register changes mask registers only. -/
theorem Kiosk.wM_frame (x : Kiosk) (n : Nat) (v : BitVec 32) : ∃ m, x.wM n v = { x with m := m } := by
  unfold Kiosk.wM
  split
  · exact ⟨x.m, rfl⟩
  · exact ⟨_, rfl⟩

/-- A write of a vector register changes vector registers only. -/
theorem Kiosk.wV_frame (x : Kiosk) (n : Nat) (mask : BitVec 32) (f : Nat → BitVec 32) : ∃ v, x.wV n mask f = { x with v := v } :=
  ⟨_, rfl⟩

@[simp] theorem Kiosk.wA_pc (x : Kiosk) (n : Nat) (v : BitVec 64) : (x.wA n v).pc = x.pc := by
  obtain ⟨a, h⟩ := x.wA_frame n v
  rw [h]
@[simp] theorem Kiosk.wA_v (x : Kiosk) (n : Nat) (v : BitVec 64) : (x.wA n v).v = x.v := by
  obtain ⟨a, h⟩ := x.wA_frame n v
  rw [h]
@[simp] theorem Kiosk.wA_m (x : Kiosk) (n : Nat) (v : BitVec 64) : (x.wA n v).m = x.m := by
  obtain ⟨a, h⟩ := x.wA_frame n v
  rw [h]
@[simp] theorem Kiosk.wM_pc (x : Kiosk) (n : Nat) (v : BitVec 32) : (x.wM n v).pc = x.pc := by
  obtain ⟨a, h⟩ := x.wM_frame n v
  rw [h]
@[simp] theorem Kiosk.wM_a (x : Kiosk) (n : Nat) (v : BitVec 32) : (x.wM n v).a = x.a := by
  obtain ⟨a, h⟩ := x.wM_frame n v
  rw [h]
@[simp] theorem Kiosk.wM_v (x : Kiosk) (n : Nat) (v : BitVec 32) : (x.wM n v).v = x.v := by
  obtain ⟨a, h⟩ := x.wM_frame n v
  rw [h]
@[simp] theorem Kiosk.wV_pc (x : Kiosk) (n : Nat) (mask : BitVec 32) (f : Nat → BitVec 32) : (x.wV n mask f).pc = x.pc := rfl
@[simp] theorem Kiosk.wV_a (x : Kiosk) (n : Nat) (mask : BitVec 32) (f : Nat → BitVec 32) : (x.wV n mask f).a = x.a := rfl
@[simp] theorem Kiosk.wV_m (x : Kiosk) (n : Nat) (mask : BitVec 32) (f : Nat → BitVec 32) : (x.wV n mask f).m = x.m := rfl

/-- The vector register that is not written keeps its lanes. -/
theorem Kiosk.wV_other {x : Kiosk} {n m : Nat} (h : m ≠ n) (mask : BitVec 32) (f : Nat → BitVec 32) (i : Nat) :
    (x.wV n mask f).lane m i = x.lane m i := by
  simp [Kiosk.wV, Kiosk.lane, Kiosk.rV, List.getD_eq_getElem?_getD, List.getElem?_set_ne (Ne.symm h)]

/-- The instruction after: only the PC moves. -/
theorem Kiosk.next_frame (x : Kiosk) : x.next = { x with pc := pcAfter x.pc 1 } := rfl

/-- An instruction whose word the Kiosk has at its PC runs. -/
theorem State.issueOp_runs {s : State} {i : Instr} {kw : KioskNo × Nat} (op : State → State) (hw : kioskWord i = some kw)
    (hi : s.issues kw.1.val kw.2 = true) (hl : kioskLegal i = true) : s.issueOp i op = op s := by
  simp [State.issueOp, hw, hi, hl]

/-- One whose word is not legal takes the exception ILLEGAL (11 R288). -/
theorem State.issueOp_illegal {s : State} {i : Instr} {kw : KioskNo × Nat} (op : State → State) (hw : kioskWord i = some kw)
    (hi : s.issues kw.1.val kw.2 = true) (hl : kioskLegal i = false) : s.issueOp i op = s.kioskExc kw.1.val 1 none := by
  simp [State.issueOp, hw, hi, hl]

/-- One that the Kiosk does not have at its PC changes nothing (log 11). -/
theorem State.issueOp_elsewhere {s : State} {i : Instr} {kw : KioskNo × Nat} (op : State → State) (hw : kioskWord i = some kw)
    (hi : s.issues kw.1.val kw.2 = false) : s.issueOp i op = s := by
  simp [State.issueOp, hw, hi]

end Sys2Proof.Machine
end

