-- ==== Sys2Proof/Laws/Reports.lean ====
section
/-! SUPPORT. What events, KTP output, Tolcon records and the clock leave alone, one lemma per field and operation. -/

namespace Sys2Proof.Machine

section
variable (s : State) (n : Nat)
@[simp] theorem State.pump_pending : (s.pump n).pending = s.pending := by unfold State.pump; split <;> rfl
@[simp] theorem State.pump_free : (s.pump n).free = s.free := by unfold State.pump; split <;> rfl
@[simp] theorem State.pump_cycle : (s.pump n).cycle = s.cycle := by unfold State.pump; split <;> rfl
@[simp] theorem State.pump_uptime : (s.pump n).uptime = s.uptime := by unfold State.pump; split <;> rfl
@[simp] theorem State.pump_phase : (s.pump n).phase = s.phase := by unfold State.pump; split <;> rfl
@[simp] theorem State.pump_regs : (s.pump n).regs = s.regs := by unfold State.pump; split <;> rfl
@[simp] theorem State.pump_shadows : (s.pump n).shadows = s.shadows := by unfold State.pump; split <;> rfl
@[simp] theorem State.pump_td0 : (s.pump n).td0 = s.td0 := by unfold State.pump; split <;> rfl
@[simp] theorem State.pump_td1 : (s.pump n).td1 = s.td1 := by unfold State.pump; split <;> rfl
@[simp] theorem State.pump_streams : (s.pump n).streams = s.streams := by unfold State.pump; split <;> rfl
@[simp] theorem State.pump_groups : (s.pump n).groups = s.groups := by unfold State.pump; split <;> rfl
@[simp] theorem State.pump_vcache : (s.pump n).vcache = s.vcache := by unfold State.pump; split <;> rfl
@[simp] theorem State.pump_pages : (s.pump n).pages = s.pages := by unfold State.pump; split <;> rfl
@[simp] theorem State.pump_swap : (s.pump n).swap = s.swap := by unfold State.pump; split <;> rfl
@[simp] theorem State.pump_batches : (s.pump n).batches = s.batches := by unfold State.pump; split <;> rfl
@[simp] theorem State.pump_fbatches : (s.pump n).fbatches = s.fbatches := by unfold State.pump; split <;> rfl
@[simp] theorem State.pump_nextId : (s.pump n).nextId = s.nextId := by unfold State.pump; split <;> rfl
@[simp] theorem State.pump_pitches : (s.pump n).pitches = s.pitches := by unfold State.pump; split <;> rfl
@[simp] theorem State.pump_ctxs : (s.pump n).ctxs = s.ctxs := by unfold State.pump; split <;> rfl
@[simp] theorem State.pump_models : (s.pump n).models = s.models := by unfold State.pump; split <;> rfl
@[simp] theorem State.pump_loads : (s.pump n).loads = s.loads := by unfold State.pump; split <;> rfl
@[simp] theorem State.pump_execs : (s.pump n).execs = s.execs := by unfold State.pump; split <;> rfl
@[simp] theorem State.pump_parts : (s.pump n).parts = s.parts := by unfold State.pump; split <;> rfl
@[simp] theorem State.pump_units : (s.pump n).units = s.units := by unfold State.pump; split <;> rfl
@[simp] theorem State.pump_tstl : (s.pump n).tstl = s.tstl := by unfold State.pump; split <;> rfl
@[simp] theorem State.pump_kiosks : (s.pump n).kiosks = s.kiosks := by unfold State.pump; split <;> rfl
@[simp] theorem State.pump_mem : (s.pump n).mem = s.mem := by unfold State.pump; split <;> rfl
@[simp] theorem State.pump_memx : (s.pump n).memx = s.memx := by unfold State.pump; split <;> rfl
@[simp] theorem State.pump_chans : (s.pump n).chans = s.chans := by unfold State.pump; split <;> rfl
@[simp] theorem State.pump_ports : (s.pump n).ports = s.ports := by unfold State.pump; split <;> rfl
@[simp] theorem State.pump_nextSession : (s.pump n).nextSession = s.nextSession := by unfold State.pump; split <;> rfl
@[simp] theorem State.pump_eth : (s.pump n).eth = s.eth := by unfold State.pump; split <;> rfl
@[simp] theorem State.pump_ptp : (s.pump n).ptp = s.ptp := by unfold State.pump; split <;> rfl
@[simp] theorem State.pump_rtp : (s.pump n).rtp = s.rtp := by unfold State.pump; split <;> rfl
@[simp] theorem State.pump_links : (s.pump n).links = s.links := by unfold State.pump; split <;> rfl
@[simp] theorem State.pump_routes : (s.pump n).routes = s.routes := by unfold State.pump; split <;> rfl
@[simp] theorem State.pump_msgId : (s.pump n).msgId = s.msgId := by unfold State.pump; split <;> rfl
@[simp] theorem State.pump_xfers : (s.pump n).xfers = s.xfers := by unfold State.pump; split <;> rfl
@[simp] theorem State.pump_twin : (s.pump n).twin = s.twin := by unfold State.pump; split <;> rfl
@[simp] theorem State.pump_dev : (s.pump n).dev = s.dev := by unfold State.pump; split <;> rfl
@[simp] theorem State.pump_cfg : (s.pump n).cfg = s.cfg := by unfold State.pump; split <;> rfl
@[simp] theorem State.pump_flash : (s.pump n).flash = s.flash := by unfold State.pump; split <;> rfl
@[simp] theorem State.pump_sec : (s.pump n).sec = s.sec := by unfold State.pump; split <;> rfl
@[simp] theorem State.pump_pwr : (s.pump n).pwr = s.pwr := by unfold State.pump; split <;> rfl
@[simp] theorem State.pump_trec : (s.pump n).trec = s.trec := by unfold State.pump; split <;> rfl
@[simp] theorem State.pump_replay : (s.pump n).replay = s.replay := by unfold State.pump; split <;> rfl
@[simp] theorem State.pump_faultSec : (s.pump n).faultSec = s.faultSec := by unfold State.pump; split <;> rfl
end

section
variable (s : State) (n typ status tag epoch : Nat) (pay : List Byte)
@[simp] theorem State.sendMsg_pending : (s.sendMsg n typ status tag epoch pay).pending = s.pending := by simp only [State.sendMsg, State.pump_pending, State.updSess_pending]
@[simp] theorem State.sendMsg_free : (s.sendMsg n typ status tag epoch pay).free = s.free := by simp only [State.sendMsg, State.pump_free, State.updSess_free]
@[simp] theorem State.sendMsg_cycle : (s.sendMsg n typ status tag epoch pay).cycle = s.cycle := by simp only [State.sendMsg, State.pump_cycle, State.updSess_cycle]
@[simp] theorem State.sendMsg_uptime : (s.sendMsg n typ status tag epoch pay).uptime = s.uptime := by simp only [State.sendMsg, State.pump_uptime, State.updSess_uptime]
@[simp] theorem State.sendMsg_phase : (s.sendMsg n typ status tag epoch pay).phase = s.phase := by simp only [State.sendMsg, State.pump_phase, State.updSess_phase]
@[simp] theorem State.sendMsg_regs : (s.sendMsg n typ status tag epoch pay).regs = s.regs := by simp only [State.sendMsg, State.pump_regs, State.updSess_regs]
@[simp] theorem State.sendMsg_shadows : (s.sendMsg n typ status tag epoch pay).shadows = s.shadows := by simp only [State.sendMsg, State.pump_shadows, State.updSess_shadows]
@[simp] theorem State.sendMsg_td0 : (s.sendMsg n typ status tag epoch pay).td0 = s.td0 := by simp only [State.sendMsg, State.pump_td0, State.updSess_td0]
@[simp] theorem State.sendMsg_td1 : (s.sendMsg n typ status tag epoch pay).td1 = s.td1 := by simp only [State.sendMsg, State.pump_td1, State.updSess_td1]
@[simp] theorem State.sendMsg_streams : (s.sendMsg n typ status tag epoch pay).streams = s.streams := by simp only [State.sendMsg, State.pump_streams, State.updSess_streams]
@[simp] theorem State.sendMsg_groups : (s.sendMsg n typ status tag epoch pay).groups = s.groups := by simp only [State.sendMsg, State.pump_groups, State.updSess_groups]
@[simp] theorem State.sendMsg_vcache : (s.sendMsg n typ status tag epoch pay).vcache = s.vcache := by simp only [State.sendMsg, State.pump_vcache, State.updSess_vcache]
@[simp] theorem State.sendMsg_pages : (s.sendMsg n typ status tag epoch pay).pages = s.pages := by simp only [State.sendMsg, State.pump_pages, State.updSess_pages]
@[simp] theorem State.sendMsg_swap : (s.sendMsg n typ status tag epoch pay).swap = s.swap := by simp only [State.sendMsg, State.pump_swap, State.updSess_swap]
@[simp] theorem State.sendMsg_batches : (s.sendMsg n typ status tag epoch pay).batches = s.batches := by simp only [State.sendMsg, State.pump_batches, State.updSess_batches]
@[simp] theorem State.sendMsg_fbatches : (s.sendMsg n typ status tag epoch pay).fbatches = s.fbatches := by simp only [State.sendMsg, State.pump_fbatches, State.updSess_fbatches]
@[simp] theorem State.sendMsg_nextId : (s.sendMsg n typ status tag epoch pay).nextId = s.nextId := by simp only [State.sendMsg, State.pump_nextId, State.updSess_nextId]
@[simp] theorem State.sendMsg_pitches : (s.sendMsg n typ status tag epoch pay).pitches = s.pitches := by simp only [State.sendMsg, State.pump_pitches, State.updSess_pitches]
@[simp] theorem State.sendMsg_ctxs : (s.sendMsg n typ status tag epoch pay).ctxs = s.ctxs := by simp only [State.sendMsg, State.pump_ctxs, State.updSess_ctxs]
@[simp] theorem State.sendMsg_models : (s.sendMsg n typ status tag epoch pay).models = s.models := by simp only [State.sendMsg, State.pump_models, State.updSess_models]
@[simp] theorem State.sendMsg_loads : (s.sendMsg n typ status tag epoch pay).loads = s.loads := by simp only [State.sendMsg, State.pump_loads, State.updSess_loads]
@[simp] theorem State.sendMsg_execs : (s.sendMsg n typ status tag epoch pay).execs = s.execs := by simp only [State.sendMsg, State.pump_execs, State.updSess_execs]
@[simp] theorem State.sendMsg_parts : (s.sendMsg n typ status tag epoch pay).parts = s.parts := by simp only [State.sendMsg, State.pump_parts, State.updSess_parts]
@[simp] theorem State.sendMsg_units : (s.sendMsg n typ status tag epoch pay).units = s.units := by simp only [State.sendMsg, State.pump_units, State.updSess_units]
@[simp] theorem State.sendMsg_tstl : (s.sendMsg n typ status tag epoch pay).tstl = s.tstl := by simp only [State.sendMsg, State.pump_tstl, State.updSess_tstl]
@[simp] theorem State.sendMsg_kiosks : (s.sendMsg n typ status tag epoch pay).kiosks = s.kiosks := by simp only [State.sendMsg, State.pump_kiosks, State.updSess_kiosks]
@[simp] theorem State.sendMsg_mem : (s.sendMsg n typ status tag epoch pay).mem = s.mem := by simp only [State.sendMsg, State.pump_mem, State.updSess_mem]
@[simp] theorem State.sendMsg_memx : (s.sendMsg n typ status tag epoch pay).memx = s.memx := by simp only [State.sendMsg, State.pump_memx, State.updSess_memx]
@[simp] theorem State.sendMsg_chans : (s.sendMsg n typ status tag epoch pay).chans = s.chans := by simp only [State.sendMsg, State.pump_chans, State.updSess_chans]
@[simp] theorem State.sendMsg_ports : (s.sendMsg n typ status tag epoch pay).ports = s.ports := by simp only [State.sendMsg, State.pump_ports, State.updSess_ports]
@[simp] theorem State.sendMsg_nextSession : (s.sendMsg n typ status tag epoch pay).nextSession = s.nextSession := by simp only [State.sendMsg, State.pump_nextSession, State.updSess_nextSession]
@[simp] theorem State.sendMsg_eth : (s.sendMsg n typ status tag epoch pay).eth = s.eth := by simp only [State.sendMsg, State.pump_eth, State.updSess_eth]
@[simp] theorem State.sendMsg_ptp : (s.sendMsg n typ status tag epoch pay).ptp = s.ptp := by simp only [State.sendMsg, State.pump_ptp, State.updSess_ptp]
@[simp] theorem State.sendMsg_rtp : (s.sendMsg n typ status tag epoch pay).rtp = s.rtp := by simp only [State.sendMsg, State.pump_rtp, State.updSess_rtp]
@[simp] theorem State.sendMsg_links : (s.sendMsg n typ status tag epoch pay).links = s.links := by simp only [State.sendMsg, State.pump_links, State.updSess_links]
@[simp] theorem State.sendMsg_routes : (s.sendMsg n typ status tag epoch pay).routes = s.routes := by simp only [State.sendMsg, State.pump_routes, State.updSess_routes]
@[simp] theorem State.sendMsg_msgId : (s.sendMsg n typ status tag epoch pay).msgId = s.msgId := by simp only [State.sendMsg, State.pump_msgId, State.updSess_msgId]
@[simp] theorem State.sendMsg_xfers : (s.sendMsg n typ status tag epoch pay).xfers = s.xfers := by simp only [State.sendMsg, State.pump_xfers, State.updSess_xfers]
@[simp] theorem State.sendMsg_twin : (s.sendMsg n typ status tag epoch pay).twin = s.twin := by simp only [State.sendMsg, State.pump_twin, State.updSess_twin]
@[simp] theorem State.sendMsg_dev : (s.sendMsg n typ status tag epoch pay).dev = s.dev := by simp only [State.sendMsg, State.pump_dev, State.updSess_dev]
@[simp] theorem State.sendMsg_cfg : (s.sendMsg n typ status tag epoch pay).cfg = s.cfg := by simp only [State.sendMsg, State.pump_cfg, State.updSess_cfg]
@[simp] theorem State.sendMsg_flash : (s.sendMsg n typ status tag epoch pay).flash = s.flash := by simp only [State.sendMsg, State.pump_flash, State.updSess_flash]
@[simp] theorem State.sendMsg_sec : (s.sendMsg n typ status tag epoch pay).sec = s.sec := by simp only [State.sendMsg, State.pump_sec, State.updSess_sec]
@[simp] theorem State.sendMsg_pwr : (s.sendMsg n typ status tag epoch pay).pwr = s.pwr := by simp only [State.sendMsg, State.pump_pwr, State.updSess_pwr]
@[simp] theorem State.sendMsg_trec : (s.sendMsg n typ status tag epoch pay).trec = s.trec := by simp only [State.sendMsg, State.pump_trec, State.updSess_trec]
@[simp] theorem State.sendMsg_replay : (s.sendMsg n typ status tag epoch pay).replay = s.replay := by simp only [State.sendMsg, State.pump_replay, State.updSess_replay]
@[simp] theorem State.sendMsg_faultSec : (s.sendMsg n typ status tag epoch pay).faultSec = s.faultSec := by simp only [State.sendMsg, State.pump_faultSec, State.updSess_faultSec]
end

section
variable (s : State) (p : Session → Bool) (code subject dom arg0 arg1 : Nat)
@[simp] theorem State.eventIf_pending : (s.eventIf p code subject dom arg0 arg1).pending = s.pending := by unfold State.eventIf; dsimp only; split <;> rfl
@[simp] theorem State.eventIf_free : (s.eventIf p code subject dom arg0 arg1).free = s.free := by unfold State.eventIf; dsimp only; split <;> rfl
@[simp] theorem State.eventIf_cycle : (s.eventIf p code subject dom arg0 arg1).cycle = s.cycle := by unfold State.eventIf; dsimp only; split <;> rfl
@[simp] theorem State.eventIf_uptime : (s.eventIf p code subject dom arg0 arg1).uptime = s.uptime := by unfold State.eventIf; dsimp only; split <;> rfl
@[simp] theorem State.eventIf_phase : (s.eventIf p code subject dom arg0 arg1).phase = s.phase := by unfold State.eventIf; dsimp only; split <;> rfl
@[simp] theorem State.eventIf_shadows : (s.eventIf p code subject dom arg0 arg1).shadows = s.shadows := by unfold State.eventIf; dsimp only; split <;> rfl
@[simp] theorem State.eventIf_td0 : (s.eventIf p code subject dom arg0 arg1).td0 = s.td0 := by unfold State.eventIf; dsimp only; split <;> rfl
@[simp] theorem State.eventIf_td1 : (s.eventIf p code subject dom arg0 arg1).td1 = s.td1 := by unfold State.eventIf; dsimp only; split <;> rfl
@[simp] theorem State.eventIf_streams : (s.eventIf p code subject dom arg0 arg1).streams = s.streams := by unfold State.eventIf; dsimp only; split <;> rfl
@[simp] theorem State.eventIf_groups : (s.eventIf p code subject dom arg0 arg1).groups = s.groups := by unfold State.eventIf; dsimp only; split <;> rfl
@[simp] theorem State.eventIf_vcache : (s.eventIf p code subject dom arg0 arg1).vcache = s.vcache := by unfold State.eventIf; dsimp only; split <;> rfl
@[simp] theorem State.eventIf_pages : (s.eventIf p code subject dom arg0 arg1).pages = s.pages := by unfold State.eventIf; dsimp only; split <;> rfl
@[simp] theorem State.eventIf_swap : (s.eventIf p code subject dom arg0 arg1).swap = s.swap := by unfold State.eventIf; dsimp only; split <;> rfl
@[simp] theorem State.eventIf_batches : (s.eventIf p code subject dom arg0 arg1).batches = s.batches := by unfold State.eventIf; dsimp only; split <;> rfl
@[simp] theorem State.eventIf_fbatches : (s.eventIf p code subject dom arg0 arg1).fbatches = s.fbatches := by unfold State.eventIf; dsimp only; split <;> rfl
@[simp] theorem State.eventIf_nextId : (s.eventIf p code subject dom arg0 arg1).nextId = s.nextId := by unfold State.eventIf; dsimp only; split <;> rfl
@[simp] theorem State.eventIf_pitches : (s.eventIf p code subject dom arg0 arg1).pitches = s.pitches := by unfold State.eventIf; dsimp only; split <;> rfl
@[simp] theorem State.eventIf_ctxs : (s.eventIf p code subject dom arg0 arg1).ctxs = s.ctxs := by unfold State.eventIf; dsimp only; split <;> rfl
@[simp] theorem State.eventIf_models : (s.eventIf p code subject dom arg0 arg1).models = s.models := by unfold State.eventIf; dsimp only; split <;> rfl
@[simp] theorem State.eventIf_loads : (s.eventIf p code subject dom arg0 arg1).loads = s.loads := by unfold State.eventIf; dsimp only; split <;> rfl
@[simp] theorem State.eventIf_execs : (s.eventIf p code subject dom arg0 arg1).execs = s.execs := by unfold State.eventIf; dsimp only; split <;> rfl
@[simp] theorem State.eventIf_parts : (s.eventIf p code subject dom arg0 arg1).parts = s.parts := by unfold State.eventIf; dsimp only; split <;> rfl
@[simp] theorem State.eventIf_units : (s.eventIf p code subject dom arg0 arg1).units = s.units := by unfold State.eventIf; dsimp only; split <;> rfl
@[simp] theorem State.eventIf_tstl : (s.eventIf p code subject dom arg0 arg1).tstl = s.tstl := by unfold State.eventIf; dsimp only; split <;> rfl
@[simp] theorem State.eventIf_kiosks : (s.eventIf p code subject dom arg0 arg1).kiosks = s.kiosks := by unfold State.eventIf; dsimp only; split <;> rfl
@[simp] theorem State.eventIf_mem : (s.eventIf p code subject dom arg0 arg1).mem = s.mem := by unfold State.eventIf; dsimp only; split <;> rfl
@[simp] theorem State.eventIf_memx : (s.eventIf p code subject dom arg0 arg1).memx = s.memx := by unfold State.eventIf; dsimp only; split <;> rfl
@[simp] theorem State.eventIf_chans : (s.eventIf p code subject dom arg0 arg1).chans = s.chans := by unfold State.eventIf; dsimp only; split <;> rfl
@[simp] theorem State.eventIf_ports : (s.eventIf p code subject dom arg0 arg1).ports = s.ports := by unfold State.eventIf; dsimp only; split <;> rfl
@[simp] theorem State.eventIf_nextSession : (s.eventIf p code subject dom arg0 arg1).nextSession = s.nextSession := by unfold State.eventIf; dsimp only; split <;> rfl
@[simp] theorem State.eventIf_eth : (s.eventIf p code subject dom arg0 arg1).eth = s.eth := by unfold State.eventIf; dsimp only; split <;> rfl
@[simp] theorem State.eventIf_ptp : (s.eventIf p code subject dom arg0 arg1).ptp = s.ptp := by unfold State.eventIf; dsimp only; split <;> rfl
@[simp] theorem State.eventIf_rtp : (s.eventIf p code subject dom arg0 arg1).rtp = s.rtp := by unfold State.eventIf; dsimp only; split <;> rfl
@[simp] theorem State.eventIf_links : (s.eventIf p code subject dom arg0 arg1).links = s.links := by unfold State.eventIf; dsimp only; split <;> rfl
@[simp] theorem State.eventIf_routes : (s.eventIf p code subject dom arg0 arg1).routes = s.routes := by unfold State.eventIf; dsimp only; split <;> rfl
@[simp] theorem State.eventIf_msgId : (s.eventIf p code subject dom arg0 arg1).msgId = s.msgId := by unfold State.eventIf; dsimp only; split <;> rfl
@[simp] theorem State.eventIf_xfers : (s.eventIf p code subject dom arg0 arg1).xfers = s.xfers := by unfold State.eventIf; dsimp only; split <;> rfl
@[simp] theorem State.eventIf_twin : (s.eventIf p code subject dom arg0 arg1).twin = s.twin := by unfold State.eventIf; dsimp only; split <;> rfl
@[simp] theorem State.eventIf_dev : (s.eventIf p code subject dom arg0 arg1).dev = s.dev := by unfold State.eventIf; dsimp only; split <;> rfl
@[simp] theorem State.eventIf_cfg : (s.eventIf p code subject dom arg0 arg1).cfg = s.cfg := by unfold State.eventIf; dsimp only; split <;> rfl
@[simp] theorem State.eventIf_flash : (s.eventIf p code subject dom arg0 arg1).flash = s.flash := by unfold State.eventIf; dsimp only; split <;> rfl
@[simp] theorem State.eventIf_sec : (s.eventIf p code subject dom arg0 arg1).sec = s.sec := by unfold State.eventIf; dsimp only; split <;> rfl
@[simp] theorem State.eventIf_pwr : (s.eventIf p code subject dom arg0 arg1).pwr = s.pwr := by unfold State.eventIf; dsimp only; split <;> rfl
@[simp] theorem State.eventIf_trec : (s.eventIf p code subject dom arg0 arg1).trec = s.trec := by unfold State.eventIf; dsimp only; split <;> rfl
@[simp] theorem State.eventIf_replay : (s.eventIf p code subject dom arg0 arg1).replay = s.replay := by unfold State.eventIf; dsimp only; split <;> rfl
@[simp] theorem State.eventIf_faultSec : (s.eventIf p code subject dom arg0 arg1).faultSec = s.faultSec := by unfold State.eventIf; dsimp only; split <;> rfl
@[simp] theorem State.eventIf_out : (s.eventIf p code subject dom arg0 arg1).out = s.out := by unfold State.eventIf; dsimp only; split <;> rfl
end

section
variable (s : State) (code subject dom arg0 arg1 : Nat)
@[simp] theorem State.event_pending : (s.event code subject dom arg0 arg1).pending = s.pending := by simp only [State.event, State.eventIf_pending]
@[simp] theorem State.event_free : (s.event code subject dom arg0 arg1).free = s.free := by simp only [State.event, State.eventIf_free]
@[simp] theorem State.event_cycle : (s.event code subject dom arg0 arg1).cycle = s.cycle := by simp only [State.event, State.eventIf_cycle]
@[simp] theorem State.event_uptime : (s.event code subject dom arg0 arg1).uptime = s.uptime := by simp only [State.event, State.eventIf_uptime]
@[simp] theorem State.event_phase : (s.event code subject dom arg0 arg1).phase = s.phase := by simp only [State.event, State.eventIf_phase]
@[simp] theorem State.event_shadows : (s.event code subject dom arg0 arg1).shadows = s.shadows := by simp only [State.event, State.eventIf_shadows]
@[simp] theorem State.event_td0 : (s.event code subject dom arg0 arg1).td0 = s.td0 := by simp only [State.event, State.eventIf_td0]
@[simp] theorem State.event_td1 : (s.event code subject dom arg0 arg1).td1 = s.td1 := by simp only [State.event, State.eventIf_td1]
@[simp] theorem State.event_streams : (s.event code subject dom arg0 arg1).streams = s.streams := by simp only [State.event, State.eventIf_streams]
@[simp] theorem State.event_groups : (s.event code subject dom arg0 arg1).groups = s.groups := by simp only [State.event, State.eventIf_groups]
@[simp] theorem State.event_vcache : (s.event code subject dom arg0 arg1).vcache = s.vcache := by simp only [State.event, State.eventIf_vcache]
@[simp] theorem State.event_pages : (s.event code subject dom arg0 arg1).pages = s.pages := by simp only [State.event, State.eventIf_pages]
@[simp] theorem State.event_swap : (s.event code subject dom arg0 arg1).swap = s.swap := by simp only [State.event, State.eventIf_swap]
@[simp] theorem State.event_batches : (s.event code subject dom arg0 arg1).batches = s.batches := by simp only [State.event, State.eventIf_batches]
@[simp] theorem State.event_fbatches : (s.event code subject dom arg0 arg1).fbatches = s.fbatches := by simp only [State.event, State.eventIf_fbatches]
@[simp] theorem State.event_nextId : (s.event code subject dom arg0 arg1).nextId = s.nextId := by simp only [State.event, State.eventIf_nextId]
@[simp] theorem State.event_pitches : (s.event code subject dom arg0 arg1).pitches = s.pitches := by simp only [State.event, State.eventIf_pitches]
@[simp] theorem State.event_ctxs : (s.event code subject dom arg0 arg1).ctxs = s.ctxs := by simp only [State.event, State.eventIf_ctxs]
@[simp] theorem State.event_models : (s.event code subject dom arg0 arg1).models = s.models := by simp only [State.event, State.eventIf_models]
@[simp] theorem State.event_loads : (s.event code subject dom arg0 arg1).loads = s.loads := by simp only [State.event, State.eventIf_loads]
@[simp] theorem State.event_execs : (s.event code subject dom arg0 arg1).execs = s.execs := by simp only [State.event, State.eventIf_execs]
@[simp] theorem State.event_parts : (s.event code subject dom arg0 arg1).parts = s.parts := by simp only [State.event, State.eventIf_parts]
@[simp] theorem State.event_units : (s.event code subject dom arg0 arg1).units = s.units := by simp only [State.event, State.eventIf_units]
@[simp] theorem State.event_tstl : (s.event code subject dom arg0 arg1).tstl = s.tstl := by simp only [State.event, State.eventIf_tstl]
@[simp] theorem State.event_kiosks : (s.event code subject dom arg0 arg1).kiosks = s.kiosks := by simp only [State.event, State.eventIf_kiosks]
@[simp] theorem State.event_mem : (s.event code subject dom arg0 arg1).mem = s.mem := by simp only [State.event, State.eventIf_mem]
@[simp] theorem State.event_memx : (s.event code subject dom arg0 arg1).memx = s.memx := by simp only [State.event, State.eventIf_memx]
@[simp] theorem State.event_chans : (s.event code subject dom arg0 arg1).chans = s.chans := by simp only [State.event, State.eventIf_chans]
@[simp] theorem State.event_ports : (s.event code subject dom arg0 arg1).ports = s.ports := by simp only [State.event, State.eventIf_ports]
@[simp] theorem State.event_nextSession : (s.event code subject dom arg0 arg1).nextSession = s.nextSession := by simp only [State.event, State.eventIf_nextSession]
@[simp] theorem State.event_eth : (s.event code subject dom arg0 arg1).eth = s.eth := by simp only [State.event, State.eventIf_eth]
@[simp] theorem State.event_ptp : (s.event code subject dom arg0 arg1).ptp = s.ptp := by simp only [State.event, State.eventIf_ptp]
@[simp] theorem State.event_rtp : (s.event code subject dom arg0 arg1).rtp = s.rtp := by simp only [State.event, State.eventIf_rtp]
@[simp] theorem State.event_links : (s.event code subject dom arg0 arg1).links = s.links := by simp only [State.event, State.eventIf_links]
@[simp] theorem State.event_routes : (s.event code subject dom arg0 arg1).routes = s.routes := by simp only [State.event, State.eventIf_routes]
@[simp] theorem State.event_msgId : (s.event code subject dom arg0 arg1).msgId = s.msgId := by simp only [State.event, State.eventIf_msgId]
@[simp] theorem State.event_xfers : (s.event code subject dom arg0 arg1).xfers = s.xfers := by simp only [State.event, State.eventIf_xfers]
@[simp] theorem State.event_twin : (s.event code subject dom arg0 arg1).twin = s.twin := by simp only [State.event, State.eventIf_twin]
@[simp] theorem State.event_dev : (s.event code subject dom arg0 arg1).dev = s.dev := by simp only [State.event, State.eventIf_dev]
@[simp] theorem State.event_cfg : (s.event code subject dom arg0 arg1).cfg = s.cfg := by simp only [State.event, State.eventIf_cfg]
@[simp] theorem State.event_flash : (s.event code subject dom arg0 arg1).flash = s.flash := by simp only [State.event, State.eventIf_flash]
@[simp] theorem State.event_sec : (s.event code subject dom arg0 arg1).sec = s.sec := by simp only [State.event, State.eventIf_sec]
@[simp] theorem State.event_pwr : (s.event code subject dom arg0 arg1).pwr = s.pwr := by simp only [State.event, State.eventIf_pwr]
@[simp] theorem State.event_trec : (s.event code subject dom arg0 arg1).trec = s.trec := by simp only [State.event, State.eventIf_trec]
@[simp] theorem State.event_replay : (s.event code subject dom arg0 arg1).replay = s.replay := by simp only [State.event, State.eventIf_replay]
@[simp] theorem State.event_faultSec : (s.event code subject dom arg0 arg1).faultSec = s.faultSec := by simp only [State.event, State.eventIf_faultSec]
@[simp] theorem State.event_out : (s.event code subject dom arg0 arg1).out = s.out := by simp only [State.event, State.eventIf_out]
end

section
variable (s : State) 
@[simp] theorem finish_pending : (finish s).pending = s.pending := rfl
@[simp] theorem finish_free : (finish s).free = s.free := rfl
@[simp] theorem finish_cycle : (finish s).cycle = s.cycle := rfl
@[simp] theorem finish_uptime : (finish s).uptime = s.uptime := rfl
@[simp] theorem finish_phase : (finish s).phase = s.phase := rfl
@[simp] theorem finish_regs : (finish s).regs = s.regs := rfl
@[simp] theorem finish_shadows : (finish s).shadows = s.shadows := rfl
@[simp] theorem finish_td0 : (finish s).td0 = s.td0 := rfl
@[simp] theorem finish_td1 : (finish s).td1 = s.td1 := rfl
@[simp] theorem finish_streams : (finish s).streams = s.streams := rfl
@[simp] theorem finish_groups : (finish s).groups = s.groups := rfl
@[simp] theorem finish_vcache : (finish s).vcache = s.vcache := rfl
@[simp] theorem finish_pages : (finish s).pages = s.pages := rfl
@[simp] theorem finish_swap : (finish s).swap = s.swap := rfl
@[simp] theorem finish_batches : (finish s).batches = s.batches := rfl
@[simp] theorem finish_fbatches : (finish s).fbatches = s.fbatches := rfl
@[simp] theorem finish_nextId : (finish s).nextId = s.nextId := rfl
@[simp] theorem finish_pitches : (finish s).pitches = s.pitches := rfl
@[simp] theorem finish_ctxs : (finish s).ctxs = s.ctxs := rfl
@[simp] theorem finish_models : (finish s).models = s.models := rfl
@[simp] theorem finish_loads : (finish s).loads = s.loads := rfl
@[simp] theorem finish_execs : (finish s).execs = s.execs := rfl
@[simp] theorem finish_parts : (finish s).parts = s.parts := rfl
@[simp] theorem finish_units : (finish s).units = s.units := rfl
@[simp] theorem finish_tstl : (finish s).tstl = s.tstl := rfl
@[simp] theorem finish_kiosks : (finish s).kiosks = s.kiosks := rfl
@[simp] theorem finish_mem : (finish s).mem = s.mem := rfl
@[simp] theorem finish_memx : (finish s).memx = s.memx := rfl
@[simp] theorem finish_chans : (finish s).chans = s.chans := rfl
@[simp] theorem finish_ports : (finish s).ports = s.ports := rfl
@[simp] theorem finish_nextSession : (finish s).nextSession = s.nextSession := rfl
@[simp] theorem finish_eth : (finish s).eth = s.eth := rfl
@[simp] theorem finish_ptp : (finish s).ptp = s.ptp := rfl
@[simp] theorem finish_rtp : (finish s).rtp = s.rtp := rfl
@[simp] theorem finish_links : (finish s).links = s.links := rfl
@[simp] theorem finish_routes : (finish s).routes = s.routes := rfl
@[simp] theorem finish_msgId : (finish s).msgId = s.msgId := rfl
@[simp] theorem finish_xfers : (finish s).xfers = s.xfers := rfl
@[simp] theorem finish_twin : (finish s).twin = s.twin := rfl
@[simp] theorem finish_dev : (finish s).dev = s.dev := rfl
@[simp] theorem finish_cfg : (finish s).cfg = s.cfg := rfl
@[simp] theorem finish_flash : (finish s).flash = s.flash := rfl
@[simp] theorem finish_sec : (finish s).sec = s.sec := rfl
@[simp] theorem finish_pwr : (finish s).pwr = s.pwr := rfl
@[simp] theorem finish_trec : (finish s).trec = s.trec := rfl
@[simp] theorem finish_replay : (finish s).replay = s.replay := rfl
@[simp] theorem finish_faultSec : (finish s).faultSec = s.faultSec := rfl
end

section
variable (s : State) (n dst cls kind tag : Nat) (body : List Byte)
@[simp] theorem State.sendOn_pending : ((s.sendOn n dst cls kind tag body).2).pending = s.pending := rfl
@[simp] theorem State.sendOn_free : ((s.sendOn n dst cls kind tag body).2).free = s.free := rfl
@[simp] theorem State.sendOn_cycle : ((s.sendOn n dst cls kind tag body).2).cycle = s.cycle := rfl
@[simp] theorem State.sendOn_uptime : ((s.sendOn n dst cls kind tag body).2).uptime = s.uptime := rfl
@[simp] theorem State.sendOn_phase : ((s.sendOn n dst cls kind tag body).2).phase = s.phase := rfl
@[simp] theorem State.sendOn_regs : ((s.sendOn n dst cls kind tag body).2).regs = s.regs := rfl
@[simp] theorem State.sendOn_shadows : ((s.sendOn n dst cls kind tag body).2).shadows = s.shadows := rfl
@[simp] theorem State.sendOn_td0 : ((s.sendOn n dst cls kind tag body).2).td0 = s.td0 := rfl
@[simp] theorem State.sendOn_td1 : ((s.sendOn n dst cls kind tag body).2).td1 = s.td1 := rfl
@[simp] theorem State.sendOn_streams : ((s.sendOn n dst cls kind tag body).2).streams = s.streams := rfl
@[simp] theorem State.sendOn_groups : ((s.sendOn n dst cls kind tag body).2).groups = s.groups := rfl
@[simp] theorem State.sendOn_vcache : ((s.sendOn n dst cls kind tag body).2).vcache = s.vcache := rfl
@[simp] theorem State.sendOn_pages : ((s.sendOn n dst cls kind tag body).2).pages = s.pages := rfl
@[simp] theorem State.sendOn_swap : ((s.sendOn n dst cls kind tag body).2).swap = s.swap := rfl
@[simp] theorem State.sendOn_batches : ((s.sendOn n dst cls kind tag body).2).batches = s.batches := rfl
@[simp] theorem State.sendOn_fbatches : ((s.sendOn n dst cls kind tag body).2).fbatches = s.fbatches := rfl
@[simp] theorem State.sendOn_nextId : ((s.sendOn n dst cls kind tag body).2).nextId = s.nextId := rfl
@[simp] theorem State.sendOn_pitches : ((s.sendOn n dst cls kind tag body).2).pitches = s.pitches := rfl
@[simp] theorem State.sendOn_ctxs : ((s.sendOn n dst cls kind tag body).2).ctxs = s.ctxs := rfl
@[simp] theorem State.sendOn_models : ((s.sendOn n dst cls kind tag body).2).models = s.models := rfl
@[simp] theorem State.sendOn_loads : ((s.sendOn n dst cls kind tag body).2).loads = s.loads := rfl
@[simp] theorem State.sendOn_execs : ((s.sendOn n dst cls kind tag body).2).execs = s.execs := rfl
@[simp] theorem State.sendOn_parts : ((s.sendOn n dst cls kind tag body).2).parts = s.parts := rfl
@[simp] theorem State.sendOn_units : ((s.sendOn n dst cls kind tag body).2).units = s.units := rfl
@[simp] theorem State.sendOn_tstl : ((s.sendOn n dst cls kind tag body).2).tstl = s.tstl := rfl
@[simp] theorem State.sendOn_kiosks : ((s.sendOn n dst cls kind tag body).2).kiosks = s.kiosks := rfl
@[simp] theorem State.sendOn_mem : ((s.sendOn n dst cls kind tag body).2).mem = s.mem := rfl
@[simp] theorem State.sendOn_memx : ((s.sendOn n dst cls kind tag body).2).memx = s.memx := rfl
@[simp] theorem State.sendOn_chans : ((s.sendOn n dst cls kind tag body).2).chans = s.chans := rfl
@[simp] theorem State.sendOn_ports : ((s.sendOn n dst cls kind tag body).2).ports = s.ports := rfl
@[simp] theorem State.sendOn_sessions : ((s.sendOn n dst cls kind tag body).2).sessions = s.sessions := rfl
@[simp] theorem State.sendOn_nextSession : ((s.sendOn n dst cls kind tag body).2).nextSession = s.nextSession := rfl
@[simp] theorem State.sendOn_eth : ((s.sendOn n dst cls kind tag body).2).eth = s.eth := rfl
@[simp] theorem State.sendOn_ptp : ((s.sendOn n dst cls kind tag body).2).ptp = s.ptp := rfl
@[simp] theorem State.sendOn_rtp : ((s.sendOn n dst cls kind tag body).2).rtp = s.rtp := rfl
@[simp] theorem State.sendOn_routes : ((s.sendOn n dst cls kind tag body).2).routes = s.routes := rfl
@[simp] theorem State.sendOn_xfers : ((s.sendOn n dst cls kind tag body).2).xfers = s.xfers := rfl
@[simp] theorem State.sendOn_twin : ((s.sendOn n dst cls kind tag body).2).twin = s.twin := rfl
@[simp] theorem State.sendOn_dev : ((s.sendOn n dst cls kind tag body).2).dev = s.dev := rfl
@[simp] theorem State.sendOn_cfg : ((s.sendOn n dst cls kind tag body).2).cfg = s.cfg := rfl
@[simp] theorem State.sendOn_flash : ((s.sendOn n dst cls kind tag body).2).flash = s.flash := rfl
@[simp] theorem State.sendOn_sec : ((s.sendOn n dst cls kind tag body).2).sec = s.sec := rfl
@[simp] theorem State.sendOn_pwr : ((s.sendOn n dst cls kind tag body).2).pwr = s.pwr := rfl
@[simp] theorem State.sendOn_trec : ((s.sendOn n dst cls kind tag body).2).trec = s.trec := rfl
@[simp] theorem State.sendOn_replay : ((s.sendOn n dst cls kind tag body).2).replay = s.replay := rfl
@[simp] theorem State.sendOn_faultSec : ((s.sendOn n dst cls kind tag body).2).faultSec = s.faultSec := rfl
@[simp] theorem State.sendOn_out : ((s.sendOn n dst cls kind tag body).2).out = s.out := rfl
end

section
variable (s : State) (bs : List Byte)
@[simp] theorem State.forward_pending : ((s.forward bs).2).pending = s.pending := by unfold State.forward; split <;> rfl
@[simp] theorem State.forward_free : ((s.forward bs).2).free = s.free := by unfold State.forward; split <;> rfl
@[simp] theorem State.forward_cycle : ((s.forward bs).2).cycle = s.cycle := by unfold State.forward; split <;> rfl
@[simp] theorem State.forward_uptime : ((s.forward bs).2).uptime = s.uptime := by unfold State.forward; split <;> rfl
@[simp] theorem State.forward_phase : ((s.forward bs).2).phase = s.phase := by unfold State.forward; split <;> rfl
@[simp] theorem State.forward_regs : ((s.forward bs).2).regs = s.regs := by unfold State.forward; split <;> rfl
@[simp] theorem State.forward_shadows : ((s.forward bs).2).shadows = s.shadows := by unfold State.forward; split <;> rfl
@[simp] theorem State.forward_td0 : ((s.forward bs).2).td0 = s.td0 := by unfold State.forward; split <;> rfl
@[simp] theorem State.forward_td1 : ((s.forward bs).2).td1 = s.td1 := by unfold State.forward; split <;> rfl
@[simp] theorem State.forward_streams : ((s.forward bs).2).streams = s.streams := by unfold State.forward; split <;> rfl
@[simp] theorem State.forward_groups : ((s.forward bs).2).groups = s.groups := by unfold State.forward; split <;> rfl
@[simp] theorem State.forward_vcache : ((s.forward bs).2).vcache = s.vcache := by unfold State.forward; split <;> rfl
@[simp] theorem State.forward_pages : ((s.forward bs).2).pages = s.pages := by unfold State.forward; split <;> rfl
@[simp] theorem State.forward_swap : ((s.forward bs).2).swap = s.swap := by unfold State.forward; split <;> rfl
@[simp] theorem State.forward_batches : ((s.forward bs).2).batches = s.batches := by unfold State.forward; split <;> rfl
@[simp] theorem State.forward_fbatches : ((s.forward bs).2).fbatches = s.fbatches := by unfold State.forward; split <;> rfl
@[simp] theorem State.forward_nextId : ((s.forward bs).2).nextId = s.nextId := by unfold State.forward; split <;> rfl
@[simp] theorem State.forward_pitches : ((s.forward bs).2).pitches = s.pitches := by unfold State.forward; split <;> rfl
@[simp] theorem State.forward_ctxs : ((s.forward bs).2).ctxs = s.ctxs := by unfold State.forward; split <;> rfl
@[simp] theorem State.forward_models : ((s.forward bs).2).models = s.models := by unfold State.forward; split <;> rfl
@[simp] theorem State.forward_loads : ((s.forward bs).2).loads = s.loads := by unfold State.forward; split <;> rfl
@[simp] theorem State.forward_execs : ((s.forward bs).2).execs = s.execs := by unfold State.forward; split <;> rfl
@[simp] theorem State.forward_parts : ((s.forward bs).2).parts = s.parts := by unfold State.forward; split <;> rfl
@[simp] theorem State.forward_units : ((s.forward bs).2).units = s.units := by unfold State.forward; split <;> rfl
@[simp] theorem State.forward_tstl : ((s.forward bs).2).tstl = s.tstl := by unfold State.forward; split <;> rfl
@[simp] theorem State.forward_kiosks : ((s.forward bs).2).kiosks = s.kiosks := by unfold State.forward; split <;> rfl
@[simp] theorem State.forward_mem : ((s.forward bs).2).mem = s.mem := by unfold State.forward; split <;> rfl
@[simp] theorem State.forward_memx : ((s.forward bs).2).memx = s.memx := by unfold State.forward; split <;> rfl
@[simp] theorem State.forward_chans : ((s.forward bs).2).chans = s.chans := by unfold State.forward; split <;> rfl
@[simp] theorem State.forward_ports : ((s.forward bs).2).ports = s.ports := by unfold State.forward; split <;> rfl
@[simp] theorem State.forward_sessions : ((s.forward bs).2).sessions = s.sessions := by unfold State.forward; split <;> rfl
@[simp] theorem State.forward_nextSession : ((s.forward bs).2).nextSession = s.nextSession := by unfold State.forward; split <;> rfl
@[simp] theorem State.forward_eth : ((s.forward bs).2).eth = s.eth := by unfold State.forward; split <;> rfl
@[simp] theorem State.forward_ptp : ((s.forward bs).2).ptp = s.ptp := by unfold State.forward; split <;> rfl
@[simp] theorem State.forward_rtp : ((s.forward bs).2).rtp = s.rtp := by unfold State.forward; split <;> rfl
@[simp] theorem State.forward_routes : ((s.forward bs).2).routes = s.routes := by unfold State.forward; split <;> rfl
@[simp] theorem State.forward_xfers : ((s.forward bs).2).xfers = s.xfers := by unfold State.forward; split <;> rfl
@[simp] theorem State.forward_twin : ((s.forward bs).2).twin = s.twin := by unfold State.forward; split <;> rfl
@[simp] theorem State.forward_dev : ((s.forward bs).2).dev = s.dev := by unfold State.forward; split <;> rfl
@[simp] theorem State.forward_cfg : ((s.forward bs).2).cfg = s.cfg := by unfold State.forward; split <;> rfl
@[simp] theorem State.forward_flash : ((s.forward bs).2).flash = s.flash := by unfold State.forward; split <;> rfl
@[simp] theorem State.forward_sec : ((s.forward bs).2).sec = s.sec := by unfold State.forward; split <;> rfl
@[simp] theorem State.forward_pwr : ((s.forward bs).2).pwr = s.pwr := by unfold State.forward; split <;> rfl
@[simp] theorem State.forward_trec : ((s.forward bs).2).trec = s.trec := by unfold State.forward; split <;> rfl
@[simp] theorem State.forward_replay : ((s.forward bs).2).replay = s.replay := by unfold State.forward; split <;> rfl
@[simp] theorem State.forward_faultSec : ((s.forward bs).2).faultSec = s.faultSec := by unfold State.forward; split <;> rfl
@[simp] theorem State.forward_out : ((s.forward bs).2).out = s.out := by unfold State.forward; split <;> rfl
end

section
variable (s : State) (code arg0 : Nat)
@[simp] theorem State.deviceFault_pending : (s.deviceFault code arg0).pending = s.pending := by unfold State.deviceFault; split <;> (try split) <;> simp only [State.event_pending]
@[simp] theorem State.deviceFault_free : (s.deviceFault code arg0).free = s.free := by unfold State.deviceFault; split <;> (try split) <;> simp only [State.event_free]
@[simp] theorem State.deviceFault_cycle : (s.deviceFault code arg0).cycle = s.cycle := by unfold State.deviceFault; split <;> (try split) <;> simp only [State.event_cycle]
@[simp] theorem State.deviceFault_uptime : (s.deviceFault code arg0).uptime = s.uptime := by unfold State.deviceFault; split <;> (try split) <;> simp only [State.event_uptime]
@[simp] theorem State.deviceFault_phase : (s.deviceFault code arg0).phase = s.phase := by unfold State.deviceFault; split <;> (try split) <;> simp only [State.event_phase]
@[simp] theorem State.deviceFault_shadows : (s.deviceFault code arg0).shadows = s.shadows := by unfold State.deviceFault; split <;> (try split) <;> simp only [State.event_shadows]
@[simp] theorem State.deviceFault_td0 : (s.deviceFault code arg0).td0 = s.td0 := by unfold State.deviceFault; split <;> (try split) <;> simp only [State.event_td0]
@[simp] theorem State.deviceFault_td1 : (s.deviceFault code arg0).td1 = s.td1 := by unfold State.deviceFault; split <;> (try split) <;> simp only [State.event_td1]
@[simp] theorem State.deviceFault_streams : (s.deviceFault code arg0).streams = s.streams := by unfold State.deviceFault; split <;> (try split) <;> simp only [State.event_streams]
@[simp] theorem State.deviceFault_groups : (s.deviceFault code arg0).groups = s.groups := by unfold State.deviceFault; split <;> (try split) <;> simp only [State.event_groups]
@[simp] theorem State.deviceFault_vcache : (s.deviceFault code arg0).vcache = s.vcache := by unfold State.deviceFault; split <;> (try split) <;> simp only [State.event_vcache]
@[simp] theorem State.deviceFault_pages : (s.deviceFault code arg0).pages = s.pages := by unfold State.deviceFault; split <;> (try split) <;> simp only [State.event_pages]
@[simp] theorem State.deviceFault_swap : (s.deviceFault code arg0).swap = s.swap := by unfold State.deviceFault; split <;> (try split) <;> simp only [State.event_swap]
@[simp] theorem State.deviceFault_batches : (s.deviceFault code arg0).batches = s.batches := by unfold State.deviceFault; split <;> (try split) <;> simp only [State.event_batches]
@[simp] theorem State.deviceFault_fbatches : (s.deviceFault code arg0).fbatches = s.fbatches := by unfold State.deviceFault; split <;> (try split) <;> simp only [State.event_fbatches]
@[simp] theorem State.deviceFault_nextId : (s.deviceFault code arg0).nextId = s.nextId := by unfold State.deviceFault; split <;> (try split) <;> simp only [State.event_nextId]
@[simp] theorem State.deviceFault_pitches : (s.deviceFault code arg0).pitches = s.pitches := by unfold State.deviceFault; split <;> (try split) <;> simp only [State.event_pitches]
@[simp] theorem State.deviceFault_ctxs : (s.deviceFault code arg0).ctxs = s.ctxs := by unfold State.deviceFault; split <;> (try split) <;> simp only [State.event_ctxs]
@[simp] theorem State.deviceFault_models : (s.deviceFault code arg0).models = s.models := by unfold State.deviceFault; split <;> (try split) <;> simp only [State.event_models]
@[simp] theorem State.deviceFault_loads : (s.deviceFault code arg0).loads = s.loads := by unfold State.deviceFault; split <;> (try split) <;> simp only [State.event_loads]
@[simp] theorem State.deviceFault_execs : (s.deviceFault code arg0).execs = s.execs := by unfold State.deviceFault; split <;> (try split) <;> simp only [State.event_execs]
@[simp] theorem State.deviceFault_parts : (s.deviceFault code arg0).parts = s.parts := by unfold State.deviceFault; split <;> (try split) <;> simp only [State.event_parts]
@[simp] theorem State.deviceFault_units : (s.deviceFault code arg0).units = s.units := by unfold State.deviceFault; split <;> (try split) <;> simp only [State.event_units]
@[simp] theorem State.deviceFault_tstl : (s.deviceFault code arg0).tstl = s.tstl := by unfold State.deviceFault; split <;> (try split) <;> simp only [State.event_tstl]
@[simp] theorem State.deviceFault_kiosks : (s.deviceFault code arg0).kiosks = s.kiosks := by unfold State.deviceFault; split <;> (try split) <;> simp only [State.event_kiosks]
@[simp] theorem State.deviceFault_mem : (s.deviceFault code arg0).mem = s.mem := by unfold State.deviceFault; split <;> (try split) <;> simp only [State.event_mem]
@[simp] theorem State.deviceFault_memx : (s.deviceFault code arg0).memx = s.memx := by unfold State.deviceFault; split <;> (try split) <;> simp only [State.event_memx]
@[simp] theorem State.deviceFault_chans : (s.deviceFault code arg0).chans = s.chans := by unfold State.deviceFault; split <;> (try split) <;> simp only [State.event_chans]
@[simp] theorem State.deviceFault_ports : (s.deviceFault code arg0).ports = s.ports := by unfold State.deviceFault; split <;> (try split) <;> simp only [State.event_ports]
@[simp] theorem State.deviceFault_nextSession : (s.deviceFault code arg0).nextSession = s.nextSession := by unfold State.deviceFault; split <;> (try split) <;> simp only [State.event_nextSession]
@[simp] theorem State.deviceFault_eth : (s.deviceFault code arg0).eth = s.eth := by unfold State.deviceFault; split <;> (try split) <;> simp only [State.event_eth]
@[simp] theorem State.deviceFault_ptp : (s.deviceFault code arg0).ptp = s.ptp := by unfold State.deviceFault; split <;> (try split) <;> simp only [State.event_ptp]
@[simp] theorem State.deviceFault_rtp : (s.deviceFault code arg0).rtp = s.rtp := by unfold State.deviceFault; split <;> (try split) <;> simp only [State.event_rtp]
@[simp] theorem State.deviceFault_links : (s.deviceFault code arg0).links = s.links := by unfold State.deviceFault; split <;> (try split) <;> simp only [State.event_links]
@[simp] theorem State.deviceFault_routes : (s.deviceFault code arg0).routes = s.routes := by unfold State.deviceFault; split <;> (try split) <;> simp only [State.event_routes]
@[simp] theorem State.deviceFault_msgId : (s.deviceFault code arg0).msgId = s.msgId := by unfold State.deviceFault; split <;> (try split) <;> simp only [State.event_msgId]
@[simp] theorem State.deviceFault_xfers : (s.deviceFault code arg0).xfers = s.xfers := by unfold State.deviceFault; split <;> (try split) <;> simp only [State.event_xfers]
@[simp] theorem State.deviceFault_twin : (s.deviceFault code arg0).twin = s.twin := by unfold State.deviceFault; split <;> (try split) <;> simp only [State.event_twin]
@[simp] theorem State.deviceFault_dev : (s.deviceFault code arg0).dev = s.dev := by unfold State.deviceFault; split <;> (try split) <;> simp only [State.event_dev]
@[simp] theorem State.deviceFault_cfg : (s.deviceFault code arg0).cfg = s.cfg := by unfold State.deviceFault; split <;> (try split) <;> simp only [State.event_cfg]
@[simp] theorem State.deviceFault_flash : (s.deviceFault code arg0).flash = s.flash := by unfold State.deviceFault; split <;> (try split) <;> simp only [State.event_flash]
@[simp] theorem State.deviceFault_sec : (s.deviceFault code arg0).sec = s.sec := by unfold State.deviceFault; split <;> (try split) <;> simp only [State.event_sec]
@[simp] theorem State.deviceFault_pwr : (s.deviceFault code arg0).pwr = s.pwr := by unfold State.deviceFault; split <;> (try split) <;> simp only [State.event_pwr]
@[simp] theorem State.deviceFault_trec : (s.deviceFault code arg0).trec = s.trec := by unfold State.deviceFault; split <;> (try split) <;> simp only [State.event_trec]
@[simp] theorem State.deviceFault_replay : (s.deviceFault code arg0).replay = s.replay := by unfold State.deviceFault; split <;> (try split) <;> simp only [State.event_replay]
@[simp] theorem State.deviceFault_out : (s.deviceFault code arg0).out = s.out := by unfold State.deviceFault; split <;> (try split) <;> simp only [State.event_out]
end

/-- A fold of an operation that keeps something keeps it. -/
theorem State.each_keeps {α β : Type} (g : State → β) (f : State → α → State) (h : ∀ s x, g (f s x) = g s) (l : List α)
    (s : State) : g (s.each l f) = g s := by
  unfold State.each
  induction l generalizing s with
  | nil => rfl
  | cons x t ih => exact (ih (f s x)).trans (h s x)

section
variable (s : State) (addr code : Nat)
@[simp] theorem State.readFailed_pending : (s.readFailed addr code).pending = s.pending := by unfold State.readFailed; dsimp only; split <;> simp only [State.event_pending, State.flag_pending, State.setRg_pending, State.cnt_pending, State.inc_pending]
@[simp] theorem State.readFailed_free : (s.readFailed addr code).free = s.free := by unfold State.readFailed; dsimp only; split <;> simp only [State.event_free, State.flag_free, State.setRg_free, State.cnt_free, State.inc_free]
@[simp] theorem State.readFailed_cycle : (s.readFailed addr code).cycle = s.cycle := by unfold State.readFailed; dsimp only; split <;> simp only [State.event_cycle, State.flag_cycle, State.setRg_cycle, State.cnt_cycle, State.inc_cycle]
@[simp] theorem State.readFailed_uptime : (s.readFailed addr code).uptime = s.uptime := by unfold State.readFailed; dsimp only; split <;> simp only [State.event_uptime, State.flag_uptime, State.setRg_uptime, State.cnt_uptime, State.inc_uptime]
@[simp] theorem State.readFailed_phase : (s.readFailed addr code).phase = s.phase := by unfold State.readFailed; dsimp only; split <;> simp only [State.event_phase, State.flag_phase, State.setRg_phase, State.cnt_phase, State.inc_phase]
@[simp] theorem State.readFailed_shadows : (s.readFailed addr code).shadows = s.shadows := by unfold State.readFailed; dsimp only; split <;> simp only [State.event_shadows, State.flag_shadows, State.setRg_shadows, State.cnt_shadows, State.inc_shadows]
@[simp] theorem State.readFailed_td0 : (s.readFailed addr code).td0 = s.td0 := by unfold State.readFailed; dsimp only; split <;> simp only [State.event_td0, State.flag_td0, State.setRg_td0, State.cnt_td0, State.inc_td0]
@[simp] theorem State.readFailed_td1 : (s.readFailed addr code).td1 = s.td1 := by unfold State.readFailed; dsimp only; split <;> simp only [State.event_td1, State.flag_td1, State.setRg_td1, State.cnt_td1, State.inc_td1]
@[simp] theorem State.readFailed_streams : (s.readFailed addr code).streams = s.streams := by unfold State.readFailed; dsimp only; split <;> simp only [State.event_streams, State.flag_streams, State.setRg_streams, State.cnt_streams, State.inc_streams]
@[simp] theorem State.readFailed_groups : (s.readFailed addr code).groups = s.groups := by unfold State.readFailed; dsimp only; split <;> simp only [State.event_groups, State.flag_groups, State.setRg_groups, State.cnt_groups, State.inc_groups]
@[simp] theorem State.readFailed_vcache : (s.readFailed addr code).vcache = s.vcache := by unfold State.readFailed; dsimp only; split <;> simp only [State.event_vcache, State.flag_vcache, State.setRg_vcache, State.cnt_vcache, State.inc_vcache]
@[simp] theorem State.readFailed_pages : (s.readFailed addr code).pages = s.pages := by unfold State.readFailed; dsimp only; split <;> simp only [State.event_pages, State.flag_pages, State.setRg_pages, State.cnt_pages, State.inc_pages]
@[simp] theorem State.readFailed_swap : (s.readFailed addr code).swap = s.swap := by unfold State.readFailed; dsimp only; split <;> simp only [State.event_swap, State.flag_swap, State.setRg_swap, State.cnt_swap, State.inc_swap]
@[simp] theorem State.readFailed_batches : (s.readFailed addr code).batches = s.batches := by unfold State.readFailed; dsimp only; split <;> simp only [State.event_batches, State.flag_batches, State.setRg_batches, State.cnt_batches, State.inc_batches]
@[simp] theorem State.readFailed_fbatches : (s.readFailed addr code).fbatches = s.fbatches := by unfold State.readFailed; dsimp only; split <;> simp only [State.event_fbatches, State.flag_fbatches, State.setRg_fbatches, State.cnt_fbatches, State.inc_fbatches]
@[simp] theorem State.readFailed_nextId : (s.readFailed addr code).nextId = s.nextId := by unfold State.readFailed; dsimp only; split <;> simp only [State.event_nextId, State.flag_nextId, State.setRg_nextId, State.cnt_nextId, State.inc_nextId]
@[simp] theorem State.readFailed_pitches : (s.readFailed addr code).pitches = s.pitches := by unfold State.readFailed; dsimp only; split <;> simp only [State.event_pitches, State.flag_pitches, State.setRg_pitches, State.cnt_pitches, State.inc_pitches]
@[simp] theorem State.readFailed_ctxs : (s.readFailed addr code).ctxs = s.ctxs := by unfold State.readFailed; dsimp only; split <;> simp only [State.event_ctxs, State.flag_ctxs, State.setRg_ctxs, State.cnt_ctxs, State.inc_ctxs]
@[simp] theorem State.readFailed_models : (s.readFailed addr code).models = s.models := by unfold State.readFailed; dsimp only; split <;> simp only [State.event_models, State.flag_models, State.setRg_models, State.cnt_models, State.inc_models]
@[simp] theorem State.readFailed_loads : (s.readFailed addr code).loads = s.loads := by unfold State.readFailed; dsimp only; split <;> simp only [State.event_loads, State.flag_loads, State.setRg_loads, State.cnt_loads, State.inc_loads]
@[simp] theorem State.readFailed_execs : (s.readFailed addr code).execs = s.execs := by unfold State.readFailed; dsimp only; split <;> simp only [State.event_execs, State.flag_execs, State.setRg_execs, State.cnt_execs, State.inc_execs]
@[simp] theorem State.readFailed_parts : (s.readFailed addr code).parts = s.parts := by unfold State.readFailed; dsimp only; split <;> simp only [State.event_parts, State.flag_parts, State.setRg_parts, State.cnt_parts, State.inc_parts]
@[simp] theorem State.readFailed_units : (s.readFailed addr code).units = s.units := by unfold State.readFailed; dsimp only; split <;> simp only [State.event_units, State.flag_units, State.setRg_units, State.cnt_units, State.inc_units]
@[simp] theorem State.readFailed_tstl : (s.readFailed addr code).tstl = s.tstl := by unfold State.readFailed; dsimp only; split <;> simp only [State.event_tstl, State.flag_tstl, State.setRg_tstl, State.cnt_tstl, State.inc_tstl]
@[simp] theorem State.readFailed_kiosks : (s.readFailed addr code).kiosks = s.kiosks := by unfold State.readFailed; dsimp only; split <;> simp only [State.event_kiosks, State.flag_kiosks, State.setRg_kiosks, State.cnt_kiosks, State.inc_kiosks]
@[simp] theorem State.readFailed_chans : (s.readFailed addr code).chans = s.chans := by unfold State.readFailed; dsimp only; split <;> simp only [State.event_chans, State.flag_chans, State.setRg_chans, State.cnt_chans, State.inc_chans]
@[simp] theorem State.readFailed_ports : (s.readFailed addr code).ports = s.ports := by unfold State.readFailed; dsimp only; split <;> simp only [State.event_ports, State.flag_ports, State.setRg_ports, State.cnt_ports, State.inc_ports]
@[simp] theorem State.readFailed_nextSession : (s.readFailed addr code).nextSession = s.nextSession := by unfold State.readFailed; dsimp only; split <;> simp only [State.event_nextSession, State.flag_nextSession, State.setRg_nextSession, State.cnt_nextSession, State.inc_nextSession]
@[simp] theorem State.readFailed_eth : (s.readFailed addr code).eth = s.eth := by unfold State.readFailed; dsimp only; split <;> simp only [State.event_eth, State.flag_eth, State.setRg_eth, State.cnt_eth, State.inc_eth]
@[simp] theorem State.readFailed_ptp : (s.readFailed addr code).ptp = s.ptp := by unfold State.readFailed; dsimp only; split <;> simp only [State.event_ptp, State.flag_ptp, State.setRg_ptp, State.cnt_ptp, State.inc_ptp]
@[simp] theorem State.readFailed_rtp : (s.readFailed addr code).rtp = s.rtp := by unfold State.readFailed; dsimp only; split <;> simp only [State.event_rtp, State.flag_rtp, State.setRg_rtp, State.cnt_rtp, State.inc_rtp]
@[simp] theorem State.readFailed_links : (s.readFailed addr code).links = s.links := by unfold State.readFailed; dsimp only; split <;> simp only [State.event_links, State.flag_links, State.setRg_links, State.cnt_links, State.inc_links]
@[simp] theorem State.readFailed_routes : (s.readFailed addr code).routes = s.routes := by unfold State.readFailed; dsimp only; split <;> simp only [State.event_routes, State.flag_routes, State.setRg_routes, State.cnt_routes, State.inc_routes]
@[simp] theorem State.readFailed_msgId : (s.readFailed addr code).msgId = s.msgId := by unfold State.readFailed; dsimp only; split <;> simp only [State.event_msgId, State.flag_msgId, State.setRg_msgId, State.cnt_msgId, State.inc_msgId]
@[simp] theorem State.readFailed_xfers : (s.readFailed addr code).xfers = s.xfers := by unfold State.readFailed; dsimp only; split <;> simp only [State.event_xfers, State.flag_xfers, State.setRg_xfers, State.cnt_xfers, State.inc_xfers]
@[simp] theorem State.readFailed_twin : (s.readFailed addr code).twin = s.twin := by unfold State.readFailed; dsimp only; split <;> simp only [State.event_twin, State.flag_twin, State.setRg_twin, State.cnt_twin, State.inc_twin]
@[simp] theorem State.readFailed_dev : (s.readFailed addr code).dev = s.dev := by unfold State.readFailed; dsimp only; split <;> simp only [State.event_dev, State.flag_dev, State.setRg_dev, State.cnt_dev, State.inc_dev]
@[simp] theorem State.readFailed_cfg : (s.readFailed addr code).cfg = s.cfg := by unfold State.readFailed; dsimp only; split <;> simp only [State.event_cfg, State.flag_cfg, State.setRg_cfg, State.cnt_cfg, State.inc_cfg]
@[simp] theorem State.readFailed_flash : (s.readFailed addr code).flash = s.flash := by unfold State.readFailed; dsimp only; split <;> simp only [State.event_flash, State.flag_flash, State.setRg_flash, State.cnt_flash, State.inc_flash]
@[simp] theorem State.readFailed_sec : (s.readFailed addr code).sec = s.sec := by unfold State.readFailed; dsimp only; split <;> simp only [State.event_sec, State.flag_sec, State.setRg_sec, State.cnt_sec, State.inc_sec]
@[simp] theorem State.readFailed_pwr : (s.readFailed addr code).pwr = s.pwr := by unfold State.readFailed; dsimp only; split <;> simp only [State.event_pwr, State.flag_pwr, State.setRg_pwr, State.cnt_pwr, State.inc_pwr]
@[simp] theorem State.readFailed_replay : (s.readFailed addr code).replay = s.replay := by unfold State.readFailed; dsimp only; split <;> simp only [State.event_replay, State.flag_replay, State.setRg_replay, State.cnt_replay, State.inc_replay]
@[simp] theorem State.readFailed_out : (s.readFailed addr code).out = s.out := by unfold State.readFailed; dsimp only; split <;> simp only [State.event_out, State.flag_out, State.setRg_out, State.cnt_out, State.inc_out]
end

@[simp] theorem State.poke_pending (s : State) (a : Nat) (bs : List Byte) : (s.poke a bs).pending = s.pending := rfl
@[simp] theorem State.poke_free (s : State) (a : Nat) (bs : List Byte) : (s.poke a bs).free = s.free := rfl
@[simp] theorem State.poke_cycle (s : State) (a : Nat) (bs : List Byte) : (s.poke a bs).cycle = s.cycle := rfl
@[simp] theorem State.poke_uptime (s : State) (a : Nat) (bs : List Byte) : (s.poke a bs).uptime = s.uptime := rfl
@[simp] theorem State.poke_phase (s : State) (a : Nat) (bs : List Byte) : (s.poke a bs).phase = s.phase := rfl
@[simp] theorem State.poke_shadows (s : State) (a : Nat) (bs : List Byte) : (s.poke a bs).shadows = s.shadows := rfl
@[simp] theorem State.poke_td0 (s : State) (a : Nat) (bs : List Byte) : (s.poke a bs).td0 = s.td0 := rfl
@[simp] theorem State.poke_td1 (s : State) (a : Nat) (bs : List Byte) : (s.poke a bs).td1 = s.td1 := rfl
@[simp] theorem State.poke_streams (s : State) (a : Nat) (bs : List Byte) : (s.poke a bs).streams = s.streams := rfl
@[simp] theorem State.poke_groups (s : State) (a : Nat) (bs : List Byte) : (s.poke a bs).groups = s.groups := rfl
@[simp] theorem State.poke_vcache (s : State) (a : Nat) (bs : List Byte) : (s.poke a bs).vcache = s.vcache := rfl
@[simp] theorem State.poke_pages (s : State) (a : Nat) (bs : List Byte) : (s.poke a bs).pages = s.pages := rfl
@[simp] theorem State.poke_swap (s : State) (a : Nat) (bs : List Byte) : (s.poke a bs).swap = s.swap := rfl
@[simp] theorem State.poke_batches (s : State) (a : Nat) (bs : List Byte) : (s.poke a bs).batches = s.batches := rfl
@[simp] theorem State.poke_fbatches (s : State) (a : Nat) (bs : List Byte) : (s.poke a bs).fbatches = s.fbatches := rfl
@[simp] theorem State.poke_nextId (s : State) (a : Nat) (bs : List Byte) : (s.poke a bs).nextId = s.nextId := rfl
@[simp] theorem State.poke_pitches (s : State) (a : Nat) (bs : List Byte) : (s.poke a bs).pitches = s.pitches := rfl
@[simp] theorem State.poke_ctxs (s : State) (a : Nat) (bs : List Byte) : (s.poke a bs).ctxs = s.ctxs := rfl
@[simp] theorem State.poke_models (s : State) (a : Nat) (bs : List Byte) : (s.poke a bs).models = s.models := rfl
@[simp] theorem State.poke_loads (s : State) (a : Nat) (bs : List Byte) : (s.poke a bs).loads = s.loads := rfl
@[simp] theorem State.poke_execs (s : State) (a : Nat) (bs : List Byte) : (s.poke a bs).execs = s.execs := rfl
@[simp] theorem State.poke_parts (s : State) (a : Nat) (bs : List Byte) : (s.poke a bs).parts = s.parts := rfl
@[simp] theorem State.poke_units (s : State) (a : Nat) (bs : List Byte) : (s.poke a bs).units = s.units := rfl
@[simp] theorem State.poke_tstl (s : State) (a : Nat) (bs : List Byte) : (s.poke a bs).tstl = s.tstl := rfl
@[simp] theorem State.poke_kiosks (s : State) (a : Nat) (bs : List Byte) : (s.poke a bs).kiosks = s.kiosks := rfl
@[simp] theorem State.poke_chans (s : State) (a : Nat) (bs : List Byte) : (s.poke a bs).chans = s.chans := rfl
@[simp] theorem State.poke_ports (s : State) (a : Nat) (bs : List Byte) : (s.poke a bs).ports = s.ports := rfl
@[simp] theorem State.poke_nextSession (s : State) (a : Nat) (bs : List Byte) : (s.poke a bs).nextSession = s.nextSession := rfl
@[simp] theorem State.poke_eth (s : State) (a : Nat) (bs : List Byte) : (s.poke a bs).eth = s.eth := rfl
@[simp] theorem State.poke_ptp (s : State) (a : Nat) (bs : List Byte) : (s.poke a bs).ptp = s.ptp := rfl
@[simp] theorem State.poke_rtp (s : State) (a : Nat) (bs : List Byte) : (s.poke a bs).rtp = s.rtp := rfl
@[simp] theorem State.poke_links (s : State) (a : Nat) (bs : List Byte) : (s.poke a bs).links = s.links := rfl
@[simp] theorem State.poke_routes (s : State) (a : Nat) (bs : List Byte) : (s.poke a bs).routes = s.routes := rfl
@[simp] theorem State.poke_msgId (s : State) (a : Nat) (bs : List Byte) : (s.poke a bs).msgId = s.msgId := rfl
@[simp] theorem State.poke_xfers (s : State) (a : Nat) (bs : List Byte) : (s.poke a bs).xfers = s.xfers := rfl
@[simp] theorem State.poke_twin (s : State) (a : Nat) (bs : List Byte) : (s.poke a bs).twin = s.twin := rfl
@[simp] theorem State.poke_dev (s : State) (a : Nat) (bs : List Byte) : (s.poke a bs).dev = s.dev := rfl
@[simp] theorem State.poke_cfg (s : State) (a : Nat) (bs : List Byte) : (s.poke a bs).cfg = s.cfg := rfl
@[simp] theorem State.poke_flash (s : State) (a : Nat) (bs : List Byte) : (s.poke a bs).flash = s.flash := rfl
@[simp] theorem State.poke_sec (s : State) (a : Nat) (bs : List Byte) : (s.poke a bs).sec = s.sec := rfl
@[simp] theorem State.poke_pwr (s : State) (a : Nat) (bs : List Byte) : (s.poke a bs).pwr = s.pwr := rfl
@[simp] theorem State.poke_replay (s : State) (a : Nat) (bs : List Byte) : (s.poke a bs).replay = s.replay := rfl
@[simp] theorem State.poke_faultSec (s : State) (a : Nat) (bs : List Byte) : (s.poke a bs).faultSec = s.faultSec := rfl
@[simp] theorem State.poke_out (s : State) (a : Nat) (bs : List Byte) : (s.poke a bs).out = s.out := rfl
@[simp] theorem State.poke_regs (s : State) (a : Nat) (bs : List Byte) : (s.poke a bs).regs = s.regs := rfl

section
variable (s : State) (a : Nat) (bs : List Byte) (code : Nat)
@[simp] theorem State.storePart_pending : (s.storePart a bs code).pending = s.pending := by unfold State.storePart; split; exact rfl; exact State.each_keeps (·.pending) _ (fun t x => by split <;> simp only [State.readFailed_pending, State.poke_pending]) _ s
@[simp] theorem State.storePart_free : (s.storePart a bs code).free = s.free := by unfold State.storePart; split; exact rfl; exact State.each_keeps (·.free) _ (fun t x => by split <;> simp only [State.readFailed_free, State.poke_free]) _ s
@[simp] theorem State.storePart_cycle : (s.storePart a bs code).cycle = s.cycle := by unfold State.storePart; split; exact rfl; exact State.each_keeps (·.cycle) _ (fun t x => by split <;> simp only [State.readFailed_cycle, State.poke_cycle]) _ s
@[simp] theorem State.storePart_uptime : (s.storePart a bs code).uptime = s.uptime := by unfold State.storePart; split; exact rfl; exact State.each_keeps (·.uptime) _ (fun t x => by split <;> simp only [State.readFailed_uptime, State.poke_uptime]) _ s
@[simp] theorem State.storePart_phase : (s.storePart a bs code).phase = s.phase := by unfold State.storePart; split; exact rfl; exact State.each_keeps (·.phase) _ (fun t x => by split <;> simp only [State.readFailed_phase, State.poke_phase]) _ s
@[simp] theorem State.storePart_shadows : (s.storePart a bs code).shadows = s.shadows := by unfold State.storePart; split; exact rfl; exact State.each_keeps (·.shadows) _ (fun t x => by split <;> simp only [State.readFailed_shadows, State.poke_shadows]) _ s
@[simp] theorem State.storePart_td0 : (s.storePart a bs code).td0 = s.td0 := by unfold State.storePart; split; exact rfl; exact State.each_keeps (·.td0) _ (fun t x => by split <;> simp only [State.readFailed_td0, State.poke_td0]) _ s
@[simp] theorem State.storePart_td1 : (s.storePart a bs code).td1 = s.td1 := by unfold State.storePart; split; exact rfl; exact State.each_keeps (·.td1) _ (fun t x => by split <;> simp only [State.readFailed_td1, State.poke_td1]) _ s
@[simp] theorem State.storePart_streams : (s.storePart a bs code).streams = s.streams := by unfold State.storePart; split; exact rfl; exact State.each_keeps (·.streams) _ (fun t x => by split <;> simp only [State.readFailed_streams, State.poke_streams]) _ s
@[simp] theorem State.storePart_groups : (s.storePart a bs code).groups = s.groups := by unfold State.storePart; split; exact rfl; exact State.each_keeps (·.groups) _ (fun t x => by split <;> simp only [State.readFailed_groups, State.poke_groups]) _ s
@[simp] theorem State.storePart_vcache : (s.storePart a bs code).vcache = s.vcache := by unfold State.storePart; split; exact rfl; exact State.each_keeps (·.vcache) _ (fun t x => by split <;> simp only [State.readFailed_vcache, State.poke_vcache]) _ s
@[simp] theorem State.storePart_pages : (s.storePart a bs code).pages = s.pages := by unfold State.storePart; split; exact rfl; exact State.each_keeps (·.pages) _ (fun t x => by split <;> simp only [State.readFailed_pages, State.poke_pages]) _ s
@[simp] theorem State.storePart_swap : (s.storePart a bs code).swap = s.swap := by unfold State.storePart; split; exact rfl; exact State.each_keeps (·.swap) _ (fun t x => by split <;> simp only [State.readFailed_swap, State.poke_swap]) _ s
@[simp] theorem State.storePart_batches : (s.storePart a bs code).batches = s.batches := by unfold State.storePart; split; exact rfl; exact State.each_keeps (·.batches) _ (fun t x => by split <;> simp only [State.readFailed_batches, State.poke_batches]) _ s
@[simp] theorem State.storePart_fbatches : (s.storePart a bs code).fbatches = s.fbatches := by unfold State.storePart; split; exact rfl; exact State.each_keeps (·.fbatches) _ (fun t x => by split <;> simp only [State.readFailed_fbatches, State.poke_fbatches]) _ s
@[simp] theorem State.storePart_nextId : (s.storePart a bs code).nextId = s.nextId := by unfold State.storePart; split; exact rfl; exact State.each_keeps (·.nextId) _ (fun t x => by split <;> simp only [State.readFailed_nextId, State.poke_nextId]) _ s
@[simp] theorem State.storePart_pitches : (s.storePart a bs code).pitches = s.pitches := by unfold State.storePart; split; exact rfl; exact State.each_keeps (·.pitches) _ (fun t x => by split <;> simp only [State.readFailed_pitches, State.poke_pitches]) _ s
@[simp] theorem State.storePart_ctxs : (s.storePart a bs code).ctxs = s.ctxs := by unfold State.storePart; split; exact rfl; exact State.each_keeps (·.ctxs) _ (fun t x => by split <;> simp only [State.readFailed_ctxs, State.poke_ctxs]) _ s
@[simp] theorem State.storePart_models : (s.storePart a bs code).models = s.models := by unfold State.storePart; split; exact rfl; exact State.each_keeps (·.models) _ (fun t x => by split <;> simp only [State.readFailed_models, State.poke_models]) _ s
@[simp] theorem State.storePart_loads : (s.storePart a bs code).loads = s.loads := by unfold State.storePart; split; exact rfl; exact State.each_keeps (·.loads) _ (fun t x => by split <;> simp only [State.readFailed_loads, State.poke_loads]) _ s
@[simp] theorem State.storePart_execs : (s.storePart a bs code).execs = s.execs := by unfold State.storePart; split; exact rfl; exact State.each_keeps (·.execs) _ (fun t x => by split <;> simp only [State.readFailed_execs, State.poke_execs]) _ s
@[simp] theorem State.storePart_parts : (s.storePart a bs code).parts = s.parts := by unfold State.storePart; split; exact rfl; exact State.each_keeps (·.parts) _ (fun t x => by split <;> simp only [State.readFailed_parts, State.poke_parts]) _ s
@[simp] theorem State.storePart_units : (s.storePart a bs code).units = s.units := by unfold State.storePart; split; exact rfl; exact State.each_keeps (·.units) _ (fun t x => by split <;> simp only [State.readFailed_units, State.poke_units]) _ s
@[simp] theorem State.storePart_tstl : (s.storePart a bs code).tstl = s.tstl := by unfold State.storePart; split; exact rfl; exact State.each_keeps (·.tstl) _ (fun t x => by split <;> simp only [State.readFailed_tstl, State.poke_tstl]) _ s
@[simp] theorem State.storePart_kiosks : (s.storePart a bs code).kiosks = s.kiosks := by unfold State.storePart; split; exact rfl; exact State.each_keeps (·.kiosks) _ (fun t x => by split <;> simp only [State.readFailed_kiosks, State.poke_kiosks]) _ s
@[simp] theorem State.storePart_chans : (s.storePart a bs code).chans = s.chans := by unfold State.storePart; split; exact rfl; exact State.each_keeps (·.chans) _ (fun t x => by split <;> simp only [State.readFailed_chans, State.poke_chans]) _ s
@[simp] theorem State.storePart_ports : (s.storePart a bs code).ports = s.ports := by unfold State.storePart; split; exact rfl; exact State.each_keeps (·.ports) _ (fun t x => by split <;> simp only [State.readFailed_ports, State.poke_ports]) _ s
@[simp] theorem State.storePart_nextSession : (s.storePart a bs code).nextSession = s.nextSession := by unfold State.storePart; split; exact rfl; exact State.each_keeps (·.nextSession) _ (fun t x => by split <;> simp only [State.readFailed_nextSession, State.poke_nextSession]) _ s
@[simp] theorem State.storePart_eth : (s.storePart a bs code).eth = s.eth := by unfold State.storePart; split; exact rfl; exact State.each_keeps (·.eth) _ (fun t x => by split <;> simp only [State.readFailed_eth, State.poke_eth]) _ s
@[simp] theorem State.storePart_ptp : (s.storePart a bs code).ptp = s.ptp := by unfold State.storePart; split; exact rfl; exact State.each_keeps (·.ptp) _ (fun t x => by split <;> simp only [State.readFailed_ptp, State.poke_ptp]) _ s
@[simp] theorem State.storePart_rtp : (s.storePart a bs code).rtp = s.rtp := by unfold State.storePart; split; exact rfl; exact State.each_keeps (·.rtp) _ (fun t x => by split <;> simp only [State.readFailed_rtp, State.poke_rtp]) _ s
@[simp] theorem State.storePart_links : (s.storePart a bs code).links = s.links := by unfold State.storePart; split; exact rfl; exact State.each_keeps (·.links) _ (fun t x => by split <;> simp only [State.readFailed_links, State.poke_links]) _ s
@[simp] theorem State.storePart_routes : (s.storePart a bs code).routes = s.routes := by unfold State.storePart; split; exact rfl; exact State.each_keeps (·.routes) _ (fun t x => by split <;> simp only [State.readFailed_routes, State.poke_routes]) _ s
@[simp] theorem State.storePart_msgId : (s.storePart a bs code).msgId = s.msgId := by unfold State.storePart; split; exact rfl; exact State.each_keeps (·.msgId) _ (fun t x => by split <;> simp only [State.readFailed_msgId, State.poke_msgId]) _ s
@[simp] theorem State.storePart_xfers : (s.storePart a bs code).xfers = s.xfers := by unfold State.storePart; split; exact rfl; exact State.each_keeps (·.xfers) _ (fun t x => by split <;> simp only [State.readFailed_xfers, State.poke_xfers]) _ s
@[simp] theorem State.storePart_twin : (s.storePart a bs code).twin = s.twin := by unfold State.storePart; split; exact rfl; exact State.each_keeps (·.twin) _ (fun t x => by split <;> simp only [State.readFailed_twin, State.poke_twin]) _ s
@[simp] theorem State.storePart_dev : (s.storePart a bs code).dev = s.dev := by unfold State.storePart; split; exact rfl; exact State.each_keeps (·.dev) _ (fun t x => by split <;> simp only [State.readFailed_dev, State.poke_dev]) _ s
@[simp] theorem State.storePart_cfg : (s.storePart a bs code).cfg = s.cfg := by unfold State.storePart; split; exact rfl; exact State.each_keeps (·.cfg) _ (fun t x => by split <;> simp only [State.readFailed_cfg, State.poke_cfg]) _ s
@[simp] theorem State.storePart_flash : (s.storePart a bs code).flash = s.flash := by unfold State.storePart; split; exact rfl; exact State.each_keeps (·.flash) _ (fun t x => by split <;> simp only [State.readFailed_flash, State.poke_flash]) _ s
@[simp] theorem State.storePart_sec : (s.storePart a bs code).sec = s.sec := by unfold State.storePart; split; exact rfl; exact State.each_keeps (·.sec) _ (fun t x => by split <;> simp only [State.readFailed_sec, State.poke_sec]) _ s
@[simp] theorem State.storePart_pwr : (s.storePart a bs code).pwr = s.pwr := by unfold State.storePart; split; exact rfl; exact State.each_keeps (·.pwr) _ (fun t x => by split <;> simp only [State.readFailed_pwr, State.poke_pwr]) _ s
@[simp] theorem State.storePart_replay : (s.storePart a bs code).replay = s.replay := by unfold State.storePart; split; exact rfl; exact State.each_keeps (·.replay) _ (fun t x => by split <;> simp only [State.readFailed_replay, State.poke_replay]) _ s
@[simp] theorem State.storePart_out : (s.storePart a bs code).out = s.out := by unfold State.storePart; split; exact rfl; exact State.each_keeps (·.out) _ (fun t x => by split <;> simp only [State.readFailed_out, State.poke_out]) _ s
end

section
variable (s : State) (a : Nat) (bs : List Byte)
@[simp] theorem State.mgmtStore_pending : (s.mgmtStore a bs).pending = s.pending := by unfold State.mgmtStore; split; exact rfl; simp only [State.deviceFault_pending, State.storePart_pending]
@[simp] theorem State.mgmtStore_free : (s.mgmtStore a bs).free = s.free := by unfold State.mgmtStore; split; exact rfl; simp only [State.deviceFault_free, State.storePart_free]
@[simp] theorem State.mgmtStore_cycle : (s.mgmtStore a bs).cycle = s.cycle := by unfold State.mgmtStore; split; exact rfl; simp only [State.deviceFault_cycle, State.storePart_cycle]
@[simp] theorem State.mgmtStore_uptime : (s.mgmtStore a bs).uptime = s.uptime := by unfold State.mgmtStore; split; exact rfl; simp only [State.deviceFault_uptime, State.storePart_uptime]
@[simp] theorem State.mgmtStore_phase : (s.mgmtStore a bs).phase = s.phase := by unfold State.mgmtStore; split; exact rfl; simp only [State.deviceFault_phase, State.storePart_phase]
@[simp] theorem State.mgmtStore_shadows : (s.mgmtStore a bs).shadows = s.shadows := by unfold State.mgmtStore; split; exact rfl; simp only [State.deviceFault_shadows, State.storePart_shadows]
@[simp] theorem State.mgmtStore_td0 : (s.mgmtStore a bs).td0 = s.td0 := by unfold State.mgmtStore; split; exact rfl; simp only [State.deviceFault_td0, State.storePart_td0]
@[simp] theorem State.mgmtStore_td1 : (s.mgmtStore a bs).td1 = s.td1 := by unfold State.mgmtStore; split; exact rfl; simp only [State.deviceFault_td1, State.storePart_td1]
@[simp] theorem State.mgmtStore_streams : (s.mgmtStore a bs).streams = s.streams := by unfold State.mgmtStore; split; exact rfl; simp only [State.deviceFault_streams, State.storePart_streams]
@[simp] theorem State.mgmtStore_groups : (s.mgmtStore a bs).groups = s.groups := by unfold State.mgmtStore; split; exact rfl; simp only [State.deviceFault_groups, State.storePart_groups]
@[simp] theorem State.mgmtStore_vcache : (s.mgmtStore a bs).vcache = s.vcache := by unfold State.mgmtStore; split; exact rfl; simp only [State.deviceFault_vcache, State.storePart_vcache]
@[simp] theorem State.mgmtStore_pages : (s.mgmtStore a bs).pages = s.pages := by unfold State.mgmtStore; split; exact rfl; simp only [State.deviceFault_pages, State.storePart_pages]
@[simp] theorem State.mgmtStore_swap : (s.mgmtStore a bs).swap = s.swap := by unfold State.mgmtStore; split; exact rfl; simp only [State.deviceFault_swap, State.storePart_swap]
@[simp] theorem State.mgmtStore_batches : (s.mgmtStore a bs).batches = s.batches := by unfold State.mgmtStore; split; exact rfl; simp only [State.deviceFault_batches, State.storePart_batches]
@[simp] theorem State.mgmtStore_fbatches : (s.mgmtStore a bs).fbatches = s.fbatches := by unfold State.mgmtStore; split; exact rfl; simp only [State.deviceFault_fbatches, State.storePart_fbatches]
@[simp] theorem State.mgmtStore_nextId : (s.mgmtStore a bs).nextId = s.nextId := by unfold State.mgmtStore; split; exact rfl; simp only [State.deviceFault_nextId, State.storePart_nextId]
@[simp] theorem State.mgmtStore_pitches : (s.mgmtStore a bs).pitches = s.pitches := by unfold State.mgmtStore; split; exact rfl; simp only [State.deviceFault_pitches, State.storePart_pitches]
@[simp] theorem State.mgmtStore_ctxs : (s.mgmtStore a bs).ctxs = s.ctxs := by unfold State.mgmtStore; split; exact rfl; simp only [State.deviceFault_ctxs, State.storePart_ctxs]
@[simp] theorem State.mgmtStore_models : (s.mgmtStore a bs).models = s.models := by unfold State.mgmtStore; split; exact rfl; simp only [State.deviceFault_models, State.storePart_models]
@[simp] theorem State.mgmtStore_loads : (s.mgmtStore a bs).loads = s.loads := by unfold State.mgmtStore; split; exact rfl; simp only [State.deviceFault_loads, State.storePart_loads]
@[simp] theorem State.mgmtStore_execs : (s.mgmtStore a bs).execs = s.execs := by unfold State.mgmtStore; split; exact rfl; simp only [State.deviceFault_execs, State.storePart_execs]
@[simp] theorem State.mgmtStore_parts : (s.mgmtStore a bs).parts = s.parts := by unfold State.mgmtStore; split; exact rfl; simp only [State.deviceFault_parts, State.storePart_parts]
@[simp] theorem State.mgmtStore_units : (s.mgmtStore a bs).units = s.units := by unfold State.mgmtStore; split; exact rfl; simp only [State.deviceFault_units, State.storePart_units]
@[simp] theorem State.mgmtStore_tstl : (s.mgmtStore a bs).tstl = s.tstl := by unfold State.mgmtStore; split; exact rfl; simp only [State.deviceFault_tstl, State.storePart_tstl]
@[simp] theorem State.mgmtStore_kiosks : (s.mgmtStore a bs).kiosks = s.kiosks := by unfold State.mgmtStore; split; exact rfl; simp only [State.deviceFault_kiosks, State.storePart_kiosks]
@[simp] theorem State.mgmtStore_chans : (s.mgmtStore a bs).chans = s.chans := by unfold State.mgmtStore; split; exact rfl; simp only [State.deviceFault_chans, State.storePart_chans]
@[simp] theorem State.mgmtStore_ports : (s.mgmtStore a bs).ports = s.ports := by unfold State.mgmtStore; split; exact rfl; simp only [State.deviceFault_ports, State.storePart_ports]
@[simp] theorem State.mgmtStore_nextSession : (s.mgmtStore a bs).nextSession = s.nextSession := by unfold State.mgmtStore; split; exact rfl; simp only [State.deviceFault_nextSession, State.storePart_nextSession]
@[simp] theorem State.mgmtStore_eth : (s.mgmtStore a bs).eth = s.eth := by unfold State.mgmtStore; split; exact rfl; simp only [State.deviceFault_eth, State.storePart_eth]
@[simp] theorem State.mgmtStore_ptp : (s.mgmtStore a bs).ptp = s.ptp := by unfold State.mgmtStore; split; exact rfl; simp only [State.deviceFault_ptp, State.storePart_ptp]
@[simp] theorem State.mgmtStore_rtp : (s.mgmtStore a bs).rtp = s.rtp := by unfold State.mgmtStore; split; exact rfl; simp only [State.deviceFault_rtp, State.storePart_rtp]
@[simp] theorem State.mgmtStore_links : (s.mgmtStore a bs).links = s.links := by unfold State.mgmtStore; split; exact rfl; simp only [State.deviceFault_links, State.storePart_links]
@[simp] theorem State.mgmtStore_routes : (s.mgmtStore a bs).routes = s.routes := by unfold State.mgmtStore; split; exact rfl; simp only [State.deviceFault_routes, State.storePart_routes]
@[simp] theorem State.mgmtStore_msgId : (s.mgmtStore a bs).msgId = s.msgId := by unfold State.mgmtStore; split; exact rfl; simp only [State.deviceFault_msgId, State.storePart_msgId]
@[simp] theorem State.mgmtStore_xfers : (s.mgmtStore a bs).xfers = s.xfers := by unfold State.mgmtStore; split; exact rfl; simp only [State.deviceFault_xfers, State.storePart_xfers]
@[simp] theorem State.mgmtStore_twin : (s.mgmtStore a bs).twin = s.twin := by unfold State.mgmtStore; split; exact rfl; simp only [State.deviceFault_twin, State.storePart_twin]
@[simp] theorem State.mgmtStore_dev : (s.mgmtStore a bs).dev = s.dev := by unfold State.mgmtStore; split; exact rfl; simp only [State.deviceFault_dev, State.storePart_dev]
@[simp] theorem State.mgmtStore_cfg : (s.mgmtStore a bs).cfg = s.cfg := by unfold State.mgmtStore; split; exact rfl; simp only [State.deviceFault_cfg, State.storePart_cfg]
@[simp] theorem State.mgmtStore_flash : (s.mgmtStore a bs).flash = s.flash := by unfold State.mgmtStore; split; exact rfl; simp only [State.deviceFault_flash, State.storePart_flash]
@[simp] theorem State.mgmtStore_sec : (s.mgmtStore a bs).sec = s.sec := by unfold State.mgmtStore; split; exact rfl; simp only [State.deviceFault_sec, State.storePart_sec]
@[simp] theorem State.mgmtStore_pwr : (s.mgmtStore a bs).pwr = s.pwr := by unfold State.mgmtStore; split; exact rfl; simp only [State.deviceFault_pwr, State.storePart_pwr]
@[simp] theorem State.mgmtStore_replay : (s.mgmtStore a bs).replay = s.replay := by unfold State.mgmtStore; split; exact rfl; simp only [State.deviceFault_replay, State.storePart_replay]
@[simp] theorem State.mgmtStore_out : (s.mgmtStore a bs).out = s.out := by unfold State.mgmtStore; split; exact rfl; simp only [State.deviceFault_out, State.storePart_out]
end

section
variable (s : State) (a : Area) (bs : List Byte) (len : Nat)
@[simp] theorem State.trecPut_pending : (s.trecPut a bs len).pending = s.pending := by unfold State.trecPut; dsimp only; split <;> (try split) <;> simp only [State.mgmtStore_pending, State.event_pending, State.flag_pending]
@[simp] theorem State.trecPut_free : (s.trecPut a bs len).free = s.free := by unfold State.trecPut; dsimp only; split <;> (try split) <;> simp only [State.mgmtStore_free, State.event_free, State.flag_free]
@[simp] theorem State.trecPut_cycle : (s.trecPut a bs len).cycle = s.cycle := by unfold State.trecPut; dsimp only; split <;> (try split) <;> simp only [State.mgmtStore_cycle, State.event_cycle, State.flag_cycle]
@[simp] theorem State.trecPut_uptime : (s.trecPut a bs len).uptime = s.uptime := by unfold State.trecPut; dsimp only; split <;> (try split) <;> simp only [State.mgmtStore_uptime, State.event_uptime, State.flag_uptime]
@[simp] theorem State.trecPut_phase : (s.trecPut a bs len).phase = s.phase := by unfold State.trecPut; dsimp only; split <;> (try split) <;> simp only [State.mgmtStore_phase, State.event_phase, State.flag_phase]
@[simp] theorem State.trecPut_shadows : (s.trecPut a bs len).shadows = s.shadows := by unfold State.trecPut; dsimp only; split <;> (try split) <;> simp only [State.mgmtStore_shadows, State.event_shadows, State.flag_shadows]
@[simp] theorem State.trecPut_td0 : (s.trecPut a bs len).td0 = s.td0 := by unfold State.trecPut; dsimp only; split <;> (try split) <;> simp only [State.mgmtStore_td0, State.event_td0, State.flag_td0]
@[simp] theorem State.trecPut_td1 : (s.trecPut a bs len).td1 = s.td1 := by unfold State.trecPut; dsimp only; split <;> (try split) <;> simp only [State.mgmtStore_td1, State.event_td1, State.flag_td1]
@[simp] theorem State.trecPut_streams : (s.trecPut a bs len).streams = s.streams := by unfold State.trecPut; dsimp only; split <;> (try split) <;> simp only [State.mgmtStore_streams, State.event_streams, State.flag_streams]
@[simp] theorem State.trecPut_groups : (s.trecPut a bs len).groups = s.groups := by unfold State.trecPut; dsimp only; split <;> (try split) <;> simp only [State.mgmtStore_groups, State.event_groups, State.flag_groups]
@[simp] theorem State.trecPut_vcache : (s.trecPut a bs len).vcache = s.vcache := by unfold State.trecPut; dsimp only; split <;> (try split) <;> simp only [State.mgmtStore_vcache, State.event_vcache, State.flag_vcache]
@[simp] theorem State.trecPut_pages : (s.trecPut a bs len).pages = s.pages := by unfold State.trecPut; dsimp only; split <;> (try split) <;> simp only [State.mgmtStore_pages, State.event_pages, State.flag_pages]
@[simp] theorem State.trecPut_swap : (s.trecPut a bs len).swap = s.swap := by unfold State.trecPut; dsimp only; split <;> (try split) <;> simp only [State.mgmtStore_swap, State.event_swap, State.flag_swap]
@[simp] theorem State.trecPut_batches : (s.trecPut a bs len).batches = s.batches := by unfold State.trecPut; dsimp only; split <;> (try split) <;> simp only [State.mgmtStore_batches, State.event_batches, State.flag_batches]
@[simp] theorem State.trecPut_fbatches : (s.trecPut a bs len).fbatches = s.fbatches := by unfold State.trecPut; dsimp only; split <;> (try split) <;> simp only [State.mgmtStore_fbatches, State.event_fbatches, State.flag_fbatches]
@[simp] theorem State.trecPut_nextId : (s.trecPut a bs len).nextId = s.nextId := by unfold State.trecPut; dsimp only; split <;> (try split) <;> simp only [State.mgmtStore_nextId, State.event_nextId, State.flag_nextId]
@[simp] theorem State.trecPut_pitches : (s.trecPut a bs len).pitches = s.pitches := by unfold State.trecPut; dsimp only; split <;> (try split) <;> simp only [State.mgmtStore_pitches, State.event_pitches, State.flag_pitches]
@[simp] theorem State.trecPut_ctxs : (s.trecPut a bs len).ctxs = s.ctxs := by unfold State.trecPut; dsimp only; split <;> (try split) <;> simp only [State.mgmtStore_ctxs, State.event_ctxs, State.flag_ctxs]
@[simp] theorem State.trecPut_models : (s.trecPut a bs len).models = s.models := by unfold State.trecPut; dsimp only; split <;> (try split) <;> simp only [State.mgmtStore_models, State.event_models, State.flag_models]
@[simp] theorem State.trecPut_loads : (s.trecPut a bs len).loads = s.loads := by unfold State.trecPut; dsimp only; split <;> (try split) <;> simp only [State.mgmtStore_loads, State.event_loads, State.flag_loads]
@[simp] theorem State.trecPut_execs : (s.trecPut a bs len).execs = s.execs := by unfold State.trecPut; dsimp only; split <;> (try split) <;> simp only [State.mgmtStore_execs, State.event_execs, State.flag_execs]
@[simp] theorem State.trecPut_parts : (s.trecPut a bs len).parts = s.parts := by unfold State.trecPut; dsimp only; split <;> (try split) <;> simp only [State.mgmtStore_parts, State.event_parts, State.flag_parts]
@[simp] theorem State.trecPut_units : (s.trecPut a bs len).units = s.units := by unfold State.trecPut; dsimp only; split <;> (try split) <;> simp only [State.mgmtStore_units, State.event_units, State.flag_units]
@[simp] theorem State.trecPut_tstl : (s.trecPut a bs len).tstl = s.tstl := by unfold State.trecPut; dsimp only; split <;> (try split) <;> simp only [State.mgmtStore_tstl, State.event_tstl, State.flag_tstl]
@[simp] theorem State.trecPut_kiosks : (s.trecPut a bs len).kiosks = s.kiosks := by unfold State.trecPut; dsimp only; split <;> (try split) <;> simp only [State.mgmtStore_kiosks, State.event_kiosks, State.flag_kiosks]
@[simp] theorem State.trecPut_chans : (s.trecPut a bs len).chans = s.chans := by unfold State.trecPut; dsimp only; split <;> (try split) <;> simp only [State.mgmtStore_chans, State.event_chans, State.flag_chans]
@[simp] theorem State.trecPut_ports : (s.trecPut a bs len).ports = s.ports := by unfold State.trecPut; dsimp only; split <;> (try split) <;> simp only [State.mgmtStore_ports, State.event_ports, State.flag_ports]
@[simp] theorem State.trecPut_nextSession : (s.trecPut a bs len).nextSession = s.nextSession := by unfold State.trecPut; dsimp only; split <;> (try split) <;> simp only [State.mgmtStore_nextSession, State.event_nextSession, State.flag_nextSession]
@[simp] theorem State.trecPut_eth : (s.trecPut a bs len).eth = s.eth := by unfold State.trecPut; dsimp only; split <;> (try split) <;> simp only [State.mgmtStore_eth, State.event_eth, State.flag_eth]
@[simp] theorem State.trecPut_ptp : (s.trecPut a bs len).ptp = s.ptp := by unfold State.trecPut; dsimp only; split <;> (try split) <;> simp only [State.mgmtStore_ptp, State.event_ptp, State.flag_ptp]
@[simp] theorem State.trecPut_rtp : (s.trecPut a bs len).rtp = s.rtp := by unfold State.trecPut; dsimp only; split <;> (try split) <;> simp only [State.mgmtStore_rtp, State.event_rtp, State.flag_rtp]
@[simp] theorem State.trecPut_links : (s.trecPut a bs len).links = s.links := by unfold State.trecPut; dsimp only; split <;> (try split) <;> simp only [State.mgmtStore_links, State.event_links, State.flag_links]
@[simp] theorem State.trecPut_routes : (s.trecPut a bs len).routes = s.routes := by unfold State.trecPut; dsimp only; split <;> (try split) <;> simp only [State.mgmtStore_routes, State.event_routes, State.flag_routes]
@[simp] theorem State.trecPut_msgId : (s.trecPut a bs len).msgId = s.msgId := by unfold State.trecPut; dsimp only; split <;> (try split) <;> simp only [State.mgmtStore_msgId, State.event_msgId, State.flag_msgId]
@[simp] theorem State.trecPut_xfers : (s.trecPut a bs len).xfers = s.xfers := by unfold State.trecPut; dsimp only; split <;> (try split) <;> simp only [State.mgmtStore_xfers, State.event_xfers, State.flag_xfers]
@[simp] theorem State.trecPut_twin : (s.trecPut a bs len).twin = s.twin := by unfold State.trecPut; dsimp only; split <;> (try split) <;> simp only [State.mgmtStore_twin, State.event_twin, State.flag_twin]
@[simp] theorem State.trecPut_dev : (s.trecPut a bs len).dev = s.dev := by unfold State.trecPut; dsimp only; split <;> (try split) <;> simp only [State.mgmtStore_dev, State.event_dev, State.flag_dev]
@[simp] theorem State.trecPut_cfg : (s.trecPut a bs len).cfg = s.cfg := by unfold State.trecPut; dsimp only; split <;> (try split) <;> simp only [State.mgmtStore_cfg, State.event_cfg, State.flag_cfg]
@[simp] theorem State.trecPut_flash : (s.trecPut a bs len).flash = s.flash := by unfold State.trecPut; dsimp only; split <;> (try split) <;> simp only [State.mgmtStore_flash, State.event_flash, State.flag_flash]
@[simp] theorem State.trecPut_sec : (s.trecPut a bs len).sec = s.sec := by unfold State.trecPut; dsimp only; split <;> (try split) <;> simp only [State.mgmtStore_sec, State.event_sec, State.flag_sec]
@[simp] theorem State.trecPut_pwr : (s.trecPut a bs len).pwr = s.pwr := by unfold State.trecPut; dsimp only; split <;> (try split) <;> simp only [State.mgmtStore_pwr, State.event_pwr, State.flag_pwr]
@[simp] theorem State.trecPut_replay : (s.trecPut a bs len).replay = s.replay := by unfold State.trecPut; dsimp only; split <;> (try split) <;> simp only [State.mgmtStore_replay, State.event_replay, State.flag_replay]
@[simp] theorem State.trecPut_out : (s.trecPut a bs len).out = s.out := by unfold State.trecPut; dsimp only; split <;> (try split) <;> simp only [State.mgmtStore_out, State.event_out, State.flag_out]
end

section
variable (s : State) (seq : Nat)
@[simp] theorem State.diverge_pending : (s.diverge seq).pending = s.pending := by unfold State.diverge; dsimp only; split <;> simp only [State.deviceFault_pending, State.flag_pending, State.inc_pending]
@[simp] theorem State.diverge_free : (s.diverge seq).free = s.free := by unfold State.diverge; dsimp only; split <;> simp only [State.deviceFault_free, State.flag_free, State.inc_free]
@[simp] theorem State.diverge_cycle : (s.diverge seq).cycle = s.cycle := by unfold State.diverge; dsimp only; split <;> simp only [State.deviceFault_cycle, State.flag_cycle, State.inc_cycle]
@[simp] theorem State.diverge_uptime : (s.diverge seq).uptime = s.uptime := by unfold State.diverge; dsimp only; split <;> simp only [State.deviceFault_uptime, State.flag_uptime, State.inc_uptime]
@[simp] theorem State.diverge_phase : (s.diverge seq).phase = s.phase := by unfold State.diverge; dsimp only; split <;> simp only [State.deviceFault_phase, State.flag_phase, State.inc_phase]
@[simp] theorem State.diverge_shadows : (s.diverge seq).shadows = s.shadows := by unfold State.diverge; dsimp only; split <;> simp only [State.deviceFault_shadows, State.flag_shadows, State.inc_shadows]
@[simp] theorem State.diverge_td0 : (s.diverge seq).td0 = s.td0 := by unfold State.diverge; dsimp only; split <;> simp only [State.deviceFault_td0, State.flag_td0, State.inc_td0]
@[simp] theorem State.diverge_td1 : (s.diverge seq).td1 = s.td1 := by unfold State.diverge; dsimp only; split <;> simp only [State.deviceFault_td1, State.flag_td1, State.inc_td1]
@[simp] theorem State.diverge_streams : (s.diverge seq).streams = s.streams := by unfold State.diverge; dsimp only; split <;> simp only [State.deviceFault_streams, State.flag_streams, State.inc_streams]
@[simp] theorem State.diverge_groups : (s.diverge seq).groups = s.groups := by unfold State.diverge; dsimp only; split <;> simp only [State.deviceFault_groups, State.flag_groups, State.inc_groups]
@[simp] theorem State.diverge_vcache : (s.diverge seq).vcache = s.vcache := by unfold State.diverge; dsimp only; split <;> simp only [State.deviceFault_vcache, State.flag_vcache, State.inc_vcache]
@[simp] theorem State.diverge_pages : (s.diverge seq).pages = s.pages := by unfold State.diverge; dsimp only; split <;> simp only [State.deviceFault_pages, State.flag_pages, State.inc_pages]
@[simp] theorem State.diverge_swap : (s.diverge seq).swap = s.swap := by unfold State.diverge; dsimp only; split <;> simp only [State.deviceFault_swap, State.flag_swap, State.inc_swap]
@[simp] theorem State.diverge_batches : (s.diverge seq).batches = s.batches := by unfold State.diverge; dsimp only; split <;> simp only [State.deviceFault_batches, State.flag_batches, State.inc_batches]
@[simp] theorem State.diverge_fbatches : (s.diverge seq).fbatches = s.fbatches := by unfold State.diverge; dsimp only; split <;> simp only [State.deviceFault_fbatches, State.flag_fbatches, State.inc_fbatches]
@[simp] theorem State.diverge_nextId : (s.diverge seq).nextId = s.nextId := by unfold State.diverge; dsimp only; split <;> simp only [State.deviceFault_nextId, State.flag_nextId, State.inc_nextId]
@[simp] theorem State.diverge_pitches : (s.diverge seq).pitches = s.pitches := by unfold State.diverge; dsimp only; split <;> simp only [State.deviceFault_pitches, State.flag_pitches, State.inc_pitches]
@[simp] theorem State.diverge_ctxs : (s.diverge seq).ctxs = s.ctxs := by unfold State.diverge; dsimp only; split <;> simp only [State.deviceFault_ctxs, State.flag_ctxs, State.inc_ctxs]
@[simp] theorem State.diverge_models : (s.diverge seq).models = s.models := by unfold State.diverge; dsimp only; split <;> simp only [State.deviceFault_models, State.flag_models, State.inc_models]
@[simp] theorem State.diverge_loads : (s.diverge seq).loads = s.loads := by unfold State.diverge; dsimp only; split <;> simp only [State.deviceFault_loads, State.flag_loads, State.inc_loads]
@[simp] theorem State.diverge_execs : (s.diverge seq).execs = s.execs := by unfold State.diverge; dsimp only; split <;> simp only [State.deviceFault_execs, State.flag_execs, State.inc_execs]
@[simp] theorem State.diverge_parts : (s.diverge seq).parts = s.parts := by unfold State.diverge; dsimp only; split <;> simp only [State.deviceFault_parts, State.flag_parts, State.inc_parts]
@[simp] theorem State.diverge_units : (s.diverge seq).units = s.units := by unfold State.diverge; dsimp only; split <;> simp only [State.deviceFault_units, State.flag_units, State.inc_units]
@[simp] theorem State.diverge_tstl : (s.diverge seq).tstl = s.tstl := by unfold State.diverge; dsimp only; split <;> simp only [State.deviceFault_tstl, State.flag_tstl, State.inc_tstl]
@[simp] theorem State.diverge_kiosks : (s.diverge seq).kiosks = s.kiosks := by unfold State.diverge; dsimp only; split <;> simp only [State.deviceFault_kiosks, State.flag_kiosks, State.inc_kiosks]
@[simp] theorem State.diverge_mem : (s.diverge seq).mem = s.mem := by unfold State.diverge; dsimp only; split <;> simp only [State.deviceFault_mem, State.flag_mem, State.inc_mem]
@[simp] theorem State.diverge_memx : (s.diverge seq).memx = s.memx := by unfold State.diverge; dsimp only; split <;> simp only [State.deviceFault_memx, State.flag_memx, State.inc_memx]
@[simp] theorem State.diverge_chans : (s.diverge seq).chans = s.chans := by unfold State.diverge; dsimp only; split <;> simp only [State.deviceFault_chans, State.flag_chans, State.inc_chans]
@[simp] theorem State.diverge_ports : (s.diverge seq).ports = s.ports := by unfold State.diverge; dsimp only; split <;> simp only [State.deviceFault_ports, State.flag_ports, State.inc_ports]
@[simp] theorem State.diverge_nextSession : (s.diverge seq).nextSession = s.nextSession := by unfold State.diverge; dsimp only; split <;> simp only [State.deviceFault_nextSession, State.flag_nextSession, State.inc_nextSession]
@[simp] theorem State.diverge_eth : (s.diverge seq).eth = s.eth := by unfold State.diverge; dsimp only; split <;> simp only [State.deviceFault_eth, State.flag_eth, State.inc_eth]
@[simp] theorem State.diverge_ptp : (s.diverge seq).ptp = s.ptp := by unfold State.diverge; dsimp only; split <;> simp only [State.deviceFault_ptp, State.flag_ptp, State.inc_ptp]
@[simp] theorem State.diverge_rtp : (s.diverge seq).rtp = s.rtp := by unfold State.diverge; dsimp only; split <;> simp only [State.deviceFault_rtp, State.flag_rtp, State.inc_rtp]
@[simp] theorem State.diverge_links : (s.diverge seq).links = s.links := by unfold State.diverge; dsimp only; split <;> simp only [State.deviceFault_links, State.flag_links, State.inc_links]
@[simp] theorem State.diverge_routes : (s.diverge seq).routes = s.routes := by unfold State.diverge; dsimp only; split <;> simp only [State.deviceFault_routes, State.flag_routes, State.inc_routes]
@[simp] theorem State.diverge_msgId : (s.diverge seq).msgId = s.msgId := by unfold State.diverge; dsimp only; split <;> simp only [State.deviceFault_msgId, State.flag_msgId, State.inc_msgId]
@[simp] theorem State.diverge_xfers : (s.diverge seq).xfers = s.xfers := by unfold State.diverge; dsimp only; split <;> simp only [State.deviceFault_xfers, State.flag_xfers, State.inc_xfers]
@[simp] theorem State.diverge_twin : (s.diverge seq).twin = s.twin := by unfold State.diverge; dsimp only; split <;> simp only [State.deviceFault_twin, State.flag_twin, State.inc_twin]
@[simp] theorem State.diverge_dev : (s.diverge seq).dev = s.dev := by unfold State.diverge; dsimp only; split <;> simp only [State.deviceFault_dev, State.flag_dev, State.inc_dev]
@[simp] theorem State.diverge_cfg : (s.diverge seq).cfg = s.cfg := by unfold State.diverge; dsimp only; split <;> simp only [State.deviceFault_cfg, State.flag_cfg, State.inc_cfg]
@[simp] theorem State.diverge_flash : (s.diverge seq).flash = s.flash := by unfold State.diverge; dsimp only; split <;> simp only [State.deviceFault_flash, State.flag_flash, State.inc_flash]
@[simp] theorem State.diverge_sec : (s.diverge seq).sec = s.sec := by unfold State.diverge; dsimp only; split <;> simp only [State.deviceFault_sec, State.flag_sec, State.inc_sec]
@[simp] theorem State.diverge_pwr : (s.diverge seq).pwr = s.pwr := by unfold State.diverge; dsimp only; split <;> simp only [State.deviceFault_pwr, State.flag_pwr, State.inc_pwr]
@[simp] theorem State.diverge_trec : (s.diverge seq).trec = s.trec := by unfold State.diverge; dsimp only; split <;> simp only [State.deviceFault_trec, State.flag_trec, State.inc_trec]
@[simp] theorem State.diverge_out : (s.diverge seq).out = s.out := by unfold State.diverge; dsimp only; split <;> simp only [State.deviceFault_out, State.flag_out, State.inc_out]
end

section
variable (s : State) (kind subject dom : Nat) (body : List Byte)
@[simp] theorem State.ringRecord_pending : (s.ringRecord kind subject dom body).pending = s.pending := by unfold State.ringRecord; dsimp only [State.cond]; (repeat' split) <;> simp [State.deviceFault_pending, State.trecPut_pending, State.flag_pending, State.inc_pending]
@[simp] theorem State.ringRecord_free : (s.ringRecord kind subject dom body).free = s.free := by unfold State.ringRecord; dsimp only [State.cond]; (repeat' split) <;> simp [State.deviceFault_free, State.trecPut_free, State.flag_free, State.inc_free]
@[simp] theorem State.ringRecord_cycle : (s.ringRecord kind subject dom body).cycle = s.cycle := by unfold State.ringRecord; dsimp only [State.cond]; (repeat' split) <;> simp [State.deviceFault_cycle, State.trecPut_cycle, State.flag_cycle, State.inc_cycle]
@[simp] theorem State.ringRecord_uptime : (s.ringRecord kind subject dom body).uptime = s.uptime := by unfold State.ringRecord; dsimp only [State.cond]; (repeat' split) <;> simp [State.deviceFault_uptime, State.trecPut_uptime, State.flag_uptime, State.inc_uptime]
@[simp] theorem State.ringRecord_phase : (s.ringRecord kind subject dom body).phase = s.phase := by unfold State.ringRecord; dsimp only [State.cond]; (repeat' split) <;> simp [State.deviceFault_phase, State.trecPut_phase, State.flag_phase, State.inc_phase]
@[simp] theorem State.ringRecord_shadows : (s.ringRecord kind subject dom body).shadows = s.shadows := by unfold State.ringRecord; dsimp only [State.cond]; (repeat' split) <;> simp [State.deviceFault_shadows, State.trecPut_shadows, State.flag_shadows, State.inc_shadows]
@[simp] theorem State.ringRecord_td0 : (s.ringRecord kind subject dom body).td0 = s.td0 := by unfold State.ringRecord; dsimp only [State.cond]; (repeat' split) <;> simp [State.deviceFault_td0, State.trecPut_td0, State.flag_td0, State.inc_td0]
@[simp] theorem State.ringRecord_td1 : (s.ringRecord kind subject dom body).td1 = s.td1 := by unfold State.ringRecord; dsimp only [State.cond]; (repeat' split) <;> simp [State.deviceFault_td1, State.trecPut_td1, State.flag_td1, State.inc_td1]
@[simp] theorem State.ringRecord_streams : (s.ringRecord kind subject dom body).streams = s.streams := by unfold State.ringRecord; dsimp only [State.cond]; (repeat' split) <;> simp [State.deviceFault_streams, State.trecPut_streams, State.flag_streams, State.inc_streams]
@[simp] theorem State.ringRecord_groups : (s.ringRecord kind subject dom body).groups = s.groups := by unfold State.ringRecord; dsimp only [State.cond]; (repeat' split) <;> simp [State.deviceFault_groups, State.trecPut_groups, State.flag_groups, State.inc_groups]
@[simp] theorem State.ringRecord_vcache : (s.ringRecord kind subject dom body).vcache = s.vcache := by unfold State.ringRecord; dsimp only [State.cond]; (repeat' split) <;> simp [State.deviceFault_vcache, State.trecPut_vcache, State.flag_vcache, State.inc_vcache]
@[simp] theorem State.ringRecord_pages : (s.ringRecord kind subject dom body).pages = s.pages := by unfold State.ringRecord; dsimp only [State.cond]; (repeat' split) <;> simp [State.deviceFault_pages, State.trecPut_pages, State.flag_pages, State.inc_pages]
@[simp] theorem State.ringRecord_swap : (s.ringRecord kind subject dom body).swap = s.swap := by unfold State.ringRecord; dsimp only [State.cond]; (repeat' split) <;> simp [State.deviceFault_swap, State.trecPut_swap, State.flag_swap, State.inc_swap]
@[simp] theorem State.ringRecord_batches : (s.ringRecord kind subject dom body).batches = s.batches := by unfold State.ringRecord; dsimp only [State.cond]; (repeat' split) <;> simp [State.deviceFault_batches, State.trecPut_batches, State.flag_batches, State.inc_batches]
@[simp] theorem State.ringRecord_fbatches : (s.ringRecord kind subject dom body).fbatches = s.fbatches := by unfold State.ringRecord; dsimp only [State.cond]; (repeat' split) <;> simp [State.deviceFault_fbatches, State.trecPut_fbatches, State.flag_fbatches, State.inc_fbatches]
@[simp] theorem State.ringRecord_nextId : (s.ringRecord kind subject dom body).nextId = s.nextId := by unfold State.ringRecord; dsimp only [State.cond]; (repeat' split) <;> simp [State.deviceFault_nextId, State.trecPut_nextId, State.flag_nextId, State.inc_nextId]
@[simp] theorem State.ringRecord_pitches : (s.ringRecord kind subject dom body).pitches = s.pitches := by unfold State.ringRecord; dsimp only [State.cond]; (repeat' split) <;> simp [State.deviceFault_pitches, State.trecPut_pitches, State.flag_pitches, State.inc_pitches]
@[simp] theorem State.ringRecord_ctxs : (s.ringRecord kind subject dom body).ctxs = s.ctxs := by unfold State.ringRecord; dsimp only [State.cond]; (repeat' split) <;> simp [State.deviceFault_ctxs, State.trecPut_ctxs, State.flag_ctxs, State.inc_ctxs]
@[simp] theorem State.ringRecord_models : (s.ringRecord kind subject dom body).models = s.models := by unfold State.ringRecord; dsimp only [State.cond]; (repeat' split) <;> simp [State.deviceFault_models, State.trecPut_models, State.flag_models, State.inc_models]
@[simp] theorem State.ringRecord_loads : (s.ringRecord kind subject dom body).loads = s.loads := by unfold State.ringRecord; dsimp only [State.cond]; (repeat' split) <;> simp [State.deviceFault_loads, State.trecPut_loads, State.flag_loads, State.inc_loads]
@[simp] theorem State.ringRecord_execs : (s.ringRecord kind subject dom body).execs = s.execs := by unfold State.ringRecord; dsimp only [State.cond]; (repeat' split) <;> simp [State.deviceFault_execs, State.trecPut_execs, State.flag_execs, State.inc_execs]
@[simp] theorem State.ringRecord_parts : (s.ringRecord kind subject dom body).parts = s.parts := by unfold State.ringRecord; dsimp only [State.cond]; (repeat' split) <;> simp [State.deviceFault_parts, State.trecPut_parts, State.flag_parts, State.inc_parts]
@[simp] theorem State.ringRecord_units : (s.ringRecord kind subject dom body).units = s.units := by unfold State.ringRecord; dsimp only [State.cond]; (repeat' split) <;> simp [State.deviceFault_units, State.trecPut_units, State.flag_units, State.inc_units]
@[simp] theorem State.ringRecord_tstl : (s.ringRecord kind subject dom body).tstl = s.tstl := by unfold State.ringRecord; dsimp only [State.cond]; (repeat' split) <;> simp [State.deviceFault_tstl, State.trecPut_tstl, State.flag_tstl, State.inc_tstl]
@[simp] theorem State.ringRecord_kiosks : (s.ringRecord kind subject dom body).kiosks = s.kiosks := by unfold State.ringRecord; dsimp only [State.cond]; (repeat' split) <;> simp [State.deviceFault_kiosks, State.trecPut_kiosks, State.flag_kiosks, State.inc_kiosks]
@[simp] theorem State.ringRecord_chans : (s.ringRecord kind subject dom body).chans = s.chans := by unfold State.ringRecord; dsimp only [State.cond]; (repeat' split) <;> simp [State.deviceFault_chans, State.trecPut_chans, State.flag_chans, State.inc_chans]
@[simp] theorem State.ringRecord_ports : (s.ringRecord kind subject dom body).ports = s.ports := by unfold State.ringRecord; dsimp only [State.cond]; (repeat' split) <;> simp [State.deviceFault_ports, State.trecPut_ports, State.flag_ports, State.inc_ports]
@[simp] theorem State.ringRecord_nextSession : (s.ringRecord kind subject dom body).nextSession = s.nextSession := by unfold State.ringRecord; dsimp only [State.cond]; (repeat' split) <;> simp [State.deviceFault_nextSession, State.trecPut_nextSession, State.flag_nextSession, State.inc_nextSession]
@[simp] theorem State.ringRecord_eth : (s.ringRecord kind subject dom body).eth = s.eth := by unfold State.ringRecord; dsimp only [State.cond]; (repeat' split) <;> simp [State.deviceFault_eth, State.trecPut_eth, State.flag_eth, State.inc_eth]
@[simp] theorem State.ringRecord_ptp : (s.ringRecord kind subject dom body).ptp = s.ptp := by unfold State.ringRecord; dsimp only [State.cond]; (repeat' split) <;> simp [State.deviceFault_ptp, State.trecPut_ptp, State.flag_ptp, State.inc_ptp]
@[simp] theorem State.ringRecord_rtp : (s.ringRecord kind subject dom body).rtp = s.rtp := by unfold State.ringRecord; dsimp only [State.cond]; (repeat' split) <;> simp [State.deviceFault_rtp, State.trecPut_rtp, State.flag_rtp, State.inc_rtp]
@[simp] theorem State.ringRecord_links : (s.ringRecord kind subject dom body).links = s.links := by unfold State.ringRecord; dsimp only [State.cond]; (repeat' split) <;> simp [State.deviceFault_links, State.trecPut_links, State.flag_links, State.inc_links]
@[simp] theorem State.ringRecord_routes : (s.ringRecord kind subject dom body).routes = s.routes := by unfold State.ringRecord; dsimp only [State.cond]; (repeat' split) <;> simp [State.deviceFault_routes, State.trecPut_routes, State.flag_routes, State.inc_routes]
@[simp] theorem State.ringRecord_msgId : (s.ringRecord kind subject dom body).msgId = s.msgId := by unfold State.ringRecord; dsimp only [State.cond]; (repeat' split) <;> simp [State.deviceFault_msgId, State.trecPut_msgId, State.flag_msgId, State.inc_msgId]
@[simp] theorem State.ringRecord_xfers : (s.ringRecord kind subject dom body).xfers = s.xfers := by unfold State.ringRecord; dsimp only [State.cond]; (repeat' split) <;> simp [State.deviceFault_xfers, State.trecPut_xfers, State.flag_xfers, State.inc_xfers]
@[simp] theorem State.ringRecord_twin : (s.ringRecord kind subject dom body).twin = s.twin := by unfold State.ringRecord; dsimp only [State.cond]; (repeat' split) <;> simp [State.deviceFault_twin, State.trecPut_twin, State.flag_twin, State.inc_twin]
@[simp] theorem State.ringRecord_dev : (s.ringRecord kind subject dom body).dev = s.dev := by unfold State.ringRecord; dsimp only [State.cond]; (repeat' split) <;> simp [State.deviceFault_dev, State.trecPut_dev, State.flag_dev, State.inc_dev]
@[simp] theorem State.ringRecord_cfg : (s.ringRecord kind subject dom body).cfg = s.cfg := by unfold State.ringRecord; dsimp only [State.cond]; (repeat' split) <;> simp [State.deviceFault_cfg, State.trecPut_cfg, State.flag_cfg, State.inc_cfg]
@[simp] theorem State.ringRecord_flash : (s.ringRecord kind subject dom body).flash = s.flash := by unfold State.ringRecord; dsimp only [State.cond]; (repeat' split) <;> simp [State.deviceFault_flash, State.trecPut_flash, State.flag_flash, State.inc_flash]
@[simp] theorem State.ringRecord_sec : (s.ringRecord kind subject dom body).sec = s.sec := by unfold State.ringRecord; dsimp only [State.cond]; (repeat' split) <;> simp [State.deviceFault_sec, State.trecPut_sec, State.flag_sec, State.inc_sec]
@[simp] theorem State.ringRecord_pwr : (s.ringRecord kind subject dom body).pwr = s.pwr := by unfold State.ringRecord; dsimp only [State.cond]; (repeat' split) <;> simp [State.deviceFault_pwr, State.trecPut_pwr, State.flag_pwr, State.inc_pwr]
@[simp] theorem State.ringRecord_replay : (s.ringRecord kind subject dom body).replay = s.replay := by unfold State.ringRecord; dsimp only [State.cond]; (repeat' split) <;> simp [State.deviceFault_replay, State.trecPut_replay, State.flag_replay, State.inc_replay]
@[simp] theorem State.ringRecord_out : (s.ringRecord kind subject dom body).out = s.out := by unfold State.ringRecord; dsimp only [State.cond]; (repeat' split) <;> simp [State.deviceFault_out, State.trecPut_out, State.flag_out, State.inc_out]
end

section
variable (s : State) (kind subject dom : Nat) (body : List Byte)
@[simp] theorem State.record_pending : (s.record kind subject dom body).pending = s.pending := by unfold State.record; dsimp only; (repeat' split) <;> simp only [State.ringRecord_pending, State.diverge_pending, State.forward_pending]
@[simp] theorem State.record_free : (s.record kind subject dom body).free = s.free := by unfold State.record; dsimp only; (repeat' split) <;> simp only [State.ringRecord_free, State.diverge_free, State.forward_free]
@[simp] theorem State.record_cycle : (s.record kind subject dom body).cycle = s.cycle := by unfold State.record; dsimp only; (repeat' split) <;> simp only [State.ringRecord_cycle, State.diverge_cycle, State.forward_cycle]
@[simp] theorem State.record_uptime : (s.record kind subject dom body).uptime = s.uptime := by unfold State.record; dsimp only; (repeat' split) <;> simp only [State.ringRecord_uptime, State.diverge_uptime, State.forward_uptime]
@[simp] theorem State.record_phase : (s.record kind subject dom body).phase = s.phase := by unfold State.record; dsimp only; (repeat' split) <;> simp only [State.ringRecord_phase, State.diverge_phase, State.forward_phase]
@[simp] theorem State.record_shadows : (s.record kind subject dom body).shadows = s.shadows := by unfold State.record; dsimp only; (repeat' split) <;> simp only [State.ringRecord_shadows, State.diverge_shadows, State.forward_shadows]
@[simp] theorem State.record_td0 : (s.record kind subject dom body).td0 = s.td0 := by unfold State.record; dsimp only; (repeat' split) <;> simp only [State.ringRecord_td0, State.diverge_td0, State.forward_td0]
@[simp] theorem State.record_td1 : (s.record kind subject dom body).td1 = s.td1 := by unfold State.record; dsimp only; (repeat' split) <;> simp only [State.ringRecord_td1, State.diverge_td1, State.forward_td1]
@[simp] theorem State.record_streams : (s.record kind subject dom body).streams = s.streams := by unfold State.record; dsimp only; (repeat' split) <;> simp only [State.ringRecord_streams, State.diverge_streams, State.forward_streams]
@[simp] theorem State.record_groups : (s.record kind subject dom body).groups = s.groups := by unfold State.record; dsimp only; (repeat' split) <;> simp only [State.ringRecord_groups, State.diverge_groups, State.forward_groups]
@[simp] theorem State.record_vcache : (s.record kind subject dom body).vcache = s.vcache := by unfold State.record; dsimp only; (repeat' split) <;> simp only [State.ringRecord_vcache, State.diverge_vcache, State.forward_vcache]
@[simp] theorem State.record_pages : (s.record kind subject dom body).pages = s.pages := by unfold State.record; dsimp only; (repeat' split) <;> simp only [State.ringRecord_pages, State.diverge_pages, State.forward_pages]
@[simp] theorem State.record_swap : (s.record kind subject dom body).swap = s.swap := by unfold State.record; dsimp only; (repeat' split) <;> simp only [State.ringRecord_swap, State.diverge_swap, State.forward_swap]
@[simp] theorem State.record_batches : (s.record kind subject dom body).batches = s.batches := by unfold State.record; dsimp only; (repeat' split) <;> simp only [State.ringRecord_batches, State.diverge_batches, State.forward_batches]
@[simp] theorem State.record_fbatches : (s.record kind subject dom body).fbatches = s.fbatches := by unfold State.record; dsimp only; (repeat' split) <;> simp only [State.ringRecord_fbatches, State.diverge_fbatches, State.forward_fbatches]
@[simp] theorem State.record_nextId : (s.record kind subject dom body).nextId = s.nextId := by unfold State.record; dsimp only; (repeat' split) <;> simp only [State.ringRecord_nextId, State.diverge_nextId, State.forward_nextId]
@[simp] theorem State.record_pitches : (s.record kind subject dom body).pitches = s.pitches := by unfold State.record; dsimp only; (repeat' split) <;> simp only [State.ringRecord_pitches, State.diverge_pitches, State.forward_pitches]
@[simp] theorem State.record_ctxs : (s.record kind subject dom body).ctxs = s.ctxs := by unfold State.record; dsimp only; (repeat' split) <;> simp only [State.ringRecord_ctxs, State.diverge_ctxs, State.forward_ctxs]
@[simp] theorem State.record_models : (s.record kind subject dom body).models = s.models := by unfold State.record; dsimp only; (repeat' split) <;> simp only [State.ringRecord_models, State.diverge_models, State.forward_models]
@[simp] theorem State.record_loads : (s.record kind subject dom body).loads = s.loads := by unfold State.record; dsimp only; (repeat' split) <;> simp only [State.ringRecord_loads, State.diverge_loads, State.forward_loads]
@[simp] theorem State.record_execs : (s.record kind subject dom body).execs = s.execs := by unfold State.record; dsimp only; (repeat' split) <;> simp only [State.ringRecord_execs, State.diverge_execs, State.forward_execs]
@[simp] theorem State.record_parts : (s.record kind subject dom body).parts = s.parts := by unfold State.record; dsimp only; (repeat' split) <;> simp only [State.ringRecord_parts, State.diverge_parts, State.forward_parts]
@[simp] theorem State.record_units : (s.record kind subject dom body).units = s.units := by unfold State.record; dsimp only; (repeat' split) <;> simp only [State.ringRecord_units, State.diverge_units, State.forward_units]
@[simp] theorem State.record_tstl : (s.record kind subject dom body).tstl = s.tstl := by unfold State.record; dsimp only; (repeat' split) <;> simp only [State.ringRecord_tstl, State.diverge_tstl, State.forward_tstl]
@[simp] theorem State.record_kiosks : (s.record kind subject dom body).kiosks = s.kiosks := by unfold State.record; dsimp only; (repeat' split) <;> simp only [State.ringRecord_kiosks, State.diverge_kiosks, State.forward_kiosks]
@[simp] theorem State.record_chans : (s.record kind subject dom body).chans = s.chans := by unfold State.record; dsimp only; (repeat' split) <;> simp only [State.ringRecord_chans, State.diverge_chans, State.forward_chans]
@[simp] theorem State.record_ports : (s.record kind subject dom body).ports = s.ports := by unfold State.record; dsimp only; (repeat' split) <;> simp only [State.ringRecord_ports, State.diverge_ports, State.forward_ports]
@[simp] theorem State.record_nextSession : (s.record kind subject dom body).nextSession = s.nextSession := by unfold State.record; dsimp only; (repeat' split) <;> simp only [State.ringRecord_nextSession, State.diverge_nextSession, State.forward_nextSession]
@[simp] theorem State.record_eth : (s.record kind subject dom body).eth = s.eth := by unfold State.record; dsimp only; (repeat' split) <;> simp only [State.ringRecord_eth, State.diverge_eth, State.forward_eth]
@[simp] theorem State.record_ptp : (s.record kind subject dom body).ptp = s.ptp := by unfold State.record; dsimp only; (repeat' split) <;> simp only [State.ringRecord_ptp, State.diverge_ptp, State.forward_ptp]
@[simp] theorem State.record_rtp : (s.record kind subject dom body).rtp = s.rtp := by unfold State.record; dsimp only; (repeat' split) <;> simp only [State.ringRecord_rtp, State.diverge_rtp, State.forward_rtp]
@[simp] theorem State.record_routes : (s.record kind subject dom body).routes = s.routes := by unfold State.record; dsimp only; (repeat' split) <;> simp only [State.ringRecord_routes, State.diverge_routes, State.forward_routes]
@[simp] theorem State.record_xfers : (s.record kind subject dom body).xfers = s.xfers := by unfold State.record; dsimp only; (repeat' split) <;> simp only [State.ringRecord_xfers, State.diverge_xfers, State.forward_xfers]
@[simp] theorem State.record_twin : (s.record kind subject dom body).twin = s.twin := by unfold State.record; dsimp only; (repeat' split) <;> simp only [State.ringRecord_twin, State.diverge_twin, State.forward_twin]
@[simp] theorem State.record_dev : (s.record kind subject dom body).dev = s.dev := by unfold State.record; dsimp only; (repeat' split) <;> simp only [State.ringRecord_dev, State.diverge_dev, State.forward_dev]
@[simp] theorem State.record_cfg : (s.record kind subject dom body).cfg = s.cfg := by unfold State.record; dsimp only; (repeat' split) <;> simp only [State.ringRecord_cfg, State.diverge_cfg, State.forward_cfg]
@[simp] theorem State.record_flash : (s.record kind subject dom body).flash = s.flash := by unfold State.record; dsimp only; (repeat' split) <;> simp only [State.ringRecord_flash, State.diverge_flash, State.forward_flash]
@[simp] theorem State.record_sec : (s.record kind subject dom body).sec = s.sec := by unfold State.record; dsimp only; (repeat' split) <;> simp only [State.ringRecord_sec, State.diverge_sec, State.forward_sec]
@[simp] theorem State.record_pwr : (s.record kind subject dom body).pwr = s.pwr := by unfold State.record; dsimp only; (repeat' split) <;> simp only [State.ringRecord_pwr, State.diverge_pwr, State.forward_pwr]
@[simp] theorem State.record_out : (s.record kind subject dom body).out = s.out := by unfold State.record; dsimp only; (repeat' split) <;> simp only [State.ringRecord_out, State.diverge_out, State.forward_out]
end

section
variable (s : State) 
@[simp] theorem State.fitClock_pending : (s.fitClock).pending = s.pending := by unfold State.fitClock; dsimp only [State.cond]; split <;> simp [State.flag_pending, State.cnt_pending]
@[simp] theorem State.fitClock_free : (s.fitClock).free = s.free := by unfold State.fitClock; dsimp only [State.cond]; split <;> simp [State.flag_free, State.cnt_free]
@[simp] theorem State.fitClock_cycle : (s.fitClock).cycle = s.cycle := by unfold State.fitClock; dsimp only [State.cond]; split <;> simp [State.flag_cycle, State.cnt_cycle]
@[simp] theorem State.fitClock_uptime : (s.fitClock).uptime = s.uptime := by unfold State.fitClock; dsimp only [State.cond]; split <;> simp [State.flag_uptime, State.cnt_uptime]
@[simp] theorem State.fitClock_phase : (s.fitClock).phase = s.phase := by unfold State.fitClock; dsimp only [State.cond]; split <;> simp [State.flag_phase, State.cnt_phase]
@[simp] theorem State.fitClock_shadows : (s.fitClock).shadows = s.shadows := by unfold State.fitClock; dsimp only [State.cond]; split <;> simp [State.flag_shadows, State.cnt_shadows]
@[simp] theorem State.fitClock_td0 : (s.fitClock).td0 = s.td0 := by unfold State.fitClock; dsimp only [State.cond]; split <;> simp [State.flag_td0, State.cnt_td0]
@[simp] theorem State.fitClock_td1 : (s.fitClock).td1 = s.td1 := by unfold State.fitClock; dsimp only [State.cond]; split <;> simp [State.flag_td1, State.cnt_td1]
@[simp] theorem State.fitClock_streams : (s.fitClock).streams = s.streams := by unfold State.fitClock; dsimp only [State.cond]; split <;> simp [State.flag_streams, State.cnt_streams]
@[simp] theorem State.fitClock_groups : (s.fitClock).groups = s.groups := by unfold State.fitClock; dsimp only [State.cond]; split <;> simp [State.flag_groups, State.cnt_groups]
@[simp] theorem State.fitClock_vcache : (s.fitClock).vcache = s.vcache := by unfold State.fitClock; dsimp only [State.cond]; split <;> simp [State.flag_vcache, State.cnt_vcache]
@[simp] theorem State.fitClock_pages : (s.fitClock).pages = s.pages := by unfold State.fitClock; dsimp only [State.cond]; split <;> simp [State.flag_pages, State.cnt_pages]
@[simp] theorem State.fitClock_swap : (s.fitClock).swap = s.swap := by unfold State.fitClock; dsimp only [State.cond]; split <;> simp [State.flag_swap, State.cnt_swap]
@[simp] theorem State.fitClock_batches : (s.fitClock).batches = s.batches := by unfold State.fitClock; dsimp only [State.cond]; split <;> simp [State.flag_batches, State.cnt_batches]
@[simp] theorem State.fitClock_fbatches : (s.fitClock).fbatches = s.fbatches := by unfold State.fitClock; dsimp only [State.cond]; split <;> simp [State.flag_fbatches, State.cnt_fbatches]
@[simp] theorem State.fitClock_nextId : (s.fitClock).nextId = s.nextId := by unfold State.fitClock; dsimp only [State.cond]; split <;> simp [State.flag_nextId, State.cnt_nextId]
@[simp] theorem State.fitClock_pitches : (s.fitClock).pitches = s.pitches := by unfold State.fitClock; dsimp only [State.cond]; split <;> simp [State.flag_pitches, State.cnt_pitches]
@[simp] theorem State.fitClock_ctxs : (s.fitClock).ctxs = s.ctxs := by unfold State.fitClock; dsimp only [State.cond]; split <;> simp [State.flag_ctxs, State.cnt_ctxs]
@[simp] theorem State.fitClock_models : (s.fitClock).models = s.models := by unfold State.fitClock; dsimp only [State.cond]; split <;> simp [State.flag_models, State.cnt_models]
@[simp] theorem State.fitClock_loads : (s.fitClock).loads = s.loads := by unfold State.fitClock; dsimp only [State.cond]; split <;> simp [State.flag_loads, State.cnt_loads]
@[simp] theorem State.fitClock_execs : (s.fitClock).execs = s.execs := by unfold State.fitClock; dsimp only [State.cond]; split <;> simp [State.flag_execs, State.cnt_execs]
@[simp] theorem State.fitClock_parts : (s.fitClock).parts = s.parts := by unfold State.fitClock; dsimp only [State.cond]; split <;> simp [State.flag_parts, State.cnt_parts]
@[simp] theorem State.fitClock_units : (s.fitClock).units = s.units := by unfold State.fitClock; dsimp only [State.cond]; split <;> simp [State.flag_units, State.cnt_units]
@[simp] theorem State.fitClock_tstl : (s.fitClock).tstl = s.tstl := by unfold State.fitClock; dsimp only [State.cond]; split <;> simp [State.flag_tstl, State.cnt_tstl]
@[simp] theorem State.fitClock_kiosks : (s.fitClock).kiosks = s.kiosks := by unfold State.fitClock; dsimp only [State.cond]; split <;> simp [State.flag_kiosks, State.cnt_kiosks]
@[simp] theorem State.fitClock_mem : (s.fitClock).mem = s.mem := by unfold State.fitClock; dsimp only [State.cond]; split <;> simp [State.flag_mem, State.cnt_mem]
@[simp] theorem State.fitClock_memx : (s.fitClock).memx = s.memx := by unfold State.fitClock; dsimp only [State.cond]; split <;> simp [State.flag_memx, State.cnt_memx]
@[simp] theorem State.fitClock_chans : (s.fitClock).chans = s.chans := by unfold State.fitClock; dsimp only [State.cond]; split <;> simp [State.flag_chans, State.cnt_chans]
@[simp] theorem State.fitClock_ports : (s.fitClock).ports = s.ports := by unfold State.fitClock; dsimp only [State.cond]; split <;> simp [State.flag_ports, State.cnt_ports]
@[simp] theorem State.fitClock_sessions : (s.fitClock).sessions = s.sessions := by unfold State.fitClock; dsimp only [State.cond]; split <;> simp [State.flag_sessions, State.cnt_sessions]
@[simp] theorem State.fitClock_nextSession : (s.fitClock).nextSession = s.nextSession := by unfold State.fitClock; dsimp only [State.cond]; split <;> simp [State.flag_nextSession, State.cnt_nextSession]
@[simp] theorem State.fitClock_eth : (s.fitClock).eth = s.eth := by unfold State.fitClock; dsimp only [State.cond]; split <;> simp [State.flag_eth, State.cnt_eth]
@[simp] theorem State.fitClock_ptp : (s.fitClock).ptp = s.ptp := by unfold State.fitClock; dsimp only [State.cond]; split <;> simp [State.flag_ptp, State.cnt_ptp]
@[simp] theorem State.fitClock_rtp : (s.fitClock).rtp = s.rtp := by unfold State.fitClock; dsimp only [State.cond]; split <;> simp [State.flag_rtp, State.cnt_rtp]
@[simp] theorem State.fitClock_links : (s.fitClock).links = s.links := by unfold State.fitClock; dsimp only [State.cond]; split <;> simp [State.flag_links, State.cnt_links]
@[simp] theorem State.fitClock_routes : (s.fitClock).routes = s.routes := by unfold State.fitClock; dsimp only [State.cond]; split <;> simp [State.flag_routes, State.cnt_routes]
@[simp] theorem State.fitClock_msgId : (s.fitClock).msgId = s.msgId := by unfold State.fitClock; dsimp only [State.cond]; split <;> simp [State.flag_msgId, State.cnt_msgId]
@[simp] theorem State.fitClock_xfers : (s.fitClock).xfers = s.xfers := by unfold State.fitClock; dsimp only [State.cond]; split <;> simp [State.flag_xfers, State.cnt_xfers]
@[simp] theorem State.fitClock_twin : (s.fitClock).twin = s.twin := by unfold State.fitClock; dsimp only [State.cond]; split <;> simp [State.flag_twin, State.cnt_twin]
@[simp] theorem State.fitClock_dev : (s.fitClock).dev = s.dev := by unfold State.fitClock; dsimp only [State.cond]; split <;> simp [State.flag_dev, State.cnt_dev]
@[simp] theorem State.fitClock_cfg : (s.fitClock).cfg = s.cfg := by unfold State.fitClock; dsimp only [State.cond]; split <;> simp [State.flag_cfg, State.cnt_cfg]
@[simp] theorem State.fitClock_flash : (s.fitClock).flash = s.flash := by unfold State.fitClock; dsimp only [State.cond]; split <;> simp [State.flag_flash, State.cnt_flash]
@[simp] theorem State.fitClock_sec : (s.fitClock).sec = s.sec := by unfold State.fitClock; dsimp only [State.cond]; split <;> simp [State.flag_sec, State.cnt_sec]
@[simp] theorem State.fitClock_trec : (s.fitClock).trec = s.trec := by unfold State.fitClock; dsimp only [State.cond]; split <;> simp [State.flag_trec, State.cnt_trec]
@[simp] theorem State.fitClock_replay : (s.fitClock).replay = s.replay := by unfold State.fitClock; dsimp only [State.cond]; split <;> simp [State.flag_replay, State.cnt_replay]
@[simp] theorem State.fitClock_faultSec : (s.fitClock).faultSec = s.faultSec := by unfold State.fitClock; dsimp only [State.cond]; split <;> simp [State.flag_faultSec, State.cnt_faultSec]
@[simp] theorem State.fitClock_out : (s.fitClock).out = s.out := by unfold State.fitClock; dsimp only [State.cond]; split <;> simp [State.flag_out, State.cnt_out]
end

end Sys2Proof.Machine
end

