-- ==== Sys2Proof/Laws/Messages.lean ====
section
/-! SUPPORT. What the processing of a message around its own rule leaves alone (15 R382, R384). -/

namespace Sys2Proof.Machine

section
variable (s : State) 
@[simp] theorem State.entryCheck_pending : (s.entryCheck).pending = s.pending := by unfold State.entryCheck; split <;> rfl
@[simp] theorem State.entryCheck_free : (s.entryCheck).free = s.free := by unfold State.entryCheck; split <;> rfl
@[simp] theorem State.entryCheck_cycle : (s.entryCheck).cycle = s.cycle := by unfold State.entryCheck; split <;> rfl
@[simp] theorem State.entryCheck_uptime : (s.entryCheck).uptime = s.uptime := by unfold State.entryCheck; split <;> rfl
@[simp] theorem State.entryCheck_phase : (s.entryCheck).phase = s.phase := by unfold State.entryCheck; split <;> rfl
@[simp] theorem State.entryCheck_regs : (s.entryCheck).regs = s.regs := by unfold State.entryCheck; split <;> rfl
@[simp] theorem State.entryCheck_shadows : (s.entryCheck).shadows = s.shadows := by unfold State.entryCheck; split <;> rfl
@[simp] theorem State.entryCheck_td0 : (s.entryCheck).td0 = s.td0 := by unfold State.entryCheck; split <;> rfl
@[simp] theorem State.entryCheck_td1 : (s.entryCheck).td1 = s.td1 := by unfold State.entryCheck; split <;> rfl
@[simp] theorem State.entryCheck_streams : (s.entryCheck).streams = s.streams := by unfold State.entryCheck; split <;> rfl
@[simp] theorem State.entryCheck_groups : (s.entryCheck).groups = s.groups := by unfold State.entryCheck; split <;> rfl
@[simp] theorem State.entryCheck_vcache : (s.entryCheck).vcache = s.vcache := by unfold State.entryCheck; split <;> rfl
@[simp] theorem State.entryCheck_pages : (s.entryCheck).pages = s.pages := by unfold State.entryCheck; split <;> rfl
@[simp] theorem State.entryCheck_swap : (s.entryCheck).swap = s.swap := by unfold State.entryCheck; split <;> rfl
@[simp] theorem State.entryCheck_batches : (s.entryCheck).batches = s.batches := by unfold State.entryCheck; split <;> rfl
@[simp] theorem State.entryCheck_fbatches : (s.entryCheck).fbatches = s.fbatches := by unfold State.entryCheck; split <;> rfl
@[simp] theorem State.entryCheck_nextId : (s.entryCheck).nextId = s.nextId := by unfold State.entryCheck; split <;> rfl
@[simp] theorem State.entryCheck_pitches : (s.entryCheck).pitches = s.pitches := by unfold State.entryCheck; split <;> rfl
@[simp] theorem State.entryCheck_ctxs : (s.entryCheck).ctxs = s.ctxs := by unfold State.entryCheck; split <;> rfl
@[simp] theorem State.entryCheck_models : (s.entryCheck).models = s.models := by unfold State.entryCheck; split <;> rfl
@[simp] theorem State.entryCheck_loads : (s.entryCheck).loads = s.loads := by unfold State.entryCheck; split <;> rfl
@[simp] theorem State.entryCheck_execs : (s.entryCheck).execs = s.execs := by unfold State.entryCheck; split <;> rfl
@[simp] theorem State.entryCheck_parts : (s.entryCheck).parts = s.parts := by unfold State.entryCheck; split <;> rfl
@[simp] theorem State.entryCheck_units : (s.entryCheck).units = s.units := by unfold State.entryCheck; split <;> rfl
@[simp] theorem State.entryCheck_tstl : (s.entryCheck).tstl = s.tstl := by unfold State.entryCheck; split <;> rfl
@[simp] theorem State.entryCheck_kiosks : (s.entryCheck).kiosks = s.kiosks := by unfold State.entryCheck; split <;> rfl
@[simp] theorem State.entryCheck_mem : (s.entryCheck).mem = s.mem := by unfold State.entryCheck; split <;> rfl
@[simp] theorem State.entryCheck_memx : (s.entryCheck).memx = s.memx := by unfold State.entryCheck; split <;> rfl
@[simp] theorem State.entryCheck_chans : (s.entryCheck).chans = s.chans := by unfold State.entryCheck; split <;> rfl
@[simp] theorem State.entryCheck_ports : (s.entryCheck).ports = s.ports := by unfold State.entryCheck; split <;> rfl
@[simp] theorem State.entryCheck_sessions : (s.entryCheck).sessions = s.sessions := by unfold State.entryCheck; split <;> rfl
@[simp] theorem State.entryCheck_nextSession : (s.entryCheck).nextSession = s.nextSession := by unfold State.entryCheck; split <;> rfl
@[simp] theorem State.entryCheck_eth : (s.entryCheck).eth = s.eth := by unfold State.entryCheck; split <;> rfl
@[simp] theorem State.entryCheck_ptp : (s.entryCheck).ptp = s.ptp := by unfold State.entryCheck; split <;> rfl
@[simp] theorem State.entryCheck_rtp : (s.entryCheck).rtp = s.rtp := by unfold State.entryCheck; split <;> rfl
@[simp] theorem State.entryCheck_links : (s.entryCheck).links = s.links := by unfold State.entryCheck; split <;> rfl
@[simp] theorem State.entryCheck_routes : (s.entryCheck).routes = s.routes := by unfold State.entryCheck; split <;> rfl
@[simp] theorem State.entryCheck_msgId : (s.entryCheck).msgId = s.msgId := by unfold State.entryCheck; split <;> rfl
@[simp] theorem State.entryCheck_xfers : (s.entryCheck).xfers = s.xfers := by unfold State.entryCheck; split <;> rfl
@[simp] theorem State.entryCheck_twin : (s.entryCheck).twin = s.twin := by unfold State.entryCheck; split <;> rfl
@[simp] theorem State.entryCheck_dev : (s.entryCheck).dev = s.dev := by unfold State.entryCheck; split <;> rfl
@[simp] theorem State.entryCheck_cfg : (s.entryCheck).cfg = s.cfg := by unfold State.entryCheck; split <;> rfl
@[simp] theorem State.entryCheck_flash : (s.entryCheck).flash = s.flash := by unfold State.entryCheck; split <;> rfl
@[simp] theorem State.entryCheck_sec : (s.entryCheck).sec = s.sec := by unfold State.entryCheck; split <;> rfl
@[simp] theorem State.entryCheck_trec : (s.entryCheck).trec = s.trec := by unfold State.entryCheck; split <;> rfl
@[simp] theorem State.entryCheck_replay : (s.entryCheck).replay = s.replay := by unfold State.entryCheck; split <;> rfl
@[simp] theorem State.entryCheck_faultSec : (s.entryCheck).faultSec = s.faultSec := by unfold State.entryCheck; split <;> rfl
@[simp] theorem State.entryCheck_out : (s.entryCheck).out = s.out := by unfold State.entryCheck; split <;> rfl
end

section
variable (s : State) (cause : Nat)
@[simp] theorem State.wake_pending : (s.wake cause).pending = s.pending := by unfold State.wake; split <;> (try split) <;> rfl
@[simp] theorem State.wake_free : (s.wake cause).free = s.free := by unfold State.wake; split <;> (try split) <;> rfl
@[simp] theorem State.wake_cycle : (s.wake cause).cycle = s.cycle := by unfold State.wake; split <;> (try split) <;> rfl
@[simp] theorem State.wake_uptime : (s.wake cause).uptime = s.uptime := by unfold State.wake; split <;> (try split) <;> rfl
@[simp] theorem State.wake_phase : (s.wake cause).phase = s.phase := by unfold State.wake; split <;> (try split) <;> rfl
@[simp] theorem State.wake_regs : (s.wake cause).regs = s.regs := by unfold State.wake; split <;> (try split) <;> rfl
@[simp] theorem State.wake_shadows : (s.wake cause).shadows = s.shadows := by unfold State.wake; split <;> (try split) <;> rfl
@[simp] theorem State.wake_td0 : (s.wake cause).td0 = s.td0 := by unfold State.wake; split <;> (try split) <;> rfl
@[simp] theorem State.wake_td1 : (s.wake cause).td1 = s.td1 := by unfold State.wake; split <;> (try split) <;> rfl
@[simp] theorem State.wake_streams : (s.wake cause).streams = s.streams := by unfold State.wake; split <;> (try split) <;> rfl
@[simp] theorem State.wake_groups : (s.wake cause).groups = s.groups := by unfold State.wake; split <;> (try split) <;> rfl
@[simp] theorem State.wake_vcache : (s.wake cause).vcache = s.vcache := by unfold State.wake; split <;> (try split) <;> rfl
@[simp] theorem State.wake_pages : (s.wake cause).pages = s.pages := by unfold State.wake; split <;> (try split) <;> rfl
@[simp] theorem State.wake_swap : (s.wake cause).swap = s.swap := by unfold State.wake; split <;> (try split) <;> rfl
@[simp] theorem State.wake_batches : (s.wake cause).batches = s.batches := by unfold State.wake; split <;> (try split) <;> rfl
@[simp] theorem State.wake_fbatches : (s.wake cause).fbatches = s.fbatches := by unfold State.wake; split <;> (try split) <;> rfl
@[simp] theorem State.wake_nextId : (s.wake cause).nextId = s.nextId := by unfold State.wake; split <;> (try split) <;> rfl
@[simp] theorem State.wake_pitches : (s.wake cause).pitches = s.pitches := by unfold State.wake; split <;> (try split) <;> rfl
@[simp] theorem State.wake_ctxs : (s.wake cause).ctxs = s.ctxs := by unfold State.wake; split <;> (try split) <;> rfl
@[simp] theorem State.wake_models : (s.wake cause).models = s.models := by unfold State.wake; split <;> (try split) <;> rfl
@[simp] theorem State.wake_loads : (s.wake cause).loads = s.loads := by unfold State.wake; split <;> (try split) <;> rfl
@[simp] theorem State.wake_execs : (s.wake cause).execs = s.execs := by unfold State.wake; split <;> (try split) <;> rfl
@[simp] theorem State.wake_parts : (s.wake cause).parts = s.parts := by unfold State.wake; split <;> (try split) <;> rfl
@[simp] theorem State.wake_units : (s.wake cause).units = s.units := by unfold State.wake; split <;> (try split) <;> rfl
@[simp] theorem State.wake_tstl : (s.wake cause).tstl = s.tstl := by unfold State.wake; split <;> (try split) <;> rfl
@[simp] theorem State.wake_kiosks : (s.wake cause).kiosks = s.kiosks := by unfold State.wake; split <;> (try split) <;> rfl
@[simp] theorem State.wake_mem : (s.wake cause).mem = s.mem := by unfold State.wake; split <;> (try split) <;> rfl
@[simp] theorem State.wake_memx : (s.wake cause).memx = s.memx := by unfold State.wake; split <;> (try split) <;> rfl
@[simp] theorem State.wake_chans : (s.wake cause).chans = s.chans := by unfold State.wake; split <;> (try split) <;> rfl
@[simp] theorem State.wake_ports : (s.wake cause).ports = s.ports := by unfold State.wake; split <;> (try split) <;> rfl
@[simp] theorem State.wake_sessions : (s.wake cause).sessions = s.sessions := by unfold State.wake; split <;> (try split) <;> rfl
@[simp] theorem State.wake_nextSession : (s.wake cause).nextSession = s.nextSession := by unfold State.wake; split <;> (try split) <;> rfl
@[simp] theorem State.wake_eth : (s.wake cause).eth = s.eth := by unfold State.wake; split <;> (try split) <;> rfl
@[simp] theorem State.wake_ptp : (s.wake cause).ptp = s.ptp := by unfold State.wake; split <;> (try split) <;> rfl
@[simp] theorem State.wake_rtp : (s.wake cause).rtp = s.rtp := by unfold State.wake; split <;> (try split) <;> rfl
@[simp] theorem State.wake_links : (s.wake cause).links = s.links := by unfold State.wake; split <;> (try split) <;> rfl
@[simp] theorem State.wake_routes : (s.wake cause).routes = s.routes := by unfold State.wake; split <;> (try split) <;> rfl
@[simp] theorem State.wake_msgId : (s.wake cause).msgId = s.msgId := by unfold State.wake; split <;> (try split) <;> rfl
@[simp] theorem State.wake_xfers : (s.wake cause).xfers = s.xfers := by unfold State.wake; split <;> (try split) <;> rfl
@[simp] theorem State.wake_twin : (s.wake cause).twin = s.twin := by unfold State.wake; split <;> (try split) <;> rfl
@[simp] theorem State.wake_dev : (s.wake cause).dev = s.dev := by unfold State.wake; split <;> (try split) <;> rfl
@[simp] theorem State.wake_cfg : (s.wake cause).cfg = s.cfg := by unfold State.wake; split <;> (try split) <;> rfl
@[simp] theorem State.wake_flash : (s.wake cause).flash = s.flash := by unfold State.wake; split <;> (try split) <;> rfl
@[simp] theorem State.wake_sec : (s.wake cause).sec = s.sec := by unfold State.wake; split <;> (try split) <;> rfl
@[simp] theorem State.wake_trec : (s.wake cause).trec = s.trec := by unfold State.wake; split <;> (try split) <;> rfl
@[simp] theorem State.wake_replay : (s.wake cause).replay = s.replay := by unfold State.wake; split <;> (try split) <;> rfl
@[simp] theorem State.wake_faultSec : (s.wake cause).faultSec = s.faultSec := by unfold State.wake; split <;> (try split) <;> rfl
@[simp] theorem State.wake_out : (s.wake cause).out = s.out := by unfold State.wake; split <;> (try split) <;> rfl
end

section
variable (s : State) (m : Instr) (n status : Nat) (pay : List Byte)
@[simp] theorem State.recordMsg_pending : ((s.recordMsg m n status pay).2).pending = s.pending := by unfold State.recordMsg; dsimp only; split <;> (try split) <;> simp only [State.ringRecord_pending, State.forward_pending]
@[simp] theorem State.recordMsg_free : ((s.recordMsg m n status pay).2).free = s.free := by unfold State.recordMsg; dsimp only; split <;> (try split) <;> simp only [State.ringRecord_free, State.forward_free]
@[simp] theorem State.recordMsg_cycle : ((s.recordMsg m n status pay).2).cycle = s.cycle := by unfold State.recordMsg; dsimp only; split <;> (try split) <;> simp only [State.ringRecord_cycle, State.forward_cycle]
@[simp] theorem State.recordMsg_uptime : ((s.recordMsg m n status pay).2).uptime = s.uptime := by unfold State.recordMsg; dsimp only; split <;> (try split) <;> simp only [State.ringRecord_uptime, State.forward_uptime]
@[simp] theorem State.recordMsg_phase : ((s.recordMsg m n status pay).2).phase = s.phase := by unfold State.recordMsg; dsimp only; split <;> (try split) <;> simp only [State.ringRecord_phase, State.forward_phase]
@[simp] theorem State.recordMsg_shadows : ((s.recordMsg m n status pay).2).shadows = s.shadows := by unfold State.recordMsg; dsimp only; split <;> (try split) <;> simp only [State.ringRecord_shadows, State.forward_shadows]
@[simp] theorem State.recordMsg_td0 : ((s.recordMsg m n status pay).2).td0 = s.td0 := by unfold State.recordMsg; dsimp only; split <;> (try split) <;> simp only [State.ringRecord_td0, State.forward_td0]
@[simp] theorem State.recordMsg_td1 : ((s.recordMsg m n status pay).2).td1 = s.td1 := by unfold State.recordMsg; dsimp only; split <;> (try split) <;> simp only [State.ringRecord_td1, State.forward_td1]
@[simp] theorem State.recordMsg_streams : ((s.recordMsg m n status pay).2).streams = s.streams := by unfold State.recordMsg; dsimp only; split <;> (try split) <;> simp only [State.ringRecord_streams, State.forward_streams]
@[simp] theorem State.recordMsg_groups : ((s.recordMsg m n status pay).2).groups = s.groups := by unfold State.recordMsg; dsimp only; split <;> (try split) <;> simp only [State.ringRecord_groups, State.forward_groups]
@[simp] theorem State.recordMsg_vcache : ((s.recordMsg m n status pay).2).vcache = s.vcache := by unfold State.recordMsg; dsimp only; split <;> (try split) <;> simp only [State.ringRecord_vcache, State.forward_vcache]
@[simp] theorem State.recordMsg_pages : ((s.recordMsg m n status pay).2).pages = s.pages := by unfold State.recordMsg; dsimp only; split <;> (try split) <;> simp only [State.ringRecord_pages, State.forward_pages]
@[simp] theorem State.recordMsg_swap : ((s.recordMsg m n status pay).2).swap = s.swap := by unfold State.recordMsg; dsimp only; split <;> (try split) <;> simp only [State.ringRecord_swap, State.forward_swap]
@[simp] theorem State.recordMsg_batches : ((s.recordMsg m n status pay).2).batches = s.batches := by unfold State.recordMsg; dsimp only; split <;> (try split) <;> simp only [State.ringRecord_batches, State.forward_batches]
@[simp] theorem State.recordMsg_fbatches : ((s.recordMsg m n status pay).2).fbatches = s.fbatches := by unfold State.recordMsg; dsimp only; split <;> (try split) <;> simp only [State.ringRecord_fbatches, State.forward_fbatches]
@[simp] theorem State.recordMsg_nextId : ((s.recordMsg m n status pay).2).nextId = s.nextId := by unfold State.recordMsg; dsimp only; split <;> (try split) <;> simp only [State.ringRecord_nextId, State.forward_nextId]
@[simp] theorem State.recordMsg_pitches : ((s.recordMsg m n status pay).2).pitches = s.pitches := by unfold State.recordMsg; dsimp only; split <;> (try split) <;> simp only [State.ringRecord_pitches, State.forward_pitches]
@[simp] theorem State.recordMsg_ctxs : ((s.recordMsg m n status pay).2).ctxs = s.ctxs := by unfold State.recordMsg; dsimp only; split <;> (try split) <;> simp only [State.ringRecord_ctxs, State.forward_ctxs]
@[simp] theorem State.recordMsg_models : ((s.recordMsg m n status pay).2).models = s.models := by unfold State.recordMsg; dsimp only; split <;> (try split) <;> simp only [State.ringRecord_models, State.forward_models]
@[simp] theorem State.recordMsg_loads : ((s.recordMsg m n status pay).2).loads = s.loads := by unfold State.recordMsg; dsimp only; split <;> (try split) <;> simp only [State.ringRecord_loads, State.forward_loads]
@[simp] theorem State.recordMsg_execs : ((s.recordMsg m n status pay).2).execs = s.execs := by unfold State.recordMsg; dsimp only; split <;> (try split) <;> simp only [State.ringRecord_execs, State.forward_execs]
@[simp] theorem State.recordMsg_parts : ((s.recordMsg m n status pay).2).parts = s.parts := by unfold State.recordMsg; dsimp only; split <;> (try split) <;> simp only [State.ringRecord_parts, State.forward_parts]
@[simp] theorem State.recordMsg_units : ((s.recordMsg m n status pay).2).units = s.units := by unfold State.recordMsg; dsimp only; split <;> (try split) <;> simp only [State.ringRecord_units, State.forward_units]
@[simp] theorem State.recordMsg_tstl : ((s.recordMsg m n status pay).2).tstl = s.tstl := by unfold State.recordMsg; dsimp only; split <;> (try split) <;> simp only [State.ringRecord_tstl, State.forward_tstl]
@[simp] theorem State.recordMsg_kiosks : ((s.recordMsg m n status pay).2).kiosks = s.kiosks := by unfold State.recordMsg; dsimp only; split <;> (try split) <;> simp only [State.ringRecord_kiosks, State.forward_kiosks]
@[simp] theorem State.recordMsg_chans : ((s.recordMsg m n status pay).2).chans = s.chans := by unfold State.recordMsg; dsimp only; split <;> (try split) <;> simp only [State.ringRecord_chans, State.forward_chans]
@[simp] theorem State.recordMsg_ports : ((s.recordMsg m n status pay).2).ports = s.ports := by unfold State.recordMsg; dsimp only; split <;> (try split) <;> simp only [State.ringRecord_ports, State.forward_ports]
@[simp] theorem State.recordMsg_nextSession : ((s.recordMsg m n status pay).2).nextSession = s.nextSession := by unfold State.recordMsg; dsimp only; split <;> (try split) <;> simp only [State.ringRecord_nextSession, State.forward_nextSession]
@[simp] theorem State.recordMsg_eth : ((s.recordMsg m n status pay).2).eth = s.eth := by unfold State.recordMsg; dsimp only; split <;> (try split) <;> simp only [State.ringRecord_eth, State.forward_eth]
@[simp] theorem State.recordMsg_ptp : ((s.recordMsg m n status pay).2).ptp = s.ptp := by unfold State.recordMsg; dsimp only; split <;> (try split) <;> simp only [State.ringRecord_ptp, State.forward_ptp]
@[simp] theorem State.recordMsg_rtp : ((s.recordMsg m n status pay).2).rtp = s.rtp := by unfold State.recordMsg; dsimp only; split <;> (try split) <;> simp only [State.ringRecord_rtp, State.forward_rtp]
@[simp] theorem State.recordMsg_routes : ((s.recordMsg m n status pay).2).routes = s.routes := by unfold State.recordMsg; dsimp only; split <;> (try split) <;> simp only [State.ringRecord_routes, State.forward_routes]
@[simp] theorem State.recordMsg_xfers : ((s.recordMsg m n status pay).2).xfers = s.xfers := by unfold State.recordMsg; dsimp only; split <;> (try split) <;> simp only [State.ringRecord_xfers, State.forward_xfers]
@[simp] theorem State.recordMsg_twin : ((s.recordMsg m n status pay).2).twin = s.twin := by unfold State.recordMsg; dsimp only; split <;> (try split) <;> simp only [State.ringRecord_twin, State.forward_twin]
@[simp] theorem State.recordMsg_dev : ((s.recordMsg m n status pay).2).dev = s.dev := by unfold State.recordMsg; dsimp only; split <;> (try split) <;> simp only [State.ringRecord_dev, State.forward_dev]
@[simp] theorem State.recordMsg_cfg : ((s.recordMsg m n status pay).2).cfg = s.cfg := by unfold State.recordMsg; dsimp only; split <;> (try split) <;> simp only [State.ringRecord_cfg, State.forward_cfg]
@[simp] theorem State.recordMsg_flash : ((s.recordMsg m n status pay).2).flash = s.flash := by unfold State.recordMsg; dsimp only; split <;> (try split) <;> simp only [State.ringRecord_flash, State.forward_flash]
@[simp] theorem State.recordMsg_sec : ((s.recordMsg m n status pay).2).sec = s.sec := by unfold State.recordMsg; dsimp only; split <;> (try split) <;> simp only [State.ringRecord_sec, State.forward_sec]
@[simp] theorem State.recordMsg_pwr : ((s.recordMsg m n status pay).2).pwr = s.pwr := by unfold State.recordMsg; dsimp only; split <;> (try split) <;> simp only [State.ringRecord_pwr, State.forward_pwr]
@[simp] theorem State.recordMsg_replay : ((s.recordMsg m n status pay).2).replay = s.replay := by unfold State.recordMsg; dsimp only; split <;> (try split) <;> simp only [State.ringRecord_replay, State.forward_replay]
@[simp] theorem State.recordMsg_out : ((s.recordMsg m n status pay).2).out = s.out := by unfold State.recordMsg; dsimp only; split <;> (try split) <;> simp only [State.ringRecord_out, State.forward_out]
end

section
variable (s : State) (m : Instr) (h : Hdr) (held : Option (Nat × Nat)) (status epoch : Nat) (pay : List Byte)
@[simp] theorem State.reply_pending : (s.reply m h held status epoch pay).pending = s.pending := by unfold State.reply; split <;> simp only [State.sendMsg_pending]
@[simp] theorem State.reply_free : (s.reply m h held status epoch pay).free = s.free := by unfold State.reply; split <;> simp only [State.sendMsg_free]
@[simp] theorem State.reply_cycle : (s.reply m h held status epoch pay).cycle = s.cycle := by unfold State.reply; split <;> simp only [State.sendMsg_cycle]
@[simp] theorem State.reply_uptime : (s.reply m h held status epoch pay).uptime = s.uptime := by unfold State.reply; split <;> simp only [State.sendMsg_uptime]
@[simp] theorem State.reply_phase : (s.reply m h held status epoch pay).phase = s.phase := by unfold State.reply; split <;> simp only [State.sendMsg_phase]
@[simp] theorem State.reply_regs : (s.reply m h held status epoch pay).regs = s.regs := by unfold State.reply; split <;> simp only [State.sendMsg_regs]
@[simp] theorem State.reply_shadows : (s.reply m h held status epoch pay).shadows = s.shadows := by unfold State.reply; split <;> simp only [State.sendMsg_shadows]
@[simp] theorem State.reply_td0 : (s.reply m h held status epoch pay).td0 = s.td0 := by unfold State.reply; split <;> simp only [State.sendMsg_td0]
@[simp] theorem State.reply_td1 : (s.reply m h held status epoch pay).td1 = s.td1 := by unfold State.reply; split <;> simp only [State.sendMsg_td1]
@[simp] theorem State.reply_streams : (s.reply m h held status epoch pay).streams = s.streams := by unfold State.reply; split <;> simp only [State.sendMsg_streams]
@[simp] theorem State.reply_groups : (s.reply m h held status epoch pay).groups = s.groups := by unfold State.reply; split <;> simp only [State.sendMsg_groups]
@[simp] theorem State.reply_vcache : (s.reply m h held status epoch pay).vcache = s.vcache := by unfold State.reply; split <;> simp only [State.sendMsg_vcache]
@[simp] theorem State.reply_pages : (s.reply m h held status epoch pay).pages = s.pages := by unfold State.reply; split <;> simp only [State.sendMsg_pages]
@[simp] theorem State.reply_swap : (s.reply m h held status epoch pay).swap = s.swap := by unfold State.reply; split <;> simp only [State.sendMsg_swap]
@[simp] theorem State.reply_batches : (s.reply m h held status epoch pay).batches = s.batches := by unfold State.reply; split <;> simp only [State.sendMsg_batches]
@[simp] theorem State.reply_fbatches : (s.reply m h held status epoch pay).fbatches = s.fbatches := by unfold State.reply; split <;> simp only [State.sendMsg_fbatches]
@[simp] theorem State.reply_nextId : (s.reply m h held status epoch pay).nextId = s.nextId := by unfold State.reply; split <;> simp only [State.sendMsg_nextId]
@[simp] theorem State.reply_pitches : (s.reply m h held status epoch pay).pitches = s.pitches := by unfold State.reply; split <;> simp only [State.sendMsg_pitches]
@[simp] theorem State.reply_ctxs : (s.reply m h held status epoch pay).ctxs = s.ctxs := by unfold State.reply; split <;> simp only [State.sendMsg_ctxs]
@[simp] theorem State.reply_models : (s.reply m h held status epoch pay).models = s.models := by unfold State.reply; split <;> simp only [State.sendMsg_models]
@[simp] theorem State.reply_loads : (s.reply m h held status epoch pay).loads = s.loads := by unfold State.reply; split <;> simp only [State.sendMsg_loads]
@[simp] theorem State.reply_execs : (s.reply m h held status epoch pay).execs = s.execs := by unfold State.reply; split <;> simp only [State.sendMsg_execs]
@[simp] theorem State.reply_parts : (s.reply m h held status epoch pay).parts = s.parts := by unfold State.reply; split <;> simp only [State.sendMsg_parts]
@[simp] theorem State.reply_units : (s.reply m h held status epoch pay).units = s.units := by unfold State.reply; split <;> simp only [State.sendMsg_units]
@[simp] theorem State.reply_tstl : (s.reply m h held status epoch pay).tstl = s.tstl := by unfold State.reply; split <;> simp only [State.sendMsg_tstl]
@[simp] theorem State.reply_kiosks : (s.reply m h held status epoch pay).kiosks = s.kiosks := by unfold State.reply; split <;> simp only [State.sendMsg_kiosks]
@[simp] theorem State.reply_mem : (s.reply m h held status epoch pay).mem = s.mem := by unfold State.reply; split <;> simp only [State.sendMsg_mem]
@[simp] theorem State.reply_memx : (s.reply m h held status epoch pay).memx = s.memx := by unfold State.reply; split <;> simp only [State.sendMsg_memx]
@[simp] theorem State.reply_chans : (s.reply m h held status epoch pay).chans = s.chans := by unfold State.reply; split <;> simp only [State.sendMsg_chans]
@[simp] theorem State.reply_ports : (s.reply m h held status epoch pay).ports = s.ports := by unfold State.reply; split <;> simp only [State.sendMsg_ports]
@[simp] theorem State.reply_nextSession : (s.reply m h held status epoch pay).nextSession = s.nextSession := by unfold State.reply; split <;> simp only [State.sendMsg_nextSession]
@[simp] theorem State.reply_eth : (s.reply m h held status epoch pay).eth = s.eth := by unfold State.reply; split <;> simp only [State.sendMsg_eth]
@[simp] theorem State.reply_ptp : (s.reply m h held status epoch pay).ptp = s.ptp := by unfold State.reply; split <;> simp only [State.sendMsg_ptp]
@[simp] theorem State.reply_rtp : (s.reply m h held status epoch pay).rtp = s.rtp := by unfold State.reply; split <;> simp only [State.sendMsg_rtp]
@[simp] theorem State.reply_links : (s.reply m h held status epoch pay).links = s.links := by unfold State.reply; split <;> simp only [State.sendMsg_links]
@[simp] theorem State.reply_routes : (s.reply m h held status epoch pay).routes = s.routes := by unfold State.reply; split <;> simp only [State.sendMsg_routes]
@[simp] theorem State.reply_msgId : (s.reply m h held status epoch pay).msgId = s.msgId := by unfold State.reply; split <;> simp only [State.sendMsg_msgId]
@[simp] theorem State.reply_xfers : (s.reply m h held status epoch pay).xfers = s.xfers := by unfold State.reply; split <;> simp only [State.sendMsg_xfers]
@[simp] theorem State.reply_dev : (s.reply m h held status epoch pay).dev = s.dev := by unfold State.reply; split <;> simp only [State.sendMsg_dev]
@[simp] theorem State.reply_cfg : (s.reply m h held status epoch pay).cfg = s.cfg := by unfold State.reply; split <;> simp only [State.sendMsg_cfg]
@[simp] theorem State.reply_flash : (s.reply m h held status epoch pay).flash = s.flash := by unfold State.reply; split <;> simp only [State.sendMsg_flash]
@[simp] theorem State.reply_sec : (s.reply m h held status epoch pay).sec = s.sec := by unfold State.reply; split <;> simp only [State.sendMsg_sec]
@[simp] theorem State.reply_pwr : (s.reply m h held status epoch pay).pwr = s.pwr := by unfold State.reply; split <;> simp only [State.sendMsg_pwr]
@[simp] theorem State.reply_trec : (s.reply m h held status epoch pay).trec = s.trec := by unfold State.reply; split <;> simp only [State.sendMsg_trec]
@[simp] theorem State.reply_replay : (s.reply m h held status epoch pay).replay = s.replay := by unfold State.reply; split <;> simp only [State.sendMsg_replay]
@[simp] theorem State.reply_faultSec : (s.reply m h held status epoch pay).faultSec = s.faultSec := by unfold State.reply; split <;> simp only [State.sendMsg_faultSec]
end

section
variable (s : State) (m : Instr) (h : Hdr) (epoch status : Nat) (pay : List Byte)
@[simp] theorem State.conclude_pending : (s.conclude m h epoch status pay).pending = s.pending := by unfold State.conclude; dsimp only; split <;> simp only [State.reply_pending, State.recordMsg_pending, State.entryCheck_pending, State.fitClock_pending]
@[simp] theorem State.conclude_free : (s.conclude m h epoch status pay).free = s.free := by unfold State.conclude; dsimp only; split <;> simp only [State.reply_free, State.recordMsg_free, State.entryCheck_free, State.fitClock_free]
@[simp] theorem State.conclude_cycle : (s.conclude m h epoch status pay).cycle = s.cycle := by unfold State.conclude; dsimp only; split <;> simp only [State.reply_cycle, State.recordMsg_cycle, State.entryCheck_cycle, State.fitClock_cycle]
@[simp] theorem State.conclude_uptime : (s.conclude m h epoch status pay).uptime = s.uptime := by unfold State.conclude; dsimp only; split <;> simp only [State.reply_uptime, State.recordMsg_uptime, State.entryCheck_uptime, State.fitClock_uptime]
@[simp] theorem State.conclude_phase : (s.conclude m h epoch status pay).phase = s.phase := by unfold State.conclude; dsimp only; split <;> simp only [State.reply_phase, State.recordMsg_phase, State.entryCheck_phase, State.fitClock_phase]
@[simp] theorem State.conclude_shadows : (s.conclude m h epoch status pay).shadows = s.shadows := by unfold State.conclude; dsimp only; split <;> simp only [State.reply_shadows, State.recordMsg_shadows, State.entryCheck_shadows, State.fitClock_shadows]
@[simp] theorem State.conclude_td0 : (s.conclude m h epoch status pay).td0 = s.td0 := by unfold State.conclude; dsimp only; split <;> simp only [State.reply_td0, State.recordMsg_td0, State.entryCheck_td0, State.fitClock_td0]
@[simp] theorem State.conclude_td1 : (s.conclude m h epoch status pay).td1 = s.td1 := by unfold State.conclude; dsimp only; split <;> simp only [State.reply_td1, State.recordMsg_td1, State.entryCheck_td1, State.fitClock_td1]
@[simp] theorem State.conclude_streams : (s.conclude m h epoch status pay).streams = s.streams := by unfold State.conclude; dsimp only; split <;> simp only [State.reply_streams, State.recordMsg_streams, State.entryCheck_streams, State.fitClock_streams]
@[simp] theorem State.conclude_groups : (s.conclude m h epoch status pay).groups = s.groups := by unfold State.conclude; dsimp only; split <;> simp only [State.reply_groups, State.recordMsg_groups, State.entryCheck_groups, State.fitClock_groups]
@[simp] theorem State.conclude_vcache : (s.conclude m h epoch status pay).vcache = s.vcache := by unfold State.conclude; dsimp only; split <;> simp only [State.reply_vcache, State.recordMsg_vcache, State.entryCheck_vcache, State.fitClock_vcache]
@[simp] theorem State.conclude_pages : (s.conclude m h epoch status pay).pages = s.pages := by unfold State.conclude; dsimp only; split <;> simp only [State.reply_pages, State.recordMsg_pages, State.entryCheck_pages, State.fitClock_pages]
@[simp] theorem State.conclude_swap : (s.conclude m h epoch status pay).swap = s.swap := by unfold State.conclude; dsimp only; split <;> simp only [State.reply_swap, State.recordMsg_swap, State.entryCheck_swap, State.fitClock_swap]
@[simp] theorem State.conclude_batches : (s.conclude m h epoch status pay).batches = s.batches := by unfold State.conclude; dsimp only; split <;> simp only [State.reply_batches, State.recordMsg_batches, State.entryCheck_batches, State.fitClock_batches]
@[simp] theorem State.conclude_fbatches : (s.conclude m h epoch status pay).fbatches = s.fbatches := by unfold State.conclude; dsimp only; split <;> simp only [State.reply_fbatches, State.recordMsg_fbatches, State.entryCheck_fbatches, State.fitClock_fbatches]
@[simp] theorem State.conclude_nextId : (s.conclude m h epoch status pay).nextId = s.nextId := by unfold State.conclude; dsimp only; split <;> simp only [State.reply_nextId, State.recordMsg_nextId, State.entryCheck_nextId, State.fitClock_nextId]
@[simp] theorem State.conclude_pitches : (s.conclude m h epoch status pay).pitches = s.pitches := by unfold State.conclude; dsimp only; split <;> simp only [State.reply_pitches, State.recordMsg_pitches, State.entryCheck_pitches, State.fitClock_pitches]
@[simp] theorem State.conclude_ctxs : (s.conclude m h epoch status pay).ctxs = s.ctxs := by unfold State.conclude; dsimp only; split <;> simp only [State.reply_ctxs, State.recordMsg_ctxs, State.entryCheck_ctxs, State.fitClock_ctxs]
@[simp] theorem State.conclude_models : (s.conclude m h epoch status pay).models = s.models := by unfold State.conclude; dsimp only; split <;> simp only [State.reply_models, State.recordMsg_models, State.entryCheck_models, State.fitClock_models]
@[simp] theorem State.conclude_loads : (s.conclude m h epoch status pay).loads = s.loads := by unfold State.conclude; dsimp only; split <;> simp only [State.reply_loads, State.recordMsg_loads, State.entryCheck_loads, State.fitClock_loads]
@[simp] theorem State.conclude_execs : (s.conclude m h epoch status pay).execs = s.execs := by unfold State.conclude; dsimp only; split <;> simp only [State.reply_execs, State.recordMsg_execs, State.entryCheck_execs, State.fitClock_execs]
@[simp] theorem State.conclude_parts : (s.conclude m h epoch status pay).parts = s.parts := by unfold State.conclude; dsimp only; split <;> simp only [State.reply_parts, State.recordMsg_parts, State.entryCheck_parts, State.fitClock_parts]
@[simp] theorem State.conclude_units : (s.conclude m h epoch status pay).units = s.units := by unfold State.conclude; dsimp only; split <;> simp only [State.reply_units, State.recordMsg_units, State.entryCheck_units, State.fitClock_units]
@[simp] theorem State.conclude_tstl : (s.conclude m h epoch status pay).tstl = s.tstl := by unfold State.conclude; dsimp only; split <;> simp only [State.reply_tstl, State.recordMsg_tstl, State.entryCheck_tstl, State.fitClock_tstl]
@[simp] theorem State.conclude_kiosks : (s.conclude m h epoch status pay).kiosks = s.kiosks := by unfold State.conclude; dsimp only; split <;> simp only [State.reply_kiosks, State.recordMsg_kiosks, State.entryCheck_kiosks, State.fitClock_kiosks]
@[simp] theorem State.conclude_chans : (s.conclude m h epoch status pay).chans = s.chans := by unfold State.conclude; dsimp only; split <;> simp only [State.reply_chans, State.recordMsg_chans, State.entryCheck_chans, State.fitClock_chans]
@[simp] theorem State.conclude_ports : (s.conclude m h epoch status pay).ports = s.ports := by unfold State.conclude; dsimp only; split <;> simp only [State.reply_ports, State.recordMsg_ports, State.entryCheck_ports, State.fitClock_ports]
@[simp] theorem State.conclude_nextSession : (s.conclude m h epoch status pay).nextSession = s.nextSession := by unfold State.conclude; dsimp only; split <;> simp only [State.reply_nextSession, State.recordMsg_nextSession, State.entryCheck_nextSession, State.fitClock_nextSession]
@[simp] theorem State.conclude_eth : (s.conclude m h epoch status pay).eth = s.eth := by unfold State.conclude; dsimp only; split <;> simp only [State.reply_eth, State.recordMsg_eth, State.entryCheck_eth, State.fitClock_eth]
@[simp] theorem State.conclude_ptp : (s.conclude m h epoch status pay).ptp = s.ptp := by unfold State.conclude; dsimp only; split <;> simp only [State.reply_ptp, State.recordMsg_ptp, State.entryCheck_ptp, State.fitClock_ptp]
@[simp] theorem State.conclude_rtp : (s.conclude m h epoch status pay).rtp = s.rtp := by unfold State.conclude; dsimp only; split <;> simp only [State.reply_rtp, State.recordMsg_rtp, State.entryCheck_rtp, State.fitClock_rtp]
@[simp] theorem State.conclude_routes : (s.conclude m h epoch status pay).routes = s.routes := by unfold State.conclude; dsimp only; split <;> simp only [State.reply_routes, State.recordMsg_routes, State.entryCheck_routes, State.fitClock_routes]
@[simp] theorem State.conclude_xfers : (s.conclude m h epoch status pay).xfers = s.xfers := by unfold State.conclude; dsimp only; split <;> simp only [State.reply_xfers, State.recordMsg_xfers, State.entryCheck_xfers, State.fitClock_xfers]
@[simp] theorem State.conclude_dev : (s.conclude m h epoch status pay).dev = s.dev := by unfold State.conclude; dsimp only; split <;> simp only [State.reply_dev, State.recordMsg_dev, State.entryCheck_dev, State.fitClock_dev]
@[simp] theorem State.conclude_cfg : (s.conclude m h epoch status pay).cfg = s.cfg := by unfold State.conclude; dsimp only; split <;> simp only [State.reply_cfg, State.recordMsg_cfg, State.entryCheck_cfg, State.fitClock_cfg]
@[simp] theorem State.conclude_flash : (s.conclude m h epoch status pay).flash = s.flash := by unfold State.conclude; dsimp only; split <;> simp only [State.reply_flash, State.recordMsg_flash, State.entryCheck_flash, State.fitClock_flash]
@[simp] theorem State.conclude_sec : (s.conclude m h epoch status pay).sec = s.sec := by unfold State.conclude; dsimp only; split <;> simp only [State.reply_sec, State.recordMsg_sec, State.entryCheck_sec, State.fitClock_sec]
@[simp] theorem State.conclude_replay : (s.conclude m h epoch status pay).replay = s.replay := by unfold State.conclude; dsimp only; split <;> simp only [State.reply_replay, State.recordMsg_replay, State.entryCheck_replay, State.fitClock_replay]
end

end Sys2Proof.Machine
end

