-- ==== Sys2Proof/Laws/Tab.lean ====
section
/-! SUPPORT. Read after write in sparse tables. -/

namespace Sys2Proof.Machine

variable {α : Type}

@[simp] theorem Tab.get?_set_same (t : Tab α) (n : Nat) (v : α) : Tab.get? (Tab.set t n v) n = some v := by
  induction t with
  | nil => simp [Tab.set, Tab.get?]
  | cons p t ih =>
    obtain ⟨k, w⟩ := p
    unfold Tab.set
    split
    · simp [Tab.get?]
    · split
      · simp [Tab.get?]
      · rename_i h1 h2
        simp only [Tab.get?, ih]
        rw [if_neg (fun h => h2 h.symm)]

theorem Tab.get?_set_ne (t : Tab α) {n m : Nat} (h : n ≠ m) (v : α) : Tab.get? (Tab.set t n v) m = Tab.get? t m := by
  induction t with
  | nil => simp [Tab.set, Tab.get?, h]
  | cons p t ih =>
    obtain ⟨k, w⟩ := p
    unfold Tab.set
    split
    · simp [Tab.get?, h]
    · split
      · rename_i h2
        simp only [Tab.get?]
        rw [if_neg h, if_neg (h2 ▸ h)]
      · simp only [Tab.get?, ih]

@[simp] theorem Tab.getD_set_same (t : Tab α) (n : Nat) (v d : α) : Tab.getD (Tab.set t n v) n d = v := by
  simp [Tab.getD]

theorem Tab.getD_set_ne (t : Tab α) {n m : Nat} (h : n ≠ m) (v d : α) : Tab.getD (Tab.set t n v) m d = Tab.getD t m d := by
  simp [Tab.getD, Tab.get?_set_ne t h]

@[simp] theorem Tab.getD_modify_same (t : Tab α) (n : Nat) (d : α) (f : α → α) :
    Tab.getD (Tab.modify t n d f) n d = f (Tab.getD t n d) := by
  simp [Tab.modify]

theorem Tab.getD_modify_ne (t : Tab α) {n m : Nat} (h : n ≠ m) (d e : α) (f : α → α) :
    Tab.getD (Tab.modify t n d f) m e = Tab.getD t m e := by
  simp [Tab.modify, Tab.getD_set_ne t h]

end Sys2Proof.Machine
end

