-- ==== Sys2Proof/Laws/Registers.lean ====
section
/-! SUPPORT. Registers: read after write, and which registers reports leave alone. -/

namespace Sys2Proof.Machine

theorem State.rg_of_get {s t : State} {r : RegName} {i j : Nat}
    (h : Tab.get? t.regs (r.off i j) = Tab.get? s.regs (r.off i j)) : t.rg r i j = s.rg r i j := by
  simp [State.rg, Tab.getD, h]

@[simp] theorem State.rg_setRg_same (s : State) (r : RegName) (i v j : Nat) : (s.setRg r i v j).rg r i j = v % 2 ^ 32 := by
  simp [State.rg, State.setRg]

theorem State.get_setRg_ne (s : State) (r : RegName) (i v j o : Nat) (h : r.off i j ≠ o) :
    Tab.get? (s.setRg r i v j).regs o = Tab.get? s.regs o := by
  simp [State.setRg, Tab.get?_set_ne _ h]

theorem State.rg_setRg_ne (s : State) {r q : RegName} {i j a b : Nat} (h : r.off i j ≠ q.off a b) (v : Nat) :
    (s.setRg r i v j).rg q a b = s.rg q a b :=
  State.rg_of_get (s.get_setRg_ne r i v j _ h)

theorem State.get_setFld_ne (s : State) (r : RegName) (i hi lo v o : Nat) (h : r.off i ≠ o) :
    Tab.get? (s.setFld r i hi lo v).regs o = Tab.get? s.regs o := s.get_setRg_ne _ _ _ _ _ h

theorem State.get_cnt_ne (s : State) (r : RegName) (i hi lo n o : Nat) (h : r.off i ≠ o) :
    Tab.get? (s.cnt r i hi lo n).regs o = Tab.get? s.regs o := s.get_setFld_ne _ _ _ _ _ _ h

theorem State.get_inc_ne (s : State) (r : RegName) (i o : Nat) (h : r.off i ≠ o) :
    Tab.get? (s.inc r i).regs o = Tab.get? s.regs o := s.get_cnt_ne _ _ _ _ _ _ h

theorem State.get_flag_ne (s : State) (r : RegName) (i b o : Nat) (h : r.off i ≠ o) :
    Tab.get? (s.flag r i b).regs o = Tab.get? s.regs o := s.get_setRg_ne _ _ _ _ _ h

theorem State.sameRegs_rfl (s : State) (l : List Nat) : s.sameRegs s l := fun _ _ => rfl

theorem State.sameRegs_trans {s t u : State} {l : List Nat} (h1 : s.sameRegs t l) (h2 : t.sameRegs u l) : s.sameRegs u l :=
  fun o h => (h2 o h).trans (h1 o h)

theorem State.sameRegs_mono {s t : State} {l m : List Nat} (h : s.sameRegs t l) (hs : l ⊆ m) : s.sameRegs t m :=
  fun o ho => h o (fun hl => ho (hs hl))

theorem State.sameRegs_of_eq {s t : State} (l : List Nat) (h : t.regs = s.regs) : s.sameRegs t l := fun _ _ => by rw [h]

theorem State.sameRegs_rg {s t : State} {l : List Nat} (h : s.sameRegs t l) {r : RegName} {i j : Nat} (hr : r.off i j ∉ l) :
    t.rg r i j = s.rg r i j := State.rg_of_get (h _ hr)

theorem State.sameRegs_flag (s : State) {l : List Nat} {r : RegName} {i b : Nat} (h : r.off i ∈ l) :
    s.sameRegs (s.flag r i b) l := fun o ho => s.get_flag_ne r i b o (fun e => ho (e ▸ h))

theorem State.sameRegs_cnt (s : State) {l : List Nat} {r : RegName} {i hi lo n : Nat} (h : r.off i ∈ l) :
    s.sameRegs (s.cnt r i hi lo n) l := fun o ho => s.get_cnt_ne r i hi lo n o (fun e => ho (e ▸ h))

theorem State.sameRegs_inc (s : State) {l : List Nat} {r : RegName} {i : Nat} (h : r.off i ∈ l) :
    s.sameRegs (s.inc r i) l := s.sameRegs_cnt h

/-- An event changes only the registers of lost events. -/
theorem State.sameRegs_eventIf (s : State) (p : Session → Bool) (c u d a b : Nat) :
    s.sameRegs (s.eventIf p c u d a b) reportOffs := by
  unfold State.eventIf
  dsimp only
  split
  · exact State.sameRegs_of_eq _ rfl
  · exact State.sameRegs_trans (State.sameRegs_trans (State.sameRegs_of_eq _ rfl)
      (State.sameRegs_cnt _ (by simp [reportOffs]))) (State.sameRegs_flag _ (by simp [reportOffs]))

theorem State.sameRegs_event (s : State) (c u d a b : Nat) : s.sameRegs (s.event c u d a b) reportOffs :=
  s.sameRegs_eventIf _ _ _ _ _ _

theorem State.sameRegs_deviceFault (s : State) (c a : Nat) : s.sameRegs (s.deviceFault c a) reportOffs := by
  unfold State.deviceFault
  split
  · split
    · exact State.sameRegs_of_eq _ rfl
    · exact State.sameRegs_trans (State.sameRegs_of_eq _ rfl) (State.sameRegs_event _ _ _ _ _ _)
  · exact State.sameRegs_trans (State.sameRegs_of_eq _ rfl) (State.sameRegs_event _ _ _ _ _ _)

theorem State.sameRegs_diverge (s : State) (q : Nat) : s.sameRegs (s.diverge q) reportOffs := by
  have h : s.sameRegs ((s.inc .trecDivergeCnt).flag .trecEvt 0 3) reportOffs :=
    State.sameRegs_trans (State.sameRegs_inc _ (by simp [reportOffs])) (State.sameRegs_flag _ (by simp [reportOffs]))
  unfold State.diverge
  dsimp only
  split
  · exact h
  · refine State.sameRegs_trans ?_ (State.sameRegs_deviceFault _ _ _)
    exact fun o ho => h o ho

theorem State.sameRegs_setRg (s : State) {l : List Nat} {r : RegName} {i v j : Nat} (h : r.off i j ∈ l) :
    s.sameRegs (s.setRg r i v j) l := fun o ho => s.get_setRg_ne r i v j o (fun e => ho (e ▸ h))

theorem State.sameRegs_each {α : Type} {l : List Nat} (f : State → α → State) (h : ∀ (s : State) x, s.sameRegs (f s x) l) (xs : List α)
    (s : State) : s.sameRegs (s.each xs f) l := by
  unfold State.each
  induction xs generalizing s with
  | nil => exact s.sameRegs_rfl l
  | cons x t ih => exact State.sameRegs_trans (h s x) (ih (f s x))

/-- A failed read changes only the registers that count and latch it, and those of its event. -/
theorem State.sameRegs_readFailed (s : State) (a c : Nat) : s.sameRegs (s.readFailed a c) reportOffs := by
  have hc : RegName.off .memcChRetry (chanOf a) ∈ reportOffs := by
    have : chanOf a < 64 := Nat.mod_lt _ (by decide)
    simp only [reportOffs, List.mem_append, List.mem_map, List.mem_range]
    exact .inr ⟨_, this, rfl⟩
  unfold State.readFailed
  extract_lets b k s1 s2 m s3
  have h1 : s.sameRegs s1 reportOffs := State.sameRegs_trans (State.sameRegs_trans
    (State.sameRegs_inc _ (by simp [reportOffs])) (State.sameRegs_cnt _ hc)) (State.sameRegs_setRg _ (by simp [reportOffs]))
  have h2 : s.sameRegs s2 reportOffs := State.sameRegs_trans h1 (State.sameRegs_setRg _ (by simp [reportOffs]))
  have h3 : s.sameRegs s3 reportOffs := by
    refine State.sameRegs_trans h2 (State.sameRegs_of_eq _ ?_)
    show (if _ then s2 else { s2 with memx := _ }).regs = _
    split <;> rfl
  exact State.sameRegs_trans (State.sameRegs_trans h3 (State.sameRegs_flag _ (by simp [reportOffs])))
    (State.sameRegs_event _ _ _ _ _ _)

theorem State.sameRegs_storePart (s : State) (a : Nat) (bs : List Byte) (c : Nat) :
    s.sameRegs (s.storePart a bs c) reportOffs := by
  unfold State.storePart
  split
  · exact State.sameRegs_of_eq _ rfl
  · refine State.sameRegs_each _ (fun t x => ?_) _ s
    split
    · exact State.sameRegs_readFailed _ _ _
    · exact State.sameRegs_of_eq _ rfl

theorem State.sameRegs_mgmtStore (s : State) (a : Nat) (bs : List Byte) : s.sameRegs (s.mgmtStore a bs) reportOffs := by
  unfold State.mgmtStore
  split
  · exact State.sameRegs_of_eq _ rfl
  · exact State.sameRegs_trans (State.sameRegs_storePart _ _ _ _) (State.sameRegs_deviceFault _ _ _)

theorem State.sameRegs_trecPut (s : State) (a : Area) (bs : List Byte) (n : Nat) :
    s.sameRegs (s.trecPut a bs n) reportOffs := by
  unfold State.trecPut
  extract_lets t t1 w nh t2 t3 t4 s0 s1 s2
  have h0 : s.sameRegs s0 reportOffs :=
    State.sameRegs_trans (State.sameRegs_mgmtStore _ _ _) (State.sameRegs_mgmtStore _ _ _)
  have h1 : s.sameRegs s1 reportOffs := State.sameRegs_trans h0 (State.sameRegs_of_eq _ rfl)
  have h2 : s.sameRegs s2 reportOffs := by
    show s.sameRegs (if w then s1.flag .trecEvt 0 0 else s1) reportOffs
    split
    · exact State.sameRegs_trans h1 (State.sameRegs_flag _ (by simp [reportOffs]))
    · exact h1
  split
  · exact State.sameRegs_trans h2 (State.sameRegs_event _ _ _ _ _ _)
  · exact h2

theorem State.sameRegs_ringRecord (s : State) (k u d : Nat) (b : List Byte) : s.sameRegs (s.ringRecord k u d b) reportOffs := by
  unfold State.ringRecord
  split
  · exact s.sameRegs_rfl _
  · split
    · exact s.sameRegs_rfl _
    · dsimp only [State.cond]
      split
      · split
        · refine State.sameRegs_trans ?_ (State.sameRegs_deviceFault _ _ _)
          have h1 : s.sameRegs (s.inc .trecLostCnt) reportOffs := State.sameRegs_inc _ (by simp [reportOffs])
          have h2 : s.sameRegs ((s.inc .trecLostCnt).flag .trecEvt 0 2) reportOffs :=
            State.sameRegs_trans h1 (State.sameRegs_flag _ (by simp [reportOffs]))
          exact fun o ho => h2 o ho
        · exact s.sameRegs_rfl _
      · refine State.sameRegs_trans ?_ (State.sameRegs_trecPut _ _ _ _)
        split
        · exact s.sameRegs_rfl _
        · exact State.sameRegs_trecPut _ _ _ _

/-- A Tolcon record changes only the registers of reports. -/
theorem State.sameRegs_record (s : State) (k u d : Nat) (b : List Byte) : s.sameRegs (s.record k u d b) reportOffs := by
  unfold State.record
  dsimp only
  refine State.sameRegs_trans ?_ (State.sameRegs_ringRecord _ _ _ _ _)
  have h : s.sameRegs (if s.forwarding && !s.replay.active then (s.forward (s.mkRecord (recLen b.length) k u d b)).2 else s)
      reportOffs := by
    split
    · exact State.sameRegs_of_eq _ (by simp)
    · exact s.sameRegs_rfl _
  split
  · exact State.sameRegs_trans h (State.sameRegs_diverge _ _)
  · exact h

theorem State.sameRegs_fitClock (s : State) : s.sameRegs s.fitClock concludeOffs := by
  unfold State.fitClock
  dsimp only [State.cond]
  split
  · exact State.sameRegs_trans (State.sameRegs_trans (State.sameRegs_trans (State.sameRegs_of_eq _ rfl)
      (State.sameRegs_cnt _ (by simp [concludeOffs]))) (State.sameRegs_flag _ (by simp [concludeOffs])))
      (State.sameRegs_of_eq _ rfl)
  · exact State.sameRegs_of_eq _ rfl

/-- The conclusion of a message changes only the registers of reports and of a clock step. -/
theorem State.sameRegs_conclude (s : State) (i : Instr) (h : Hdr) (e st : Nat) (p : List Byte) :
    s.sameRegs (s.conclude i h e st p) concludeOffs := by
  have hr : ∀ (t : State) (n : Nat), t.sameRegs (t.recordMsg i n st p).2 concludeOffs := by
    intro t n
    unfold State.recordMsg
    dsimp only
    split
    · refine State.sameRegs_mono (State.sameRegs_trans ?_ (State.sameRegs_ringRecord _ _ _ _ _)) (by simp [concludeOffs])
      split
      · exact State.sameRegs_of_eq _ (by simp)
      · exact State.sameRegs_of_eq _ rfl
    · exact t.sameRegs_rfl _
  unfold State.conclude
  dsimp only
  have hp : ∀ (t : State) (w : Option (Nat × Nat)), t.sameRegs (t.reply i h w st e p) concludeOffs :=
    fun t w => State.sameRegs_of_eq _ (by simp)
  refine State.sameRegs_trans (State.sameRegs_trans ?_ (hr _ _)) (hp _ _)
  split
  · exact State.sameRegs_trans (State.sameRegs_trans (State.sameRegs_fitClock s) (State.sameRegs_of_eq _ (by simp)))
      (State.sameRegs_of_eq _ rfl)
  · exact s.sameRegs_rfl _

end Sys2Proof.Machine
end

