-- ==== Sys2Proof/Laws/RunMsg.lean ====
section
/-! SUPPORT. What a message command does once its message is accepted, is refused, or has no session (15 R374, R384). -/

namespace Sys2Proof.Machine

theorem State.gate_wake (s : State) (c : Nat) (i : Instr) : (s.wake c).gate i = s.gate i := by
  unfold State.wake
  split
  · rfl
  · split <;> rfl

@[simp] theorem State.gate_woken (s : State) (i m : Instr) : (s.woken i).gate m = s.gate m := by
  unfold State.woken State.cond
  split
  · exact State.gate_wake _ _ _
  · rfl

@[simp] theorem State.epoch_woken (s : State) (i : Instr) : (s.woken i).epoch = s.epoch := by
  unfold State.woken State.cond
  split <;> simp [State.epoch]

/-- An accepted message runs its rule, then concludes unless its reply comes later. -/
theorem runMsg_accepts {s : State} {i : Instr} {h : Hdr} (ha : s.accepts i h) (f : State → Rep) :
    runMsg i f s = if (f (s.woken i)).later then (f (s.woken i)).s
      else (f (s.woken i)).s.conclude i h s.epoch (f (s.woken i)).st (f (s.woken i)).pay := by
  obtain ⟨h1, h2, h3, h4⟩ := ha
  have hg : (s.woken i).gate i = 0 := by simp [h4]
  unfold State.woken at hg
  unfold runMsg
  simp only [h1, h2, h3]
  simp only [Bool.not_true, Bool.false_eq_true, if_false, State.process, hg, ne_eq, not_true_eq_false]
  have he : (s.woken i).epoch = s.epoch := by simp
  unfold State.woken at he ⊢
  rw [he]

theorem State.wake_pwr (s : State) (c : Nat) : s.wake c = { s with pwr := (s.wake c).pwr } := by
  unfold State.wake
  split
  · rfl
  · split <;> rfl

/-- The state a rule sees differs from the state before only in the power record. -/
theorem State.woken_pwr (s : State) (i : Instr) : s.woken i = { s with pwr := (s.woken i).pwr } := by
  unfold State.woken State.cond
  cases s.pwr.state == 1 || s.pwr.target.isSome && !noWake i
  · rfl
  · exact State.wake_pwr s 2

/-- Awake and not on the way down, the rule sees the state itself. -/
theorem State.woken_awake {s : State} (h : s.pwr.state = 0) (ht : s.pwr.target = none) (i : Instr) : s.woken i = s := by
  simp [State.woken, State.cond, h, ht]

/-- What does not read the power record is the same in the state a rule sees. -/
theorem State.of_woken {α : Sort _} {f : State → α} (s : State) (i : Instr) (hf : ∀ p, f { s with pwr := p } = f s) :
    f (s.woken i) = f s := by
  rw [State.woken_pwr]; exact hf _

section
variable (s : State) (i : Instr)
@[simp] theorem State.woken_pending : (s.woken i).pending = s.pending := by rw [State.woken_pwr]
@[simp] theorem State.woken_free : (s.woken i).free = s.free := by rw [State.woken_pwr]
@[simp] theorem State.woken_cycle : (s.woken i).cycle = s.cycle := by rw [State.woken_pwr]
@[simp] theorem State.woken_uptime : (s.woken i).uptime = s.uptime := by rw [State.woken_pwr]
@[simp] theorem State.woken_phase : (s.woken i).phase = s.phase := by rw [State.woken_pwr]
@[simp] theorem State.woken_regs : (s.woken i).regs = s.regs := by rw [State.woken_pwr]
@[simp] theorem State.woken_shadows : (s.woken i).shadows = s.shadows := by rw [State.woken_pwr]
@[simp] theorem State.woken_td0 : (s.woken i).td0 = s.td0 := by rw [State.woken_pwr]
@[simp] theorem State.woken_td1 : (s.woken i).td1 = s.td1 := by rw [State.woken_pwr]
@[simp] theorem State.woken_streams : (s.woken i).streams = s.streams := by rw [State.woken_pwr]
@[simp] theorem State.woken_groups : (s.woken i).groups = s.groups := by rw [State.woken_pwr]
@[simp] theorem State.woken_vcache : (s.woken i).vcache = s.vcache := by rw [State.woken_pwr]
@[simp] theorem State.woken_pages : (s.woken i).pages = s.pages := by rw [State.woken_pwr]
@[simp] theorem State.woken_swap : (s.woken i).swap = s.swap := by rw [State.woken_pwr]
@[simp] theorem State.woken_batches : (s.woken i).batches = s.batches := by rw [State.woken_pwr]
@[simp] theorem State.woken_fbatches : (s.woken i).fbatches = s.fbatches := by rw [State.woken_pwr]
@[simp] theorem State.woken_nextId : (s.woken i).nextId = s.nextId := by rw [State.woken_pwr]
@[simp] theorem State.woken_pitches : (s.woken i).pitches = s.pitches := by rw [State.woken_pwr]
@[simp] theorem State.woken_ctxs : (s.woken i).ctxs = s.ctxs := by rw [State.woken_pwr]
@[simp] theorem State.woken_models : (s.woken i).models = s.models := by rw [State.woken_pwr]
@[simp] theorem State.woken_loads : (s.woken i).loads = s.loads := by rw [State.woken_pwr]
@[simp] theorem State.woken_execs : (s.woken i).execs = s.execs := by rw [State.woken_pwr]
@[simp] theorem State.woken_parts : (s.woken i).parts = s.parts := by rw [State.woken_pwr]
@[simp] theorem State.woken_units : (s.woken i).units = s.units := by rw [State.woken_pwr]
@[simp] theorem State.woken_tstl : (s.woken i).tstl = s.tstl := by rw [State.woken_pwr]
@[simp] theorem State.woken_kiosks : (s.woken i).kiosks = s.kiosks := by rw [State.woken_pwr]
@[simp] theorem State.woken_mem : (s.woken i).mem = s.mem := by rw [State.woken_pwr]
@[simp] theorem State.woken_memx : (s.woken i).memx = s.memx := by rw [State.woken_pwr]
@[simp] theorem State.woken_chans : (s.woken i).chans = s.chans := by rw [State.woken_pwr]
@[simp] theorem State.woken_ports : (s.woken i).ports = s.ports := by rw [State.woken_pwr]
@[simp] theorem State.woken_sessions : (s.woken i).sessions = s.sessions := by rw [State.woken_pwr]
@[simp] theorem State.woken_nextSession : (s.woken i).nextSession = s.nextSession := by rw [State.woken_pwr]
@[simp] theorem State.woken_eth : (s.woken i).eth = s.eth := by rw [State.woken_pwr]
@[simp] theorem State.woken_ptp : (s.woken i).ptp = s.ptp := by rw [State.woken_pwr]
@[simp] theorem State.woken_rtp : (s.woken i).rtp = s.rtp := by rw [State.woken_pwr]
@[simp] theorem State.woken_links : (s.woken i).links = s.links := by rw [State.woken_pwr]
@[simp] theorem State.woken_routes : (s.woken i).routes = s.routes := by rw [State.woken_pwr]
@[simp] theorem State.woken_msgId : (s.woken i).msgId = s.msgId := by rw [State.woken_pwr]
@[simp] theorem State.woken_xfers : (s.woken i).xfers = s.xfers := by rw [State.woken_pwr]
@[simp] theorem State.woken_twin : (s.woken i).twin = s.twin := by rw [State.woken_pwr]
@[simp] theorem State.woken_dev : (s.woken i).dev = s.dev := by rw [State.woken_pwr]
@[simp] theorem State.woken_cfg : (s.woken i).cfg = s.cfg := by rw [State.woken_pwr]
@[simp] theorem State.woken_flash : (s.woken i).flash = s.flash := by rw [State.woken_pwr]
@[simp] theorem State.woken_sec : (s.woken i).sec = s.sec := by rw [State.woken_pwr]
@[simp] theorem State.woken_trec : (s.woken i).trec = s.trec := by rw [State.woken_pwr]
@[simp] theorem State.woken_replay : (s.woken i).replay = s.replay := by rw [State.woken_pwr]
@[simp] theorem State.woken_faultSec : (s.woken i).faultSec = s.faultSec := by rw [State.woken_pwr]
@[simp] theorem State.woken_out : (s.woken i).out = s.out := by rw [State.woken_pwr]
@[simp] theorem State.woken_pwr_state : (s.woken i).pwr.state = s.pwr.state := by
  unfold State.woken State.cond
  split
  · dsimp only [State.wake]; split <;> (try rfl); split <;> rfl
  · rfl
@[simp] theorem State.woken_td (d : Nat) : (s.woken i).td d = s.td d := by rw [State.woken_pwr]; rfl
@[simp] theorem State.woken_rg (r : RegName) (a b : Nat) : (s.woken i).rg r a b = s.rg r a b := by rw [State.woken_pwr]; rfl
@[simp] theorem State.woken_fld (r : RegName) (a b c : Nat) : (s.woken i).fld r a b c = s.fld r a b c := by rw [State.woken_pwr]; rfl
@[simp] theorem State.woken_bit (r : RegName) (a b : Nat) : (s.woken i).bit r a b = s.bit r a b := by rw [State.woken_pwr]; rfl
@[simp] theorem State.woken_stream (k : Nat) : (s.woken i).stream k = s.stream k := by rw [State.woken_pwr]; rfl
@[simp] theorem State.woken_pitch (k : Nat) : (s.woken i).pitch k = s.pitch k := by rw [State.woken_pwr]; rfl
@[simp] theorem State.woken_ctx (k : Nat) : (s.woken i).ctx k = s.ctx k := by rw [State.woken_pwr]; rfl
@[simp] theorem State.woken_sess (k : Nat) : (s.woken i).sess k = s.sess k := by rw [State.woken_pwr]; rfl
@[simp] theorem State.woken_findHandle (k : Nat) : (s.woken i).findHandle k = s.findHandle k := by rw [State.woken_pwr]; rfl
@[simp] theorem State.woken_ring : (s.woken i).ring = s.ring := by rw [State.woken_pwr]; rfl
end

/-- An accepted message whose rule answers at once is answered with that state, status and payload. -/
theorem done_runMsg {s : State} {i : Instr} {h : Hdr} (ha : s.accepts i h) {f : State → Rep} {u : State} {st : Nat}
    {p : List Byte} (hf : f (s.woken i) = ⟨st, p, u, false⟩) : done (runMsg i f s) = answered i h s u st p := by
  rw [runMsg_accepts ha, hf]; rfl

/-- One whose reply comes later leaves its rule's state. -/
theorem done_runMsg_later {s : State} {i : Instr} {h : Hdr} (ha : s.accepts i h) {f : State → Rep} {u : State} {st : Nat}
    {p : List Byte} (hf : f (s.woken i) = ⟨st, p, u, true⟩) : done (runMsg i f s) = .next (finish u) := by
  rw [runMsg_accepts ha, hf]; rfl

end Sys2Proof.Machine
end

