-- ==== Sys2Proof/Laws/Units.lean ====
section
/-! SUPPORT. What the shared operations of units, channels and swap engines change, and the idle step. -/

namespace Sys2Proof.Machine

variable (s : State)

/-! ### Updates of one entry -/

theorem State.updExec_frame (id : Nat) (f : Exec → Exec) : ∃ x, s.updExec id f = { s with execs := x } := ⟨_, rfl⟩
theorem State.updEngine_frame (w : Nat) (f : SwapEng → SwapEng) : ∃ x, s.updEngine w f = { s with swap := x } := ⟨_, rfl⟩
theorem State.updChan_frame (n : Nat) (f : Chan → Chan) : ∃ x, s.updChan n f = { s with chans := x } := ⟨_, rfl⟩
theorem State.updPort_frame (p : Nat) (f : Port → Port) : ∃ x, s.updPort p f = { s with ports := x } := ⟨_, rfl⟩
theorem State.updKiosk_frame (k : Nat) (f : Kiosk → Kiosk) : ∃ x, s.updKiosk k f = { s with kiosks := x } := ⟨_, rfl⟩

@[simp] theorem State.updExec_mem (id : Nat) (f : Exec → Exec) : (s.updExec id f).mem = s.mem := rfl
@[simp] theorem State.updExec_regs (id : Nat) (f : Exec → Exec) : (s.updExec id f).regs = s.regs := rfl
@[simp] theorem State.updExec_streams (id : Nat) (f : Exec → Exec) : (s.updExec id f).streams = s.streams := rfl
@[simp] theorem State.updExec_pending (id : Nat) (f : Exec → Exec) : (s.updExec id f).pending = s.pending := rfl
@[simp] theorem State.updEngine_mem (w : Nat) (f : SwapEng → SwapEng) : (s.updEngine w f).mem = s.mem := rfl
@[simp] theorem State.updEngine_regs (w : Nat) (f : SwapEng → SwapEng) : (s.updEngine w f).regs = s.regs := rfl
@[simp] theorem State.updEngine_streams (w : Nat) (f : SwapEng → SwapEng) : (s.updEngine w f).streams = s.streams := rfl
@[simp] theorem State.updEngine_pending (w : Nat) (f : SwapEng → SwapEng) : (s.updEngine w f).pending = s.pending := rfl
@[simp] theorem State.updChan_mem (n : Nat) (f : Chan → Chan) : (s.updChan n f).mem = s.mem := rfl
@[simp] theorem State.updChan_regs (n : Nat) (f : Chan → Chan) : (s.updChan n f).regs = s.regs := rfl
@[simp] theorem State.updChan_pending (n : Nat) (f : Chan → Chan) : (s.updChan n f).pending = s.pending := rfl
@[simp] theorem State.updPort_mem (p : Nat) (f : Port → Port) : (s.updPort p f).mem = s.mem := rfl
@[simp] theorem State.updPort_regs (p : Nat) (f : Port → Port) : (s.updPort p f).regs = s.regs := rfl
@[simp] theorem State.updPort_pending (p : Nat) (f : Port → Port) : (s.updPort p f).pending = s.pending := rfl
@[simp] theorem State.updKiosk_mem (k : Nat) (f : Kiosk → Kiosk) : (s.updKiosk k f).mem = s.mem := rfl
@[simp] theorem State.updKiosk_regs (k : Nat) (f : Kiosk → Kiosk) : (s.updKiosk k f).regs = s.regs := rfl
@[simp] theorem State.updKiosk_pending (k : Nat) (f : Kiosk → Kiosk) : (s.updKiosk k f).pending = s.pending := rfl

/-! ### Folds -/

/-- What each step of a fold keeps, the fold keeps. -/
theorem State.each_inv {α : Type} {P : State → Prop} {f : State → α → State} (l : List α)
    (h : ∀ t, ∀ x ∈ l, P t → P (f t x)) : ∀ t, P t → P (t.each l f) := by
  induction l with
  | nil => exact fun _ p => p
  | cons x l ih =>
    intro t p
    exact ih (fun t y hy => h t y (List.mem_cons_of_mem _ hy)) _ (h t x List.mem_cons_self p)

/-! ### Stores of the units of a Quarter (04 R106, R112) -/

/-- What a unit's store leaves: nothing, or bytes from its address on that end before the weight region if it starts in the
Quarter below it. -/
theorem State.unitPoke_cases (q a : Nat) (bs : List Byte) :
    s.unitPoke q a bs = s ∨ ∃ k, s.unitPoke q a bs = s.poke a (bs.take k)
      ∧ (qBase q ≤ a → a + k ≤ s.weightBase q ∨ s.weightBase q ≤ a ∧ qBase q + 0x1000000 ≤ a) := by
  unfold State.unitPoke
  generalize s.weightBase q = wb, 0x1000000 = z
  by_cases h : wb ≤ a
  · by_cases h2 : a < qBase q + z
    · exact .inl (by simp only [h, h2, if_true])
    · exact .inr ⟨bs.length, by simp only [h, h2, if_true, if_false, List.take_length], fun _ => .inr ⟨h, by omega⟩⟩
  · by_cases h2 : qBase q ≤ a
    · exact .inr ⟨wb - a, by simp only [h, h2, if_true, if_false], fun _ => .inl (by omega)⟩
    · exact .inr ⟨bs.length, by simp only [h, h2, if_false, List.take_length], fun x => absurd x h2⟩

theorem State.unitPoke_wf {s : State} (q a : Nat) (bs : List Byte) (w : s.mem.wf = true) : (s.unitPoke q a bs).mem.wf = true := by
  obtain h | ⟨k, h, -⟩ := s.unitPoke_cases q a bs <;> rw [h]
  · exact w
  · exact State.poke_wf _ _ w

/-- A unit's store changes no byte outside its range. -/
theorem State.unitPoke_read_out {s : State} {q a x : Nat} {bs : List Byte} (h : x < a ∨ a + bs.length ≤ x) :
    (s.unitPoke q a bs).mem.read x = s.mem.read x := by
  obtain e | ⟨k, e, -⟩ := s.unitPoke_cases q a bs <;> rw [e]
  exact State.poke_read_out (by simp only [List.length_take]; omega)

/-- A unit's store that starts in its Quarter changes no byte of the Quarter's weight region (04 R112). -/
theorem State.unitPoke_weights {s : State} {q a x : Nat} {bs : List Byte} (ha : qBase q ≤ a)
    (lo : s.weightBase q ≤ x) (hi : x < qBase q + 0x1000000) : (s.unitPoke q a bs).mem.read x = s.mem.read x := by
  obtain e | ⟨k, e, b⟩ := s.unitPoke_cases q a bs <;> rw [e]
  obtain h | ⟨-, h⟩ := b ha
  · exact State.poke_read_out (by simp only [List.length_take]; omega)
  · exact State.poke_read_out (.inl (Nat.lt_of_lt_of_le hi h))

theorem State.storeAll_cons (q : Nat) (x : Nat × List Byte) (l : List (Nat × List Byte)) :
    s.storeAll q (x :: l) = (s.unitPoke q x.1 x.2).storeAll q l := rfl

theorem State.storeAll_wf (q : Nat) (l : List (Nat × List Byte)) : ∀ s : State, s.mem.wf = true → (s.storeAll q l).mem.wf = true := by
  induction l with
  | nil => exact fun _ w => w
  | cons x l ih =>
    intro s w
    rw [State.storeAll_cons]
    exact ih _ (State.unitPoke_wf q x.1 x.2 w)

/-! ### The idle step (log 2) -/

/-- An upset changes no byte of memory and no register. -/
theorem State.spoil_mem (u : Config.Upset) : (s.spoil u).mem = s.mem := by
  cases u <;> simp only [State.spoil]
  exact apply_ite State.mem _ _ _ |>.trans (ite_self _)

theorem State.spoil_regs (u : Config.Upset) : (s.spoil u).regs = s.regs := by
  cases u <;> simp only [State.spoil]
  exact apply_ite State.regs _ _ _ |>.trans (ite_self _)

theorem idle_mem : (idle s).mem = s.mem := State.spoil_mem s _
theorem idle_regs : (idle s).regs = s.regs := State.spoil_regs s _

end Sys2Proof.Machine
end

