-- ==== Sys2Proof/Tests/Slice0.lean ====
section
/-! SUPPORT. Tests: ill-formed commands, words and results written out from the spec, and for each statement with hypotheses a
concrete state and operands that meet them, clause by clause. -/

set_option Elab.async false

namespace Sys2Proof.Tests

open Sys2Proof.Machine

/-! ### Helper states -/

def peer : Peer := ⟨0, 0x02AABBCCDDEE, false, 0x0A000002, 5000⟩

/-- A session that has exchanged nothing. -/
def sess1 : Session :=
  { num := 1, peer := peer, evtMask := 0, maxPayload := 8192, openTag := 7, openedAt := 0, gotSeq := true, rxNext := 1, txNext := 1,
    unacked := [], waiting := [], rto := 1000, expiries := 0, ackOwed := false, part := none, evq := [], evLost := 0, lastRx := 0,
    timerAt := 0, owedAt := 0 }

/-- A device in full function with one session. -/
def up : State :=
  { State.reset with dev := { Dev.reset with stage := 2, starting := false }, cfg := { Cfg.reset with epoch := 1 }, sessions := [sess1] }

def hd : Hdr := ⟨1, 5, 0⟩

/-- The same with a domain 0. -/
def tk (t : TickDom) : State := { up with td0 := t }

/-- A domain that has locked. -/
def lockedDom : TickDom := { TickDom.reset with mon := .locked, next := 7 }

/-- The same with a stream 0, whose handle is 0x20000. -/
def str (x : Stream) : State := { up with streams := [(0, x)], pitches := [(0, { Pitch.blank with built := true, qmask := 1 })] }

def idleStr : Stream := { Stream.blank with dir := { Stream.blank.dir with state := .idle } }

def strIn (st : SState) : Stream := { Stream.blank with dir := { Stream.blank.dir with state := st } }

/-! ### Statements on ticks and streams -/

/-- A domain in each state of the monitor. -/
def monIn (m : Mon) : TickDom := { TickDom.reset with mon := m }

theorem wit_TickDomainStarts :
    (((tk (monIn .off)).td 0).mon = .off ∧ ((tk (monIn .off)).setRg .tickCtl 0 0).fld .tickCtl 0 4 2 = 0 ∧
      ((tk (monIn .off)).setRg .tickCtl 0 4).fld .tickCtl 0 4 2 ≠ 0) ∧
    ((tk (monIn .stopped)).td 0).mon ≠ .off := by
  decide +kernel

theorem wit_TickDomainControl :
    (((tk lockedDom).td 0).ticking = true ∧ ((tk (monIn .acquire)).td 0).ticking = false ∧ ((tk (monIn .acquire)).td 0).mon ≠ .off) ∧
    ((tk (monIn .stopped)).td 0).mon = .stopped ∧
    (∀ n ∈ [64, 128, 4096], let f := (BitVec.ofNat 32 n).toNat % 8192; 64 ≤ f ∧ f ≤ 4096 ∧ f % 64 = 0) ∧
    (∀ n ∈ [0, 63, 65, 4160], let f := (BitVec.ofNat 32 n).toNat % 8192; ¬ (64 ≤ f ∧ f ≤ 4096 ∧ f % 64 = 0)) ∧
    (6 ≤ (6 : BitVec 3).toNat ∧ (5 : BitVec 3).toNat < 6 ∧ (2 : BitVec 2) ≠ 3) ∧
    (let s := tk (monIn .off)
     s.srcRegs 0 = ⟨(0 : BitVec 3).toNat, (0 : BitVec 2).toNat, (0 : BitVec 6).toNat⟩ ∧
       s.srcRegs 0 ≠ ⟨(5 : BitVec 3).toNat, (2 : BitVec 2).toNat, (63 : BitVec 6).toNat⟩) := by
  decide +kernel

theorem wit_SourceMonitor :
    (let t := { lockedDom with srcUse := ⟨5, 0, 3⟩, skipEdge := true }
     t.srcUse.src = 5 ∧ t.skipEdge = true) ∧
    (let t := { lockedDom with srcUse := ⟨1, 1, 0⟩, divOn := true }
     (t.srcUse.src = 1 ∨ t.srcUse.src = 2) ∧ 2 ^ t.srcUse.mult ≠ 1 ∧ t.divOn = true ∧ (t.divPh + 1) % 2 ^ t.srcUse.mult ≠ 0) ∧
    (let s := tk { lockedDom with srcUse := ⟨1, 0, 0⟩ }
     (s.td 0).mon = .locked ∧ s.srcPtp 0 = false ∧ (-50000 : Int).natAbs ≤ 50000 ∧ ¬ (50001 : Int).natAbs ≤ 50000) ∧
    (let s := tk { lockedDom with mon := .holdover, run := 64, srcUse := ⟨1, 0, 0⟩ }
     (s.td 0).mon = .holdover ∧ 64 ≤ (s.td 0).run ∧ s.srcPtp 0 = false ∧ 980000 ≤ 980000 ∧ 1020000 ≤ 1020000 ∧
       ¬ (980000 ≤ 979999) ∧ ¬ (1020001 ≤ 1020000)) ∧
    (let s := tk { lockedDom with mon := .acquire, run := 64, srcUse := ⟨1, 0, 0⟩ }
     (s.td 0).mon = .acquire ∧ (s.td 0).runOpen = false ∧ 64 ≤ (s.td 0).run ∧ s.srcPtp 0 = false) ∧
    ({ lockedDom with mon := .acquire, runOpen := true }).runOpen = true ∧
    (∀ m ∈ [Mon.off, .stopped, .stepPending], (monIn m).mon = .off ∨ (monIn m).mon = .stopped ∨ (monIn m).mon = .stepPending) := by
  decide +kernel

theorem wit_SourceMonitor_ends :
    (16 ≤ ({ lockedDom with missed := 16 }).missed ∧ ({ lockedDom with missed := 15 }).missed < 16) ∧
    ¬ (64 ≤ ({ lockedDom with run := 64 }).run ∧ (lockedDom.mon = .acquire ∨ lockedDom.mon = .holdover)) ∧
    (let s := tk { lockedDom with next := 1025, issued := true, ivFrom := some 0, outRange := true, edges := 1080 }
     (s.td 0).ticking = true ∧ (s.td 0).issued = true ∧ (s.td 0).ivFrom = some ((s.td 0).cnt - 1024) ∧ 1024 ≤ (s.td 0).cnt ∧
       512 ≤ (s.td 0).edges ∧ (s.td 0).mon = .locked ∧ (s.td 0).outRange = true ∧
       16 * s.baseRate 0 * 1024 * 102 < (s.td 0).edges * (s.td 0).rate16 * 100) ∧
    ({ lockedDom with next := 1025, issued := true, ivFrom := some 0 }).outRange = false ∧
    ({ lockedDom with next := 1025, issued := true, ivFrom := some 512 }).ivFrom ≠ some (1024 - 1024) := by
  decide +kernel

theorem wit_TickIsIssued :
    (let s := tk lockedDom
     (s.td 0).ticking = true ∧ s.replay.active = false ∧ (s.td 0).next % max 1 (s.td 0).frameDiv ≠ 0) ∧
    (let s := tk { lockedDom with next := 0, stopReq := true }
     (s.td 0).ticking = true ∧ s.replay.active = false ∧ (s.td 0).next % max 1 (s.td 0).frameDiv = 0 ∧ s.stopsHere 0 = true) ∧
    (let s := { tk lockedDom with replay := { Replay.reset with active := true } }
     s.replay.active = true ∧ ((s.playTick 0 7).td 0).ticking = true) ∧
    ((tk (monIn .stopped)).td 0).ticking = false := by
  decide +kernel

theorem wit_StreamOpens :
    let p : OpenParams := ⟨16383, 0, 0, 1, 0x100, 0, 0, 0, 0, 0⟩
    let w := (up.woken (.streamOpen hd p)).openReads
    up.accepts (.streamOpen hd p) hd ∧ w.freeIndex ≠ none ∧ w.voiceOk p.voice.toNat = false ∧ w.memx.badBlocks = [] := by
  decide +kernel

theorem wit_StreamCloses :
    (∀ st ∈ [SState.idle, .run, .paused, .ended, .drain, .faulted],
      let s := str (strIn st)
      let c := Instr.streamCloseDrain hd 0x20000
      s.accepts c hd ∧ ((s.woken c).dirCheck 0).findHandle 0x20000 = some 0 ∧ (((s.woken c).dirCheck 0).stream 0).dir.state = st ∧
        (((s.woken c).dirCheck 0).stream 0).isClosing = false) ∧
    (let c := Instr.streamCloseAbort hd 0x20000
     (str idleStr).accepts c hd ∧ (((str idleStr).woken c).dirCheck 0).findHandle 0x20000 = some 0) ∧
    (let s := str (strIn .drain)
     (s.stream 0).dir.state = .drain ∧ (s.stream 0).del.queue = [] ∧ s.atRest 0 = true) ∧
    (let s := str { idleStr with life := { idleStr.life with closing := .abort } }
     (s.stream 0).isOpen = true ∧ (s.stream 0).isClosing = true ∧ s.atRest 0 = true) ∧
    (up.stream 131071).isOpen = false := by
  decide +kernel

theorem wit_StreamPausesAndResumes :
    ∀ st ∈ [SState.idle, .run, .paused, .ended, .drain, .faulted], ∀ c ∈ [Instr.streamPause hd 0x20000, .streamResume hd 0x20000],
      let s := str (strIn st)
      let w := (s.woken c).dirCheck 0
      s.accepts c hd ∧ w.findHandle 0x20000 = some 0 ∧ (w.stream 0).dir.group = none ∧ (w.stream 0).dir.state = st ∧
        (w.stream 0).isClosing = false := by
  decide +kernel

theorem wit_StaleHandles :
    (((str idleStr).stream 0).isOpen = true ∧ ((str idleStr).stream 0).dir.gen = 1 ∧ (str idleStr).memx.badWords = []) ∧
    (let c := Instr.streamPause hd 0x40000
     (str idleStr).accepts c hd ∧ ((((str idleStr).woken c).dirCheck 0).stream 0).dir.gen ≠ (0x40000 : Word).toNat / 2 ^ 17) ∧
    (let c := Instr.feature hd ⟨0x20001, false, [], 0, 0, []⟩
     (str idleStr).accepts c hd ∧ ((((str idleStr).woken c).dirCheck 1).stream 1).isOpen = false) := by
  decide +kernel

theorem wit_StaleHandles_zero : ∃ s : State, ∀ i, (s.stream i).dir.gen ≠ 0 := ⟨State.reset, fun _ => by simp [State.stream, State.reset, Tab.getD, Tab.get?, Stream.blank]⟩

theorem wit_StreamStatsAndGroup :
    (∀ c ∈ [Instr.streamStats hd 0x20000 false, .streamStats hd 0x20000 true, .streamSetGroup hd 0x20000 3],
      let w := ((str idleStr).woken c).dirCheck 0
      (str idleStr).accepts c hd ∧ w.findHandle 0x20000 = some 0 ∧ (w.stream 0).dir.be = false ∧ (w.stream 0).isClosing = false ∧
        (w.stream 0).dir.state ∈ [.idle, .run, .paused, .ended] ∧ w.groupOk 3 0 0 (w.stream 0).dir.d (w.stream 0).dir.dest = true) ∧
    (∀ st ∈ [SState.faulted, .drain], ((str (strIn st)).stream 0).dir.state = st) ∧
    ({ idleStr with dir := { idleStr.dir with be := true } }).dir.be = true := by
  decide +kernel

/-! ### Statements on voices, residency and packs -/

/-- Numbers put into a byte list: place, width, value. -/
def putAt (l : List Byte) (xs : List (Nat × Nat × Nat)) : List Byte :=
  xs.foldl (fun l x => l.take x.1 ++ leBytes x.2.1 x.2.2 ++ l.drop (x.1 + x.2.1)) l

/-- A VOICE_SET payload: rate class 0, no adapter, 64 embedding elements at 0x10000. -/
def entry : List Byte := putAt (List.replicate 40 0#8) [(8, 8, 0x10000), (0x10, 2, 64)]

theorem wit_VoiceTable :
    (up.accepts (.voiceSet hd 0 entry) hd ∧ up.voiceSetCheck 0 entry = 0) ∧
    (up.accepts (.voiceSet hd 1 (List.replicate 40 0#8)) hd ∧ up.voiceSetCheck 1 (List.replicate 40 0#8) ≠ 0) ∧
    (let s := { up with mem := [(128 * 16383, 1#8)] }
     s.accepts (.voiceClear hd 16383) hd ∧ (s.voice 16383).refcnt = 0 ∧ (s.voice 16383).valid = true ∧
       s.partBad (s.voiceAddr 16383) 1 = none) ∧
    (up.accepts (.voiceClear hd 16384) hd ∧ 16384 ≤ (16384 : Half).toNat) ∧
    (up.accepts (.voiceClear hd 16383) hd ∧ (up.voice 16383).refcnt = 0 ∧ (up.voice 16383).valid = false) ∧
    (let s := { up with mem := [(0, 1#8), (0x2C, 1#8)] }
     s.accepts (.voiceClear hd 0) hd ∧ (s.voice 0).refcnt ≠ 0) := by
  decide +kernel

def runStr : Stream := { strIn .run with dir := { (strIn .run).dir with loc := .resident } }

def frameMsg (size : Word) : FeatureMsg := ⟨0x20000, false, [], 0, size, [List.replicate size.toNat 0#8]⟩

theorem wit_FeatureFrames :
    let s := str runStr
    let w := (s.woken (.feature hd (frameMsg 4))).dirCheck 0
    s.accepts (.feature hd (frameMsg 4)) hd ∧ w.findHandle 0x20000 = some 0 ∧ (w.stream 0).feat.nextE = 0 ∧
      (w.stream 0).dir.state = .run ∧ (w.stream 0).dir.loc = .resident ∧ w.featureCheck 0 (frameMsg 4) ≠ 0 ∧
      s.nextChunk 0 = none := by
  decide +kernel

/-- With no acoustic model a stream's frames have no bytes, so frames of no bytes pass. -/
theorem wit_FeatureFrames_taken :
    let s := { str runStr with cfg := { up.cfg with feature := some ⟨0x100000, 0x100000⟩ } }
    let w := (s.woken (.feature hd (frameMsg 0))).dirCheck 0
    s.accepts (.feature hd (frameMsg 0)) hd ∧ w.findHandle 0x20000 = some 0 ∧ w.featureCheck 0 (frameMsg 0) = 0 ∧
      (frameMsg 0).marks = [] ∧ (frameMsg 0).endFlag = false ∧ (frameMsg 0).first.toNat = (w.stream 0).feat.nextE ∧
      (frameMsg 0).frames ≠ [] ∧ (w.stream 0).dir.state = .run ∧ (w.stream 0).dir.loc = .resident := by
  decide +kernel

/-- An IDLE stream in a slot. -/
def inSlot : Stream := { idleStr with dir := { idleStr.dir with loc := .resident } }

def swapping (e : SwapEng) : State := { str inSlot with swap := [(0, e)] }

/-- Quarter 0 without state pages: stream 1 waits for a slot and stream 0 may have one to give. -/
def noSlots (x : Stream) : State :=
  { (swapping ⟨[.swapIn 1 false 9 0 true], none, none, false, none⟩).setRg .sdirQstate 0 0 with
    streams := [(0, x), (1, { idleStr with dir := { idleStr.dir with loc := .stored } })] }

theorem wit_SwapsRun :
    (let s := swapping ⟨[.swapIn 0 false 9 0 true], none, none, false, none⟩
     (s.engine 0).cur = none ∧ (s.engine 0).queue = [.swapIn 0 false 9 0 true] ∧ s.evictPending 0 = false ∧
       s.roomFor 0 (s.stream 0).dir.cls = .slot 0 0) ∧
    ((noSlots inSlot).roomFor 0 ((noSlots inSlot).stream 1).dir.cls = .evict 0 ∧ (noSlots inSlot).evictPending 0 = false) ∧
    ((noSlots idleStr).roomFor 0 ((noSlots idleStr).stream 1).dir.cls = .none ∧ (noSlots idleStr).evictPending 0 = false) ∧
    (let s := swapping ⟨[.copy 0 1 0 0 true 9], none, none, false, none⟩
     (s.engine 0).cur = none ∧ (s.engine 0).queue = [.copy 0 1 0 0 true 9] ∧ s.flights 0 = [] ∧ (s.stream 0).dir.loc = .resident) ∧
    (let s := swapping ⟨[.swapOut 0], none, none, false, none⟩
     (s.engine 0).queue = [.swapOut 0] ∧ s.candidate 0 = true ∧ s.flights 0 = []) ∧
    ((swapping ⟨[], some (.swapOut 0), none, false, none⟩).engine 0).cur.isSome = true := by
  decide +kernel

theorem wit_SwapsRun_ends :
    (∀ d : Bool, let s := { swapping ⟨[], some (.swapOut 0), none, false, none⟩ with
                            streams := [(0, { runStr with life := { runStr.life with dep := d } })] }
     (s.engine 0).cur = some (.swapOut 0) ∧ (s.stream 0).life.dep = d ∧
       s.badWordsIn (s.slotAddr (s.stream 0)) (slotBytes (s.stream 0).dir.cls) = []) ∧
    (∀ fresh : Bool, let s := swapping ⟨[], some (.swapIn 0 true 9 0 fresh), none, false, none⟩
     (s.engine 0).cur = some (.swapIn 0 true 9 0 fresh) ∧ s.badIn (s.storeAddr 0) (slotBytes (s.stream 0).dir.cls) = [] ∧
       (s.stream 0).feat.marks = []) ∧
    (let s := swapping ⟨[], some (.swapIn 0 true 9 0 false), none, false, none⟩
     let z := { s with memx := { s.memx with badBlocks := [s.storeAddr 0 / 64] } }
     z.badIn (z.storeAddr 0) (slotBytes (z.stream 0).dir.cls) ≠ []) ∧
    (let s := swapping ⟨[], some (.copy 0 1 0 0 true 9), none, false, none⟩
     let z := { s with memx := { s.memx with badWords := [s.slotAddr (s.stream 0)] } }
     (s.engine 0).cur = some (.copy 0 1 0 0 true 9) ∧
       s.badWordsIn (s.slotAddr (s.stream 0)) (slotBytes (s.stream 0).dir.cls) = [] ∧
       z.badWordsIn (z.slotAddr (z.stream 0)) (slotBytes (z.stream 0).dir.cls) ≠ []) := by
  decide +kernel

def openP : OpenParams := ⟨0, 0, 0, 1, 0x100, 0, 0, 0xFFFF, 0, 0⟩

def exportMsg : ExportParams := ⟨0x20000, false, 0, openP⟩

def exportOf (move : Bool) : Export :=
  { move := move, toDevice := false, device := 0, session := 1, tag := 5, opn := openBytes openP, capAt := some 512, queue := [],
    pack := [] }

def exporting (e : Option Export) : State := str { runStr with life := { runStr.life with exportP := e } }

def xferOf (toDevice : Bool) : Xfer :=
  { idx := 0, handle := 0x20000, toDevice := toDevice, srcTick := 512, dest := 3, tag := 5, session := 1, move := false, pack := [],
    msg := none, sentAt := 0, delivered := toDevice, answers := 0 }

theorem wit_PackExports :
    (let s := exporting (some (exportOf false))
     let w := (s.woken (.packExportMove hd exportMsg)).dirCheck 0
     w.findHandle exportMsg.handle.toNat = some 0 ∧ (w.stream 0).life.exportP.isSome = true ∧
       s.accepts (.packExportSnapshot hd exportMsg) hd ∧ s.accepts (.packExportMove hd exportMsg) hd) ∧
    (let s := exporting none
     let w := (s.woken (.packExportMove hd exportMsg)).dirCheck 0
     w.findHandle exportMsg.handle.toNat = some 0 ∧ (w.stream 0).life.exportP = none ∧
       s.accepts (.packExportSnapshot hd exportMsg) hd ∧ s.accepts (.packExportMove hd exportMsg) hd) ∧
    (∀ mv dev : Bool, let e := { exportOf mv with toDevice := dev }
     let s := exporting (some e)
     s.slotParity 0 (s.slotAddr (s.stream 0)) (slotBytes (s.stream 0).dir.cls) = s ∧ (s.stream 0).life.exportP = some e ∧
       e.capAt = some 512 ∧ e.toDevice = dev ∧ (s.stream 0).dir.loc = .resident ∧ s.beforeF 0 512 = false ∧
       s.captureTurn 0 = true) ∧
    ((exporting none).stream 0).life.exportP = none ∧
    (let goes := fun (s : State) (x : Xfer) => x.idx == 0 && s.deliverable x
     (let s := { str runStr with xfers := [xferOf false] }
      s.xfers.find? (goes s) = some (xferOf false) ∧ (xferOf false).toDevice = false) ∧
     (let x := { xferOf true with delivered := false, msg := some 3 }
      let s := { str runStr with xfers := [x] }
      s.xfers.find? (goes s) = some x ∧ x.toDevice = true) ∧
     up.xfers.find? (goes up) = none) := by
  decide +kernel

theorem wit_PacksOverLinks :
    (let o := fun (s : State) =>
       let r := s.importPack (byteAt [] 32 == 1) (carriedOpen ([].take 32)) ([].drop 40) 0 7
       r.2.2.2.sendRouted 3 2 2 7 (resultBody r.1 (numAt [] 36 4) (if r.1 = 0 then r.2.2.2.handle r.2.1 else 0) r.2.2.1)
     (o up).1.loc = false ∧ (o (up.setRg .linkId 0 (2 ^ 31 + 3))).1.loc = true) ∧
    (let s := { str runStr with xfers := [xferOf true] }
     let b := leBytes 4 0 ++ leBytes 4 0x20000 ++ leBytes 8 0
     let named := fun (x : Xfer) => x.toDevice && x.handle == numAt b 4 4 && (x.dest == (3 : Half).toNat || isMulticast x.dest)
     s.xfers.find? named = some (xferOf true) ∧ (xferOf true).delivered = true ∧ isMulticast (xferOf true).dest = false ∧
       up.xfers.find? named = none ∧
       (let y := { xferOf true with delivered := false }
        [y].find? named = some y ∧ isMulticast y.dest = false ∧ y.delivered = false) ∧
       (let y := { xferOf true with dest := 49152 }
        [y].find? named = some y ∧ isMulticast y.dest = true)) ∧
    (let late := fun (s : State) (x : Xfer) => x.toDevice && x.handle == 0x20000 && decide (x.sentAt + 1000000000 ≤ s.uptime)
     let at_ := fun (x : Xfer) (n : Nat) => ({ str runStr with xfers := [x], uptime := n } : State)
     (at_ (xferOf true) 999999999).xfers.find? (late (at_ (xferOf true) 999999999)) = none ∧
       ∀ mv : Bool, ∀ k ∈ [0, 1],
         let x := { xferOf true with move := mv, answers := k }
         (at_ x 1000000000).xfers.find? (late (at_ x 1000000000)) = some x ∧ x.answers = k ∧ x.move = mv) := by
  decide +kernel

def model (id : Nat) (aco : Bool) : Model :=
  { pitch := 0, id := id, acoustic := aco, ctx := 0, addr := 0x1000, len := 192, hash := List.replicate 32 0#8, stateBytes := 0,
    w := 0, we := 0, chain := 0, pages := [], staging := [], staged := [], split := false, overBytes := 0, stage := .usable, first := false,
    unload := false }

/-- Pitch 0 with two models, which voice 0 names. -/
def voiced : State :=
  { up with pitches := [(0, { Pitch.blank with built := true, qmask := 1 })], models := [model 0 true, model 1 false],
            mem := [(0, 1#8), (6, 1#8)] }

/-- A CRC whose register is evaluated byte by byte. -/
def crcF (poly : Nat) : List Byte → Nat → Nat
  | [], c => c
  | x :: t, c =>
    match crcLsbByte poly c x with
    | 0 => crcF poly t 0
    | n + 1 => crcF poly t (n + 1)

theorem crcF_eq (poly : Nat) (bs : List Byte) (c : Nat) : crcF poly bs c = bs.foldl (crcLsbByte poly) c := by
  induction bs generalizing c with
  | nil => rfl
  | cons x t ih =>
    simp only [crcF, List.foldl_cons]
    split <;> rename_i h <;> rw [h, ih]

theorem crc32c_eq (bs : List Byte) : crc32c bs = crcF 0x82F63B78 bs 0xFFFFFFFF ^^^ 0xFFFFFFFF := by rw [crcF_eq]; rfl

theorem crc32_eq (bs : List Byte) : crc32 bs = crcF 0xEDB88320 bs 0xFFFFFFFF ^^^ 0xFFFFFFFF := by rw [crcF_eq]; rfl

/-- The pack of a BE stream of 16 lanes at its first sample: three sections, the states empty. -/
def packWith (crc : Nat) : List Byte :=
  putAt (List.replicate 0x140 0#8)
    [(0, 4, 0x4B505850), (4, 2, 3), (6, 2, 192), (8, 4, 0x140), (0xC, 4, crc), (0x10, 2, 16), (0x12, 1, 9), (0x14, 2, 3),
     (0xC0, 2, 1), (0xC4, 4, 0x100), (0xC8, 4, 64), (0xD0, 2, 2), (0xD4, 4, 0x140), (0xE0, 2, 3), (0xE4, 4, 0x140)]

def pack0 : List Byte := packWith 0x41175fee

theorem wit_PackImports_refused :
    (up.accepts (.packImport hd 0 openP []) hd ∧ parsePack [] = none) ∧
    (up.accepts (.packImport hd 0 openP (packWith 0)) hd ∧ parsePack (packWith 0) ≠ none ∧
      packCrc (packWith 0) ≠ numAt (packWith 0) 0xC 4) := by
  rw [packCrc, crc32c_eq]
  decide +kernel

theorem wit_PackImports :
    ∃ k, voiced.accepts (.packImport hd 1 openP pack0) hd ∧ parsePack pack0 = some k ∧ packCrc pack0 = numAt pack0 0xC 4 ∧
      k.faulted = false ∧
      (let v := (voiced.woken (.packImport hd 1 openP pack0)).openReads
       v.openCheck openP = .be (model 0 true) (model 1 false) ∧ v.importTail k openP (1#8 == 1) (model 0 true) (model 1 false) = 0) := by
  refine ⟨(parsePack pack0).getD ⟨0, 0, false, false, false, false, false, 0, 0, 0, 0, [], [], [], 0, 0, [], [], [], [], [], []⟩, ?_⟩
  rw [packCrc, crc32c_eq]
  decide +kernel

/-! ### Statements on Turnstiles, executions, images, Pitches and contexts -/

/-- A Turnstile argument of 3. -/
def withTsts (t : Tab Tstl) : State := { up.setRg .schedTstlArg 0 3 with tstl := t }

theorem wit_TurnstileOperations :
    (((withTsts []).tst 16383).bound = none ∧ (withTsts []).fld .schedTstlArg 0 23 0 ≠ 0 ∧ ((withTsts []).tst 16383).armed = false) ∧
    up.fld .schedTstlArg 0 23 0 = 0 ∧
    (let s := withTsts [(0, ⟨0xFFFFFFFF, 5, true, true, true, none⟩)]
     (s.tst 0).bound = none ∧ (s.tst 0).armed = true) ∧
    ((withTsts [(0, ⟨0, 5, true, false, false, some 9⟩)]).tst 0).bound.isSome = true := by
  decide +kernel

/-- An image of one task in its step subgraph: header at 0, subgraphs at 0x50, the task at 0x60, its argument at 0x80 (a
Kiosk task's BOUND of tile 0 at 0x88), a Kiosk word at 0xA0. -/
def image (kind tiles word : Nat) : List Byte :=
  putAt (List.replicate 0xB0 0#8)
    [(8, 4, 0xB0), (0xE, 2, 1), (0x2C, 2, 1), (0x34, 4, 0x50), (0x38, 4, 0x60), (0x48, 4, 0x80), (0x4C, 4, 0xA0), (0x52, 2, 1),
     (0x60, 1, kind), (0x78, 4, 16), (0x7C, 2, tiles), (0x88, 4, 0xA0), (0xA0, 4, word)]

def task0 : TaskSt :=
  { pend := 0, tile := 0, phase := .running, unit := none, saved := [], waitT := none, mark := none, direct := false }

def exec0 : Exec :=
  { id := 5, sub := .step, pitch := 0, ctx := 0, model := 1, quarter := 0, be := false, rows := [], released := false, waited := false,
    relTick := 0, relCycle := 0, deadline := 0, tasks := [task0], bound := [], fetches := 0, cancelled := false,
    before := [], firstTile := none, preempts := 0, cycles := 0, missAt := none }

def ctx0 (st : CState) : Ctx := { Ctx.blank with state := st }

/-- Pitch 0 with one execution of an image in a RESIDENT context, and a pool of four Turnstiles. -/
def running (e : Exec) (img : List Byte) : State :=
  { (tk lockedDom).setRg .schedTstlPool 0 (4 * 65536) with
    pitches := [(0, { Pitch.blank with built := true, qmask := 1 })], ctxs := [(0, ctx0 .resident)],
    models := [{ model 1 false with len := img.length }], mem := Memory.write [] 0x1000 img, execs := [e] }

theorem wit_ExecutionsAreReleased :
    (let s := running exec0 (image 1 1 0)
     s.exec? 5 = some exec0 ∧ exec0.released = false ∧ exec0.cancelled = false ∧ exec0.sub ≠ .chunk ∧
       (s.ctx exec0.ctx).state = .resident ∧ s.noRelease exec0.pitch = false ∧
       imgTstlCnt (s.execImg exec0) ≤ ((s.freePool exec0.pitch).take (imgTstlCnt (s.execImg exec0))).length) ∧
    (let s := (running exec0 (image 1 1 0)).setRg .schedTstlPool 0 0
     s.exec? 5 = some exec0 ∧ (s.ctx exec0.ctx).state = .resident ∧ s.noRelease exec0.pitch = false ∧ exec0.waited = false ∧
       ((s.freePool exec0.pitch).take (imgTstlCnt (s.execImg exec0))).length < imgTstlCnt (s.execImg exec0)) ∧
    (let e := { exec0 with waited := true }
     let s := (running e (image 1 1 0)).setRg .schedTstlPool 0 0
     s.exec? 5 = some e ∧ e.waited = true ∧ e.released = false ∧ e.cancelled = false ∧ s.noRelease e.pitch = false ∧
       ((s.freePool e.pitch).take (imgTstlCnt (s.execImg e))).length < imgTstlCnt (s.execImg e)) ∧
    (let e := { exec0 with sub := .chunk }
     let s := running e (image 1 1 0)
     s.exec? 5 = some e ∧ s.heldPitch e.pitch = false ∧ (s.ctx e.ctx).state = .resident) ∧
    up.exec? 5 = none ∧ up.noRelease 0 = true ∧
    (let s := running exec0 []
     s.noRelease 0 = false ∧ s.streamsWhere (fun x => x.dir.be && x.dir.pitch == 0) = []) := by
  decide +kernel

def unit0 (k : UnitKind) : UnitRun :=
  { quarter := 0, kind := k, unit := 0, exec := 5, task := 0, running := true, start := 0, acc := [], stall := none }

def tiling (k : UnitKind) (kind : Nat) (cancelled : Bool) : State :=
  { running { exec0 with released := true, cancelled := cancelled } (image kind 1 0) with units := [unit0 k] }

theorem wit_TilesRun :
    (∀ p ∈ [(UnitKind.gate, 1), (.expand, 2), (.gate, 5)],
      let s := tiling p.1 p.2 false
      let e := { exec0 with released := true }
      p.1 ≠ .kiosk ∧ s.unitRun 0 p.1 0 = some (unit0 p.1) ∧ s.exec? 5 = some e ∧ (s.execModel e).isSome = true ∧
        (imgTask (s.execImg e) ((imgSub (s.execImg e) (subNo e.sub)).1 + 0)).kind = p.2 ∧ s.memx.badWords = []) ∧
    (let s := tiling .gate 1 true
     let e := { exec0 with released := true, cancelled := true }
     s.unitRun 0 .gate 0 = some (unit0 .gate) ∧ s.exec? 5 = some e ∧
       (imgTask (s.execImg e) ((imgSub (s.execImg e) (subNo e.sub)).1 + 0)).kind ≠ 3 ∧ s.bit .dbgTraceCtl 0 0 = false) ∧
    (let s := { tiling .square 0 false with cycle := 65536 }
     s.unitRun 0 .square 0 = some (unit0 .square) ∧ (unit0 .square).start + 65536 ≤ s.cycle) ∧
    (let s := { tiling .kiosk 3 false with cycle := 65536, kiosks := [(0, { Kiosk.reset with halt := true })] }
     s.unitRun 0 .kiosk 0 = some (unit0 .kiosk) ∧ (s.kiosk (kioskOf 0 0)).halted = true ∧
       (imgTask (s.execImg exec0) ((imgSub (s.execImg exec0) (subNo exec0.sub)).1 + 0)).kind = 3) ∧
    (let s := { tiling .square 0 false with cycle := 65535 }
     s.unitRun 0 .square 0 = some (unit0 .square) ∧ s.cycle < (unit0 .square).start + 65536) ∧
    (let s := { tiling .square 0 false with models := [] }
     s.unitRun 0 .square 0 = some (unit0 .square) ∧ (s.exec? 5).isSome = true ∧ (s.exec? 5).bind s.execModel = none) ∧
    up.unitRun 0 .square 0 = none ∧
    (tiling .kiosk 4 false).unitRun 0 .kiosk 0 = some (unit0 .kiosk) ∧
    (imgTask ((tiling .kiosk 4 false).execImg exec0) ((imgSub ((tiling .kiosk 4 false).execImg exec0) (subNo exec0.sub)).1 + 0)).kind = 4 := by
  decide +kernel

/-- No word of memory is bad, so no tile waits for one. -/
theorem wit_TilesRun_reads (k : UnitKind) (n : Nat) (u : UnitRun) (e : Exec) (b : Img) (g : Nat) (r : TaskRec) (m : Model) :
    let s := tiling k n false
    (s.tileParity e.id (s.tileBadWords (s.tileReads u e b g r m))).2 = false := rfl

theorem wit_TilesRun_square :
    let s := tiling .square 0 false
    let e := { exec0 with released := true }
    s.unitRun 0 .square 0 = some (unit0 .square) ∧ s.exec? 5 = some e ∧ (s.execModel e).isSome = true ∧
      (imgTask (s.execImg e) ((imgSub (s.execImg e) (subNo e.sub)).1 + 0)).kind = 0 := by
  decide +kernel

def cancelling (fetches : Nat) : Exec := { exec0 with cancelled := true, fetches := fetches, bound := [2] }

theorem wit_Cancellation :
    (let e := cancelling 1
     (running e []).exec? 5 = some e ∧ e.cancelled = true ∧ e.fetches ≠ 0) ∧
    (let e := cancelling 0
     (running e []).exec? 5 = some e ∧ e.cancelled = true ∧ e.fetches = 0 ∧ (running e []).runningOf 5 = []) ∧
    (let s := { up with pitches := [(15, { Pitch.blank with stopCycle := some 10 })], cycle := 4106 }
     (s.pitch 15).stopCycle = some 10 ∧ 10 + 4096 ≤ s.cycle ∧ (s.pitch 15).resetMsg = none) ∧
    (let m : PendMsg := ⟨.resetPitch hd 15, 1⟩
     let s := { up with pitches := [(15, { Pitch.blank with stopCycle := some 10, resetMsg := some m })], cycle := 4106 }
     (s.pitch 15).stopCycle = some 10 ∧ 10 + 4096 ≤ s.cycle ∧ (s.pitch 15).resetMsg = some m) ∧
    (let s := { up with pitches := [(15, { Pitch.blank with stopCycle := some 10 })], cycle := 4105 }
     (s.pitch 15).stopCycle = some 10 ∧ s.cycle < 10 + 4096) ∧
    ((running exec0 []).exec? 5 = some exec0 ∧ exec0.cancelled = false) ∧
    (let s := { running (cancelling 0) [] with units := [unit0 .square] }
     s.exec? 5 = some (cancelling 0) ∧ s.runningOf 5 ≠ []) := by
  decide +kernel

def copying : State := { voiced with models := [{ model 0 true with stage := .copying }] }

theorem wit_GraphLoads :
    (let s := running exec0 []
     s.accepts (.graphLoad hd 0 0 0x4000) hd ∧ (s.pitch 0).built = true ∧ (s.ctx 0).state = .resident ∧ (s.ctx 0).pitch = 0) ∧
    (∀ be : Bool, let s := { voiced with ctxs := [(1023, { ctx0 .registered with be := be })] }
     s.accepts (.graphLoad hd 0 1023 0x4000) hd ∧ (s.pitch 0).built = true ∧ (s.ctx 1023).state = .registered ∧
       (s.ctx 1023).pitch = 0 ∧ (s.ctx 1023).be = be) ∧
    (let s := { voiced with ctxs := [(1023, ctx0 .registered)] }
     let w := s.woken (.graphLoad hd 0 1023 0x4000)
     (w.admitCtx 1023).isSome = true ∧ ((w.admitCtx 1023).map (fun t => (t.ctx 1023).state)) = some .arriving) ∧
    (let s := { voiced with ctxs := [(1023, { ctx0 .registered with wPages := 300 })] }
     ((s.woken (.graphLoad hd 0 1023 0x4000)).admitCtx 1023).isNone = true) ∧
    (let s := { voiced with ctxs := [(1023, ctx0 .faulted)] }
     s.accepts (.graphLoad hd 0 1023 0x4000) hd ∧ (s.ctx 1023).state = .faulted ∧ s.accepts (.graphLoad hd 0 1024 0x4000) hd) := by
  decide +kernel

theorem wit_GraphLoads_more :
    (up.accepts (.graphLoad hd 16 0 0) hd ∧ ¬ ((16 : Byte).toNat < 16 ∧ (up.pitch 16).built = true)) ∧
    (find1 copying.models (fun x => x.pitch == 0 && x.stage == .copying) = some { model 0 true with stage := .copying } ∧
      copying.memx.badBlocks = []) ∧
    (voiced.accepts (.graphUnload hd 0 1) hd ∧ (voiced.pitch 0).built = true ∧ (voiced.model 0 1).isSome = true ∧
      voiced.modelUsers 0 1 = []) ∧
    (up.accepts (.graphUnload hd 0 1) hd ∧ (up.pitch 0).built = false) ∧
    (voiced.accepts (.graphUnload hd 0 9) hd ∧ voiced.model 0 9 = none) ∧
    (let s := { voiced with streams := [(0, idleStr)] }
     s.accepts (.graphUnload hd 0 0) hd ∧ (s.model 0 0).isSome = true ∧ s.modelUsers 0 0 ≠ []) ∧
    (let m := { model 1 false with unload := true }
     let s := { voiced with models := [m] }
     s.model 0 1 = some m ∧ m.unload = true ∧ m.stage = .usable ∧ s.execs = []) ∧
    up.model 0 1 = none ∧ find1 up.models (fun x => x.pitch == 0 && x.stage == .copying) = none := by
  decide +kernel

theorem wit_GraphLoads_copy (a n : Nat) : copying.badIn a n = [] := rfl

/-- The copy of a model whose resident weights have a bad block. -/
theorem wit_GraphLoads_bad :
    let s := { copying with memx := { MemX.reset with badBlocks := [0x2000 / 64] } }
    s.badIn 0x2000 64 ≠ [] := by
  decide +kernel

def buildMsg : BuildParams := ⟨15, 1, 0, 0, 0, 0x8001⟩

theorem wit_PitchesAreBuilt :
    (up.accepts (.pitchBuild hd buildMsg) hd ∧ buildCheck up buildMsg = 0) ∧
    (let b : BuildParams := ⟨16, 1, 0, 0, 0, 0x8001⟩
     up.accepts (.pitchBuild hd b) hd ∧ buildCheck (up.woken (.pitchBuild hd b)) b ≠ 0) ∧
    ((up.pitch 15).building = false ∧ up.accepts (.pitchDissolve hd 16) hd ∧ ¬ ((16 : Byte).toNat < 16 ∧ (up.pitch 16).built = true)) ∧
    (({ up with pitches := [(0, { Pitch.blank with building := true })] } : State).pitch 0).building = true ∧
    (voiced.accepts (.pitchDissolve hd 0) hd ∧ (voiced.pitch 0).built = true ∧ voiced.ctxOf 0 (fun c => c.state != .free) = []) ∧
    (let s := running exec0 []
     s.accepts (.pitchDissolve hd 0) hd ∧ (s.pitch 0).built = true ∧ s.ctxOf 0 (fun c => c.state != .free) ≠ []) := by
  decide +kernel

def ctxMsg : CtxParams := ⟨1023, 0, 0, 1, 0, 0, 0⟩

def withCtx (x : Ctx) : State := { voiced with ctxs := [(3, x)] }

theorem wit_ContextMessages :
    (voiced.accepts (.ctxRegister hd ctxMsg) hd ∧ ctxCheck voiced ctxMsg = 0) ∧
    (let c : CtxParams := ⟨1024, 0, 0, 1, 0, 0, 0⟩
     voiced.accepts (.ctxRegister hd c) hd ∧ ctxCheck (voiced.woken (.ctxRegister hd c)) c ≠ 0) ∧
    (let s := withCtx { ctx0 .registered with be := true }
     s.accepts (.ctxAdmit hd 3) hd ∧ (s.ctx 3).state ≠ .free ∧ (s.ctx 3).be = true) ∧
    (let s := withCtx (ctx0 .resident)
     s.accepts (.ctxAdmit hd 3) hd ∧ (s.ctx 3).be = false ∧ (s.ctx 3).state ≠ .registered) ∧
    (let s := withCtx { ctx0 .registered with granting := some (0, 0) }
     s.accepts (.ctxAdmit hd 3) hd ∧ (s.ctx 3).state = .registered ∧ (s.ctx 3).granting ≠ none) ∧
    (let s := withCtx { ctx0 .registered with wPages := 300 }
     s.accepts (.ctxAdmit hd 3) hd ∧ (s.ctx 3).granting = none ∧ ((s.woken (.ctxAdmit hd 3)).makeRoom 3).isNone = true) ∧
    (((withCtx (ctx0 .registered)).woken (.ctxAdmit hd 3)).makeRoom 3).isSome = true := by
  decide +kernel

theorem wit_ContextMessages_more :
    (let s := withCtx (ctx0 .registered)
     s.accepts (.ctxAdmit hd 3) hd ∧ (s.ctx 3).state = .registered ∧ (s.ctx 3).be = false ∧ (s.ctx 3).granting = none ∧
       s.fits 3 [] = some (0, 0) ∧ s.loads = []) ∧
    (let s := withCtx (ctx0 .faulted)
     s.accepts (.ctxTeardown hd 3) hd ∧ (s.ctx 3).state ≠ .free) ∧
    (up.accepts (.ctxAdmit hd 1024) hd ∧ up.accepts (.ctxTeardown hd 1024) hd ∧ ¬ ((1024 : Half).toNat < 1024)) ∧
    (let s := withCtx (ctx0 .leaving)
     (s.ctx 3).state = .leaving ∧ s.execs = [] ∧
       (∀ q ∈ s.quarters (s.ctx 3).pitch, s.badWordsIn (s.shareBase 3 q) ((s.ctx 3).kPages * 65536) = [])) ∧
    (let s := { withCtx (ctx0 .arriving) with models := [] }
     (s.ctx 3).state = .arriving ∧ (s.ctx 3).restored = false ∧
       s.badIn (s.ctx 3).spill ((s.ctx 3).kPages * 65536 * (s.quarters (s.ctx 3).pitch).length) = []) ∧
    (let s := { withCtx { ctx0 .arriving with kPages := 1 } with memx := { MemX.reset with badBlocks := [0] } }
     (s.ctx 3).state = .arriving ∧ (s.ctx 3).restored = false ∧
       s.badIn (s.ctx 3).spill ((s.ctx 3).kPages * 65536 * (s.quarters (s.ctx 3).pitch).length) ≠ []) ∧
    (let s := withCtx { ctx0 .leaving with kPages := 1 }
     let z := { s with memx := { MemX.reset with badWords := [s.shareBase 3 0] } }
     (z.ctx 3).state = .leaving ∧ z.execs = [] ∧
       (z.quarters (z.ctx 3).pitch).flatMap (fun q => z.badWordsIn (z.shareBase 3 q) ((z.ctx 3).kPages * 65536)) ≠ []) ∧
    ((withCtx (ctx0 .resident)).ctx 3).state ≠ .leaving ∧ ((withCtx (ctx0 .resident)).ctx 3).state ≠ .arriving := by
  decide +kernel

theorem wit_ContextMessages_granting (d : Nat) : ((withCtx (ctx0 .leaving)).ctx d).granting = none := by
  simp only [State.ctx, withCtx, Tab.getD, Tab.get?]
  split <;> rfl

/-! ### Statements on Kiosks -/

def wordOf (c : Instr) : Nat := ((kioskWord c).map (fun p => p.2)).getD 0

/-- Kiosk 0 runs a tile whose word is `word`; A1 is 9. -/
def onKiosk (word tiles : Nat) (f : Kiosk → Kiosk) : State :=
  { running exec0 (image 3 tiles word) with
    kiosks := [(0, f ({ Kiosk.reset with exec := some 5, run := .run, pc := 0xA0 }.wA 1 9))] }

/-- The same with the word of an instruction. -/
def onK (c : Instr) (tiles : Nat := 2) (f : Kiosk → Kiosk := id) : State := onKiosk (wordOf c) tiles f

/-- A Kiosk issues the instruction of its word. -/
abbrev runs (c : Instr) (tiles : Nat := 2) (f : Kiosk → Kiosk := id) : Prop :=
  kioskWord c = some (0, wordOf c) ∧ (onK c tiles f).issues 0 (wordOf c) = true ∧ kioskLegal c = true

theorem kRuns_of_runs {c : Instr} {tiles : Nat} {f : Kiosk → Kiosk} (h : runs c tiles f) : (onK c tiles f).kRuns 0 c := ⟨_, h⟩

theorem wit_KioskRegisters :
    Kiosk.reset.a.length = 32 ∧ Kiosk.reset.m.length = 8 ∧ Kiosk.reset.v.length = 32 := by
  decide

def fi : FI := ⟨1, 2, 0x8000⟩
/-- A system instruction's fields, of which each names only some. -/
def fs (a b : BitVec 5) (imm : BitVec 16) : FS := ⟨a, b, imm⟩
def fb : FB := ⟨1, 2, 0xFFFF⟩
def fm (msk : BitVec 3) (sz : BitVec 2) : FM := ⟨1, 2, msk, sz, 1⟩
def fv (fn ty : BitVec 4) : FV := ⟨2, 4, 1, 0, fn, ty⟩
def fv1 (fn ty : BitVec 4) : FV := ⟨2, 4, 0, 0, fn, ty⟩

theorem wit_KioskScalars :
    (∀ c ∈ [Instr.addi 0 fi, .lui 0 { fi with a := 0 }, .jal 0 { fi with a := 0 }, .jr 0 ⟨0, 2, 0⟩, .kCsr 0 (fs 1 0 6),
            .kOpr 0 (fs 1 0 63), .kNop 0 (fs 0 0 0), .beq 0 fb, .bne 0 fb, .blt 0 fb, .bltu 0 fb], runs c) ∧
    (∀ fn ∈ [0, 1, 2, 7, 8, 9, 10, 11, 12, 14, 15], runs (.salu 0 (fv fn 0))) ∧
    (((onK (.salu 0 (fv 10 0))).kiosk 0).rA 1).toNat < 64 ∧
    (let f := fun (x : Kiosk) => x.wA 1 64
     runs (.salu 0 (fv 12 0)) 2 f ∧ 64 ≤ (((onK (.salu 0 (fv 12 0)) 2 f).kiosk 0).rA 1).toNat) := by
  decide +kernel

theorem wit_KioskVectors :
    (∀ c ∈ [Instr.valu 0 (fv 13 3), .vfma 0 (fv 0 3), .klog2 0 (fv1 0 0), .kexp2 0 (fv1 1 0), .ksqrt 0 (fv1 2 0),
            .krcp 0 (fv1 3 0), .ksincosTurn 0 (fv1 4 0), .vcmp 0 (fv 3 2), .vcvt 0 (fv 0 0), .vmovs 0 (fv1 0 0),
            .vmovs 0 { fv1 1 0 with a := 0 }, .vmovs 0 (fv 2 0), .vred 0 (fv1 0 3)], runs c) ∧
    (0 < (fv 3 2).d.toNat ∧ ((onK (.vcmp 0 (fv 3 2))).kiosk 0).m.length = 8 ∧
      (((onK (.vcmp 0 (fv 3 2))).kiosk 0).rM 0).getLsbD 31 = true) ∧
    cvtPair (fv 0 0) = false ∧
    (∃ fn ∈ List.range 6, ∃ ty ∈ List.range 16,
      runs (.vcvt 0 (fv (BitVec.ofNat 4 fn) (BitVec.ofNat 4 ty))) ∧ cvtPair (fv (BitVec.ofNat 4 fn) (BitVec.ofNat 4 ty)) = true) ∧
    (((onK (.vmovs 0 (fv 2 0))).kiosk 0).rA 1).toNat < 32 ∧
    (let f := fun (x : Kiosk) => x.wA 1 32
     runs (.vmovs 0 (fv 2 0)) 2 f ∧ 32 ≤ (((onK (.vmovs 0 (fv 2 0)) 2 f).kiosk 0).rA 1).toNat) := by
  decide +kernel

theorem wit_KioskLoadsAndStores :
    (∀ c ∈ [Instr.ld 0 (fm 0 3), .st 0 (fm 0 0), .vld 0 (fm 1 0), .vst 0 (fm 1 0), .vgather 0 (fv 0 0), .vscatter 0 (fv 0 0)], runs c) ∧
    (let f := fun (x : Kiosk) => x.wA 2 1
     runs (.ld 0 (fm 0 1)) 2 f ∧ ((onK (.ld 0 (fm 0 1)) 2 f).kiosk 0).scalarAddr (fm 0 1) % 2 ^ (fm 0 1).sz.toNat ≠ 0 ∧
       runs (.st 0 (fm 0 3)) 2 f ∧ ((onK (.st 0 (fm 0 3)) 2 f).kiosk 0).scalarAddr (fm 0 3) % 2 ^ (fm 0 3).sz.toNat ≠ 0) := by
  decide +kernel

def cline : CLine := ⟨0x2000, List.replicate 64 1#8, List.replicate 64 false, []⟩

theorem wit_KioskCaches :
    runs (.kFlush 0 (fs 1 2 0)) ∧ runs (.kInv 0 (fs 1 2 0)) ∧
    (let s := onKiosk 0 2 (fun x => { x with lines := [cline] })
     (s.kiosk 0).lines = [cline] ∧ cline.addr = 0x203F / 64 * 64 ∧ cline.isDirty = false ∧ (s.kiosk 0).flight = [] ∧
       (s.kiosk 0).wbuf = []) ∧
    (Kiosk.reset.wbuf.length < 8) := by
  decide +kernel

/-- A0 names Turnstile 0, in the pool; A1 names 9, outside it. -/
theorem wit_KioskSynchronisation :
    (∀ c ∈ [Instr.kPass 0 (fs 0 0 1), .kWait 0 (fs 0 0 0), .kArm 0 (fs 0 2 0), .kTrst 0 (fs 0 0 0)],
      runs c ∧ (onK c).inPool ((onK c).kioskPitch 0) (((onK c).kiosk 0).tstIdx 0) = true ∧ (((onK c).kiosk 0).rA 2).toNat < 2 ^ 24) ∧
    (let f := fun (x : Kiosk) => x.wA 2 0x1000000
     runs (.kArm 0 (fs 0 2 0)) 2 f ∧ 2 ^ 24 ≤ (((onK (.kArm 0 (fs 0 2 0)) 2 f).kiosk 0).rA 2).toNat) ∧
    (∀ c ∈ [Instr.kPass 0 (fs 1 0 1), .kWait 0 (fs 1 0 0), .kArm 0 (fs 1 2 0), .kTrst 0 (fs 1 0 0)],
      runs c ∧ (onK c).inPool ((onK c).kioskPitch 0) (((onK c).kiosk 0).tstIdx 1) = false) := by
  decide +kernel

theorem wit_KioskSynchronisation_ends :
    runs (.kFence 0 (fs 0 0 0)) ∧
    (runs (.kEnd 0 (fs 0 0 0)) 1 ∧ (onK (.kEnd 0 (fs 0 0 0)) 1).lastTile 0 = true) ∧
    (runs (.kEnd 0 (fs 0 0 0)) 2 ∧ (onK (.kEnd 0 (fs 0 0 0)) 2).lastTile 0 = false) ∧
    (∀ a ∈ [0, 1, 3], let c := Instr.kYield 0 (fs (BitVec.ofNat 5 a) 0 0)
      runs c ∧ (onK c).lastTile 0 = false ∧ ((onK c).kiosk 0).pc = (onK c).boundPc 0) ∧
    (runs (.kYield 0 (fs 0 0 0)) 1 ∧ (onK (.kYield 0 (fs 0 0 0)) 1).lastTile 0 = true) := by
  decide +kernel

theorem wit_KioskSynchronisation_waits :
    (let s := { onKiosk 0 2 (fun x => { x with run := .wait, waitT := 2 }) with tstl := [(2, ⟨5, 5, true, true, false, some 5⟩)] }
     (s.kiosk 0).run = .wait ∧ s.tstMet (s.kiosk 0).waitT = true ∧ (s.kiosk 0).halt = false) ∧
    (let s := onKiosk 0 2 (fun x => { x with run := .wait, waitT := 2 })
     (s.kiosk 0).run = .wait ∧ s.tstMet (s.kiosk 0).waitT = false) ∧
    (let s := onKiosk 0 2 (fun x => { x with run := .release, rel := some .fence })
     (s.kiosk 0).run = .release ∧ (s.kiosk 0).rel = some .fence ∧ ((onKiosk 0 2 id).kiosk 0).run ≠ .release) ∧
    (∀ rel ∈ [KRel.fin, .yield],
      let s := onKiosk 0 2 (fun x => { x with run := .release, rel := some rel })
      (s.kiosk 0).run = .release ∧ (s.kiosk 0).rel = some rel ∧ (s.landRelease 0).unitRun 0 .kiosk 0 = none) ∧
    (∀ rel ∈ [KRel.fin, .yield],
      let s := { onKiosk 0 2 (fun x => { x with run := .release, rel := some rel }) with units := [unit0 .kiosk] }
      (s.kiosk 0).rel = some rel ∧ ((s.landRelease 0).unitRun 0 .kiosk 0).isSome = true ∧
        ((s.landRelease 0).kioskTask 0).isSome = true) ∧
    (let s := onKiosk 0 2 (fun x => { x with run := .release, rel := some (.pass 2 1) })
     (s.kiosk 0).run = .release ∧ (s.kiosk 0).rel = some (.pass 2 1) ∧ (s.kiosk 0).halt = false ∧ (s.kiosk 0).flight = [] ∧
       (s.kiosk 0).wbuf = [] ∧ (s.kiosk 0).lines = []) := by
  decide +kernel

theorem wit_KioskExceptions :
    ((onKiosk 0xFC000000 2 id).issues 0 0xFC000000 = true ∧ kioskDecode 0 0xFC000000 = none) ∧
    up.issues 0 0xFC000000 = false ∧
    (let c := Instr.kPass 0 (fs 0 0 0)
     kioskWord c = some (0, wordOf c) ∧ (onK c).issues 0 (wordOf c) = true ∧ kioskLegal c = false) ∧
    (let c := Instr.addi 0 fi
     kioskDecode 0 (wordOf c) = some c ∧ kioskLegal c = true ∧ ((onK c).fetchWord 0).isSome = true) ∧
    (let s := onKiosk 0 2 (fun x => { x with pc := 0xB0 })
     s.kioskRuns 0 = true ∧ (s.kiosk 0).halt = false ∧ s.fetchWord 0 = none) ∧
    (let s := { onKiosk 0 2 id with cycle := 2048 }
     (s.kioskTask 0).isSome = true ∧ (s.kiosk 0).run = .run ∧ (s.kiosk 0).halted = false ∧ (s.kiosk 0).start + 2048 ≤ s.cycle) ∧
    ({ onKiosk 0 2 id with cycle := 2047 } : State).cycle < ((onKiosk 0 2 id).kiosk 0).start + 2048 ∧
    (let s := { onKiosk 0 2 (fun x => { x with haltExc := true }) with sec := { Sec.reset with level := 1 } }
     s.sec.level < 2 ∧ (s.kiosk 0).exec = some 5) ∧
    (let s := { onKiosk 0 2 (fun x => { x with haltExc := true }) with sec := { Sec.reset with level := 2 } }
     (s.kiosk 0).haltExc = true ∧ 2 ≤ s.sec.level) := by
  decide +kernel

theorem wit_KioskWordsRoundTrip : kioskWord (.addi 0 fi) = some (0, 0x40228000) := by decide

/-- The three encodings that 11 gives as examples after R288. -/
theorem test_r288_words :
    kioskDecode 0 0xC4821800 = some (.vfma 0 ⟨4, 2, 3, 0, 0, 0⟩) ∧ kioskDecode 0 0x10A00001 = some (.kPass 0 ⟨5, 0, 1⟩) ∧
    kioskDecode 0 0xCCC4383C = some (.vcvt 0 ⟨6, 4, 7, 0, 3, 0xC⟩) ∧ kioskLegal (.vfma 0 ⟨4, 2, 3, 0, 0, 0⟩) = true ∧
    kioskLegal (.kPass 0 ⟨5, 0, 1⟩) = true ∧ kioskLegal (.kPass 0 ⟨5, 0, 0⟩) = false ∧
    kioskLegal (.vcvt 0 ⟨6, 4, 7, 0, 3, 0xC⟩) = true := by
  decide

/-! ### Statements on memory checks, movers, ports and registers -/

/-- A block of zeros at address 0, whose check is 0, and the same with a wrong check. -/
def goodRead : List Byte × BitVec 16 := (List.replicate 64 0#8, 0)
def badRead : List Byte × BitVec 16 := (List.replicate 64 0#8, 1)

theorem crc16_zeros (n : Nat) : crc16 (List.replicate n 0#8) = 0 := by
  induction n with
  | zero => rfl
  | succ n ih => exact ih

theorem zeros_check : blockCheck 0 (List.replicate 64 0#8) = 0 := crc16_zeros 68

theorem wit_BlockReads_passes : goodRead.1.length = 64 ∧ blockCheck (0 : BitVec 48).toNat goodRead.1 = goodRead.2.toNat :=
  ⟨rfl, zeros_check⟩

theorem wit_BlockReads_fails :
    firstGood (0 : BitVec 48).toNat [goodRead] = some 0 ∧ firstGood (0 : BitVec 48).toNat [badRead, goodRead] = some (0 + 1) ∧
    (firstGood (0 : BitVec 48).toNat [badRead, badRead, badRead, badRead, goodRead] = none ∧
      4 ≤ [badRead, badRead, badRead, badRead, goodRead].length) ∧
    (firstGood (0 : BitVec 48).toNat [badRead, badRead, badRead] = none ∧ [badRead, badRead, badRead].length < 4) := by
  simp [-List.reduceReplicate, firstGood, badRead, goodRead, List.zipIdx, zeros_check]

theorem wit_BlockReads :
    (let s := up.setFld .memcScrubCfg 0 0 0 1
     s.bit .memcScrubCfg 0 0 = true ∧ (0 : BitVec 48).toNat / 64 = s.memx.patrol ∧ s.passDue = true) ∧
    (let s := { up.setFld .memcScrubCfg 0 0 0 1 with memx := { MemX.reset with patrol := 0x3E00000000 / 64 - 1 } }
     s.bit .memcScrubCfg 0 0 = true ∧ (0x3DFFFFFFC0 : BitVec 48).toNat / 64 = s.memx.patrol ∧ s.memx.patrol ≠ 0) ∧
    ((up.setFld .memcScrubCfg 0 0 0 0).bit .memcScrubCfg 0 0 = false) ∧
    (let s := { up.setFld .memcCrcCfg 0 15 0 4 with memx := { MemX.reset with retries := ⟨0, 5, 0⟩ } }
     s.fld .memcCrcCfg 0 15 0 ≠ 0 ∧ s.fld .memcCrcCfg 0 15 0 < s.memx.retries.count ∧
       s.memx.retries.warned ≠ s.memx.retries.sec + 1) ∧
    (let s := { up.setFld .memcCrcCfg 0 15 0 4 with memx := { MemX.reset with retries := ⟨0, 4, 0⟩ } }
     ¬ s.fld .memcCrcCfg 0 15 0 < s.memx.retries.count) := by
  decide +kernel

def refetch1 : Refetch := ⟨0, 0x100000F00000, none, none⟩

/-- A model with one page in Quarter 0's weight region. -/
def paged : State :=
  { voiced with models := [{ model 1 false with pages := [0] }], memx := { MemX.reset with refetch := [refetch1] } }

theorem wit_BlockReads_refetch :
    let a := paged.weightBase 0
    let r : Refetch := ⟨0, a, none, none⟩
    let s := { paged with memx := { MemX.reset with refetch := [r] } }
    s.memx.refetch = [r] ∧ r.addr / 64 = (BitVec.ofNat 48 a).toNat / 64 ∧
      s.imageByte 0 ((BitVec.ofNat 48 a).toNat / 64 * 64) = some 0x1000 ∧ s.badIn 0x1000 64 = [] ∧
      { s with memx := { s.memx with badBlocks := [0x1000 / 64] } }.badIn 0x1000 64 ≠ [] := by
  decide +kernel

theorem wit_BlockReads_gone :
    (let s := { paged with models := [] }
     s.imageByte 0 (refetch1.addr / 64 * 64) = none ∧ s.memx.refetch = [refetch1]) ∧
    up.memx.refetch = [] := by
  decide +kernel

/-- Channel 0 with a descriptor at 0x2000 that moves 64 bytes from 0x10000 to 0x20000. -/
def desc0 : Desc := { next := 0x2040, src := 0x10000, dst := 0x20000, ctrl := 64, status := 2 ^ 31 }

def chanIn (c : Chan) : State :=
  { up with chans := [(0, c)],
            mem := Memory.write [] 0x2000 (leBytes 8 desc0.next ++ leBytes 8 desc0.src ++ leBytes 8 desc0.dst ++ leBytes 4 desc0.ctrl
              ++ leBytes 4 desc0.status) }

def chan0 (st : ChState) : Chan := { Chan.reset with state := st }

theorem wit_MoverControl :
    (let s := up.setFld .movrChCtl 255 13 8 1
     (s.chan 255).state = .off ∧ s.enOk 255 = true) ∧
    ((up.setFld .movrChCtl 0 13 8 0).enOk 0 = false ∧ (up.chan 0).state = .off) ∧
    ((chanIn (chan0 .idle)).chan 0).state = .idle ∧ (chanIn (chan0 .idle)).startOk 0 .mgmt = true ∧
    (((chanIn (chan0 .empty)).chan 0).state = .empty ∧ (chanIn (chan0 .empty)).startOk 0 .mgmt = true) ∧
    (∀ st ∈ [ChState.run, .waitTrig, .waitPreq],
      let s := (chanIn (chan0 st)).setFld .movrChCtl 0 1 1 1
      s.chanPause 0 = true ∧ (s.chan 0).state ∈ [.run, .waitTrig, .waitPreq] ∧ (s.chan 0).burst = false ∧ (s.chan 0).held = []) ∧
    (∀ st ∈ [ChState.run, .waitPreq],
      let s := chanIn { chan0 .paused with back := st }
      (s.chan 0).state = .paused ∧ (s.chan 0).back ≠ .waitTrig) ∧
    (∀ ts ∈ [[], [(none, 3)], [(some 5, 7)]],
      let s := chanIn { chan0 .paused with back := .waitTrig, trigs := ts }
      (s.chan 0).state = .paused ∧ (s.chan 0).back = .waitTrig ∧ (s.chan 0).trigs = ts) ∧
    ((chanIn (chan0 .waitTrig)).chan 0).state = .waitTrig ∧
    ((chanIn (chan0 .halted)).chan 0).state = .halted := by
  decide +kernel

/-- The descriptor with other settings. -/
def descWith (d : Desc) (c : Chan) : State :=
  { up with chans := [(0, { c with state := .run, cur := 0x2000 })],
            mem := Memory.write [] 0x2000 (leBytes 8 d.next ++ leBytes 8 d.src ++ leBytes 8 d.dst ++ leBytes 4 d.ctrl
              ++ leBytes 4 d.status) }

theorem wit_MoverDescriptors :
    (let s := chanIn { chan0 .run with cur := 0x2000 }
     (s.chan 0).state = .run ∧ (s.chan 0).desc = none ∧ s.chanPause 0 = false ∧ s.readHalt 0 (s.chan 0).cur 32 1 = none ∧
       s.readDesc 0x2000 = desc0 ∧ desc0.status.testBit 31 = true ∧ desc0.ok (s.chanPeriph 0) = true ∧ desc0.waitTrig = false ∧
       desc0.preq = false) ∧
    (let s := chanIn { chan0 .run with cur := 0x3000 }
     s.readHalt 0 (s.chan 0).cur 32 1 = none ∧ (s.readDesc (s.chan 0).cur).status.testBit 31 = false ∧ s.bit .movrChCtl 0 2 = false) ∧
    (let s := { chanIn { chan0 .run with cur := 0x2000 } with memx := { MemX.reset with badBlocks := [0x2000 / 64] } }
     (s.readHalt 0 (s.chan 0).cur 32 1).isSome = true) ∧
    (let d := { desc0 with ctrl := 0 }
     let s := descWith d Chan.reset
     s.readDesc 0x2000 = d ∧ d.status.testBit 31 = true ∧ d.ok (s.chanPeriph 0) = false) := by
  decide +kernel

/-- Descriptors that wait for a trigger, that a trigger has been taken for, and that wait for a request. -/
theorem wit_MoverDescriptors_waits :
    (let d := { desc0 with ctrl := 64 + 2 ^ 24 }
     let s := descWith d { Chan.reset with trigs := [(none, 3)] }
     s.readDesc 0x2000 = d ∧ d.ok (s.chanPeriph 0) = true ∧ d.waitTrig = true ∧ d.preq = false ∧ (s.chan 0).trigs = [(none, 3)]) ∧
    (let d := { desc0 with ctrl := 64 + 2 ^ 25, src := 0, dst := 0 }
     d.ok 1 = true ∧ d.preq = true ∧ d.waitTrig = false) := by
  decide +kernel

theorem wit_MoverDescriptors_moves :
    (let s := chanIn { chan0 .run with cur := 0x2000, desc := some desc0 }
     let k := min (64 - desc0.dst % 64) desc0.len
     (s.chan 0).pos = 0 ∧ k = 64 ∧ (s.chan 0).held = [] ∧ desc0.list = 0 ∧ desc0.swap = 0 ∧ desc0.preq = false ∧
       s.chanPause 0 = false ∧ (s.chan 0).burst = false ∧
       (∀ j, j < k → s.readHalt 0 ((desc0.src + j) / 64 * 64) 64 0 = none) ∧ s.writeHalt 0 desc0.dst k 0 = none ∧
       s.moverAcc 0 desc0.dst true = .ok) ∧
    (let d := { desc0 with ctrl := 64 + 2 ^ 31 }
     let s := chanIn { chan0 .run with cur := 0x2000, desc := some d, pos := d.len }
     ¬ ((s.chan 0).pos < d.len) ∧ (s.chan 0).state ≠ .waitPreq) ∧
    (let s := (chanIn { chan0 .waitPreq with desc := some desc0 }).setFld .movrChCtl 0 13 8 17
     (s.chan 0).state = .waitPreq ∧ s.chanPause 0 = false ∧ 17 ≤ 17) := by
  decide +kernel

theorem wit_MoverDescriptors_complete :
    (let s := chanIn { chan0 .run with cur := 0x2000, desc := some desc0, pos := 64 }
     (s.chan 0).state = .run ∧ (s.chan 0).desc = some desc0 ∧ (s.chan 0).pos = desc0.len ∧
       s.statusHalt 0 ((s.chan 0).cur + 0x1C) = none ∧ desc0.pass = false ∧ desc0.next.testBit 0 = false ∧
       s.mem.leN ((s.chan 0).cur + 0x1C) 4 = desc0.status ∧ s.moverAcc 0 ((s.chan 0).cur + 0x1C) true = .ok) ∧
    (let s := { chanIn { chan0 .run with cur := 0x2000, desc := some desc0, pos := 64 } with
                memx := { MemX.reset with badBlocks := [0x2000 / 64] } }
     (s.statusHalt 0 ((s.chan 0).cur + 0x1C)).isSome = true) ∧
    (let d := { desc0 with ctrl := 64 + 2 ^ 26, next := 1 }
     let s := ((chanIn { chan0 .run with cur := 0x2000, desc := some d, pos := 64, gen := some 5 }).setRg .movrOwner 0 0).setRg
       .movrChTstl 0 1024
     d.next.testBit 0 = true ∧ d.pass = true ∧ (s.chan 0).gen = some 5 ∧ s.statusHalt 0 ((s.chan 0).cur + 0x1C) = none ∧
       s.chanOwner 0 = some 0 ∧ s.inPool 0 (s.fld .movrChTstl 0 13 0) = false) ∧
    (let s := { (chanIn (chan0 .idle)).setRg .movrChTrig 0 3 with uptime := 1000 }
     let s := s.setRg .movrChTimer 0 1
     (s.chan 0).state = .idle ∧ s.fld .movrChTrig 0 2 0 = 3 ∧ (s.chan 0).trigs.length < 15 ∧ s.bit .movrChCtl 0 2 = false ∧
       (s.chan 0).enTime + ((s.chan 0).timerK + 1) * s.fld .movrChTimer 0 23 0 * 1000 ≤ s.uptime ∧
       ¬ ((s.chan 0).enTime + ((s.chan 0).timerK + 1) * s.fld .movrChTimer 0 23 0 * 1000 ≤ 999)) := by
  decide +kernel

/-- Port 0 with the given settings and state, on a domain that has locked. -/
def portIn (cfg : Nat) (x : Port) : State := { tk lockedDom with ports := [(0, x)] }.setRg .portCfg 0 cfg

theorem wit_PortControl :
    ((portIn 0x10 Port.reset).bit .portCfg 0 0 = false ∧ (portIn 0x10 Port.reset).portEnOk 0 = true) ∧
    ((portIn 0x16 Port.reset).bit .portCfg 0 0 = false ∧ (portIn 0x16 Port.reset).portEnOk 0 = false) ∧
    (portIn 0x11 Port.reset).bit .portCfg 0 0 = true ∧
    (let s := portIn 0x13 Port.reset
     s.bit .portCfg 0 0 = true ∧ s.portClk 0 ≠ 0 ∧ (s.port 0).noclk = false) ∧
    (let s := portIn 0x13 { Port.reset with noclk := true, good := 64 }
     (s.port 0).noclk = true ∧ 64 ≤ (s.port 0).good) ∧
    (let s := portIn 0x11 Port.reset
     let nom := 16 * s.baseRate (s.portDom 0) / s.portPdiv 0
     s.bit .portCfg 0 0 = true ∧ s.portPdiv 0 ≠ 0 ∧ 98 * nom ≤ 100 * nom ∧ 100 * nom ≤ 102 * nom ∧ 100 * 0 < 98 * nom ∧
       102 * nom < 100 * (2 * nom) ∧ s.driven 0 .sdo = true) ∧
    ((portIn 0x10 Port.reset).port 0).noclk = false ∧
    (let s := { portIn 0x11 Port.reset with replay := { Replay.reset with active := true } }
     s.driven 0 .sdo = false) := by
  decide +kernel

theorem wit_PortFrames :
    (let s := portIn 0x13 { Port.reset with primed := true, fifo := List.replicate 8 [1, 2] }
     s.bit .portCfg 0 0 = true ∧ (s.port 0).restart = false ∧ (s.port 0).noclk = false ∧ s.portClk 0 ≠ 0 ∧ s.portFollow 0 = false ∧
       s.portLive 0 = true ∧ (s.port 0).primed = true ∧ 8 ≤ (s.port 0).fifo.length ∧ s.slotsWith 0 2 = [] ∧
       s.portSilent 0 = false) ∧
    (let s := { portIn 0x11 Port.reset with replay := { Replay.reset with active := true } }
     s.bit .portCfg 0 0 = true ∧ s.portClk 0 = 0 ∧ s.portSilent 0 = true) ∧
    (let s := portIn 0x13 { Port.reset with noclk := true, restart := true }
     s.bit .portCfg 0 0 = true ∧ (s.port 0).noclk = true ∧ s.portClk 0 ≠ 0) ∧
    (let f : PortFrame := ⟨[.sdo], [1], []⟩
     let s := { up with dev := { up.dev with bootPorts := [(0, f)] } }
     s.bit .portCfg 0 0 = false ∧ Tab.get? s.dev.bootPorts 0 = some f ∧ Tab.get? up.dev.bootPorts 0 = none) := by
  decide +kernel

theorem wit_PortFrames_received :
    up.bit .portCfg 0 0 = false ∧
    (let s := portIn 0x15 Port.reset
     s.bit .portCfg 0 0 = true ∧ s.portClk 0 = 2 ∧ 255 ≠ s.portSlots 0 * s.slotBits 0) ∧
    (∀ hold : Bool,
      let s := (portIn (if hold then 0x55 else 0x15) { Port.reset with rx := List.replicate 1023 0 }).setRg .portRxEn 0 3
      s.portHold 0 = hold ∧ s.bit .portCfg 0 0 = true ∧ (s.port 0).noclk = false ∧
        1024 - (s.port 0).rx.length < (s.rxSlots 0).length) ∧
    (let s := (portIn 0x15 Port.reset).setRg .portRxEn 0 3
     s.bit .portCfg 0 0 = true ∧ (s.port 0).noclk = false ∧ (s.portClk 0 ≠ 2 ∨ 256 = s.portSlots 0 * s.slotBits 0) ∧
       (s.rxSlots 0).length ≤ 1024 - (s.port 0).rx.length) ∧
    (let s := portIn 0x15 { Port.reset with noclk := true }
     s.bit .portCfg 0 0 = true ∧ (s.port 0).noclk = true ∧ (s.portClk 0 ≠ 2 ∨ 256 = s.portSlots 0 * s.slotBits 0)) := by
  decide +kernel

theorem wit_RegisterAccess :
    regAt 0xFFFFFFFC = none ∧ regAt (RegName.off .secEvt 0) = some (.secEvt, 0, 0) ∧ regAt (RegName.off .movrChEvt 255) = some (.movrChEvt, 255, 0) ∧
    (regAt (RegName.off .tickDiscCnt 1) = some (.tickDiscCnt, 1, 0) ∧ RegName.tickDiscCnt.card.rc ≠ 0) ∧
    RegName.latches .tickDiscCnt = [] ∧ (BitVec.ofNat 32 (RegName.tickCntLo.off 1)).toNat = RegName.tickCntLo.off 1 ∧
    (∀ rq ∈ [Requester.mgmt, .session 1], ∀ wr : Bool, up.mayReach rq (RegName.off .secEvt 0) wr = true) := by
  decide +kernel

theorem wit_RegisterAccess_kiosk :
    up.mayReach (.kiosk 0) (RegName.off .secEvt 0) true = false ∧ up.mayReach (.kiosk 0) (RegName.off .secEvt 0) false = false ∧
    up.mayReach (.kiosk 0) (RegName.off .tickDiscCnt 1) false = true := by
  decide +kernel

/-- The first register of the device in the address map. -/
def regAddr : DWord := 0x200000000000

theorem wit_HostAccess :
    (up.accepts (.regRead hd [regAddr]) hd ∧ (regOff regAddr.toNat).isSome = true) ∧
    (up.accepts (.regWrite hd [(regAddr, 1)]) hd) := by
  decide +kernel

theorem wit_RegisterAccess_unmapped :
    (up.accepts (.regRead hd [0x8000000000000000, 0]) hd ∧
      regOff (0x8000000000000000 : DWord).toNat = none ∧ regOff (0 : DWord).toNat = none) ∧
    (let a : DWord := 0x2000FFFFFFFC
     (∃ o, regOff a.toNat = some o ∧ regAt o = none) ∧ up.accepts (.regRead hd [a]) hd ∧ up.accepts (.regWrite hd [(a, 1)]) hd) ∧
    (up.accepts (.regWrite hd [(0, 1)]) hd ∧ regOff (0 : DWord).toNat = none) := by
  decide +kernel

theorem wit_HostAccess_memory :
    (up.accepts (.memRead hd 0x10000 64) hd ∧ (0x10000 : DWord).toNat + (64 : Word).toNat ≤ lpddrTop ∧
      (∀ k, k < (64 : Word).toNat → up.hostMay ((0x10000 : DWord).toNat + k) = true) ∧ up.memx.badBlocks = []) ∧
    (up.accepts (.memWrite hd 0x10001 [1, 2]) hd ∧ (∀ k, k < 2 → up.hostMay (0x10001 + k) = true) ∧ up.cfg.trec = none) ∧
    (up.accepts (.memRead hd 0x10000 262145) hd ∧ 262144 < (262145 : Word).toNat ∧ (262144 : Word).toNat ≤ 262144) ∧
    (let s := { up with memx := { MemX.reset with badBlocks := [0x10000 / 64] } }
     s.badIn 0x10000 64 = [0x10000 / 64] ∧ (s.woken (.memRead hd 0x10000 64)).hostRange 0x10000 64 = 0) ∧
    (let s := { voiced with sec := { Sec.reset with level := 3 } }
     let c := Instr.memRead hd 0x100000000000 64
     s.accepts c hd ∧ lpddrTop ≤ (0x100000000000 : DWord).toNat ∧ (s.woken c).hostRange 0x100000000000 64 = 0 ∧
       ((s.woken c).hostParity ((s.woken c).badWordsIn 0x100000000000 64)).2 = false) := by
  decide +kernel

theorem wit_HostAccess_outside :
    (zoneOf (0xFFFFFFFFFFFFFFFF : DWord).toNat = .none ∧ up.accepts (.memRead hd 0xFFFFFFFFFFFFFFFF 4) hd ∧
      up.accepts (.memWrite hd 0xFFFFFFFFFFFFFFFF [1]) hd) := by
  decide +kernel

/-! ### Statements on the network and sessions -/

/-- ETH0 enabled with an IPv4 address. -/
def net (s : State) : State := (s.setRg .hostPortCfg 0 1).setRg .hostIpv4 0 0x0A000001

theorem wit_EthernetFrames :
    ((net up).bit .hostPortCfg 0 0 = true ∧ (up.setRg .hostPortCfg 1 0).bit .hostPortCfg 1 0 = false) ∧
    (let s := (net up).setRg .hostPortCfg 0 (5 + 4094 * 16)
     s.bit .hostPortCfg 0 0 = true ∧ s.bit .hostPortCfg 0 2 = true ∧ (4094 : BitVec 12).toNat = s.fld .hostPortCfg 0 15 4) ∧
    (((net up).updEth 0 (fun e => { e with link := true })).ethPort 0).link = true ∧ ((net up).ethPort 0).link = false := by
  decide +kernel

theorem wit_EthernetFrames_answers :
    (net up).serves 0 = true ∧ (0x0A000001 : Word).toNat ≠ 0 ∧ (0x0A000001 : Word).toNat = (net up).rg .hostIpv4 0 ∧
    (0x0A000002 : Word).toNat ≠ (net up).rg .hostIpv4 0 ∧
    (BitVec.ofNat 128 ((net up).linkLocal 0)).toNat = (net up).linkLocal 0 ∧
    (5 : BitVec 128).toNat ≠ (net up).linkLocal 0 ∧ (5 : BitVec 128).toNat ≠ (net up).ipv6 0 := by
  decide +kernel

/-- A datagram of session 1 without a payload. -/
def dgramOf (flags typ seq crc : Nat) : List Byte :=
  putAt (List.replicate 40 0#8) [(0, 2, 0x544B), (2, 1, 1), (3, 1, flags), (4, 4, 1), (8, 4, seq), (0x10, 2, typ), (0x20, 4, crc)]

/-- A PING datagram that is a part of a longer message. -/
def dgram (seq crc : Nat) : List Byte := dgramOf 4 0x10 seq crc

theorem dgramOk_eq (most : Nat) (b : List Byte) :
    dgramOk most b = (decide (40 ≤ b.length) && leAt b 0 2 == 0x544B && leAt b 2 1 == 1 && decide (leAt b 3 1 < 16)
      && zeroAt b 0x1E 2 && zeroAt b 0x24 4 && leAt b 0x1C 2 + 40 == b.length && decide (leAt b 0x1C 2 ≤ most)
      && leAt b 0x20 4 == crcF 0x82F63B78 (b.take 0x20 ++ leBytes 4 0 ++ b.drop 0x24) 0xFFFFFFFF ^^^ 0xFFFFFFFF) := by
  rw [dgramOk, crc32c_eq]

theorem wit_KtpDatagrams :
    (net up).forKtp peer (0x0A000001 : BitVec 128).toNat ((net up).fld .hostKtpPort 0 15 0) = true ∧
    (net up).forKtp peer (0x0A000009 : BitVec 128).toNat ((net up).fld .hostKtpPort 0 15 0) = false ∧
    ((net up).sess (readDgram (dgram 1 0xee9f5f4d)).session) = some sess1 ∧ (net up).pwr.ingress < 1024 ∧
    (readDgram (dgram 1 0xee9f5f4d)).typ ≠ 1 ∧ up.sess 9 = none := by
  decide +kernel

theorem wit_KtpDatagrams_forms :
    dgramOk 8192 (dgram 1 0) = false ∧
    (dgramOk 8192 (dgram 1 0xee9f5f4d) = true ∧ (readDgram (dgram 1 0xee9f5f4d)).flags = 4 ∧ (readDgram (dgram 1 0xee9f5f4d)).seq = sess1.rxNext) ∧
    (dgramOk 8192 (dgram 0 0xd3398f86) = true ∧ (readDgram (dgram 0 0xd3398f86)).flags = 4 ∧
      2 ^ 31 ≤ ((readDgram (dgram 0 0xd3398f86)).seq + 2 ^ 32 - sess1.rxNext) % 2 ^ 32) ∧
    (∀ p ∈ [(256, 0xab9eef0b, 255), (257, 0x96383fc0, 256)], dgramOk 8192 (dgram p.1 p.2.1) = true ∧
      ((readDgram (dgram p.1 p.2.1)).seq + 2 ^ 32 - sess1.rxNext) % 2 ^ 32 = p.2.2) ∧
    (dgramOk 8192 (dgramOf 2 0x10 1 0xe6189763) = true ∧ (readDgram (dgramOf 2 0x10 1 0xe6189763)).flags.testBit 1 = true) ∧
    (dgramOk 8192 (dgramOf 4 1 1 0xd17b99b8) = true ∧ (readDgram (dgramOf 4 1 1 0xd17b99b8)).typ = 1) := by
  simp only [dgramOk_eq]
  decide +kernel

/-- 1,024 datagrams wait for a wake. -/
def ingressFull : State := { net up with pwr := { (net up).pwr with ingress := 1024 } }

theorem wit_KtpDatagrams_full :
    ingressFull.forKtp peer (0x0A000001 : BitVec 128).toNat ((net up).fld .hostKtpPort 0 15 0) = true ∧ 1024 ≤ ingressFull.pwr.ingress := by
  decide +kernel

def dgram1 : Dgram := ⟨1, 1, 1, 0, 0x8010, 0, 0, 0, []⟩

def inSess (x : Session) : State := { net up with sessions := [x] }

theorem wit_KtpDatagrams_timers :
    (let x := { sess1 with ackOwed := true }
     let s := { inSess x with uptime := 1000000 }
     s.sess 1 = some x ∧ x.ackOwed = true ∧ x.owedAt + s.fld .hostKtpCfg 0 27 20 * 1000 ≤ s.uptime) ∧
    (let x := { sess1 with unacked := [dgram1] }
     let s := { inSess x with uptime := 1000000 }
     s.sess 1 = some x ∧ x.unacked ≠ [] ∧ x.timerAt + x.rto * 1000 ≤ s.uptime ∧ x.expiries + 1 < (inSess x).fld .hostKtpCfg 0 19 16) ∧
    (let x := { sess1 with unacked := [dgram1], expiries := 15 }
     (inSess x).sess 1 = some x ∧ x.unacked ≠ [] ∧ 999999 < x.timerAt + x.rto * 1000 ∧ (inSess x).fld .hostKtpCfg 0 19 16 ≤ x.expiries + 1) ∧
    (let s := { net up with uptime := 60000000000 }
     s.sess 1 = some sess1 ∧ sess1.lastRx + 60000000000 ≤ s.uptime) ∧
    up.sess 9 = none ∧ up.uptime < sess1.lastRx + 60000000000 := by
  decide +kernel

/-- Sixteen sessions. -/
def sixteen : State := { net up with sessions := (List.range 16).map (fun n => { sess1 with num := n + 1 }) }

/-- Debug level 1. -/
def traced : State := { up with sec := { Sec.reset with level := 1 } }

theorem wit_Sessions :
    (let i := Instr.sessionOpen peer 9 0 0 8192
     (net up).serves peer.port = true ∧ (net up).gate i = 0 ∧ (net up).reopened peer 9 = none ∧ (net up).sessions.length < 16 ∧
       sixteen.gate i = 0 ∧ sixteen.reopened peer 9 = none ∧ 16 ≤ sixteen.sessions.length) ∧
    ((up.setRg .hostPortCfg 0 0).serves 0 = false ∧ (net up).gate (.sessionOpen peer 9 5 0 8192) = 0 ∧ (5 : Word).toNat ≠ (net up).epoch) ∧
    (net up).gate (.sessionOpen peer 9 0 0 8191) ≠ 0 ∧
    ((inSess { sess1 with gotSeq := false }).reopened peer 7).isSome = true ∧
    up.accepts (.sessionClose hd) hd ∧ up.accepts (.ping hd) hd ∧ up.accepts (.status hd) hd ∧ up.accepts (.identity hd) hd ∧
    up.accepts (.configRead hd) hd ∧ traced.accepts (.trecStatus hd) hd ∧
    up.open 9 = false ∧
    (let s := { up with pwr := { up.pwr with state := 2 } }
     s.open 1 = true ∧ s.mustWake (.streamPause hd 0) = true) ∧
    (let s := { up with dev := { up.dev with stage := 0 } }
     s.open 1 = true ∧ s.mustWake (.streamPause hd 0) = false ∧ s.gate (.streamPause hd 0) ≠ 0) := by
  decide +kernel

def hostStr (x : Stream) : State :=
  str { x with dir := { x.dir with dest := 0x100, be := true }, del := { x.del with sess := 1 } }

theorem wit_HostReturn :
    (let s := hostStr { runStr with del := { runStr.del with hostBuf := List.replicate 1024 0 } }
     (s.stream 0).isOpen = true ∧ (s.stream 0).dir.dest = 0x100 ∧ s.winRoom (s.dataSess (s.stream 0)) = true ∧
       s.retBatch ≤ (s.stream 0).del.hostBuf.length) ∧
    (let s := { hostStr { runStr with del := { runStr.del with queue := [7, 8] } } with td0 := lockedDom }
     (s.stream 0).dir.state ∈ [.idle, .run, .ended, .drain] ∧ (s.stream 0).dir.be = true ∧ (s.stream 0).dir.dest = 0x100 ∧
       (s.stream 0).isClosing = false ∧ (s.td (s.stream 0).dir.domain).ticking = true ∧ (s.stream 0).del.hostBuf.length < 4096 ∧
       (s.stream 0).del.queue = [7, 8] ∧ (s.stream 0).life.exportP = none ∧ (s.stream 0).del.bad = false) ∧
    (let s := hostStr { runStr with del := { runStr.del with queue := [7], bad := true } }
     (s.stream 0).del.queue ≠ [] ∧ (s.stream 0).del.bad = true) ∧
    (up.stream 0).isOpen = false := by
  decide +kernel

def ptpIn (x : Ptp) : State := { up with ptp := [(0, x)] }.setRg .hostPtpCfg 0 1

theorem wit_PtpAndRtp :
    (let s := ptpIn { Ptp.blank with master := some 5, pendSync := some (9, 3) }
     s.ptpOn 0 = true ∧ (20000 : Int).natAbs ≤ 20000 ∧ (s.ptpI 0).pendSync = some ((9 : Half).toNat, 3) ∧
       (s.ptpI 0).delaySeq ≠ (0 : Half).toNat + 1) ∧ up.ptpOn 0 = false ∧ (up.ptpI 0).pendSync = none ∧
    (let s := ptpIn { Ptp.blank with pathDelay := 100 }
     ((1099 : Int) - 0 - (s.ptpI 0).pathDelay).natAbs < 1000 ∧ (s.ptpI 0).locked = false) ∧
    (let s := ptpIn { Ptp.blank with master := some 5, delaySeq := 1 }
     s.ptpOn 0 = true ∧ (s.ptpI 0).delaySeq = (0 : Half).toNat + 1) ∧
    (let s := ptpIn Ptp.blank
     s.bit .hostPtpCfg 0 0 = true ∧ (s.ptpI 0).master = none) ∧
    (let s := ptpIn { Ptp.blank with master := some 5 }
     (s.ptpI 0).master ≠ some (6 : DWord).toNat) ∧
    (let s := ptpIn { Ptp.blank with locked := true }
     s.rtpOn 31 = false ∧ (s.ptpI (s.rtpPort 31)).locked = true) ∧
    (up.rtpOn 31 = false ∧ (up.ptpI (up.rtpPort 31)).locked = false) := by
  decide +kernel

theorem wit_PtpAndRtp_packet :
    let w := List.replicate 48 [0]
    let s := { (up.setRg .hostRtpCtl 0 0x21).setRg .tickCtl 0 0xD with
               rtp := [(0, { Rtp.start with pkt := w })], td0 := { lockedDom with srcUse := ⟨3, 0, 0⟩ } }
    s.rtpOn 0 = true ∧ s.rtpDirect 0 = true ∧ s.rtpLen 0 = w.length ∧ (s.rtpS 0).pkt = w ∧ s.replay.active = false ∧
      s.silenced (s.rtpDom 0) = false ∧ s.hbOk (s.rtpDom 0) (s.tick (s.rtpDom 0)) = true ∧
      (let z := { s with rtp := [(0, { Rtp.start with pkt := w.drop 1 })] }
       z.rtpOn 0 = true ∧ ((z.rtpAdvance 0).rtpS 0).pkt.length < z.rtpLen 0) ∧
      (let z := { s with replay := { Replay.reset with active := true } }
       z.rtpOn 0 = true ∧ z.rtpLen 0 ≤ ((z.rtpAdvance 0).rtpS 0).pkt.length ∧ z.replay.active = true) := by
  decide +kernel

/-! ### Statements on images, resets, configuration, security and power -/

/-- Stage 0 with one session. -/
def ground : State := { up with dev := { up.dev with stage := 0 } }

def uploadOf (d : List Byte) (total : Nat) : Upload := { session := 1, kind := 1, total := total, data := d }

theorem wit_ImageUploads :
    (ground.accepts (.imageUpload hd 1 0 4 [1, 2]) hd ∧ ground.dev.stage = 0 ∧ ground.dev.upload = none ∧
      [1#8, 2].length < (4 : Word).toNat ∧ (4 : Word).toNat ≤ partSize (1 : Byte).toNat) ∧
    (let s := { ground with dev := { ground.dev with upload := some (uploadOf [1, 2] 4) } }
     s.accepts (.imageUpload hd 1 2 4 [3, 4]) hd ∧ s.dev.stage = 0 ∧ (2 : Word) ≠ 0 ∧
       s.dev.upload = some { session := hd.session, kind := (1 : Byte).toNat, total := (4 : Word).toNat, data := [1, 2] } ∧
       [1#8, 2].length = (2 : Word).toNat ∧ (2 : Word).toNat + [3#8, 4].length = (4 : Word).toNat) ∧
    (let m : PendMsg := ⟨.imageUpload hd 1 2 4 [3, 4], 1⟩
     let s := { up with dev := { up.dev with program := some (m, uploadOf [1, 2, 3, 4] 4) } }
     s.dev.program = some (m, uploadOf [1, 2, 3, 4] 4) ∧ s.dev.stage = 2 ∧ up.dev.program = none) := by
  decide +kernel

/-- A chunk that does not follow the last, one that is not the last, and the last one of an image that fails its check. -/
theorem wit_ImageUploads_chunks :
    (ground.accepts (.imageUpload hd 1 2 4 [1, 2]) hd ∧ ground.chunkStatus 1 1 2 4 2 ≠ 0) ∧
    (ground.chunkStatus 1 1 0 4 2 = 0 ∧ 2 < (4 : Word).toNat) ∧
    (ground.chunkStatus 1 1 0 4 4 = 0 ∧ (4 : Word).toNat ≤ 4 ∧
      (let v := ground.storeChunk (uploadOf [1, 2, 3, 4] 4) 0 [1, 2, 3, 4]
       v.gatherBad (uploadOf [1, 2, 3, 4] 4) = none ∧ v.imageStatus 1 (v.gathered (uploadOf [1, 2, 3, 4] 4)) ≠ 0)) := by
  decide +kernel

/-- The same in stage 2, where the upload stands in the update area, which may fail its check. -/
theorem wit_ImageUploads_area :
    let s := { up with cfg := { up.cfg with update := some ⟨0x100000, 0x100000⟩ }, memx := { MemX.reset with badBlocks := [0x100000 / 64] } }
    s.dev.stage = 2 ∧ s.cfg.update = some ⟨0x100000, 0x100000⟩ ∧
      s.gatherBad { uploadOf [1, 2, 3, 4] 4 with data := List.replicate 128 0#8, total := 128 } = some (0x100000 / 64) := by
  decide +kernel

/-- A twin link 3 that is UP; the twin is module 7. -/
def twinned (s : State) : State :=
  { (s.setRg .linkChCfg 3 9).setRg .linkTwinCfg 0 0x80000007 with links := [(3, { Link.reset with state := .up })] }

theorem wit_ImageUploads_twin :
    (let s := twinned { ground with dev := { ground.dev with hold := 4, runCfg := [1] }, cfg := { Cfg.reset with twin := some [] } }
     s.fetching = true ∧ s.dev.upload = none ∧ s.twinLinks.head? = some 3 ∧ [1#8].length < (2 : Word).toNat ∧
       (2 : Word).toNat ≤ partSize 0 ∧ s.dev.fetchAt + 60000000000 ≤ 60000000000 ∧
       (s.uploadChunk ⟨.imageFetchRetry, 0⟩ 0 0 0 2 [1]).1 = 0 ∧ (s.uploadChunk ⟨.imageFetchRetry, 0⟩ 0 0 0 2 [1]).2.1 = false ∧
       (s.uploadChunk ⟨.imageFetchRetry, 0⟩ 0 0 1 2 [1]).1 ≠ 0) ∧
    (let s := { ground with dev := { ground.dev with hold := 4, runCfg := [1] }, cfg := { Cfg.reset with twin := some [] } }
     s.twinLinks.head? = none) ∧ up.fetching = false ∧ up.twinIs 7 = false ∧
    (let s := twinned { up with flash := { Flash.reset with firmware := [1, 2, 3] } }
     s.dev.stage = 2 ∧ s.twinIs (7 : Half).toNat = true ∧ (2 : Word).toNat < s.flash.firmware.length ∧
       s.twinLinks.head? = some 3) := by
  decide +kernel

theorem wit_ResetCauses :
    up.accepts (.resetMgmt hd) hd ∧
    (let s := { up with dev := { up.dev with mgmtReset := some 0, wdogArmed := true }, uptime := 10000000 }
     s.dev.pwrGood = true ∧ (∃ t, s.dev.mgmtReset = some t ∧ t + 10000000 ≤ s.uptime) ∧ s.dev.wdogArmed = true) ∧
    (up.dev.wdogArmed = false ∧ up.dev.mgmtReset = none ∧ up.dev.pwrGood = true) ∧
    (let s := { up with dev := { up.dev with pwrGood := false } }
     s.dev.pwrGood = false ∧ s.dev.supplies = true ∧ s.dev.trip = false) ∧
    (let s := { up with dev := { up.dev with trip := true, pwrGood := false } }
     s.dev.trip = true ∧ s.dev.pwrGood = false ∧ s.dev.supplies = true) ∧
    (({ up with dev := { up.dev with trip := true } } : State).dev.pwrGood = true ∧ up.dev.trip = false) ∧
    (voiced.accepts (.resetPitch hd 0) hd ∧ (voiced.pitch 0).built = true ∧ (voiced.pitch 0).resetMsg = none) ∧
    (let m : PendMsg := ⟨.resetPitch hd 0, 1⟩
     let s := { voiced with pitches := [(0, { Pitch.blank with built := true, resetMsg := some m })] }
     s.accepts (.resetPitch hd 0) hd ∧ (s.pitch 0).built = true ∧ (s.pitch 0).resetMsg = some m) ∧
    (up.accepts (.resetPitch hd 255) hd ∧ ¬ ((255 : Byte).toNat < 16)) := by
  refine ⟨by decide +kernel, ⟨by decide +kernel, ⟨0, by decide +kernel⟩, by decide +kernel⟩, ?_⟩
  decide +kernel

theorem wit_ResetLeaves : up.dev.starting = false ∧ Cause.wdog ≠ .por ∧ up.dev.program = none := by decide

def env0 : StartEnv :=
  { flashAnswers := false, flashMiB := 64, dirOk := true, counterAuth := true, pufOk := true, trained := true, qfail := 0,
    dirFail := [], startMs := 5 }

theorem wit_DeviceStarts :
    State.reset.dev.starting = true ∧ State.reset.dev.rstLow = false ∧ State.reset.dev.pwrGood = true ∧
    State.reset.dev.holdStep ≠ 3 ∧ State.reset.dev.hold = 0 ∧ env0.flashAnswers = false ∧
    ({ env0 with flashMiB := 63 }).flashMiB < 64 ∧
    (let e := { env0 with flashAnswers := true, dirOk := false }
     e.flashAnswers = true ∧ 64 ≤ e.flashMiB ∧ e.dirOk = false) ∧
    up.dev.starting = false := by
  decide

def endRecord : List Byte := leBytes 4 0xFFFF

def rec01 : CfgRec := ⟨1, leBytes 4 (RegName.off .sdirQdef 0) ++ leBytes 8 0⟩

def cfgIn (c : Cfg) : State := { up with cfg := { c with epoch := 1 } }

theorem wit_Configuration :
    (up.accepts (.configStage hd (rec01.bytes ++ endRecord)) hd ∧
      stageStatus up.cfg.stagedBytes (parseRecs ((rec01.bytes ++ endRecord).length + 1) (rec01.bytes ++ endRecord)) = 0) ∧
    (up.accepts (.configStage hd []) hd ∧ stageStatus up.cfg.stagedBytes (parseRecs 1 []) = 0x508) ∧
    (up.accepts (.configCommit hd) hd ∧ up.cfg.staged = []) ∧
    (let s := cfgIn { Cfg.reset with staged := [rec01] }
     s.accepts (.configCommit hd) hd ∧ s.cfg.staged ≠ [] ∧ s.cfg.rolling = false) ∧
    (let s := cfgIn { Cfg.reset with staged := [rec01], rolling := true }
     s.accepts (.configCommit hd) hd ∧ s.cfg.staged ≠ [] ∧ s.cfg.rolling = true) ∧
    (let s := { cfgIn { Cfg.reset with commit := some ⟨[], 2, 0⟩, rolling := true } with uptime := 1000000 }
     s.td0.ticking = false ∧ s.td1.ticking = false ∧ s.cfg.commit = some ⟨[], 2, 0⟩ ∧ 0 + 1000000 ≤ s.uptime ∧
       s.builtPitches = []) ∧
    up.cfg.commit = none := by
  decide +kernel

def rolling : State :=
  { cfgIn { Cfg.reset with rolling := true, rollEpoch := 2, nextPitch := 0, drainFrom := some 0 } with
    pitches := [(0, { Pitch.blank with built := true, roll := true })], td0 := lockedDom }

theorem wit_Configuration_roll :
    rolling.cfg.rolling = true ∧ rolling.cfg.commit = none ∧ rolling.cfg.nextPitch = 0 ∧ rolling.cfg.drainFrom.isSome = true ∧
    (rolling.pitch 0).built = true ∧ (rolling.pitch 0).roll = true ∧ (rolling.td (rolling.pitchDom 0)).ticking = true ∧
    rolling.pitchQuiet 0 = true ∧ rolling.cfg.toApply = [] ∧ rolling.draining 0 = true ∧
    ((tk lockedDom).draining 0 = false ∧ ((tk lockedDom).td ((tk lockedDom).pitchDom 0)).ticking = true) ∧
    ((up.td (up.pitchDom 0)).ticking = false ∧ up.cfg.commit.isSome = false) := by
  decide +kernel

theorem wit_Configuration_others (q : Nat) (h : q ≠ 0) : (rolling.pitch q).roll = false := by
  simp only [State.pitch, rolling, Tab.getD, Tab.get?]
  rw [if_neg (Ne.symm h)]
  rfl

/-- A policy for lifecycle 1 with two custodians. -/
def policy1 : List Byte := putAt (List.replicate 3904 0#8) [(0, 4, 0x4C4F5053), (4, 4, 1), (8, 1, 1), (9, 1, 2), (10, 1, 2)]

def secIn (x : Sec) : State := { up with sec := x }

def signing : Sec := { Sec.reset with idOk := true, signer := some ⟨⟨.attest hd (List.replicate 32 0#8), 1⟩, []⟩ }

theorem wit_Security :
    (let c := Instr.attest hd (List.replicate 32 0#8)
     (secIn { Sec.reset with idOk := true }).accepts c hd ∧ up.accepts c hd ∧ up.sec.idOk = false ∧ up.sec.signer = none ∧
       (secIn signing).accepts c hd ∧ signing.signer.isSome = true ∧ hd.session ∉ signing.refused ∧
       (secIn { signing with refused := [1] }).accepts c hd ∧ hd.session ∈ (secIn { signing with refused := [1] }).sec.refused) ∧
    (up.accepts (.authPolicy hd [] []) hd ∧ up.policyStatus [] [] = 0x605) ∧
    ((secIn signing).accepts (.authPolicy hd [] []) hd ∧ (secIn signing).policyStatus [] [] = 0x607 ∧
      hd.session ∉ (secIn signing).sec.refused) := by
  decide +kernel

theorem wit_Security_levels :
    (up.accepts (.debugLevel hd 4 []) hd ∧ 3 < (4 : Byte).toNat) ∧
    (up.accepts (.debugLevel hd 3 []) hd ∧ (3 : Byte).toNat ≤ up.freeLevel ∧ up.sec.level < (3 : Byte).toNat) ∧
    (up.accepts (.debugLevel hd 0 []) hd ∧ (0 : Byte).toNat ≤ up.sec.level) ∧
    (let s := secIn { Sec.reset with lifecycle := 2, policy := some policy1 }
     s.accepts (.debugLevel hd 3 []) hd ∧ s.sec.level < (3 : Byte).toNat ∧ s.freeLevel < (3 : Byte).toNat ∧ s.sec.lifecycle ≠ 0 ∧
       1 ≤ s.policyByte 9 ∧
       firstFail (s.tokenRows ⟨1, fitTo 48 s.sec.challenge, s.flash.ctr2⟩ (3 : Byte).toNat []) ≠ 0) := by
  decide +kernel

theorem wit_Security_policy :
    up.accepts (.authPolicy hd policy1 []) hd ∧ up.policyStatus policy1 [] = 0 ∧ up.flash.present = true ∧
    up.flash.counterAuth = true ∧
    (let s := { up with flash := { Flash.reset with present := false } }
     s.accepts (.authPolicy hd policy1 []) hd ∧ s.policyStatus policy1 [] = 0 ∧ s.flash.present = false) := by
  decide +kernel

/-- Without a Kiosk in State every Kiosk is as after reset. -/
theorem wit_Security_held (k : Nat) : (up.kiosk k).held = none := rfl

def powerIn (x : Pwr) : State := { up with pwr := x }

theorem wit_PowerStates :
    (up.pwr.state = 0 ∧ up.p1Ok = true ∧ up.pitches.any (fun e => e.2.built || e.2.building) = false) ∧
    (voiced.p1Ok = true ∧ voiced.pitches.any (fun e => e.2.built || e.2.building) = true) ∧
    (let s := powerIn { Pwr.reset with state := 1 }
     s.p1Ok = true ∧ s.pwr.state ≠ 0) ∧
    (str (strIn .run)).p1Ok = false ∧
    (let s := powerIn { Pwr.reset with target := some 3 }
     s.pwr.target = some 3 ∧ s.td0.mon ∈ [.off, .stopped] ∧ s.td1.mon ∈ [.off, .stopped] ∧ s.hasTwin = false ∧
       s.td0.ticking = false ∧ s.td1.ticking = false) ∧
    up.pwr.target = none := by
  decide +kernel

theorem wit_PowerStates_wakes :
    (let s := (powerIn { Pwr.reset with state := 2 }).setRg .pwrCtl 0 0x100
     s.pwr.state ≠ 0 ∧ s.pwr.waking = false ∧ s.pwr.wakePend = none ∧ s.bit .pwrCtl 0 8 = true ∧
       s.pwr.entered + s.rg .pwrWakeTimer * 1000000 ≤ s.uptime) ∧
    (powerIn { Pwr.reset with state := 2 }).bit .pwrCtl 0 8 = false ∧
    (let s := powerIn { Pwr.reset with state := 1, waking := true, wakePend := some 2 }
     s.pwr.state ≠ 0 ∧ s.pwr.waking = true ∧ s.pwr.wakeMsgs = [] ∧ s.pwr.wakePend = some 2 ∧ s.pwr.stoppedDoms = []) ∧
    up.pwr.waking = false ∧
    (up.fld .pwrCap 0 9 0 * 10 < 12000 ∧ up.pwr.step < up.clockFloor) ∧
    (let s := powerIn { Pwr.reset with step := up.clockFloor }
     s.fld .pwrCap 0 9 0 * 10 < 12000 ∧ s.clockFloor ≤ s.pwr.step) ∧
    (0 ≤ up.fld .pwrCap 0 9 0 * 10 ∧ up.pwr.calm + 1 < 50) ∧
    (let s := powerIn { Pwr.reset with step := 1, calm := 49 }
     0 * 100 ≤ 95 * (s.fld .pwrCap 0 9 0 * 10) ∧ 50 ≤ s.pwr.calm + 1 ∧ s.capShed = false ∧ 0 < s.pwr.step) := by
  decide +kernel

/-- Kiosk 0 under debug level 2 and in view. -/
def debugged (f : Kiosk → Kiosk) : State := { onK (.kNop 0 (fs 0 0 0)) 2 f with sec := { Sec.reset with level := 2 } }

theorem wit_KioskDebug :
    up.sec.level < 2 ∧ (debugged id).dbgKiosk = 0 ∧ 2 ≤ (debugged id).sec.level ∧
    (((debugged id).kiosk 0).halt = false ∧ ((debugged id).kiosk 0).run = .run) ∧
    (let s := debugged (fun x => { x with halt := true })
     (s.kiosk 0).halted = true ∧ (s.kiosk 0).halt = true ∧ (s.kiosk 0).held = none ∧ s.kioskRuns 0 = true ∧
       ((s.kioskResumed 0).updKiosk 0 (fun x => { x with halt := false })).fetchWord 0 = some (wordOf (.kNop 0 (fs 0 0 0))) ∧
       kioskDecode 0 (wordOf (.kNop 0 (fs 0 0 0))) = some (.kNop 0 (fs 0 0 0)) ∧ kioskLegal (.kNop 0 (fs 0 0 0)) = true) ∧
    (((debugged (fun x => { x with held := some 1 })).kiosk 0).held = some 1 ∧ ((debugged id).kiosk 0).held = none) ∧
    (let s := debugged (fun x => { x with halt := true, run := .wait })
     (s.kiosk 0).halt = true ∧ (s.kiosk 0).halted = false) := by
  decide +kernel

/-- A step of a halted Kiosk onto no word, onto an illegal instruction and onto a reserved opcode. -/
theorem wit_KioskDebug_steps :
    (let s := debugged (fun x => { x with halt := true, pc := 0xB0 })
     s.kioskRuns 0 = true ∧ ((s.kioskResumed 0).updKiosk 0 (fun x => { x with halt := false })).fetchWord 0 = none) ∧
    (∀ w ∈ [wordOf (.kPass 0 (fs 0 0 0)), 0xFC000000],
      let s := { onKiosk w 2 (fun x => { x with halt := true }) with sec := { Sec.reset with level := 2 } }
      (s.kiosk s.dbgKiosk).held = none ∧ s.kioskRuns s.dbgKiosk = true ∧
        ((s.kioskResumed s.dbgKiosk).updKiosk s.dbgKiosk (fun x => { x with halt := false })).fetchWord s.dbgKiosk = some w) := by
  decide +kernel

theorem wit_KioskDebug_jtag :
    (regOff regAddr.toNat).isSome = true ∧ 2 ≤ (powerIn { Pwr.reset with state := 2 }).pwr.state ∧ up.sec.level = 0 ∧
    (secIn { Sec.reset with level := 3 }).sec.level = 3 ∧ (secIn { Sec.reset with level := 3 }).pwr.state < 2 ∧
    (regOff (0x10000 : DWord).toNat = none ∧ (0x10000 : DWord).toNat % 4 = 0) ∧
    (regOff (0x10001 : DWord).toNat = none ∧ (0x10001 : DWord).toNat % 4 ≠ 0) := by
  decide +kernel

/-! ### Statements on links, the twin and the recorder -/

def linkIn (x : Link) : State := { up.setRg .linkId 0 0x80000002 with links := [(0, x)] }

def link (st : LState) : Link := { Link.reset with state := st }

/-- A flit without payload but `pay`, with its CRC. -/
def flit (typ flags dst seq ack len : Nat) (pay : List (Nat × Nat × Nat)) (crc : Nat) : List Byte :=
  putAt (List.replicate 256 0#8)
    ([(0, 2, dst), (4, 1, typ), (5, 1, flags), (8, 2, seq), (0xA, 2, ack), (0xE, 2, len), (0xFC, 4, crc)] ++ pay)

theorem parseFlit_of (b : List Byte)
    (h : (b.length = 256 ∧ numAt b 0xFC 4 = crcF 0xEDB88320 (b.take 0xFC) 0xFFFFFFFF ^^^ 0xFFFFFFFF ∧ byteAt b 4 < 5 ∧
      byteAt b 5 < 16 ∧ byteAt b 5 % 4 < 3 ∧ byteAt b 7 = 0 ∧ numAt b 8 2 < 4096 ∧ numAt b 0xA 2 < 4096 ∧ numAt b 0xE 2 ≤ 236)) :
    parseFlit b = some
      { dst := numAt b 0 2, src := numAt b 2 2, typ := byteAt b 4, flags := byteAt b 5, hops := byteAt b 6,
        seq := numAt b 8 2, ack := numAt b 0xA 2, msgId := numAt b 0xC 2, payload := (b.drop 0x10).take (numAt b 0xE 2) } := by
  rw [← crc32_eq] at h
  rw [parseFlit, if_pos h]

def train0 : List Byte := flit 1 0 0 0 0 64 [] 0x58cf1ca5
def train1 : List Byte := flit 1 0 0 0 0 64 [(0x13, 1, 1)] 0xa0b2bee0

theorem wit_LinkStates :
    (link .off).state = .off ∧ (linkIn (link .off)).link 0 = link .off ∧ (linkIn (link .up)).link 0 = link .up ∧
    (linkIn (link .seek)).link 0 = link .seek ∧ (linkIn (link .align)).link 0 = link .align ∧
    (linkIn (link .exchange)).link 0 = link .exchange ∧ (linkIn (link .down)).link 0 = link .down ∧
    (linkIn (link .loopback)).link 0 = link .loopback ∧ (linkIn (link .exchange)).dev.stage = 2 ∧
    (linkIn (link .exchange)).pwr.state < 2 ∧ (link .seek).since + 5000000 ≤ 5000000 ∧ ¬ ((link .seek).since + 5000000 ≤ 4999999) ∧
    (link .down).since + 1000000 ≤ 1000000 ∧ (link .exchange).trainAt = none ∧
    ({ link .exchange with trainAt := some 5 }).trainAt = some 5 ∧ ¬ (5 + 1000 ≤ 1004) := by
  decide +kernel

theorem wit_LinkStates_train :
    (∃ f, parseFlit train0 = some f ∧ f.typ = 1 ∧ (byteAt f.payload 3).testBit 1 = false ∧ (byteAt f.payload 3).testBit 0 = false) ∧
    (∃ f, parseFlit train1 = some f ∧ f.typ = 1 ∧ (byteAt f.payload 3).testBit 1 = false ∧ (byteAt f.payload 3).testBit 0 = true) :=
  ⟨⟨_, parseFlit_of train0 (by decide +kernel), by decide +kernel⟩, ⟨_, parseFlit_of train1 (by decide +kernel), by decide +kernel⟩⟩

def tick5 : Flit := { dst := 0, src := 0, typ := 3, flags := 0, hops := 0, seq := 5, ack := 0, msgId := 0, payload := [] }

theorem wit_LinkFlits_flits :
    parseFlit [] = none ∧
    (∃ f, parseFlit (flit 0 0 0 0 0 0 [] 0xa66359f1) = some f ∧ f.typ = 0) ∧
    (∃ f, parseFlit (flit 0 0 0 0 1 0 [] 0xae70d5d7) = some f ∧ f.typ = 0 ∧ f.ack = { tick5 with seq := 0 }.seq + 1) ∧
    (∃ f, parseFlit (flit 3 0 0 5 0 0 [] 0xfe673def) = some f ∧ f.typ = 3 ∧ f.seq ≠ (link .up).rxNext) ∧
    (∃ f, parseFlit (flit 4 4 2 0 0 16 [] 0x3fffa830) = some f ∧ f.typ = 4 ∧ f.seq = (link .up).rxNext ∧ f.dst = (linkIn (link .up)).ownId ∧
      f.isFirst = true ∧ f.isLast = false) :=
  ⟨by decide +kernel, ⟨_, parseFlit_of _ (by decide +kernel), by decide +kernel⟩, ⟨_, parseFlit_of _ (by decide +kernel), by decide +kernel⟩,
   ⟨_, parseFlit_of _ (by decide +kernel), by decide +kernel⟩, ⟨_, parseFlit_of _ (by decide +kernel), by decide +kernel⟩⟩

theorem wit_LinkFlits :
    ((linkIn (link .up)).pwr.state < 2 ∧ (linkIn (link .up)).idValid = true ∧ ((linkIn (link .up)).link 0).asm = [] ∧
      ((linkIn (link .up)).link 0).unacked = []) ∧
    (let s := { linkIn { link .up with unacked := [{ tick5 with seq := 0 }] } with uptime := 20000 }
     (s.link 0).state = .up ∧ (s.link 0).unacked = [{ tick5 with seq := 0 }] ∧ 0 < 4095 ∧ (s.link 0).unacked ≠ [] ∧
       (s.link 0).ackAt + 20000 ≤ s.uptime ∧ (s.link 0).resends < 31 ∧ ¬ ((s.link 0).ackAt + 20000 ≤ 19999)) ∧
    (let s := { linkIn { link .up with unacked := [tick5], resends := 31 } with uptime := 20000 }
     (s.link 0).unacked ≠ [] ∧ (s.link 0).ackAt + 20000 ≤ s.uptime ∧ 31 ≤ (s.link 0).resends) ∧
    ((linkIn { link .up with nakOwed := true }).link 0).nakOwed = true ∧
    (((linkIn (link .up)).link 0).nakOwed = false ∧ ((linkIn (link .up)).link 0).queue = []) ∧
    (let s := linkIn { link .up with queue := [⟨64, tick5⟩] }
     (s.link 0).nakOwed = false ∧ (s.link 0).queue = [⟨64, tick5⟩] ∧ tick5.typ = 3 ∧ (s.link 0).unacked.length < 512 ∧
       (s.link 0).next = some ⟨64, tick5⟩) ∧
    (let s := (linkIn { link .up with retries := ⟨0, 3, 0⟩ }).setFld .linkCtl 0 31 16 2
     s.fld .linkCtl 0 31 16 ≠ 0 ∧ s.fld .linkCtl 0 31 16 < (s.link 0).retries.count ∧
       (s.link 0).retries.warned ≠ (s.link 0).retries.sec + 1) ∧
    (let s := (linkIn { link .up with retries := ⟨0, 2, 0⟩ }).setFld .linkCtl 0 31 16 2
     ¬ s.fld .linkCtl 0 31 16 < (s.link 0).retries.count) := by
  decide +kernel

theorem wit_LinkFlits_routes :
    (let s := up.setRg .linkRtData0 0 0x00040010
     let b := leBytes 4 (s.rg .linkRtData0) ++ leBytes 4 (s.rg .linkRtData1) ++ leBytes 4 (s.rg .linkRtData2)
     numAt b 0 2 % 2 ^ (byteAt b 2 % 16) = 0 ∧ byteAt b 2 < 16) ∧
    (let s := up.setRg .linkRtData0 0 0x00050010
     let b := leBytes 4 (s.rg .linkRtData0) ++ leBytes 4 (s.rg .linkRtData1) ++ leBytes 4 (s.rg .linkRtData2)
     numAt b 0 2 % 2 ^ (byteAt b 2 % 16) ≠ 0) := by
  decide +kernel

/-- The training data of a matching twin: role 1 of module 7 while this module's role is 0. -/
def twinTrain (id : Nat) : List Byte := putAt (List.replicate 64 0#8) [(0, 2, id), (3, 1, 4), (4, 1, 1)]

def attaching (id : Nat) : State :=
  { twinned up with links := [(3, { link .up with train := twinTrain id, peerId := id })], twin := { Twin.reset with state := .attaching } }

theorem wit_TwinMirrors_attach :
    (let s := attaching 7
     s.bit .linkTwinCfg 0 31 = true ∧ s.dev.stage = 2 ∧ s.twin.state = .attaching ∧ (s.link 3).state = .up ∧
       s.bit .linkChCfg 3 3 = true ∧ s.attachRefusal 3 = 0 ∧ s.standby = false) ∧
    (numAt ((attaching 8).link 3).train 0 2 ≠ (attaching 8).twinId) ∧
    (let s := { attaching 7 with links := [(3, { link .up with train := putAt (twinTrain 7) [(4, 1, 0)], peerId := 7 })] }
     s.attachRefusal 3 ≠ 0 ∧ numAt (s.link 3).train 0 2 = s.twinId) ∧
    up.twin.state ≠ .attaching := by
  decide +kernel

/-- A standby whose mirrored Pitch 0 is on domain 0, with the training data of its primary. -/
def attachingStandby (t : TickDom) : State :=
  { ((attaching 7).setRg .linkTwinCfg 0 0x80010007).setRg .linkTwinMirror 0 1 with
    links := [(3, { link .up with train := putAt (twinTrain 7) [(4, 1, 0), (8, 2, 1)], peerId := 7 })],
    pitches := [(0, { Pitch.blank with built := true, qmask := 1 })], td0 := t }

/-- It attaches while that domain is locked to the twin link, and not before. -/
theorem wit_TwinMirrors_standby :
    (let s := attachingStandby TickDom.reset
     s.standby = true ∧ s.attachRefusal 3 = 0 ∧ s.mirrorLocked = false) ∧
    (let s := attachingStandby { lockedDom with srcUse := ⟨5, 0, 3⟩ }
     s.standby = true ∧ s.attachRefusal 3 = 0 ∧ s.mirrorLocked = true) := by
  decide +kernel

/-- An attached standby. -/
def standbyIn (x : Twin) : State := { up with twin := { x with state := .attached }, cfg := { up.cfg with twinArea := some ⟨0x100000, 0x100000⟩ } }
  |>.setRg .linkTwinCfg 0 0x80010007

/-- A record whose body is zero but for its first byte. -/
def record (kind first crc : Nat) : List Byte :=
  putAt (List.replicate 80 0#8) [(0, 4, 80), (4, 2, kind), (0x3C, 4, crc), (0x40, 1, first)]

theorem parseRec_of (b : List Byte)
    (h : 64 ≤ leAt b 0 4 ∧ leAt b 0 4 % 16 = 0 ∧ leAt b 0 4 ≤ b.length ∧ leAt b 0x3C 4 =
      crcF 0x82F63B78 (b.take 0x3C ++ leBytes 4 0 ++ (b.drop 64).take (leAt b 0 4 - 64)) 0xFFFFFFFF ^^^ 0xFFFFFFFF) :
    parseRec b = some { kind := leAt b 4 2, flags := leAt b 6 2, seq := leAt b 8 8, tick := leAt b 0x18 8, subject := leAt b 0x30 4,
                        body := (b.drop 64).take (leAt b 0 4 - 64) } := by
  rw [← crc32c_eq] at h
  rw [parseRec, if_pos h]

theorem wit_TwinMirrors_records :
    (∃ r, parseRec (record 4 0 0x151cd42f) = some r ∧ r.kind = 4) ∧
    (∃ r, parseRec (record 10 6 0x38458d7b) = some r ∧ r.kind = 10 ∧ leAt r.body 0 1 = 6) :=
  ⟨⟨_, parseRec_of _ (by decide +kernel), by decide +kernel⟩, ⟨_, parseRec_of _ (by decide +kernel), by decide +kernel⟩⟩

theorem wit_TwinMirrors :
    (let s := standbyIn { Twin.reset with ckptF := 512 }
     s.mirroring = true ∧ s.cfg.twinArea = some ⟨0x100000, 0x100000⟩ ∧ s.twin.ckptF = (512 : DWord).toNat ∧ s.twin.abandoned = false ∧
       s.twin.wr + pack0.length ≤ 0x100000 ∧ s.twin.inputs = [] ∧ s.twin.packs = [] ∧ s.twin.packs.length ≠ (1 : Word).toNat) ∧
    (let s := standbyIn { Twin.reset with ckptF := 512, abandoned := true }
     s.mirroring = true ∧ s.twin.ckptF = (512 : DWord).toNat ∧ s.twin.abandoned = true) ∧
    (let s := standbyIn { Twin.reset with ckptF := 512, wr := 0x100000 }
     s.cfg.twinArea = some ⟨0x100000, 0x100000⟩ ∧ s.twin.abandoned = false ∧ 0x100000 < s.twin.wr + pack0.length) ∧
    (up.mirroring = false ∧ parseRec [] = none) ∧
    (let s := standbyIn Twin.reset
     s.accepts (.twinDetach hd) hd ∧ s.hasTwin = true) ∧
    (up.accepts (.twinDetach hd) hd ∧ up.hasTwin = false) := by
  decide +kernel

theorem wit_TwinTakesOver :
    (let s := (standbyIn { Twin.reset with hbMissed := 15 }).setFld .linkTwinCfg 0 17 17 1
     s.mirroring = true ∧ s.hbLoss ≤ s.twin.hbMissed ∧ s.bit .linkTwinCfg 0 17 = true) ∧
    (let s := standbyIn { Twin.reset with hbMissed := 15 }
     s.mirroring = true ∧ s.hbLoss ≤ s.twin.hbMissed ∧ s.bit .linkTwinCfg 0 17 = false ∧ s.standby = true ∧
       s.twin.state = .attached) ∧
    (let s := { twinned up with twin := { Twin.reset with state := .attached, hbMissed := 15 } }
     s.forwarding = true ∧ s.hbLoss ≤ s.twin.hbMissed) ∧
    (up.standby = false ∧ up.mirroring = false ∧ up.forwarding = false ∧ up.twin.state ≠ .taking ∧ up.bit .linkTwinCfg 0 31 = false) ∧
    (let s := { up with twin := { Twin.reset with state := .taking } }
     s.twin.state = .taking ∧ s.twin.complete = [] ∧ s.streams = []) ∧
    ((twinned up).bit .linkTwinCfg 0 31 = true ∧ (twinned up).bit .linkTwinCfg 0 16 = false ∧ (twinned up).dev.pwrGood = true) := by
  decide +kernel

/-- A ring at 0x100000 whose records are numbered from 10 to 11. -/
def ringed : State :=
  { traced with cfg := { up.cfg with trec := some ⟨0x100000, 0x200000⟩ },
                trec := { Trec.reset with headSeq := 12, tailSeq := 10, drainSeq := 10 } }

theorem wit_Recorder :
    (traced.accepts (.trecRead hd 0 1) hd ∧ traced.cfg.trec = none) ∧
    (ringed.accepts (.trecRead hd 10 1) hd ∧ ringed.cfg.trec = some ⟨0x100000, 0x200000⟩ ∧ ringed.trec.tailSeq ≤ (10 : DWord).toNat ∧
      (10 : DWord).toNat < ringed.trec.headSeq ∧ ringed.memx.badBlocks = [] ∧ ringed.sess hd.session = some sess1 ∧
      max 16 (ringed.mem.leN (0x100000 + ringed.recOff ⟨0x100000, 0x200000⟩ 10) 4) ≤ sess1.maxPayload ∧
      (ringed.recRead ⟨0x100000, 0x200000⟩ 1 (ringed.recOff ⟨0x100000, 0x200000⟩ 10) sess1.maxPayload).isSome = true) ∧
    (let s := { ringed with memx := { MemX.reset with badBlocks := [(0x100000 + ringed.recOff ⟨0x100000, 0x200000⟩ 10) / 64] } }
     (s.recRead ⟨0x100000, 0x200000⟩ 1 (s.recOff ⟨0x100000, 0x200000⟩ 10) sess1.maxPayload) = none ∧
       (s.recBad ⟨0x100000, 0x200000⟩ 1 (s.recOff ⟨0x100000, 0x200000⟩ 10)).isSome = true) ∧
    (let s := { ringed with cfg := up.cfg }
     s.accepts (.trecAck hd 12) hd ∧ s.cfg.trec = none) ∧
    (ringed.accepts (.trecAck hd 13) hd ∧ ringed.trec.headSeq < (13 : DWord).toNat) ∧
    (ringed.accepts (.trecAck hd 12) hd ∧ ringed.trec.drainSeq ≤ (12 : DWord).toNat ∧ (12 : DWord).toNat ≤ ringed.trec.headSeq) ∧
    (ringed.accepts (.trecClear hd) hd ∧ ringed.replay.active = false) := by
  decide +kernel

/-- A replay that has taken record 4. -/
def replaying : State :=
  { ringed with replay := { Replay.reset with active := true, session := 1, lastSeq := some 4 } }

theorem wit_Recorder_replay :
    (replaying.accepts (.trecClear hd) hd ∧ replaying.replay.active = true) ∧
    (traced.accepts (.replayBegin hd) hd ∧ traced.dev.stage = 2 ∧ traced.pitches = [] ∧ traced.ctxs = [] ∧
      traced.twin.state ≠ .attached ∧ traced.sessions.length = 1 ∧ traced.replay.active = false) ∧
    (let s := { traced with sessions := [sess1, { sess1 with num := 2 }] }
     s.accepts (.replayBegin hd) hd ∧ s.sessions.length ≠ 1) ∧
    (let s := { traced with replay := replaying.replay }
     s.accepts (.replayBegin hd) hd ∧ s.sessions.length = 1 ∧ s.replay.active = true) ∧
    (traced.accepts (.replayData hd []) hd ∧ traced.accepts (.replayEnd hd) hd ∧ replaying.accepts (.replayEnd hd) hd) := by
  decide +kernel

/-- Record 5, a TICK_SRC record. -/
def record5 (crc : Nat) : List Byte :=
  putAt (List.replicate 80 0#8) [(0, 4, 80), (4, 2, 4), (8, 8, 5), (0x3C, 4, crc)]

theorem wit_Recorder_data :
    ∃ r, replaying.accepts (.replayData hd (record5 0xcb81ace1)) hd ∧ replaying.replay.active = true ∧
      parseRec (record5 0xcb81ace1) = some r ∧ (record5 0xcb81ace1).length = leAt (record5 0xcb81ace1) 0 4 ∧
      replaying.replay.lastSeq = some 4 ∧ r.seq = 4 + 1 ∧ r.kind ≠ 1 ∧ r.kind ≠ 0xFFFF ∧ replaying.recRefusal r = 0 ∧
      replaying.replay.stopped = [] :=
  ⟨_, by decide +kernel, by decide +kernel, parseRec_of _ (by decide +kernel), by decide +kernel⟩

/-! ### Statements on the whole machine -/

theorem wit_UptimeIsExact :
    State.reset.phase < 1536 ∧ State.reset.phase % 384 = 0 ∧ ({ State.reset with phase := 1535 } : State).phase < 1536 ∧
    ({ State.reset with phase := 1152 } : State).phase % 384 = 0 := by
  decide

theorem wit_ReportsChangeNothingElse :
    traced.cfg.trec = none ∧ ringed.cfg.trec = some ⟨0x100000, 0x200000⟩ ∧ 0x10000 + recLen [1#8].length ≤ 0x200000 ∧
    0x10000 ≤ ringed.trec.head ∧ ringed.trec.head < 0x200000 ∧ (0x300000 < 0x100000 ∨ 0x100000 + 0x200000 ≤ 0x300000) := by
  decide +kernel

theorem wit_StepRunsTheFrontCommand : State.reset.pending = [] := rfl

theorem wit_MemoryStaysCanonical : voiced.mem.wf = true ∧ ∃ t, step voiced = .next t := ⟨by decide +kernel, _, rfl⟩

/-- A full directory. -/
def full : State := { up with streams := (List.range 131072).map (fun n => (n, idleStr)) }

theorem full_fold (k n : Nat) :
    ((List.range' k n).map (fun n => (n, idleStr))).foldl
      (fun c e => if e.1 = c ∧ (e.2.isOpen ∨ e.2.cnt.retired) then c + 1 else c) k = k + n := by
  induction n generalizing k with
  | zero => rfl
  | succ n ih =>
    have h : idleStr.isOpen = true := by decide
    simp only [List.range', List.map_cons, List.foldl_cons, h, true_or, and_self, if_true]
    rw [ih]; omega

theorem wit_StreamOpens_full : full.accepts (.streamOpen hd openP) hd ∧ full.freeIndex = none := by
  refine ⟨by decide +kernel, ?_⟩
  simp only [State.freeIndex, full, List.range_eq_range']
  rw [full_fold]
  rfl

/-! ### Ill-formed commands, and words and numbers of the spec -/

/-- One ill-formed command for each check of `Instr.wf`, and the word decoder of a table that gives no bits. -/
theorem test_wf_refuses :
    (Instr.feature hd ⟨0, false, [], 0, 4, [[1, 2, 3]]⟩).wf = false ∧
    (Instr.voiceSet hd 0 (List.replicate 39 0)).wf = false ∧ (Instr.voiceSet hd 0 (List.replicate 40 0)).wf = true ∧
    (Instr.attest hd []).wf = false := by
  decide +kernel

theorem test_wf_counts {α : Type} (x : α) (n : Nat) (h : 2 ^ 16 ≤ n) : decide ((List.replicate n x).length < 2 ^ 16) = false := by
  simp; omega

theorem test_wf_regRead (n : Nat) (h : 2 ^ 16 ≤ n) : (Instr.regRead hd (List.replicate n 0)).wf = false := test_wf_counts _ n h

theorem test_wf_regWrite (n : Nat) (h : 2 ^ 16 ≤ n) : (Instr.regWrite hd (List.replicate n (0, 0))).wf = false := test_wf_counts _ n h

theorem test_wf_memWrite (n : Nat) (h : 2 ^ 32 ≤ n) : (Instr.memWrite hd 0 (List.replicate n 0)).wf = false := by
  simp [Instr.wf]; omega

theorem test_wf_marks (n : Nat) (h : 2 ^ 16 ≤ n) : (Instr.feature hd ⟨0, false, List.replicate n (0, 0), 0, 0, []⟩).wf = false := by
  simp [Instr.wf, FeatureMsg.wf]; omega

theorem test_wf_tokens (n : Nat) (h : 256 ≤ n) :
    (Instr.authPolicy hd [] (List.replicate n [])).wf = false ∧ (Instr.debugLevel hd 0 (List.replicate n [])).wf = false := by
  simp [Instr.wf, tokensWf]; omega

theorem test_wf_tokenSize (n : Nat) (h : 2 ^ 16 ≤ n) : (Instr.debugLevel hd 0 [List.replicate n 0]).wf = false := by
  simp [Instr.wf, tokensWf]; omega

theorem test_no_table_words (n w : Nat) : decodeTableWord n w = none ∧ State.reset.withFetchWord n w = State.reset := ⟨rfl, rfl⟩

/-- The rows of 05's example of rounding to BF16: the value, RNE, and stochastic with bit 0 and bit 1. -/
theorem test_bf16_rows :
    ∀ r ∈ [(0x3F802000, 0x3F80, 0x3F80, 0x3F80), (0x3F804008, 0x3F80, 0x3F80, 0x3F81), (0x3F808000, 0x3F80, 0x3F80, 0x3F81),
           (0x3F80C000, 0x3F81, 0x3F81, 0x3F81), (0xBF80C000, 0xBF81, 0xBF81, 0xBF81)],
      narrow bf16 false true false (fpDecode fp32 r.1) = r.2.1 ∧ narrow bf16 true true false (fpDecode fp32 r.1) = r.2.2.1 ∧
        narrow bf16 true true true (fpDecode fp32 r.1) = r.2.2.2 := by
  decide +kernel

/-- The rows of 05's example of narrowing to E4M3: the value, RND, the bit, the result with SAT = 0 and with SAT = 1. -/
theorem test_e4m3_rows :
    ∀ r ∈ [(0x43DC0000, false, false, 0x7E, 0x7E), (0x43E80000, false, false, 0x7E, 0x7E), (0x43E80000, true, false, 0x7E, 0x7E),
           (0x43E80000, true, true, 0x7F, 0x7E), (0x43EB0000, false, false, 0x7F, 0x7E), (0xC3EB0000, false, false, 0xFF, 0xFE),
           (0x7F800000, false, false, 0x7F, 0x7E)],
      narrow e4m3 r.2.1 false r.2.2.1 (fpDecode fp32 r.1) = r.2.2.2.1 ∧
        narrow e4m3 r.2.1 true r.2.2.1 (fpDecode fp32 r.1) = r.2.2.2.2 := by
  decide +kernel

/-- 12's example: block B lies on channel 7. 20's example: Kiosk 3 of Quarter 9 and its exception record. -/
theorem test_addresses :
    chanOf 0x123456_80 = 7 ∧ regAt 0x190168 = some (.kskExc, 9, 3) ∧ regAt 0x190170 = some (.kskExcAddrLo, 9, 3) ∧
    regAt 0x190174 = some (.kskExcAddrHi, 9, 3) := by
  decide +kernel


end Sys2Proof.Tests
end

section
/-! SUPPORT and proof of O36: register accesses by a requester and over KTP (00 R6, R9, 01 R43, 11 R291, 15 R384). -/

namespace Sys2Proof.Machine

/-! ### Who may reach a register (11 R291) -/

theorem State.mayReach_of_not_kiosk {rq : Requester} (h : ∀ k, rq ≠ .kiosk k) (s : State) (off : Nat) (wr : Bool) :
    s.mayReach rq off wr = true := by
  cases rq with
  | session n => rfl
  | mgmt => rfl
  | kiosk k => exact absurd rfl (h k)

theorem regOff_regSpace_add {off : Nat} (h : off < 2 ^ 32) : regOff (regSpace + off) = some off := by
  rw [regOff, if_pos ⟨Nat.le_add_right _ _, Nat.add_lt_add_left h _⟩, Nat.add_sub_cancel_left]

/-- The register space lies above LPDDR5X, Quarter SRAM and the directory (12 R305). -/
theorem zoneOf_regSpace_add {off : Nat} (h : off < 2 ^ 32) : zoneOf (regSpace + off) = .reg off := by
  have hl : ¬ regSpace + off < lpddrTop := by unfold regSpace lpddrTop; omega
  have hs : ¬ (0x100000000000 ≤ regSpace + off ∧ regSpace + off < 0x100010000000) := by unfold regSpace; omega
  have hd : ¬ (dirBase ≤ regSpace + off ∧ regSpace + off < dirBase + 0x800000) := by unfold regSpace dirBase; omega
  simp only [zoneOf, if_neg hl, if_neg hs, if_neg hd, regOff_regSpace_add h]

/-- Every requester may read outside the security and the debug block. -/
theorem State.mayReach_read {off : Nat} (h : off < 2 ^ 32) (hsec : off / 65536 ≠ 0xB) (hdbg : off / 65536 ≠ 0xE) (s : State)
    (rq : Requester) : s.mayReach rq off false = true := by
  cases rq with
  | session n => rfl
  | mgmt => rfl
  | kiosk k => simp [State.mayReach, State.kioskAcc, zoneOf_regSpace_add h, hsec, hdbg]

theorem State.reaching_of_mayReach {s : State} {rq : Requester} {off : Nat} {wr : Bool} (h : s.mayReach rq off wr = true)
    (f : State → State) : s.reaching rq off wr f = f s := by
  simp [State.reaching, h]

theorem State.reaching_kiosk_denied {s : State} {k : KioskNo} {off : Nat} {wr : Bool} (h : s.mayReach (.kiosk k) off wr = false)
    (f : State → State) : s.reaching (.kiosk k) off wr f = s.kioskExc k 3 (some (0x200000000000 + off)) := by
  simp [State.reaching, h, regSpace]

section
variable {s : State} {rq : Requester} {off v : Word}

theorem exec_registerWrite_of_mayReach (h : s.mayReach rq off.toNat true = true) :
    exec (.registerWrite rq off v) s = .next (finish (s.regWriteAt rq off.toNat v.toNat).2) := by
  change done (s.reaching _ _ _ _) = _
  rw [State.reaching_of_mayReach h]; rfl

theorem exec_rcRead_of_mayReach (h : s.mayReach rq off.toNat false = true) :
    exec (.rcRead rq off) s = .next (finish (s.regRead1 rq off.toNat).2.2) := by
  change done (s.reaching _ _ _ _) = _
  rw [State.reaching_of_mayReach h]; rfl

/-- The two rows of reads do the same: what a read does follows from the register's card. -/
theorem exec_latchedLoRead_eq_rcRead : exec (.latchedLoRead rq off) s = exec (.rcRead rq off) s := rfl

end

theorem exec_registerWrite_denied {s : State} {k : KioskNo} {off : Word} (v : Word)
    (h : s.mayReach (.kiosk k) off.toNat true = false) :
    exec (.registerWrite (.kiosk k) off v) s = .next (finish (s.kioskExc k 3 (some (0x200000000000 + off.toNat)))) := by
  change done (s.reaching _ _ _ _) = _
  rw [State.reaching_kiosk_denied h]; rfl

theorem exec_rcRead_denied {s : State} {k : KioskNo} {off : Word} (h : s.mayReach (.kiosk k) off.toNat false = false) :
    exec (.rcRead (.kiosk k) off) s = .next (finish (s.kioskExc k 3 (some (0x200000000000 + off.toNat)))) := by
  change done (s.reaching _ _ _ _) = _
  rw [State.reaching_kiosk_denied h]; rfl

/-! ### One access at an offset -/

theorem State.regRead1_unmapped {off : Nat} (h : regAt off = none) (s : State) (rq : Requester) :
    s.regRead1 rq off = (8, 0, s) := by
  simp [State.regRead1, h]

theorem State.regRead1_of_regAt {off i j : Nat} {r : RegName} (h : regAt off = some (r, i, j)) (s : State) (rq : Requester) :
    s.regRead1 rq off = (0, (s.readReg rq r i j).1, (s.readReg rq r i j).2) := by
  simp [State.regRead1, h]

theorem State.regWriteAt_unmapped {off : Nat} (h : regAt off = none) (s : State) (rq : Requester) (v : Nat) :
    s.regWriteAt rq off v = (8, s) := by
  simp [State.regWriteAt, State.regWrite1, h]

theorem State.regWriteAt_of_regAt {off i j : Nat} {r : RegName} (h : regAt off = some (r, i, j)) (hc : r ≠ .dbgKskCtl)
    (hv : r ≠ .dbgKskView) (s : State) (rq : Requester) (v : Nat) :
    s.regWriteAt rq off v = s.writeReg rq r i j (v % 2 ^ 32) := by
  unfold State.regWriteAt
  split
  case h_1 h' => exact absurd (congrArg Prod.fst (Option.some.inj (h.symm.trans h'))) hc
  case h_2 h' => exact absurd (congrArg Prod.fst (Option.some.inj (h.symm.trans h'))) hv
  case h_3 => simp only [State.regWrite1, h]

/-! ### REG_READ and REG_WRITE of addresses that hold no register (15 R384) -/

/-- An address outside the register space, or of an offset that no card defines. -/
def NoRegister (a : Nat) : Prop := ∀ o, regOff a = some o → regAt o = none

theorem NoRegister.of_regOff_none {a : Nat} (h : regOff a = none) : NoRegister a := fun o ho => by simp [h] at ho

theorem NoRegister.of_regAt_none {a o : Nat} (ho : regOff a = some o) (h : regAt o = none) : NoRegister a :=
  fun _ ho' => Option.some.inj (ho.symm.trans ho') ▸ h

theorem leBytes_zero (n : Nat) : leBytes n 0 = List.replicate n 0#8 := by
  induction n with
  | zero => rfl
  | succ n ih => rw [leBytes, Nat.zero_div, ih]; rfl

theorem State.readRegs_cons_noRegister {a : Nat} (h : NoRegister a) (rq : Requester) (as : List Nat) (st : Nat) (bs : List Byte)
    (s : State) : State.readRegs rq (a :: as) (st, bs, s) =
      State.readRegs rq as (if st = 0 then 8 else st, bs ++ List.replicate 4 0#8, s) := by
  rw [State.readRegs, ← leBytes_zero]
  cases ho : regOff a with
  | none => rfl
  | some o => simp only [State.regRead1_unmapped (h o ho)]

theorem State.readRegs_noRegister {as : List Nat} (h : ∀ a ∈ as, NoRegister a) (rq : Requester) (st : Nat) (bs : List Byte)
    (s : State) : State.readRegs rq as (st, bs, s) =
      (if st = 0 ∧ as ≠ [] then 8 else st, bs ++ List.replicate (4 * as.length) 0#8, s) := by
  induction as generalizing st bs with
  | nil => simp [State.readRegs]
  | cons a as ih =>
    obtain ⟨ha, has⟩ := List.forall_mem_cons.mp h
    have hlen : 4 * (a :: as).length = 4 + 4 * as.length := by simp [Nat.mul_succ, Nat.add_comm]
    rw [State.readRegs_cons_noRegister ha, ih has, hlen, List.replicate_add, List.append_assoc]
    by_cases hst : st = 0 <;> simp [hst]

theorem State.writeRegs_cons_noRegister {a : Nat} (h : NoRegister a) (rq : Requester) (v : Nat) (es : List (Nat × Nat)) (st : Nat)
    (s : State) : State.writeRegs rq ((a, v) :: es) (st, s) = State.writeRegs rq es (if st = 0 then 8 else st, s) := by
  rw [State.writeRegs]
  cases ho : regOff a with
  | none => rfl
  | some o => simp only [State.regWriteAt_unmapped (h o ho)]

theorem State.writeRegs_noRegister {es : List (Nat × Nat)} (h : ∀ e ∈ es, NoRegister e.1) (rq : Requester) (st : Nat) (s : State) :
    State.writeRegs rq es (st, s) = (if st = 0 ∧ es ≠ [] then 8 else st, s) := by
  induction es generalizing st with
  | nil => simp [State.writeRegs]
  | cons e es ih =>
    obtain ⟨he, hes⟩ := List.forall_mem_cons.mp h
    rw [State.writeRegs_cons_noRegister he, ih hes]
    by_cases hst : st = 0 <;> simp [hst]

/-- REG_READ of addresses that hold no register: UNMAPPED, and zeros for the words. -/
theorem exec_regRead_noRegister {h : Hdr} {as : List DWord} {s : State} (ha : s.accepts (.regRead h as) h) (hne : as ≠ [])
    (hn : ∀ a ∈ as, NoRegister a.toNat) : exec (.regRead h as) s =
      answered (.regRead h as) h s (s.woken (.regRead h as)) 8 (List.replicate (4 * as.length) 0#8) := by
  refine done_runMsg ha ?_
  simp only [State.regReadRep, State.readRegs_noRegister (List.forall_mem_map.mpr hn)]
  simp [hne]

/-- REG_WRITE to addresses that hold no register: UNMAPPED, and nothing changes. -/
theorem exec_regWrite_noRegister {h : Hdr} {es : List (DWord × Word)} {s : State} (ha : s.accepts (.regWrite h es) h) (hne : es ≠ [])
    (hn : ∀ e ∈ es, NoRegister e.1.toNat) : exec (.regWrite h es) s =
      answered (.regWrite h es) h s (s.woken (.regWrite h es)) 8 [] := by
  refine done_runMsg ha ?_
  have hn' : ∀ e ∈ es.map (fun e => (e.1.toNat, e.2.toNat)), NoRegister e.1 := List.forall_mem_map.mpr hn
  simp [State.regWriteRep, State.writeRegs_noRegister hn', hne, Rep.no]

/-! ### Flag registers (00 R6) -/

/-- The flag registers: every bit is reserved or cleared by writing 1. -/
def flagRegs : List RegName :=
  [.tickEvt, .sdirEvt, .sdirResEvt, .qtrEvt, .qtrNumEvt, .schedPreEvt, .qtrConvEvt, .schedGraphEvt, .schedPitchEvt,
   .qtrKskEvt, .memcEvt, .movrChEvt, .portEvt, .hostEvt, .linkEvt, .secEvt, .pwrEvt, .trecEvt]

theorem flagRegs_rw : ∀ r ∈ flagRegs, r.card.rw = 0 := by decide

theorem flagRegs_not_dbg : ∀ r ∈ flagRegs, r ≠ .dbgKskCtl ∧ r ≠ .dbgKskView := by decide

/-- No block gives a flag register a write rule of its own. -/
theorem State.writeReg_flagRegs {r : RegName} (hr : r ∈ flagRegs) (s : State) (rq : Requester) (i v : Nat) :
    s.writeReg rq r i 0 v = (0, s.putWord r i v) := by
  simp only [flagRegs, List.mem_cons, List.not_mem_nil, or_false] at hr
  rcases hr with rfl | rfl | rfl | rfl | rfl | rfl | rfl | rfl | rfl | rfl | rfl | rfl | rfl | rfl | rfl | rfl | rfl | rfl <;> rfl

theorem testBit_ones32 {n : Nat} (hn : n < 32) : Nat.testBit 0xFFFFFFFF n = true := by
  simpa [hn] using Nat.testBit_two_pow_sub_one 32 n

theorem testBit_mod_word {n : Nat} (hn : n < 32) (v : Nat) : (v % 2 ^ 32).testBit n = v.testBit n := by
  rw [Nat.testBit_mod_two_pow, decide_eq_true hn, Bool.true_and]

/-- Without RW bits, a write clears the W1C bits written 1 and keeps every other bit. -/
theorem RegCard.testBit_merge {c : RegCard} (hrw : c.rw = 0) (old v : Nat) {n : Nat} (hn : n < 32) :
    (c.merge old v).testBit n = (old.testBit n && !(c.w1c.testBit n && v.testBit n)) := by
  simp only [RegCard.merge, hrw, Nat.testBit_or, Nat.testBit_and, Nat.testBit_xor, testBit_ones32 hn, Nat.zero_testBit]
  cases old.testBit n <;> cases c.w1c.testBit n <;> cases v.testBit n <;> rfl

theorem State.putWord_testBit {r : RegName} (hrw : r.card.rw = 0) (s : State) (i v : Nat) {n : Nat} (hn : n < 32) :
    ((s.putWord r i v).rg r i).testBit n = ((s.rg r i).testBit n && !(r.card.w1c.testBit n && v.testBit n)) := by
  rw [State.putWord, State.rg_setRg_same, testBit_mod_word hn, RegCard.testBit_merge hrw _ _ hn]

theorem exec_registerWrite_flagRegs {s : State} {rq : Requester} {off v : Word} {r : RegName} {i : Nat}
    (hat : regAt off.toNat = some (r, i, 0)) (hm : s.mayReach rq off.toNat true = true) (hr : r ∈ flagRegs) :
    exec (.registerWrite rq off v) s = .next (finish (s.putWord r i v.toNat)) := by
  obtain ⟨hc, hv⟩ := flagRegs_not_dbg r hr
  rw [exec_registerWrite_of_mayReach hm, State.regWriteAt_of_regAt hat hc hv, Nat.mod_eq_of_lt v.isLt,
    State.writeReg_flagRegs hr]

/-! ### Counters that clear on read (00 R6) -/

theorem RegCard.testBit_afterRead (c : RegCard) (old : Nat) {n : Nat} (hn : n < 32) :
    (c.afterRead old).testBit n = (old.testBit n && !c.rc.testBit n) := by
  simp [RegCard.afterRead, Nat.testBit_and, Nat.testBit_xor, testBit_ones32 hn]

theorem State.readReg_clears {r : RegName} (hrc : r.card.rc ≠ 0) (hl : r.latches = []) (s : State) (rq : Requester) (i j : Nat) :
    (s.readReg rq r i j).2 = s.setRg r i (r.card.afterRead (s.rg r i j)) j := by
  simp [State.readReg, hl, hrc, State.each]

theorem exec_rcRead_clears {s : State} {rq : Requester} {off : Word} {r : RegName} {i j : Nat}
    (hat : regAt off.toNat = some (r, i, j)) (hm : s.mayReach rq off.toNat false = true) (hrc : r.card.rc ≠ 0) (hl : r.latches = []) :
    exec (.rcRead rq off) s = .next (finish (s.setRg r i (r.card.afterRead (s.rg r i j)) j)) := by
  rw [exec_rcRead_of_mayReach hm, State.regRead1_of_regAt hat, State.readReg_clears hrc hl]

/-! ### The latch of TICK_CNT_HI (01 R43) -/

theorem State.shadow_setShadow_same (s : State) (rq : Requester) (off v : Nat) : (s.setShadow rq off v).shadow rq off = v := by
  simp only [State.shadow, State.setShadow, find1, List.filter_append, List.filter_filter, Bool.and_not_self, List.filter_false,
    List.nil_append, List.filter_cons, beq_self_eq_true, Bool.true_and, if_true, List.head?_cons]

theorem State.shadow_setShadow_ne (s : State) {rq q : Requester} {off o : Nat} (h : q ≠ rq ∨ o ≠ off) (v : Nat) :
    (s.setShadow rq off v).shadow q o = s.shadow q o := by
  have hnew : ((rq == q) && (off == o)) = false := by
    rcases h with h | h <;> simp [Ne.symm h]
  have hold : ∀ x ∈ s.shadows, ((x.1 == q && x.2.1 == o) && !(x.1 == rq && x.2.1 == off)) = (x.1 == q && x.2.1 == o) := by
    intro x _
    by_cases hx : x.1 = q ∧ x.2.1 = o
    · obtain ⟨rfl, rfl⟩ := hx
      rcases h with h | h <;> simp [h]
    · rw [show (x.1 == q && x.2.1 == o) = false by simpa using hx, Bool.false_and]
  simp only [State.shadow, State.setShadow, find1, List.filter_append, List.filter_filter, List.filter_cons, hnew,
    List.filter_congr hold, List.filter_nil, Bool.false_eq_true, if_false, List.append_nil]

theorem regAt_tickCntLo : ∀ d : Dom, regAt (RegName.tickCntLo.off d) = some (.tickCntLo, d.val, 0) := by decide +kernel

theorem State.mayReach_tickCntLo (s : State) (rq : Requester) (d : Dom) : s.mayReach rq (RegName.tickCntLo.off d) false = true := by
  have hd := d.isLt
  have ho : RegName.tickCntLo.off d = 0x10118 + d.val * 0x100 := rfl
  exact s.mayReach_read (by omega) (by omega) (by omega) rq

theorem State.readReg_tickCntLo (s : State) (rq : Requester) (d : Nat) :
    (s.readReg rq .tickCntLo d 0).2 = s.setShadow rq (RegName.tickCntHi.off d) ((s.td d).cnt / 2 ^ 32 % 2 ^ 32) := rfl

theorem exec_latchedLoRead_tickCntLo (s : State) (rq : Requester) {off : Word} {d : Dom} (h : off.toNat = RegName.tickCntLo.off d) :
    exec (.latchedLoRead rq off) s =
      .next (finish (s.setShadow rq (RegName.tickCntHi.off d) ((s.td d).cnt / 2 ^ 32 % 2 ^ 32))) := by
  rw [exec_latchedLoRead_eq_rcRead, exec_rcRead_of_mayReach (h ▸ s.mayReach_tickCntLo rq d),
    State.regRead1_of_regAt (h ▸ regAt_tickCntLo d), State.readReg_tickCntLo]

/-! ### The obligation -/

/-- Settles O36: each clause is the rule of its access above, with what `putWord`, `setRg` and `setShadow` leave alone. -/
theorem registerAccess : Obligations.RegisterAccess := by
  unfold Obligations.RegisterAccess
  refine ⟨fun rq off v s hat => ⟨fun hm => ?_, fun hm => ?_⟩, fun rq off wr s hk => s.mayReach_of_not_kiosk hk _ _,
    fun rq off v s => ⟨exec_registerWrite_of_mayReach, fun hm => ⟨exec_rcRead_of_mayReach hm, exec_rcRead_of_mayReach hm⟩⟩,
    fun k off v s => ⟨exec_registerWrite_denied v, fun hm => ⟨exec_rcRead_denied hm, exec_rcRead_denied hm⟩⟩,
    fun h as s ha hne hn => exec_regRead_noRegister ha hne (fun a hmem => .of_regOff_none (hn a hmem)),
    fun h as s ha hne hn => exec_regRead_noRegister ha hne (fun a hmem => ?_),
    fun h es s ha hne hn => exec_regWrite_noRegister ha hne hn, fun rq off v s r i j hat hm hr hj => ?_,
    fun rq off s r i hat hm hrc hl => ?_, fun rq off s d hoff => ?_⟩
  · rw [exec_registerWrite_of_mayReach hm, State.regWriteAt_unmapped hat]
  · rw [exec_latchedLoRead_eq_rcRead, exec_rcRead_of_mayReach hm, State.regRead1_unmapped hat]
    exact ⟨rfl, rfl⟩
  · obtain ⟨o, ho, hat⟩ := hn a hmem
    exact .of_regAt_none ho hat
  · subst hj
    refine ⟨_, exec_registerWrite_flagRegs hat hm hr, fun n hn => ?_, ?_, rfl, rfl, rfl, rfl⟩
    · exact s.putWord_testBit (flagRegs_rw r hr) i v.toNat hn
    · exact s.sameRegs_setRg (List.mem_singleton_self _)
  · refine ⟨_, exec_rcRead_clears hat hm hrc hl, fun n hn => ?_, ?_, rfl, rfl, rfl⟩
    · change ((s.setRg r i _ 0).rg r i).testBit n = _
      rw [State.rg_setRg_same, testBit_mod_word hn, RegCard.testBit_afterRead _ _ hn]
    · exact s.sameRegs_setRg (List.mem_singleton_self _)
  · exact ⟨_, exec_latchedLoRead_tickCntLo s rq hoff, s.shadow_setShadow_same rq _ _, rfl,
      fun q o hne => s.shadow_setShadow_ne hne _⟩

end Sys2Proof.Machine
end

section
/-! SUPPORT and proof of O8: what a handle names, and what a message that names a stale one does (02 R44, R46, 12 R321). -/

namespace Sys2Proof.Machine

/-! ### The two fields of a handle (02 R44) -/

section
variable {s : State} {i : Nat}

theorem State.handle_index (hi : i < 2 ^ 17) : s.handle i % 2 ^ 17 = i := by
  rw [State.handle, Stream.handle, Nat.mul_add_mod', Nat.mod_eq_of_lt hi]

theorem State.handle_gen (hi : i < 2 ^ 17) : s.handle i / 2 ^ 17 = (s.stream i).dir.gen := by
  rw [State.handle, Stream.handle, Nat.mul_comm, Nat.mul_add_div (by decide), Nat.div_eq_of_lt hi, Nat.add_zero]

theorem State.handle_lt (hi : i < 2 ^ 17) (hg : (s.stream i).dir.gen ≤ 32767) : s.handle i < 2 ^ 32 := by
  rw [State.handle, Stream.handle]
  omega

end

/-- The generations that an entry takes are 1 to 32,767: the one after 32,767 is 1 (02 R45). -/
theorem nextGen_range {g : Nat} (hg : g ≤ 32767) : 1 ≤ nextGen g ∧ nextGen g ≤ 32767 := by
  unfold nextGen
  split <;> omega

/-! ### The entry a handle names (02 R44, R46) -/

section
variable {s : State} {h i : Nat}

theorem State.findHandle_eq_some (ho : (s.stream (h % 2 ^ 17)).isOpen = true)
    (hg : (s.stream (h % 2 ^ 17)).dir.gen = h / 2 ^ 17) : s.findHandle h = some (h % 2 ^ 17) := by
  simp only [State.findHandle, ho, hg, beq_self_eq_true, Bool.and_self, if_true]

theorem State.findHandle_eq_none (hs : (s.stream (h % 2 ^ 17)).dir.gen ≠ h / 2 ^ 17 ∨ (s.stream (h % 2 ^ 17)).isOpen = false) :
    s.findHandle h = none := by
  rw [State.findHandle]
  rcases hs with hg | ho
  · rw [beq_false_of_ne hg, Bool.and_false]; rfl
  · rw [ho, Bool.false_and]; rfl

/-- The handle of an open entry names that entry. -/
theorem State.findHandle_handle (hi : i < 2 ^ 17) (ho : (s.stream i).isOpen = true) : s.findHandle (s.handle i) = some i := by
  have hx := State.handle_index (s := s) hi
  have hf := s.findHandle_eq_some (h := s.handle i) (by rw [hx]; exact ho) (by rw [hx, State.handle_gen hi])
  rwa [hx] at hf

end

/-! ### Messages that name a stream -/

/-- A record whose words all have valid parity is read as it stands (12 R321). -/
theorem State.dirCheck_of_noBadWords {s : State} (h : s.memx.badWords = []) (i : Nat) : s.dirCheck i = s := by
  simp [State.dirCheck, h, State.each]

/-- A rule that asks for a stream refuses a stale handle, counts it and flags it (02 R46). -/
theorem State.onHandle_stale {s : State} {h : Nat} (hn : (s.dirCheck (h % 2 ^ 17)).findHandle h = none)
    (f : State → Nat → Rep) : s.onHandle h f = .no (s.dirCheck (h % 2 ^ 17)).stale 0x101 := by
  simp only [State.onHandle, hn]

/-- The messages that name a stream by the handle `x`. -/
def handleMsgs (h : Hdr) (x : Word) (g : Half) (b : Bool) (m : FeatureMsg) (e : ExportParams) : List Instr :=
  [.streamCloseDrain h x, .streamCloseAbort h x, .streamPause h x, .streamResume h x, .streamSetGroup h x g,
   .streamStats h x b, .feature h m, .packExportSnapshot h e, .packExportMove h e]

/-- Each message that names a stream asks for it first, and its own rule runs on the entry found. -/
theorem exec_handleMsg {c : Instr} {h : Hdr} {x : Word} {g : Half} {b : Bool} {m : FeatureMsg} {e : ExportParams}
    (hm : m.handle = x) (he : e.handle = x) (hc : c ∈ handleMsgs h x g b m e) (s : State) :
    ∃ f, exec c s = done (runMsg c (fun t => t.onHandle x.toNat f) s) := by
  simp only [handleMsgs, List.mem_cons, List.not_mem_nil, or_false] at hc
  rcases hc with rfl | rfl | rfl | rfl | rfl | rfl | rfl | rfl | rfl
  iterate 6 exact ⟨_, rfl⟩
  · exact hm ▸ ⟨_, rfl⟩
  · exact he ▸ ⟨_, rfl⟩
  · exact he ▸ ⟨_, rfl⟩

/-- A message whose handle names no open stream answers STALE_HANDLE. -/
theorem exec_handleMsg_stale {c : Instr} {h : Hdr} {x : Word} {g : Half} {b : Bool} {m : FeatureMsg} {e : ExportParams}
    (hm : m.handle = x) (he : e.handle = x) (hc : c ∈ handleMsgs h x g b m e) {s : State} (ha : s.accepts c h)
    (hn : ((s.woken c).dirCheck (x.toNat % 2 ^ 17)).findHandle x.toNat = none) :
    exec c s = answered c h s ((s.woken c).dirCheck (x.toNat % 2 ^ 17)).stale 0x101 [] := by
  obtain ⟨f, hf⟩ := exec_handleMsg hm he hc s
  rw [hf]
  exact done_runMsg ha (State.onHandle_stale hn f)

/-! ### The obligation -/

/-- Settles O8: the fields of a handle, the range of the generations, and the refusal that all messages on a stream share. -/
theorem staleHandles : Obligations.StaleHandles := by
  unfold Obligations.StaleHandles
  refine ⟨fun s i hi ho _ hg => ?_, fun g _ hg => nextGen_range hg, fun s hs => ?_, fun c h x g b m e s hm he hc ha hw => ?_,
    fun s i hb => State.dirCheck_of_noBadWords hb i⟩
  · exact ⟨State.handle_lt hi hg, State.handle_index hi, State.handle_gen hi, State.findHandle_handle hi ho⟩
  · exact State.findHandle_eq_none (.inl (hs 0))
  · exact exec_handleMsg_stale hm he hc ha (State.findHandle_eq_none hw)

end Sys2Proof.Machine
end

section
/-! SUPPORT and proof of O30: a Kiosk instruction word and the fields read back from it (11 R286, R287). -/

namespace Sys2Proof.Machine

/-! ### One format at a time: the word has 32 bits, its major opcode is `op`, and its fields are read back -/

section
variable {op : Nat} (h : op < 64)
include h

theorem encV_lt (f : FV) : encV op f < 2 ^ 32 := by
  simp only [encV, pack, List.foldl]
  have := f.d.isLt; have := f.a.isLt; have := f.b.isLt; have := f.msk.isLt; have := f.fn.isLt; have := f.ty.isLt
  omega

theorem opcode_encV (f : FV) : bitsOf (encV op f) 31 26 = op := by
  simp only [encV, pack, List.foldl, bitsOf]
  have := f.d.isLt; have := f.a.isLt; have := f.b.isLt; have := f.msk.isLt; have := f.fn.isLt; have := f.ty.isLt
  omega

omit h in
theorem decV_encV (f : FV) : decV (encV op f) = f := by
  obtain ⟨d, a, b, msk, fn, ty⟩ := f
  simp only [decV, encV, pack, List.foldl, fld, bitsOf, FV.mk.injEq]
  have := d.isLt; have := a.isLt; have := b.isLt; have := msk.isLt; have := fn.isLt; have := ty.isLt
  refine ⟨?_, ?_, ?_, ?_, ?_, ?_⟩ <;> apply BitVec.eq_of_toNat_eq <;> simp only [BitVec.toNat_ofNat] <;> omega

theorem encI_lt (f : FI) : encI op f < 2 ^ 32 := by
  simp only [encI, pack, List.foldl]
  have := f.d.isLt; have := f.a.isLt; have := f.imm.isLt
  omega

theorem opcode_encI (f : FI) : bitsOf (encI op f) 31 26 = op := by
  simp only [encI, pack, List.foldl, bitsOf]
  have := f.d.isLt; have := f.a.isLt; have := f.imm.isLt
  omega

omit h in
theorem decI_encI (f : FI) : decI (encI op f) = f := by
  obtain ⟨d, a, imm⟩ := f
  simp only [decI, encI, pack, List.foldl, fld, bitsOf, FI.mk.injEq]
  have := d.isLt; have := a.isLt; have := imm.isLt
  refine ⟨?_, ?_, ?_⟩ <;> apply BitVec.eq_of_toNat_eq <;> simp only [BitVec.toNat_ofNat] <;> omega

theorem encM_lt (f : FM) : encM op f < 2 ^ 32 := by
  simp only [encM, pack, List.foldl]
  have := f.d.isLt; have := f.a.isLt; have := f.msk.isLt; have := f.sz.isLt; have := f.off.isLt
  omega

theorem opcode_encM (f : FM) : bitsOf (encM op f) 31 26 = op := by
  simp only [encM, pack, List.foldl, bitsOf]
  have := f.d.isLt; have := f.a.isLt; have := f.msk.isLt; have := f.sz.isLt; have := f.off.isLt
  omega

omit h in
theorem decM_encM (f : FM) : decM (encM op f) = f := by
  obtain ⟨d, a, msk, sz, off⟩ := f
  simp only [decM, encM, pack, List.foldl, fld, bitsOf, FM.mk.injEq]
  have := d.isLt; have := a.isLt; have := msk.isLt; have := sz.isLt; have := off.isLt
  refine ⟨?_, ?_, ?_, ?_, ?_⟩ <;> apply BitVec.eq_of_toNat_eq <;> simp only [BitVec.toNat_ofNat] <;> omega

end

/-- Formats B and S have the layout of format I under other field names. -/
theorem encB_eq_encI (op : Nat) (f : FB) : encB op f = encI op ⟨f.a, f.b, f.off⟩ := rfl
theorem encS_eq_encI (op : Nat) (f : FS) : encS op f = encI op ⟨f.a, f.b, f.imm⟩ := rfl

section
variable {op : Nat}

theorem encB_lt (h : op < 64) (f : FB) : encB op f < 2 ^ 32 := by rw [encB_eq_encI]; exact encI_lt h _
theorem encS_lt (h : op < 64) (f : FS) : encS op f < 2 ^ 32 := by rw [encS_eq_encI]; exact encI_lt h _
theorem opcode_encB (h : op < 64) (f : FB) : bitsOf (encB op f) 31 26 = op := by rw [encB_eq_encI, opcode_encI h]
theorem opcode_encS (h : op < 64) (f : FS) : bitsOf (encS op f) 31 26 = op := by rw [encS_eq_encI, opcode_encI h]

theorem decB_encB (f : FB) : decB (encB op f) = f := by
  have h := decI_encI (op := op) ⟨f.a, f.b, f.off⟩
  simp only [decI, FI.mk.injEq] at h
  simp only [decB, encB_eq_encI, h]

theorem decS_encS (f : FS) : decS (encS op f) = f := by
  have h := decI_encI (op := op) ⟨f.a, f.b, f.imm⟩
  simp only [decI, FI.mk.injEq] at h
  simp only [decS, encS_eq_encI, h]

end

/-! ### The obligation -/

/-- Settles O30: by the instruction, whose format's lemmas above bound the word and read its opcode and fields back. -/
theorem kioskWordsRoundTrip : Obligations.KioskWordsRoundTrip := by
  unfold Obligations.KioskWordsRoundTrip
  intro i k w h
  cases i with
  | kNop | kEnd | kYield | kWait | kPass | kArm | kTrst | kFlush | kInv | kFence | kCsr | kOpr =>
    obtain ⟨rfl, rfl⟩ := Prod.mk.inj (Option.some.inj h)
    exact ⟨encS_lt (by decide) _, by simp (disch := decide) only [kioskDecode, opcode_encS, decS_encS]⟩
  | addi | lui | jal | jr =>
    obtain ⟨rfl, rfl⟩ := Prod.mk.inj (Option.some.inj h)
    exact ⟨encI_lt (by decide) _, by simp (disch := decide) only [kioskDecode, opcode_encI, decI_encI]⟩
  | ld | st | vld | vst =>
    obtain ⟨rfl, rfl⟩ := Prod.mk.inj (Option.some.inj h)
    exact ⟨encM_lt (by decide) _, by simp (disch := decide) only [kioskDecode, opcode_encM, decM_encM]⟩
  | beq | bne | blt | bltu =>
    obtain ⟨rfl, rfl⟩ := Prod.mk.inj (Option.some.inj h)
    exact ⟨encB_lt (by decide) _, by simp (disch := decide) only [kioskDecode, opcode_encB, decB_encB]⟩
  | salu | valu | vfma | vcmp | vcvt | vmovs | vred | vgather | vscatter =>
    obtain ⟨rfl, rfl⟩ := Prod.mk.inj (Option.some.inj h)
    exact ⟨encV_lt (by decide) _, by simp (disch := decide) only [kioskDecode, opcode_encV, decV_encV]⟩
  | klog2 | kexp2 | ksqrt | krcp | ksincosTurn =>
    obtain ⟨rfl, rfl⟩ := Prod.mk.inj (Option.some.inj h)
    refine ⟨encV_lt (by decide) _, ?_⟩
    simp (disch := decide) only [kioskDecode, opcode_encV, decV_encV]
    rfl
  | _ => cases h

end Sys2Proof.Machine
end

section
/-!
SUPPORT: what the shared operations do to memory: they leave it, or they keep it canonical (00 R5). A lemma `f_mem` says that `f` leaves memory, a lemma `f_wf` that `f` keeps it canonical;
the operations that take an operation as argument ask it to keep every canonical memory canonical (`WfState`).
-/

namespace Sys2Proof.Machine

/-- A state whose memory is canonical. -/
structure WfState where
  s : State
  wf : s.mem.wf = true

@[simp] theorem WfState.mem_wf (t : WfState) : t.s.mem.wf = true := t.wf

@[simp] theorem State.mem_ite (c : Prop) [Decidable c] (a b : State) : (if c then a else b).mem = if c then a.mem else b.mem :=
  apply_ite State.mem c a b

@[simp] theorem Memory.wf_ite (c : Prop) [Decidable c] (a b : Memory) : (if c then a else b).wf = if c then a.wf else b.wf :=
  apply_ite Memory.wf c a b

@[simp] theorem State.wf_poke {s : State} (w : s.mem.wf = true) (a : Nat) (bs : List Byte) : (s.poke a bs).mem.wf = true :=
  State.poke_wf a bs w
@[simp] theorem State.wf_wipe {s : State} (w : s.mem.wf = true) (a n : Nat) : (s.wipe a n).mem.wf = true := State.wipe_wf a n w
@[simp] theorem State.wf_move {s : State} (w : s.mem.wf = true) (src dst n : Nat) : (s.move src dst n).mem.wf = true :=
  State.move_wf src dst n w
@[simp] theorem State.wf_unitPoke {s : State} (w : s.mem.wf = true) (q a : Nat) (bs : List Byte) : (s.unitPoke q a bs).mem.wf = true :=
  State.unitPoke_wf q a bs w
@[simp] theorem State.wf_storeAll {s : State} (w : s.mem.wf = true) (q : Nat) (l : List (Nat × List Byte)) :
    (s.storeAll q l).mem.wf = true := State.storeAll_wf q l s w

@[simp] theorem State.cond_mem {f : State → State} (h : ∀ t, (f t).mem = t.mem) (s : State) (b : Bool) :
    (s.cond b f).mem = s.mem := by
  cases b <;> simp [State.cond, h]

@[simp] theorem State.cond_wf {f : State → State} {s : State} (w : s.mem.wf = true)
    (h : ∀ t : WfState, (f t.s).mem.wf = true) (b : Bool) : (s.cond b f).mem.wf = true := by
  cases b
  · exact w
  · exact h ⟨s, w⟩

@[simp] theorem State.foldl_mem {α : Type} {f : State → α → State} (h : ∀ t x, (f t x).mem = t.mem) (s : State) (l : List α) :
    (l.foldl f s).mem = s.mem := State.each_keeps State.mem f h l s

@[simp] theorem State.each_mem {α : Type} {f : State → α → State} (h : ∀ t x, (f t x).mem = t.mem) (s : State) (l : List α) :
    (s.each l f).mem = s.mem := State.each_keeps State.mem f h l s

@[simp] theorem State.foldl_wf {α : Type} {f : State → α → State} {s : State} (w : s.mem.wf = true)
    (h : ∀ (t : WfState) x, (f t.s x).mem.wf = true) (l : List α) : (l.foldl f s).mem.wf = true :=
  State.each_inv (P := fun t => t.mem.wf = true) l (fun t x _ wt => h ⟨t, wt⟩ x) s w

@[simp] theorem State.each_wf {α : Type} {f : State → α → State} {s : State} (w : s.mem.wf = true)
    (h : ∀ (t : WfState) x, (f t.s x).mem.wf = true) (l : List α) : (s.each l f).mem.wf = true :=
  State.foldl_wf w h l

@[simp] theorem State.each_updStream_mem {α : Type} (s : State) (l : List α) (i : State → α → Nat) (f : State → α → Stream → Stream) :
    (s.each l fun t x => t.updStream (i t x) (f t x)).mem = s.mem :=
  State.each_keeps State.mem (fun t x => t.updStream (i t x) (f t x)) (fun _ _ => rfl) l s

@[simp] theorem State.each_updCtx_mem {α : Type} (s : State) (l : List α) (i : State → α → Nat) (f : State → α → Ctx → Ctx) :
    (s.each l fun t x => t.updCtx (i t x) (f t x)).mem = s.mem :=
  State.each_keeps State.mem (fun t x => t.updCtx (i t x) (f t x)) (fun _ _ => rfl) l s

@[simp] theorem State.each_updPitch_mem {α : Type} (s : State) (l : List α) (i : State → α → Nat) (f : State → α → Pitch → Pitch) :
    (s.each l fun t x => t.updPitch (i t x) (f t x)).mem = s.mem :=
  State.each_keeps State.mem (fun t x => t.updPitch (i t x) (f t x)) (fun _ _ => rfl) l s

@[simp] theorem State.draw_mem (s : State) : (s.draw).2.mem = s.mem := by rfl

@[simp] theorem State.resetSoon_mem (s : State) : (s.resetSoon).mem = s.mem := by rfl

@[simp] theorem State.queueFlits_mem (s : State) (n source : Nat) (fs : List Flit) : (s.queueFlits n source fs).mem = s.mem := by rfl

@[simp] theorem State.readFailed_mem (s : State) (addr code : Nat) : (s.readFailed addr code).mem = s.mem := by
  simp [State.readFailed]

@[simp] theorem State.failedRead_mem (s : State) (a n code : Nat) : (s.failedRead a n code).mem = s.mem := by
  unfold State.failedRead
  split <;> simp

@[simp] theorem State.storePart_wf {s : State} (w : s.mem.wf = true) (a : Nat) (bs : List Byte) (code : Nat) :
    (s.storePart a bs code).mem.wf = true := by
  simp [State.storePart, w]

@[simp] theorem State.mgmtStore_wf {s : State} (w : s.mem.wf = true) (a : Nat) (bs : List Byte) :
    (s.mgmtStore a bs).mem.wf = true := by
  unfold State.mgmtStore
  split
  · exact State.poke_wf a bs w
  · simp [w]

@[simp] theorem State.trecPut_wf {s : State} (w : s.mem.wf = true) (a : Area) (bs : List Byte) (len : Nat) :
    (s.trecPut a bs len).mem.wf = true := by
  simp [State.trecPut, w]

@[simp] theorem State.ringRecord_wf {s : State} (w : s.mem.wf = true) (kind subject dom : Nat) (body : List Byte) :
    (s.ringRecord kind subject dom body).mem.wf = true := by
  unfold State.ringRecord
  split
  · exact w
  · simp [w]

@[simp] theorem State.record_wf {s : State} (w : s.mem.wf = true) (kind subject dom : Nat) (body : List Byte) :
    (s.record kind subject dom body).mem.wf = true := by
  simp [State.record, w]

@[simp] theorem Rep.ok_mem (s : State) (pay : List Byte) : (Rep.ok s pay).s.mem = s.mem := by rfl

@[simp] theorem Rep.no_mem (s : State) (st : Nat) : (Rep.no s st).s.mem = s.mem := by rfl

@[simp] theorem Rep.wait_mem (s : State) : (Rep.wait s).s.mem = s.mem := by rfl

@[simp] theorem State.stale_mem (s : State) : (s.stale).mem = s.mem := by rfl

@[simp] theorem State.setRefcnt_wf {s : State} (w : s.mem.wf = true) (v n : Nat) :
    (s.setRefcnt v n).mem.wf = true := by
  simp [State.setRefcnt, w]

@[simp] theorem State.addRef_wf {s : State} (w : s.mem.wf = true) (v : Nat) :
    (s.addRef v).mem.wf = true := by
  simp [State.addRef, w]

@[simp] theorem State.dropRef_wf {s : State} (w : s.mem.wf = true) (v : Nat) :
    (s.dropRef v).mem.wf = true := by
  simp [State.dropRef, w]

@[simp] theorem State.fetchVoice_mem (s : State) (v : Nat) : (s.fetchVoice v).mem = s.mem := by
  unfold State.fetchVoice
  dsimp only
  (repeat' split) <;> simp

@[simp] theorem State.readVoice_mem (s : State) (v : Nat) : (s.readVoice v).mem = s.mem := by
  simp [State.readVoice]

@[simp] theorem State.updModel_mem (s : State) (p id : Nat) (f : Model → Model) : (s.updModel p id f).mem = s.mem := by rfl

@[simp] theorem State.admRefused_mem (s : State) (p : Nat) (bw : Bool) : (s.admRefused p bw).mem = s.mem := by
  simp [State.admRefused]

@[simp] theorem State.refitFrames_mem (s : State) : (s.refitFrames).mem = s.mem := by rfl

@[simp] theorem State.joinFrame_mem (s : State) (i p q aco : Nat) : (s.joinFrame i p q aco).mem = s.mem := by
  unfold State.joinFrame
  split <;> simp

@[simp] theorem State.leaveFrame_mem (s : State) (i : Nat) : (s.leaveFrame i).mem = s.mem := by rfl

@[simp] theorem State.formBatch_mem (s : State) (p dom d : Nat) (voc : Model) (pl : Place) :
    (s.formBatch p dom d voc pl).2.mem = s.mem := by
  unfold State.formBatch
  split <;> simp

@[simp] theorem State.updBatch_mem (s : State) (b : Nat) (f : Batch → Batch) : (s.updBatch b f).mem = s.mem := by rfl

@[simp] theorem State.dropBatches_mem (s : State) : (s.dropBatches).mem = s.mem := by rfl

@[simp] theorem State.joinBatch_mem (s : State) (i b aco : Nat) : (s.joinBatch i b aco).mem = s.mem := by
  unfold State.joinBatch
  split <;> simp

@[simp] theorem State.leaveBatch_mem (s : State) (i : Nat) : (s.leaveBatch i).mem = s.mem := by rfl

@[simp] theorem State.takeSlot_mem (s : State) (q c n k : Nat) : (s.takeSlot q c n k).mem = s.mem := by rfl

@[simp] theorem State.freeSlot_mem (s : State) (q n k : Nat) : (s.freeSlot q n k).mem = s.mem := by
  unfold State.freeSlot
  split <;> simp

@[simp] theorem State.releaseSlot_mem (s : State) (i : Nat) : (s.releaseSlot i).mem = s.mem := by
  simp [State.releaseSlot]

@[simp] theorem State.muted_mem {f : State → State} (h : ∀ t, (f t).mem = t.mem) (s : State) (p : Nat) :
    (s.muted p f).mem = s.mem := by
  simp [State.muted, h]

@[simp] theorem State.muted_wf {f : State → State} {s : State} (w : s.mem.wf = true)
    (h : ∀ t : WfState, (f t.s).mem.wf = true) (p : Nat) : (s.muted p f).mem.wf = true := by
  have hf : ∀ t : State, t.mem.wf = true → (f t).mem.wf = true := fun t wt => h ⟨t, wt⟩
  unfold State.muted
  split
  · exact hf _ w
  · exact hf _ w

@[simp] theorem State.recordMsg_wf {s : State} (w : s.mem.wf = true) (i : Instr) (n st : Nat) (pay : List Byte) :
    (s.recordMsg i n st pay).2.mem.wf = true := by
  unfold State.recordMsg
  split
  · split <;> simp [w]
  · simp [w]

@[simp] theorem State.conclude_wf {s : State} (w : s.mem.wf = true) (i : Instr) (h : Hdr) (epoch st : Nat) (pay : List Byte) :
    (s.conclude i h epoch st pay).mem.wf = true := by
  simp [State.conclude, w]

@[simp] theorem State.concludeLater_wf {s : State} (w : s.mem.wf = true) (m : PendMsg) (st : Nat) (pay : List Byte) :
    (s.concludeLater m st pay).mem.wf = true := by
  unfold State.concludeLater
  split <;> simp [w]

@[simp] theorem State.process_wf {f : State → Rep} {s : State} (w : s.mem.wf = true)
    (h : ∀ t : WfState, (f t.s).s.mem.wf = true) (i : Instr) (hd : Hdr) : (s.process i hd f).mem.wf = true := by
  have hf := h ⟨s, w⟩
  simp only [State.process]
  split
  · simp [w]
  · split
    · exact hf
    · exact State.conclude_wf hf ..

@[simp] theorem runMsg_wf {f : State → Rep} {s : State} (w : s.mem.wf = true)
    (h : ∀ t : WfState, (f t.s).s.mem.wf = true) (i : Instr) : (runMsg i f s).mem.wf = true := by
  unfold runMsg
  split
  · exact w
  · split
    · exact w
    · split
      · simpa using w
      · exact State.process_wf (by simp [w]) h ..

@[simp] theorem State.wprot_mem (s : State) (q : Nat) : (s.wprot q).mem = s.mem := by rfl

@[simp] theorem State.rbLate_mem (s : State) (w : Nat) (deadline : Option Nat) : (s.rbLate w deadline).mem = s.mem := by
  unfold State.rbLate
  split <;> simp

@[simp] theorem State.rbBytes_mem (s : State) (w n : Nat) : (s.rbBytes w n).mem = s.mem := by rfl

@[simp] theorem State.chanDrop_mem (s : State) (n a : Nat) : (s.chanDrop n a).mem = s.mem := by
  unfold State.chanDrop
  split <;> simp

@[simp] theorem State.chanBytes_mem (s : State) (n a : Nat) : (s.chanBytes n a).mem = s.mem := by
  simp [State.chanBytes]

@[simp] theorem State.statusWrite_wf {s0 : State} (w : s0.mem.wf = true) (n : Nat) (d : Desc) (cause len : Nat) :
    (s0.statusWrite n d cause len).mem.wf = true := by
  simp [State.statusWrite, w]

@[simp] theorem State.withdraw_mem (s : State) (n : Nat) : (s.withdraw n).mem = s.mem := by
  simp [State.withdraw]

@[simp] theorem State.raiseTx_mem (s : State) (p : Nat) : (s.raiseTx p).mem = s.mem := by
  unfold State.raiseTx
  split <;> simp

@[simp] theorem State.raiseRx_mem (s : State) (p : Nat) : (s.raiseRx p).mem = s.mem := by
  unfold State.raiseRx
  split <;> simp

@[simp] theorem State.raiseFree_mem (s : State) (n : Nat) : (s.raiseFree n).mem = s.mem := by
  simp [State.raiseFree]

@[simp] theorem State.raiseFor_mem (s : State) (n : Nat) : (s.raiseFor n).mem = s.mem := by
  simp [State.raiseFor]

@[simp] theorem State.goChan_mem (s : State) (n : Nat) : (s.goChan n).mem = s.mem := by
  unfold State.goChan
  split <;> simp

@[simp] theorem State.endChan_wf {s : State} (w : s.mem.wf = true) (n cause : Nat) :
    (s.endChan n cause).mem.wf = true := by
  simp only [State.endChan, State.updChan_mem, State.withdraw_mem]
  split
  · split
    · exact w
    · split <;> simp [w]
  · exact w

@[simp] theorem State.cancelGen_wf {s : State} (w : s.mem.wf = true) (e : Nat) :
    (s.cancelGen e).mem.wf = true := by
  simp [State.cancelGen, w]

@[simp] theorem State.autoStart_mem (s : State) (n : Nat) : (s.autoStart n).mem = s.mem := by
  unfold State.autoStart
  dsimp only
  split <;> simp

@[simp] theorem State.trigger_mem (s : State) (n : Nat) (gen : Option Nat) : (s.trigger n gen).mem = s.mem := by
  simp [State.trigger]

@[simp] theorem State.triggerAll_mem (s : State) (src : Nat) (p : Nat → Bool) (gen : Option Nat) :
    (s.triggerAll src p gen).mem = s.mem := by
  simp [State.triggerAll]

@[simp] theorem State.tickTriggers_mem (s : State) (dom t : Nat) (frame : Bool) : (s.tickTriggers dom t frame).mem = s.mem := by
  simp [State.tickTriggers]

@[simp] theorem State.chainTriggers_mem (s : State) (n : Nat) (gen : Option Nat) : (s.chainTriggers n gen).mem = s.mem := by
  simp [State.chainTriggers]

@[simp] theorem State.setTst_mem (s : State) (n : Nat) (t : Tstl) : (s.setTst n t).mem = s.mem := by rfl

@[simp] theorem State.putTst_mem (s : State) (n : Nat) (t : Tstl) : (s.putTst n t).mem = s.mem := by
  simp [State.putTst]

@[simp] theorem State.armTst_mem (s : State) (n : Nat) (t : BitVec 24) : (s.armTst n t).mem = s.mem := by
  simp [State.armTst]

@[simp] theorem State.resetTst_mem (s : State) (n : Nat) : (s.resetTst n).mem = s.mem := by
  simp [State.resetTst]

@[simp] theorem State.passTst_mem (s : State) (n k : Nat) : (s.passTst n k).mem = s.mem := by
  simp [State.passTst]

@[simp] theorem State.tstRange_mem (s : State) : (s.tstRange).mem = s.mem := by rfl

@[simp] theorem State.hostTst_mem {f : State → State} (h : ∀ t, (f t).mem = t.mem) (s : State) (n : Nat) :
    (s.hostTst n f).mem = s.mem := by
  simp [State.hostTst, h]

@[simp] theorem State.hostArm_mem (s : State) (n : Nat) : (s.hostArm n).mem = s.mem := by
  simp [State.hostArm]

@[simp] theorem State.hostPass_mem (s : State) (n : Nat) : (s.hostPass n).mem = s.mem := by
  simp [State.hostPass]

@[simp] theorem State.hostReset_mem (s : State) (n : Nat) : (s.hostReset n).mem = s.mem := by
  simp [State.hostReset]

@[simp] theorem State.newExec_mem (s : State) (k : Sub) (m : Model) (q : Nat) (be : Bool) (rows : List Row) (deadline : Nat) :
    (s.newExec k m q be rows deadline).mem = s.mem := by rfl

@[simp] theorem State.freeTsts_mem (s : State) (l : List Nat) : (s.freeTsts l).mem = s.mem := by
  simp [State.freeTsts]

@[simp] theorem State.removeExec_mem (s : State) (id : Nat) : (s.removeExec id).mem = s.mem := by
  unfold State.removeExec
  split <;> simp

@[simp] theorem State.deadRows_mem (s : State) (i : Nat) : (s.deadRows i).mem = s.mem := by
  simp [State.deadRows]

@[simp] theorem State.unflight_mem (s : State) (e : Exec) : (s.unflight e).mem = s.mem := by
  simp [State.unflight]

@[simp] theorem State.recut_mem (s : State) (e : Exec) : (s.recut e).mem = s.mem := by
  unfold State.recut
  split
  · rfl
  · refine State.each_mem (fun t i => ?_) _ _
    refine State.each_mem (fun u c => ?_) _ _
    rfl

@[simp] theorem State.cutOff_wf {s : State} (w : s.mem.wf = true) (id : Nat) : (s.cutOff id).mem.wf = true := by
  unfold State.cutOff
  split
  · exact w
  · simp [w]

@[simp] theorem State.cancelExec_wf {s : State} (w : s.mem.wf = true) (id : Nat) :
    (s.cancelExec id).mem.wf = true := by
  unfold State.cancelExec
  split <;> simp [w]

@[simp] theorem State.completeCancel_mem (s : State) (id : Nat) : (s.completeCancel id).mem = s.mem := by
  unfold State.completeCancel
  split <;> simp

@[simp] theorem State.killExec_wf {s : State} (w : s.mem.wf = true) (id : Nat) :
    (s.killExec id).mem.wf = true := by
  simp [State.killExec, w]

@[simp] theorem State.dropSwaps_mem (s : State) (i : Nat) : (s.dropSwaps i).mem = s.mem := by
  refine State.foldl_mem (fun t o => ?_) s _
  cases o <;> simp

@[simp] theorem State.cancelExport_mem (s : State) (i : Nat) (lost : Bool) : (s.cancelExport i lost).mem = s.mem := by
  unfold State.cancelExport
  dsimp only
  split <;> simp

@[simp] theorem State.groupTidy_mem (s : State) (g : Option Nat) : (s.groupTidy g).mem = s.mem := by
  unfold State.groupTidy
  split <;> simp

@[simp] theorem State.finishClose_wf {s : State} (w : s.mem.wf = true) (i : Nat) (quiet : Bool) :
    (s.finishClose i quiet).mem.wf = true := by
  simp [State.finishClose, w]

@[simp] theorem State.dropTarget_mem (s : State) (i : Nat) : (s.dropTarget i).mem = s.mem := by
  refine State.foldl_mem (fun t o => ?_) s _
  cases o <;> simp

@[simp] theorem State.closeNow_wf {s : State} (w : s.mem.wf = true) (i : Nat) (quiet : Bool) :
    (s.closeNow i quiet).mem.wf = true := by
  simp [State.closeNow, w]

@[simp] theorem State.faultRecord_wf {s : State} (w : s.mem.wf = true) (subject dom code cls idx : Nat) :
    (s.faultRecord subject dom code cls idx).mem.wf = true := by
  simp [State.faultRecord, w]

@[simp] theorem State.memberLost_mem (s : State) (i code : Nat) : (s.memberLost i code).mem = s.mem := by
  unfold State.memberLost
  dsimp only
  split <;> simp

@[simp] theorem State.faultStream_wf {s : State} (w : s.mem.wf = true) (i code : Nat) (quiet : Bool) :
    (s.faultStream i code quiet).mem.wf = true := by
  simp [State.faultStream, w]

@[simp] theorem State.faultExec_wf {s : State} (w : s.mem.wf = true) (id code : Nat) :
    (s.faultExec id code).mem.wf = true := by
  unfold State.faultExec
  split <;> simp [w]

@[simp] theorem State.removeModel_mem (s : State) (p id : Nat) : (s.removeModel p id).mem = s.mem := by
  simp [State.removeModel]

@[simp] theorem State.refuseLoad_mem (s : State) (p st : Nat) : (s.refuseLoad p st).mem = s.mem := by
  simp [State.refuseLoad]

@[simp] theorem State.dropLoads_wf {s : State} (w : s.mem.wf = true) (c : Nat) :
    (s.dropLoads c).mem.wf = true := by
  simp [State.dropLoads, w]

@[simp] theorem State.nextCopy_mem (s : State) (p : Nat) : (s.nextCopy p).mem = s.mem := by
  unfold State.nextCopy
  dsimp only
  (repeat' split) <;> simp

@[simp] theorem State.teardown_wf {s : State} (w : s.mem.wf = true) (c : Nat) : (s.teardown c).mem.wf = true := by
  simp only [State.teardown, State.nextCopy_mem, State.updCtx_mem]
  refine State.dropLoads_wf ?_ c
  rw [State.foldl_mem (fun t m => by simp)]
  exact State.foldl_wf (State.foldl_wf w (fun t i => by simp) _) (fun t id => by simp) _

@[simp] theorem State.resetPitch_wf {s : State} (w : s.mem.wf = true) (p code arg : Nat) (bad : List Nat) :
    (s.resetPitch p code arg bad).mem.wf = true := by
  simp only [State.resetPitch, State.updPitch_mem]
  rw [State.each_mem (fun t n => by simp)]
  refine State.each_wf (by simpa using w) (fun t e => ?_) _
  split <;> simp

@[simp] theorem State.ctxFaultEvent_wf {s : State} (w : s.mem.wf = true) (c code p torn : Nat) :
    (s.ctxFaultEvent c code p torn).mem.wf = true := by
  simp [State.ctxFaultEvent, w]

@[simp] theorem State.contextFault_wf {s : State} (w : s.mem.wf = true) (c code : Nat) : (s.contextFault c code).mem.wf = true := by
  unfold State.contextFault
  extract_lets x p us col s1 same isK ks s2 s3 gone s4 r1 r2
  split
  · exact w
  · split
    · have w1 : s1.mem.wf = true := State.each_wf w (fun t id => by simp) _
      have w3 : s3.mem.wf = true := State.each_wf (s := s2) w1 (fun t id => by simp) _
      have w4 : s4.mem.wf = true := State.each_wf w3 (fun t id => by simp) _
      simp [w4]
    · have wr : r1.mem.wf = true := State.resetPitch_wf w ..
      split
      · exact State.ctxFaultEvent_wf (State.foldl_wf (s := r2) wr (fun t i => by simp) _) ..
      · exact wr

@[simp] theorem State.execFault_wf {s : State} (w : s.mem.wf = true) (id code : Nat) :
    (s.execFault id code).mem.wf = true := by
  unfold State.execFault
  split <;> simp [w]

@[simp] theorem State.bufParity_wf {s : State} (w : s.mem.wf = true) (i : Nat) :
    (s.bufParity i).mem.wf = true := by
  simp [State.bufParity, w]

@[simp] theorem State.parity_wf {s : State} (w : s.mem.wf = true) (a : Nat) (reader : Option Nat) :
    (s.parity a reader).1.mem.wf = true := by
  unfold State.parity
  dsimp only
  (repeat' split) <;> simp [w]

@[simp] theorem State.dirErr_mem (s : State) : (s.dirErr).mem = s.mem := by rfl

@[simp] theorem State.retireEntry_wf {s : State} (w : s.mem.wf = true) (i : Nat) :
    (s.retireEntry i).mem.wf = true := by
  simp [State.retireEntry, w]

@[simp] theorem State.dirParity_wf {s : State} (w : s.mem.wf = true) (i x : Nat) : (s.dirParity i x).mem.wf = true := by
  simp [State.dirParity, w]

@[simp] theorem State.dirCheck_wf {s : State} (w : s.mem.wf = true) (i : Nat) :
    (s.dirCheck i).mem.wf = true := by
  simp [State.dirCheck, w]

@[simp] theorem State.openReads_wf {s : State} (w : s.mem.wf = true) :
    (s.openReads).mem.wf = true := by
  simp [State.openReads, w]

@[simp] theorem State.dirWritten_mem (s : State) (i : Nat) : (s.dirWritten i).mem = s.mem := by rfl

end Sys2Proof.Machine
end

section
/-!
SUPPORT: memory under the movers, the ports, residency and the tick domains' control.
-/

namespace Sys2Proof.Machine

@[simp] theorem State.haltChan_mem (s : State) (n : Nat) (h : Halt) : (s.haltChan n h).mem = s.mem := by
  simp [State.haltChan]

@[simp] theorem State.movrEn_mem (s : State) (n : Nat) : (s.movrEn n).mem = s.mem := by
  simp [State.movrEn]

@[simp] theorem State.movrAbort_wf {s : State} (w : s.mem.wf = true) (n : Nat) :
    (s.movrAbort n).mem.wf = true := by
  simp [State.movrAbort, w]

@[simp] theorem State.movrDis_wf {s : State} (w : s.mem.wf = true) (n : Nat) :
    (s.movrDis n).mem.wf = true := by
  simp [State.movrDis, w]

@[simp] theorem State.movrStart_mem (s : State) (n : Nat) (rq : Requester) : (s.movrStart n rq).mem = s.mem := by
  simp [State.movrStart]

@[simp] theorem State.movrResume_mem (s : State) (n : Nat) : (s.movrResume n).mem = s.mem := by
  simp [State.movrResume]

@[simp] theorem State.movrPaused_mem (s : State) (n : Nat) : (s.movrPaused n).mem = s.mem := by
  simp [State.movrPaused]

@[simp] theorem State.movrUnpause_mem (s : State) (n : Nat) : (s.movrUnpause n).mem = s.mem := by
  unfold State.movrUnpause
  dsimp only
  split <;> simp

@[simp] theorem State.movrPause_mem (s : State) (n : Nat) : (s.movrPause n).mem = s.mem := by rfl

@[simp] theorem State.movrTimer_mem (s : State) (n : Nat) : (s.movrTimer n).mem = s.mem := by
  simp [State.movrTimer]

@[simp] theorem State.badAccess_wf {s : State} (w : s.mem.wf = true) (n : Nat) (h : Halt) :
    (s.badAccess n h).mem.wf = true := by
  unfold State.badAccess
  dsimp only
  (repeat' split) <;> simp [w]

@[simp] theorem State.takeDesc_mem (s : State) (n : Nat) (d : Desc) : (s.takeDesc n d).mem = s.mem := by
  unfold State.takeDesc
  dsimp only
  (repeat' split) <;> simp

@[simp] theorem State.descFetch_wf {s : State} (w : s.mem.wf = true) (n : Nat) :
    (s.descFetch n).mem.wf = true := by
  unfold State.descFetch
  dsimp only
  (repeat' split) <;> simp [w]

@[simp] theorem State.readsIssued_mem (s : State) (n : Nat) (d : Desc) (blocks : List Nat) : (s.readsIssued n d blocks).mem = s.mem := by
  simp [State.readsIssued]

@[simp] theorem State.readInto_mem (s : State) (n : Nat) (d : Desc) (f : Fetched) : (s.readInto n d f).mem = s.mem := by
  simp [State.readInto]

@[simp] theorem State.periphPut_mem (s : State) (n : Nat) (bs : List Byte) : (s.periphPut n bs).mem = s.mem := by
  simp [State.periphPut]

theorem State.dstPut_wf {s t : State} {n : Nat} {dst : Option Nat} {bs : List Byte} (w : s.mem.wf = true)
    (h : s.dstPut n dst bs = .ok t) : t.mem.wf = true := by
  unfold State.dstPut at h
  split at h
  · cases h
    simp [w]
  · split at h
    · cases h
    · cases h
      simp [w]

theorem State.writeHeld_wf {s t : State} {n : Nat} {d : Desc} {span : Option Nat × Nat × Bool × Nat} {k : Nat} (w : s.mem.wf = true)
    (h : s.writeHeld n d span k = .ok t) : t.mem.wf = true := by
  unfold State.writeHeld at h
  dsimp only at h
  split at h
  · cases h
  case h_2 u hu =>
    cases h
    have wu : u.mem.wf = true := by
      split at hu
      · cases hu; exact w
      · exact State.dstPut_wf w hu
    simp [wu]

@[simp] theorem State.burstEnd_mem (s : State) (n : Nat) (d : Desc) : (s.burstEnd n d).mem = s.mem := by
  simp [State.burstEnd]

@[simp] theorem State.movePiece_wf {s : State} (w : s.mem.wf = true) (n : Nat) (d : Desc) : (s.movePiece n d).mem.wf = true := by
  unfold State.movePiece
  dsimp only
  split
  · simp [w]
  · split
    · simp [w]
    case h_2 t ht =>
      have wt := State.writeHeld_wf (by simp [w]) ht
      split <;> simp [wt]

@[simp] theorem State.readData_wf {s : State} (w : s.mem.wf = true) (n : Nat) :
    (s.readData n).mem.wf = true := by
  unfold State.readData
  dsimp only
  split <;> simp [w]

@[simp] theorem State.chanPass_mem (s : State) (n : Nat) : (s.chanPass n).1.mem = s.mem := by
  unfold State.chanPass
  dsimp only
  (repeat' split) <;> simp

@[simp] theorem State.descDone_wf {s : State} (w : s.mem.wf = true) (n : Nat) :
    (s.descDone n).mem.wf = true := by
  unfold State.descDone
  dsimp only
  (repeat' split) <;> simp [w]

@[simp] theorem State.portEn_mem (s : State) (p : Nat) : (s.portEn p).mem = s.mem := by
  simp [State.portEn]

@[simp] theorem State.withdrawPort_mem (s : State) (p : Nat) : (s.withdrawPort p).mem = s.mem := by
  refine State.each_mem (fun t n => ?_) s _
  rfl

@[simp] theorem State.portDis_mem (s : State) (p : Nat) : (s.portDis p).mem = s.mem := by
  simp [State.portDis]

@[simp] theorem State.portSlip_wf {s : State} (w : s.mem.wf = true) (p : Nat) (rep : Bool) :
    (s.portSlip p rep).mem.wf = true := by
  simp [State.portSlip, w]

@[simp] theorem State.assembled_mem (s : State) (is : List Nat) (draws : Nat) : (s.assembled is draws).mem = s.mem := by
  have h : (s.each is fun s i => s.updStream i fun x => { x with del := { x.del with fresh := false } }).mem = s.mem := by
    refine State.each_mem (fun t i => ?_) s is
    rfl
  simp [State.assembled, h]

@[simp] theorem State.assemble_mem (s : State) (p : Nat) : (s.assemble p).2.mem = s.mem := by
  simp [State.assemble]

@[simp] theorem State.portAssemble_wf {s : State} (w : s.mem.wf = true) (p : Nat) (dropped : List Nat) :
    (s.portAssemble p dropped).1.mem.wf = true := by
  unfold State.portAssemble
  dsimp only
  (repeat' split) <;> simp [w]

theorem State.foldl_assemble_wf {t : Nat} {l : List Nat} {acc : State × List Nat} (w : acc.1.mem.wf = true) :
    (l.foldl (fun (acc : State × List Nat) p =>
      let r := acc.1.portAssemble p acc.2
      (r.1, if r.2 then p :: acc.2 else acc.2)) acc).1.mem.wf = true := by
  induction l generalizing acc with
  | nil => exact w
  | cons p l ih => exact ih (State.portAssemble_wf w ..)

@[simp] theorem State.assembleAll_wf {s : State} (w : s.mem.wf = true) (dom t : Nat) : (s.assembleAll dom t).mem.wf = true :=
  State.foldl_assemble_wf (t := t) w

@[simp] theorem State.portsStop_mem (s : State) (d : Nat) : (s.portsStop d).mem = s.mem := by
  refine State.each_mem (fun t p => ?_) s _
  rfl

@[simp] theorem State.restartNow_mem (s : State) (p : Nat) : (s.restartNow p).mem = s.mem := by
  simp [State.restartNow]

@[simp] theorem State.frameEntry_wf {s : State} (w : s.mem.wf = true) (p : Nat) (leaderRepeat : Bool) :
    (s.frameEntry p leaderRepeat).1.mem.wf = true := by
  unfold State.frameEntry
  dsimp only
  (repeat' split) <;> simp [w]

@[simp] theorem State.xrun_mem (s : State) (p : Nat) (tx : Bool) : (s.xrun p tx).mem = s.mem := by
  simp [State.xrun]

@[simp] theorem State.slotLostEvt_mem (s : State) (p : Nat) (was : Bool) : (s.slotLostEvt p was).mem = s.mem := by
  simp [State.slotLostEvt]

@[simp] theorem State.moverWords_mem (s : State) (p : Nat) : (s.moverWords p).1.mem = s.mem := by
  unfold State.moverWords
  dsimp only
  (repeat' split) <;> simp

@[simp] theorem State.portFrame_wf {s : State} (w : s.mem.wf = true) (p : Nat) (lead : Bool) :
    (s.portFrame p lead).mem.wf = true := by
  unfold State.portFrame
  split
  · split <;> simp [w]
  · simp [w]

@[simp] theorem State.rxFrame_mem (s : State) (p bclks : Nat) (slots : List Nat) : (s.rxFrame p bclks slots).mem = s.mem := by
  simp [State.rxFrame]

@[simp] theorem State.portClockLost_mem (s : State) (p : Nat) : (s.portClockLost p).mem = s.mem := by
  simp [State.portClockLost]

@[simp] theorem State.portClockBack_mem (s : State) (p : Nat) : (s.portClockBack p).mem = s.mem := by
  simp [State.portClockBack]

@[simp] theorem State.portRate_mem (s : State) (p rate16 : Nat) : (s.portRate p rate16).mem = s.mem := by
  simp [State.portRate]

@[simp] theorem State.pinShort_mem (s : State) (p : Nat) (pin : PortPin) : (s.pinShort p pin).mem = s.mem := by
  simp [State.pinShort]

@[simp] theorem State.contention_mem (s : State) (p : Nat) : (s.contention p).mem = s.mem := by
  simp [State.contention]

@[simp] theorem State.wclkShorted_mem (s : State) : (s.wclkShorted).mem = s.mem := by
  simp [State.wclkShorted]

@[simp] theorem State.applyDue_wf {s : State} (w : s.mem.wf = true) (i : Nat) : (s.applyDue i).mem.wf = true := by
  have w1 : ∀ a bs, (s.poke a bs).mem.wf = true := State.wf_poke w
  unfold State.applyDue
  dsimp only
  split
  · exact w
  · split
    · split <;> simp [w1]
    · exact w

@[simp] theorem State.enqueue_mem (s : State) (w : Nat) (o : SwapOp) : (s.enqueue w o).mem = s.mem := by rfl

@[simp] theorem State.wakeCtx_mem (s : State) (c : Nat) : (s.wakeCtx c).mem = s.mem := by
  simp [State.wakeCtx]

@[simp] theorem State.wakeCtxOf_mem (s : State) (i : Nat) : (s.wakeCtxOf i).mem = s.mem := by
  unfold State.wakeCtxOf
  split <;> simp

@[simp] theorem State.openDep_mem (s : State) (i : Nat) : (s.openDep i).mem = s.mem := by
  unfold State.openDep
  dsimp only
  split <;> simp

@[simp] theorem State.setLoc_mem (s : State) (i : Nat) (l : Loc) : (s.setLoc i l).mem = s.mem := by rfl

@[simp] theorem State.startOut_mem (s : State) (w i : Nat) : (s.startOut w i).mem = s.mem := by rfl

@[simp] theorem State.evict_mem (s : State) (v : Nat) : (s.evict v).mem = s.mem := by
  simp [State.evict]

@[simp] theorem State.swapStall_mem (s : State) (w : Nat) : (s.swapStall w).mem = s.mem := by
  simp [State.swapStall]

@[simp] theorem State.swapWait_mem (s : State) (w i : Nat) : (s.swapWait w i).mem = s.mem := by
  simp [State.swapWait]

@[simp] theorem State.beginOp_mem (s : State) (w : Nat) (o : SwapOp) : (s.beginOp w o).mem = s.mem := by rfl

@[simp] theorem State.tryOps_mem (w : Nat) (os : List SwapOp) (held : Bool) (s : State) :
    (State.tryOps w os held s).mem = s.mem := by
  induction os generalizing held s with
  | nil => rfl
  | cons o os ih =>
    unfold State.tryOps
    (repeat' split) <;> simp [ih]

@[simp] theorem State.swapStart_mem (s : State) (w : Nat) : (s.swapStart w).mem = s.mem := by
  simp [State.swapStart]

@[simp] theorem State.engineDone_mem (s : State) (w : Nat) : (s.engineDone w).mem = s.mem := by rfl

@[simp] theorem State.closeDep_mem (s : State) (i : Nat) : (s.closeDep i).mem = s.mem := by rfl

@[simp] theorem State.slotParity_wf {s : State} (w : s.mem.wf = true) (i a n : Nat) :
    (s.slotParity i a n).mem.wf = true := by
  simp [State.slotParity, w]

@[simp] theorem State.retryWaits_mem (s : State) : (s.retryWaits).mem = s.mem := by
  simp [State.retryWaits]

@[simp] theorem State.swapOutDone_wf {s : State} (hw : s.mem.wf = true) (w : Nat) : (s.swapOutDone w).mem.wf = true := by
  unfold State.swapOutDone
  split
  · extract_lets x n bad s1
    have h1 : s1.mem.wf = true := by
      by_cases hb : bad = true
      · simp [s1, hb, hw]
      · simp [s1, hb, hw]
    clear_value s1 bad
    split
    · simp [h1]
    · split <;> simp [h1]
  · exact hw

@[simp] theorem State.swapInFail_wf {s : State} (hw : s.mem.wf = true) (w i : Nat) :
    (s.swapInFail w i).mem.wf = true := by
  simp [State.swapInFail, hw]

@[simp] theorem State.swapInDone_wf {s : State} (hw : s.mem.wf = true) (w : Nat) : (s.swapInDone w).mem.wf = true := by
  unfold State.swapInDone
  split
  · dsimp only
    split
    · simp [hw]
    · split <;> simp [hw]
  · exact hw

@[simp] theorem State.slotCopyDone_wf {s : State} (hw : s.mem.wf = true) (w : Nat) : (s.slotCopyDone w).mem.wf = true := by
  unfold State.slotCopyDone
  split
  · dsimp only
    split <;> simp [hw]
  · exact hw

@[simp] theorem State.setRate_mem (s : State) (d r : Nat) : (s.setRate d r).mem = s.mem := by
  simp [State.setRate]

@[simp] theorem State.steer_mem (s : State) (d : Nat) : (s.steer d).mem = s.mem := by
  simp [State.steer]

@[simp] theorem State.holdRate_mem (s : State) (d : Nat) : (s.holdRate d).mem = s.mem := by
  simp [State.holdRate]

@[simp] theorem State.flagT_mem (s : State) (d bit : Nat) : (s.flagT d bit).mem = s.mem := by rfl

@[simp] theorem srcRecord_wf {s : State} (w : s.mem.wf = true) (old : State) (d : Nat) : (srcRecord old s d).mem.wf = true := by
  unfold srcRecord
  split <;> simp [w]

@[simp] theorem State.toAcquire_wf {s : State} (w : s.mem.wf = true) (d : Nat) (free : Bool) :
    (s.toAcquire d free).mem.wf = true := by
  simp [State.toAcquire, w]

@[simp] theorem State.toLocked_wf {s : State} (w : s.mem.wf = true) (d : Nat) :
    (s.toLocked d).mem.wf = true := by
  simp [State.toLocked, w]

@[simp] theorem State.toHoldover_wf {s0 : State} (w : s0.mem.wf = true) (d : Nat) :
    (s0.toHoldover d).mem.wf = true := by
  simp [State.toHoldover, w]

@[simp] theorem State.rateStep_wf {s0 : State} (w : s0.mem.wf = true) (d : Nat) :
    (s0.rateStep d).mem.wf = true := by
  simp [State.rateStep, w]

@[simp] theorem State.toOff_wf {s : State} (w : s.mem.wf = true) (d : Nat) :
    (s.toOff d).mem.wf = true := by
  simp [State.toOff, w]

@[simp] theorem State.takeSrc_mem (s : State) (d : Nat) : (s.takeSrc d).mem = s.mem := by
  simp [State.takeSrc]

@[simp] theorem State.discard_mem (s : State) (d : Nat) : (s.discard d).mem = s.mem := by rfl

@[simp] theorem State.edge_mem (s : State) (d : Nat) (off : Int) (iv : Nat) : (s.edge d off iv).mem = s.mem := by
  unfold State.edge
  dsimp only
  split <;> simp

@[simp] theorem State.sourceEdge_mem (s : State) (d : Nat) (off : Int) (iv : Nat) : (s.sourceEdge d off iv).mem = s.mem := by
  simp [State.sourceEdge]

@[simp] theorem State.edgeMissed_mem (s : State) (d : Nat) : (s.edgeMissed d).mem = s.mem := by
  simp [State.edgeMissed]

@[simp] theorem State.holdover_wf {s : State} (w : s.mem.wf = true) (d : Nat) :
    (s.holdover d).mem.wf = true := by
  simp [State.holdover, w]

@[simp] theorem State.sourceLost_wf {s : State} (w : s.mem.wf = true) (d : Nat) :
    (s.sourceLost d).mem.wf = true := by
  simp [State.sourceLost, w]

@[simp] theorem State.locked_wf {s : State} (w : s.mem.wf = true) (d : Nat) :
    (s.locked d).mem.wf = true := by
  unfold State.locked
  dsimp only
  (repeat' split) <;> simp [w]

@[simp] theorem State.intervalEnd_wf {s : State} (w : s.mem.wf = true) (d : Nat) :
    (s.intervalEnd d).mem.wf = true := by
  simp [State.intervalEnd, w]

@[simp] theorem State.tickEn_wf {s : State} (w : s.mem.wf = true) (d : Nat) :
    (s.tickEn d).mem.wf = true := by
  unfold State.tickEn
  split <;> simp [w]

@[simp] theorem State.tickDis_wf {s : State} (w : s.mem.wf = true) (d : Nat) :
    (s.tickDis d).mem.wf = true := by
  simp [State.tickDis, w]

@[simp] theorem State.tickRestart_wf {s : State} (w : s.mem.wf = true) (d : Nat) :
    (s.tickRestart d).mem.wf = true := by
  simp [State.tickRestart, w]

@[simp] theorem State.tickCfgErr_mem (s : State) (d : Nat) : (s.tickCfgErr d).mem = s.mem := by rfl

@[simp] theorem State.newSrc_wf {s : State} (w : s.mem.wf = true) (d : Nat) (u : TickSrc) :
    (s.newSrc d u).mem.wf = true := by
  simp [State.newSrc, w]

@[simp] theorem State.srcChange_wf {s : State} (w : s.mem.wf = true) (d src mult link : Nat) :
    (s.srcChange d src mult link).mem.wf = true := by
  simp [State.srcChange, w]

@[simp] theorem State.applySrc_wf {s : State} (w : s.mem.wf = true) (d : Nat) :
    (s.applySrc d).mem.wf = true := by
  unfold State.applySrc
  split <;> simp [w]

@[simp] theorem State.frameWrite_mem (s : State) (d v : Nat) : (s.frameWrite d v).mem = s.mem := by
  simp [State.frameWrite]

end Sys2Proof.Machine
end

section
/-!
SUPPORT: memory under the streams, the tiles and the executions.
-/

namespace Sys2Proof.Machine

@[simp] theorem State.voiceWrite_wf {s : State} (w : s.mem.wf = true) (v : Nat) (e : List Byte) :
    (s.voiceWrite v e).mem.wf = true := by
  simp [State.voiceWrite, w]

@[simp] theorem State.voiceSetRep_wf {s : State} (w : s.mem.wf = true) (v : Nat) (e : List Byte) :
    (s.voiceSetRep v e).s.mem.wf = true := by
  unfold State.voiceSetRep
  dsimp only
  split <;> simp [w]

@[simp] theorem State.voiceClearRep_wf {s : State} (w : s.mem.wf = true) (v : Nat) :
    (s.voiceClearRep v).s.mem.wf = true := by
  unfold State.voiceClearRep
  dsimp only
  (repeat' split) <;> simp [w]

@[simp] theorem State.openRefused_mem (s : State) (p st : Nat) (bw : Bool) : (s.openRefused p st bw).mem = s.mem := by
  simp [State.openRefused]

@[simp] theorem State.openFailed_mem (s : State) (p : OpenParams) (st : Nat) (bw : Bool) : (s.openFailed p st bw).mem = s.mem := by
  simp [State.openFailed]

@[simp] theorem State.openStream_wf {s : State} (w : s.mem.wf = true) (p : OpenParams) (sess : Nat) (r : OpenRes) :
    (s.openStream p sess r).2.mem.wf = true := by
  unfold State.openStream
  split <;> simp [w]

@[simp] theorem State.streamOpenRep_wf {s0 : State} (w : s0.mem.wf = true) (p : OpenParams) (sess : Nat) :
    (s0.streamOpenRep p sess).s.mem.wf = true := by
  unfold State.streamOpenRep
  dsimp only
  split <;> simp [w]

@[simp] theorem State.onHandle_wf {s : State} {f : State → Nat → Rep} (w : s.mem.wf = true)
    (hf : ∀ (t : WfState) i, (f t.s i).s.mem.wf = true) (h : Nat) : (s.onHandle h f).s.mem.wf = true := by
  unfold State.onHandle
  dsimp only
  split
  · simp [w]
  · exact hf ⟨s.dirCheck (h % 2 ^ 17), by simp [w]⟩ _

@[simp] theorem State.closeDrain_mem (s : State) (i : Nat) : (s.closeDrain i).s.mem = s.mem := by
  unfold State.closeDrain
  dsimp only
  (repeat' split) <;> simp

@[simp] theorem State.closeAbort_mem (s : State) (i : Nat) : (s.closeAbort i).mem = s.mem := by
  simp [State.closeAbort]

@[simp] theorem State.pauseRep_mem (s : State) (i : Nat) : (s.pauseRep i).s.mem = s.mem := by
  have h : ∀ l : List Nat, (s.each l fun s j => s.updStream j Stream.pause).mem = s.mem :=
    fun l => State.each_mem (f := fun s j => s.updStream j Stream.pause) (fun t j => rfl) s l
  unfold State.pauseRep
  dsimp only
  (repeat' split) <;> simp [h]

@[simp] theorem State.resume1_mem (s : State) (i : Nat) : (s.resume1 i).mem = s.mem := by
  simp [State.resume1]

@[simp] theorem State.resumeRep_mem (s : State) (i : Nat) : (s.resumeRep i).s.mem = s.mem := by
  unfold State.resumeRep
  dsimp only
  (repeat' split) <;> simp

@[simp] theorem State.unreserve_mem (s : State) (i : Nat) : (s.unreserve i).mem = s.mem := by rfl

@[simp] theorem State.setPend_mem (s : State) (i : Nat) (c : GrpChange) : (s.setPend i c).mem = s.mem := by rfl

@[simp] theorem State.setGroupRep_mem (s : State) (i : Nat) (g : Half) : (s.setGroupRep i g).s.mem = s.mem := by
  unfold State.setGroupRep
  dsimp only
  (repeat' split) <;> simp

@[simp] theorem State.statsRep_mem (s : State) (i sess : Nat) (claim : Bool) : (s.statsRep i sess claim).s.mem = s.mem := by
  simp [State.statsRep]

@[simp] theorem State.redo_mem (s : State) (p : Nat) : (s.redo p).mem = s.mem := by rfl

@[simp] theorem State.deadFrames_mem (s : State) (i f : Nat) : (s.deadFrames i f).mem = s.mem := by
  simp [State.deadFrames]

@[simp] theorem State.sweepChunks_wf {s : State} (w : s.mem.wf = true) :
    (s.sweepChunks).mem.wf = true := by
  simp [State.sweepChunks, w]

@[simp] theorem State.featureBack_wf {s : State} (w : s.mem.wf = true) (i pos : Nat) :
    (s.featureBack i pos).mem.wf = true := by
  unfold State.featureBack
  split <;> simp [w]

@[simp] theorem State.redoFrames_wf {s : State} (w : s.mem.wf = true) (i f : Nat) :
    (s.redoFrames i f).mem.wf = true := by
  simp [State.redoFrames, w]

@[simp] theorem State.splitChunk_mem (s : State) (i f : Nat) : (s.splitChunk i f).mem = s.mem := by
  unfold State.splitChunk
  split
  · simp
  · split <;> simp

@[simp] theorem State.redoStep_mem (s : State) (i : Nat) : (s.redoStep i).mem = s.mem := by
  simp [State.redoStep]

@[simp] theorem State.markRefused_mem (s : State) (i st pos : Nat) : (s.markRefused i st pos).mem = s.mem := by
  simp [State.markRefused]

@[simp] theorem State.mark_wf {s : State} (w : s.mem.wf = true) (i : Nat) (m : Nat × Option Nat) :
    (s.mark i m).2.mem.wf = true := by
  unfold State.mark
  dsimp only
  (repeat' split) <;> simp [w]

@[simp] theorem State.marks_wf {s : State} (w : s.mem.wf = true) (i : Nat) (ms : List (Nat × Option Nat)) :
    (State.marks i ms s).2.2.mem.wf = true := by
  induction ms generalizing s with
  | nil => exact w
  | cons m ms ih =>
    unfold State.marks
    dsimp only
    split <;> exact ih (State.mark_wf w ..)

@[simp] theorem State.endCheck_mem (s : State) (i : Nat) : (s.endCheck i).mem = s.mem := by
  unfold State.endCheck
  dsimp only
  split <;> simp

@[simp] theorem State.storeFrames_mem (s : State) (i : Nat) (m : FeatureMsg) : (s.storeFrames i m).mem = s.mem := by
  simp [State.storeFrames]

@[simp] theorem State.putEnd_mem (s : State) (i : Nat) : (s.putEnd i).mem = s.mem := by
  simp [State.putEnd]

@[simp] theorem State.featureRep_wf {s : State} (w : s.mem.wf = true) (i : Nat) (m : FeatureMsg) :
    (s.featureRep i m).s.mem.wf = true := by
  unfold State.featureRep
  dsimp only
  split <;> simp [w]

@[simp] theorem State.cutPart_mem (s : State) (i : Nat) (aco : Model) (whole dl : Nat) (p : Nat × Nat) :
    (s.cutPart i aco whole dl p).mem = s.mem := by rfl

@[simp] theorem State.chunkCut_mem (s : State) (i : Nat) : (s.chunkCut i).mem = s.mem := by
  unfold State.chunkCut
  dsimp only
  split
  · refine (State.each_mem (fun t p => ?_) _ _).trans (s.openDep_mem i)
    rfl
  · rfl

@[simp] theorem State.sendHostBuf_mem (s : State) (i : Nat) : (s.sendHostBuf i).mem = s.mem := by
  simp [State.sendHostBuf]

@[simp] theorem State.drained_wf {s : State} (w : s.mem.wf = true) (i : Nat) :
    (s.drained i).mem.wf = true := by
  simp [State.drained, w]

@[simp] theorem State.abortDone_wf {s : State} (w : s.mem.wf = true) (i : Nat) :
    (s.abortDone i).mem.wf = true := by
  simp [State.abortDone, w]

@[simp] theorem State.count64_mem (s : State) (lo hi : RegName) (i n : Nat) : (s.count64 lo hi i n).mem = s.mem := by rfl

@[simp] theorem State.numCount_mem (s : State) (p a b c : Nat) : (s.numCount p a b c).mem = s.mem := by rfl

@[simp] theorem State.countPasses_mem (s : State) (e : Exec) (m : Model) (b : Img) (g : Seg) (lo hi : Nat) :
    (s.countPasses e m b g lo hi).mem = s.mem := by
  unfold State.countPasses
  extract_lets p ts n nan s1 s2
  have h1 : s1.mem = s.mem := by simp only [s1, State.count64_mem]
  clear_value s1
  have h2 : s2.mem = s.mem := by
    show (if _ then s1 else _ : State).mem = s.mem
    split
    · exact h1
    · rw [State.cnt_mem, h1]
  clear_value s2
  split
  · exact h2
  · rw [State.numCount_mem, State.flag_mem, h2]

@[simp] theorem State.deliver_mem (s : State) (e : Exec) (b : Img) (g : Seg) (pipe : Nat) (acc : List (List Nat)) :
    (s.deliver e b g pipe acc).mem = s.mem := by
  simp [State.deliver]

@[simp] theorem State.gateTask_wf {s : State} (w : s.mem.wf = true) (e : Exec) (b : Img) (t : Nat) :
    (s.gateTask e b t).mem.wf = true := by
  simp [State.gateTask, w]

@[simp] theorem State.expandTask_wf {s : State} (w : s.mem.wf = true) (e : Exec) (b : Img) (t : Nat) :
    (s.expandTask e b t).mem.wf = true := by
  simp [State.expandTask, w]

@[simp] theorem State.startNoise_mem (s : State) (e : Exec) : (s.startNoise e).mem = s.mem := by rfl

@[simp] theorem State.fillRow_wf {s : State} (w : s.mem.wf = true) (e : Exec) (b : Img) (r : Row) (k : Nat) :
    (s.fillRow e b r k).mem.wf = true := by
  simp [State.fillRow, w]

@[simp] theorem State.noiseTask_wf {s : State} (w : s.mem.wf = true) (e : Exec) (b : Img) :
    (s.noiseTask e b).mem.wf = true := by
  simp [State.noiseTask, w]

theorem State.markFirst_fst (s : State) (e : Exec) (a : Config.MarkArg) :
    (s.markFirst e a).1 =
      if 4096 < a.candCnt then
        (s.unitPoke e.quarter (s.execShare e + a.out) (List.replicate 16 0#8)).flag .qtrConvEvt e.quarter 2
      else s.unitPoke e.quarter (s.execShare e + a.out) (List.replicate 16 0#8) := by rfl

@[simp] theorem State.markFirst_wf {s : State} (w : s.mem.wf = true) (e : Exec) (a : Config.MarkArg) :
    (s.markFirst e a).1.mem.wf = true := by
  rw [State.markFirst_fst]
  split
  · rw [State.flag_mem]
    exact State.wf_unitPoke w ..
  · exact State.wf_unitPoke w ..

@[simp] theorem State.markDecode_mem (s : State) (e : Exec) (w : MarkWork) : (s.markDecode e w).1.mem = s.mem := by
  simp [State.markDecode]

@[simp] theorem State.markTake_wf {s : State} (hw : s.mem.wf = true) (e : Exec) (w : MarkWork) (tests : Nat) :
    (s.markTake e w tests).1.mem.wf = true := by
  simp [State.markTake, hw]

@[simp] theorem State.markHeader_wf {s : State} (hw : s.mem.wf = true) (e : Exec) (w : MarkWork) :
    (s.markHeader e w).mem.wf = true := by
  simp [State.markHeader, hw]

@[simp] theorem State.markTile_wf {s : State} (w : s.mem.wf = true) (e : Exec) (b : Img) (t k : Nat) (old : Option MarkWork) (last : Bool) :
    (s.markTile e b t k old last).1.mem.wf = true := by
  unfold State.markTile
  dsimp only
  (repeat' split) <;> simp [w]

@[simp] theorem State.bindTsts_mem (s : State) (b : Img) (e : Exec) (l : List Nat) : (s.bindTsts b e l).mem = s.mem := by
  simp [State.bindTsts]

@[simp] theorem State.joinChunks_mem (s : State) (e : Exec) : (s.joinChunks e).mem = s.mem := by
  simp [State.joinChunks]

@[simp] theorem State.release_mem (s : State) (id : Nat) : (s.release id).mem = s.mem := by
  unfold State.release
  split <;> simp

@[simp] theorem State.queueCopy_mem (s : State) (i q n k : Nat) (lc : Bool) (dl : Nat) : (s.queueCopy i q n k lc dl).mem = s.mem := by rfl

theorem State.gather_mem {s t : State} {q i : Nat} (h : s.gather i q = some t) : t.mem = s.mem := by
  unfold State.gather at h
  split at h
  · cases h; rfl
  · split at h
    · split at h
      · cases h; simp
      · cases h
    · cases h

@[simp] theorem State.gatherAll_mem (q : Nat) (is : List Nat) (s : State) : (State.gatherAll q is s).2.mem = s.mem := by
  induction is generalizing s with
  | nil => rfl
  | cons i t ih =>
    unfold State.gatherAll
    split
    · next s1 h => exact (ih s1).trans (State.gather_mem h)
    · exact ih s

@[simp] theorem State.starve_mem (s : State) (i : Nat) : (s.starve i).mem = s.mem := by
  unfold State.starve
  dsimp only
  (repeat' split) <;> simp

@[simp] theorem State.runStream_mem (s : State) (i : Nat) : (s.runStream i).mem = s.mem := by
  simp [State.runStream]

@[simp] theorem State.stepExec_mem (s : State) (voc : Model) (q : Nat) (be : Bool) (is : List Nat) (dl : Nat) :
    (s.stepExec voc q be is dl).mem = s.mem := by
  simp [State.stepExec]

@[simp] theorem State.releaseBe_mem (s : State) (p : Nat) : (s.releaseBe p).mem = s.mem := by
  unfold State.releaseBe
  dsimp only
  (repeat' split) <;> simp

@[simp] theorem State.trace_wf {s : State} (w : s.mem.wf = true) (q u kind c task p : Nat) (fin : Bool) :
    (s.trace q u kind c task p fin).mem.wf = true := by
  simp [State.trace, w]

@[simp] theorem State.updTask_mem (s : State) (id idx : Nat) (f : TaskSt → TaskSt) : (s.updTask id idx f).mem = s.mem := by
  simp [State.updTask]

@[simp] theorem State.kioskStart_mem (s : State) (k : Nat) (t : TileC) : (s.kioskStart k t).mem = s.mem := by
  simp [State.kioskStart]

@[simp] theorem State.chargeWait_mem (s : State) (p c n : Nat) : (s.chargeWait p c n).mem = s.mem := by
  simp [State.chargeWait]

@[simp] theorem State.boundReset_wf {s : State} (w : s.mem.wf = true) (e : Exec) (r : Row) :
    (s.boundReset e r).mem.wf = true := by
  simp [State.boundReset, w]

@[simp] theorem State.formInputs_wf {s : State} (w : s.mem.wf = true) (e : Exec) (b : Img) :
    (s.formInputs e b).mem.wf = true := by
  unfold State.formInputs
  split <;> simp [w]

@[simp] theorem State.stageTiles_wf {s : State} (w : s.mem.wf = true) (e : Exec) (b : Img) (os : List Nat) :
    (s.stageTiles e b os).mem.wf = true := by
  unfold State.stageTiles
  split <;> simp [w]

@[simp] theorem State.firstTile_wf {s : State} (w : s.mem.wf = true) (e : Exec) (b : Img) : (s.firstTile e b).mem.wf = true := by
  unfold State.firstTile
  extract_lets len held s1 s2 s3
  have w1 : s1.mem.wf = true := by simp [s1, w]
  have w2 : s2.mem.wf = true := State.each_wf w1 (fun t r => by simp) _
  have w3 : s3.mem.wf = true := by
    show (if _ then s2 else _ : State).mem.wf = true
    split
    · exact w2
    · exact State.each_wf w2 (fun t r => by simp) _
  exact State.formInputs_wf w3 ..

@[simp] theorem State.startTile_wf {s : State} (w : s.mem.wf = true) (q : Nat) (k : UnitKind) (t : TileC) (u : Nat) :
    (s.startTile q k t u).mem.wf = true := by
  simp (disch := simp [w]) [State.startTile]

@[simp] theorem State.tileDispatch_wf {s : State} (w : s.mem.wf = true) (q : Nat) (k : UnitKind) :
    (s.tileDispatch q k).mem.wf = true := by
  unfold State.tileDispatch
  dsimp only
  (repeat' split) <;> simp [w]

@[simp] theorem State.faultNow_wf {s : State} (w : s.mem.wf = true) (i : Nat) (r : RecIn) :
    (s.faultNow i r).mem.wf = true := by
  simp [State.faultNow, w]

@[simp] theorem State.commitStep_wf {s : State} (w : s.mem.wf = true) (e : Exec) (b : Img) (r : Row) (k : Nat) :
    (s.commitStep e b r k).mem.wf = true := by
  unfold State.commitStep
  extract_lets due p x idx a n m1 m2 h s1
  have w1 : m1.mem.wf = true := by
    show (if _ then s else _ : State).mem.wf = true
    split <;> simp [w]
  have w2 : s1.mem.wf = true := by simp [s1, m2, w1]
  split
  · exact w
  · split
    · simp [w]
    · split <;> simp [w, w2]

@[simp] theorem State.commitFrame_wf {s : State} (w : s.mem.wf = true) (e : Exec) (b : Img) (r : Row) (k : Nat) :
    (s.commitFrame e b r k).mem.wf = true := by
  simp [State.commitFrame, w]

@[simp] theorem State.sendMarks_mem (s : State) (b : Img) (e : Exec) (r : Row) (k : Nat) : (s.sendMarks b e r k).mem = s.mem := by
  unfold State.sendMarks
  split <;> simp

@[simp] theorem State.commitChunk_wf {s : State} (w : s.mem.wf = true) (e : Exec) (b : Img) (r : Row) (k : Nat) :
    (s.commitChunk e b r k).mem.wf = true := by
  simp [State.commitChunk, w]

@[simp] theorem State.chunkLate_mem (s : State) (e : Exec) : (s.chunkLate e).mem = s.mem := by rfl

@[simp] theorem State.noteLate_mem (s : State) (e : Exec) : (s.noteLate e).mem = s.mem := by
  unfold State.noteLate
  split <;> simp

@[simp] theorem State.account_mem (s : State) (e : Exec) : (s.account e).mem = s.mem := by
  simp [State.account]

@[simp] theorem State.retire_wf {s : State} (w : s.mem.wf = true) (e : Exec) :
    (s.retire e).mem.wf = true := by
  unfold State.retire
  split <;> simp [w]

@[simp] theorem State.tileCycles_mem (s : State) (e : Exec) (n : Nat) : (s.tileCycles e n).mem = s.mem := by
  simp [State.tileCycles]

@[simp] theorem State.dropUnit_mem (s : State) (id idx : Nat) : (s.dropUnit id idx).mem = s.mem := by rfl

@[simp] theorem State.taskDone_wf {s : State} (w : s.mem.wf = true) (e : Exec) (b : Img) (idx : Nat) (r : TaskRec) :
    (s.taskDone e b idx r).mem.wf = true := by
  unfold State.taskDone
  dsimp only
  split <;> simp [w]

@[simp] theorem State.tileDone_wf {s : State} (w : s.mem.wf = true) (u : UnitRun) (e : Exec) (b : Img) (r : TaskRec) :
    (s.tileDone u e b r).mem.wf = true := by
  simp [State.tileDone, w]

@[simp] theorem State.squareEnd_wf {s : State} (w : s.mem.wf = true) (u : UnitRun) (e : Exec) (b : Img) (g : Nat) (r : TaskRec) (m : Model) :
    (s.squareEnd u e b g r m).mem.wf = true := by
  simp [State.squareEnd, w]

theorem State.foldl_parity_wf {id : Nat} {ws : List Nat} {p : State × Bool} (w : p.1.mem.wf = true) :
    (ws.foldl (fun p w => let r := p.1.parity w (some id); (r.1, p.2 || r.2 == ParRes.wait)) p).1.mem.wf = true := by
  induction ws generalizing p with
  | nil => exact w
  | cons a ws ih => exact ih (State.parity_wf w ..)

@[simp] theorem State.tileParity_wf {s : State} (w : s.mem.wf = true) (id : Nat) (ws : List Nat) :
    (s.tileParity id ws).1.mem.wf = true := State.foldl_parity_wf w

@[simp] theorem State.tileWork_wf {s : State} (w : s.mem.wf = true) (u : UnitRun) (e : Exec) (b : Img) (g : Nat) (r : TaskRec) (m : Model) :
    (s.tileWork u e b g r m).mem.wf = true := by
  unfold State.tileWork
  split <;> simp [w]

@[simp] theorem State.idleKiosk_mem (s : State) (k : UnitKind) (q u : Nat) : (s.idleKiosk k q u).mem = s.mem := by
  simp [State.idleKiosk]

@[simp] theorem State.tileEnd_wf {s : State} (w : s.mem.wf = true) (q : Nat) (k : UnitKind) (n : Nat) :
    (s.tileEnd q k n).mem.wf = true := by
  unfold State.tileEnd
  dsimp only
  (repeat' split) <;> simp [w]

@[simp] theorem State.tileTimeout_wf {s : State} (w : s.mem.wf = true) (q : Nat) (k : UnitKind) (n : Nat) :
    (s.tileTimeout q k n).mem.wf = true := by
  unfold State.tileTimeout
  split <;> simp [w]

@[simp] theorem State.fetchDiscard_mem (s : State) (id : Nat) : (s.fetchDiscard id).mem = s.mem := by
  unfold State.fetchDiscard
  split <;> simp

@[simp] theorem State.dispatchResume_wf {s : State} (w : s.mem.wf = true) (p : Nat) :
    (s.dispatchResume p).mem.wf = true := by
  unfold State.dispatchResume
  dsimp only
  (repeat' split) <;> simp [w]

end Sys2Proof.Machine
end

section
/-!
SUPPORT: memory under loads, contexts, links and packs.
-/

namespace Sys2Proof.Machine

@[simp] theorem State.loadRep_mem (s : State) (p c a : Nat) : (s.loadRep p c a).s.mem = s.mem := by
  unfold State.loadRep
  dsimp only
  (repeat' split) <;> simp

@[simp] theorem State.runLoads_wf {s : State} (w : s.mem.wf = true) (c : Nat) :
    (s.runLoads c).mem.wf = true := by
  simp [State.runLoads, w]

@[simp] theorem State.copyTiles_wf {s : State} (w : s.mem.wf = true) (m : Model) (q : Nat) :
    (s.copyTiles m q).mem.wf = true := by
  simp [State.copyTiles, w]

@[simp] theorem State.abandonLoad_mem (s : State) (p id : Nat) : (s.abandonLoad p id).mem = s.mem := by
  simp [State.abandonLoad]

@[simp] theorem State.graphCopyDone_wf {s : State} (w : s.mem.wf = true) (p : Nat) :
    (s.graphCopyDone p).mem.wf = true := by
  unfold State.graphCopyDone
  split <;> simp [w]

@[simp] theorem State.modelsUsable_wf {s : State} (w : s.mem.wf = true) (p : Nat) :
    (s.modelsUsable p).mem.wf = true := by
  simp [State.modelsUsable, w]

@[simp] theorem State.unloadRep_mem (s : State) (p id : Nat) : (s.unloadRep p id).s.mem = s.mem := by
  unfold State.unloadRep
  dsimp only
  split <;> simp

@[simp] theorem State.unloadDone_mem (s : State) (p id : Nat) : (s.unloadDone p id).mem = s.mem := by
  unfold State.unloadDone
  split <;> simp

@[simp] theorem State.grant_wf {s : State} (hw : s.mem.wf = true) (c w k : Nat) :
    (s.grant c w k).mem.wf = true := by
  simp [State.grant, hw]

@[simp] theorem State.tryGrant_wf {s : State} (w : s.mem.wf = true) (c : Nat) :
    (s.tryGrant c).mem.wf = true := by
  unfold State.tryGrant
  split <;> simp [w]

@[simp] theorem State.tryGrants_wf {s : State} (w : s.mem.wf = true) (p : Nat) :
    (s.tryGrants p).mem.wf = true := by
  simp [State.tryGrants, w]

@[simp] theorem State.startLeave_wf {s : State} (w : s.mem.wf = true) (c : Nat) :
    (s.startLeave c).mem.wf = true := by
  simp (disch := simp [w]) [State.startLeave]

theorem State.makeRoom_wf {s t : State} {c : Nat} (w : s.mem.wf = true) (h : s.makeRoom c = some t) : t.mem.wf = true := by
  unfold State.makeRoom at h
  split at h
  · cases h
  · split at h
    · cases h
    · split at h
      · cases h; simp [w]
      · cases h; simp [w]

@[simp] theorem State.ctxSpillDone_wf {s : State} (w : s.mem.wf = true) (c : Nat) : (s.ctxSpillDone c).mem.wf = true := by
  unfold State.ctxSpillDone
  extract_lets x n qs bad s1 s2 s3
  have w1 : s1.mem.wf = true := State.each_wf w (fun t q => by simp) _
  split
  · split
    · simp [s2, w1]
    · exact State.ctxFaultEvent_wf (State.each_wf (s := s3) (by simpa [s3] using w1) (fun t i => by simp) _) ..
  · exact w

@[simp] theorem State.copyBack_wf {s : State} (w : s.mem.wf = true) (m : Model) :
    (s.copyBack m).mem.wf = true := by
  simp [State.copyBack, w]

@[simp] theorem State.restoreFail_wf {s : State} (w : s.mem.wf = true) (c : Nat) :
    (s.restoreFail c).mem.wf = true := by
  simp (disch := simp [w]) [State.restoreFail]

@[simp] theorem State.ctxRestoreDone_wf {s : State} (w : s.mem.wf = true) (c : Nat) :
    (s.ctxRestoreDone c).mem.wf = true := by
  simp (disch := simp [w]) [State.ctxRestoreDone, w]

@[simp] theorem State.arrive_wf {s : State} (w : s.mem.wf = true) (c : Nat) :
    (s.arrive c).mem.wf = true := by
  simp [State.arrive, w]

@[simp] theorem State.arrivals_wf {s : State} (w : s.mem.wf = true) (l : List Nat) :
    (s.arrivals l).mem.wf = true := by
  simp [State.arrivals, w]

@[simp] theorem State.ageCtxs_mem (s : State) (p : Nat) : (s.ageCtxs p).mem = s.mem := by
  simp [State.ageCtxs]

@[simp] theorem State.admitFree_wf {s : State} (w : s.mem.wf = true) (p : Nat) : (s.admitFree p).mem.wf = true := by
  refine State.each_wf w (fun t c => ?_) _
  split <;> simp

@[simp] theorem State.noFit_mem (s : State) (p : Nat) : (s.noFit p).mem = s.mem := by
  simp [State.noFit]

@[simp] theorem State.evictRules_wf {s : State} (w : s.mem.wf = true) (p : Nat) : (s.evictRules p).mem.wf = true := by
  unfold State.evictRules
  split
  · exact w
  · dsimp only
    split
    · split
      · next h => exact State.makeRoom_wf w h
      · simp [w]
    · exact w

@[simp] theorem State.residency_wf {s : State} (w : s.mem.wf = true) (p : Nat) : (s.residency p).mem.wf = true := by
  have w1 : ((s.ageCtxs p).tryGrants p).mem.wf = true := by simp [w]
  have w2 := State.arrivals_wf (State.evictRules_wf (State.admitFree_wf w1 p) p)
  simp [State.residency, w2]

@[simp] theorem State.orderBe_mem (s : State) (p : Nat) (wait : Bool) : (s.orderBe p wait).mem = s.mem := by
  simp [State.orderBe]

@[simp] theorem State.orderShares_mem (s : State) (p : Nat) : (s.orderShares p).mem = s.mem := by rfl

@[simp] theorem State.applyPitchCfg_mem (s : State) (p : Nat) : (s.applyPitchCfg p).mem = s.mem := by
  simp [State.applyPitchCfg]

@[simp] theorem State.clearQuarters_wf {s : State} (w : s.mem.wf = true) (qs : List Nat) :
    (s.clearQuarters qs).mem.wf = true := by
  simp [State.clearQuarters, w]

@[simp] theorem State.startBuild_wf {s : State} (w : s.mem.wf = true) (b : BuildParams) :
    (s.startBuild b).mem.wf = true := by
  simp [State.startBuild, w]

@[simp] theorem State.buildRep_wf {s : State} (w : s.mem.wf = true) (b : BuildParams) :
    (s.buildRep b).s.mem.wf = true := by
  unfold State.buildRep
  dsimp only
  split <;> simp [w]

@[simp] theorem State.epochRecord_wf {s : State} (w : s.mem.wf = true) (subject dom e : Nat) :
    (s.epochRecord subject dom e).mem.wf = true := by
  simp [State.epochRecord, w]

@[simp] theorem State.buildDone_wf {s : State} (w : s.mem.wf = true) (p : Nat) :
    (s.buildDone p).mem.wf = true := by
  simp [State.buildDone, w]

@[simp] theorem State.freeChans_wf {s : State} (w : s.mem.wf = true) (p : Nat) :
    (s.freeChans p).mem.wf = true := by
  simp [State.freeChans, w]

@[simp] theorem State.dissolveRep_wf {s : State} (w : s.mem.wf = true) (p : Nat) :
    (s.dissolveRep p).s.mem.wf = true := by
  unfold State.dissolveRep
  dsimp only
  (repeat' split) <;> simp (disch := simp [w]) [w]

@[simp] theorem State.ctxRegisterRep_mem (s : State) (c : CtxParams) : (s.ctxRegisterRep c).s.mem = s.mem := by
  unfold State.ctxRegisterRep
  dsimp only
  split <;> simp

theorem State.admitCtx_wf {s t : State} {c : Nat} (w : s.mem.wf = true) (h : s.admitCtx c = some t) : t.mem.wf = true := by
  unfold State.admitCtx at h
  split at h
  · cases h; exact w
  · exact State.makeRoom_wf w h

@[simp] theorem State.ctxAdmitRep_wf {s : State} (w : s.mem.wf = true) (c : Nat) : (s.ctxAdmitRep c).s.mem.wf = true := by
  unfold State.ctxAdmitRep
  dsimp only
  split
  · simp [w]
  · split
    · next t h => simp [State.admitCtx_wf w h]
    · simp [w]

@[simp] theorem State.ctxTeardownRep_wf {s : State} (w : s.mem.wf = true) (c : Nat) :
    (s.ctxTeardownRep c).s.mem.wf = true := by
  unfold State.ctxTeardownRep
  split <;> simp [w]

@[simp] theorem State.graphLoadRep_wf {s : State} (w : s.mem.wf = true) (msg : Instr) (p c a : Nat) :
    (s.graphLoadRep msg p c a).s.mem.wf = true := by
  unfold State.graphLoadRep
  dsimp only
  (iterate 4 split; · simp [w])
  split
  · simp [w]
  · next t h =>
    have wt := State.admitCtx_wf w h
    split <;> simp [wt]

@[simp] theorem State.linkTo_mem (s : State) (n : Nat) (st : LState) : (s.linkTo n st).mem = s.mem := by rfl

@[simp] theorem State.linkDown_mem (s : State) (n : Nat) : (s.linkDown n).mem = s.mem := by
  simp [State.linkDown]

@[simp] theorem State.linkEnable_mem (s : State) (n : Nat) : (s.linkEnable n).mem = s.mem := by
  simp [State.linkEnable]

@[simp] theorem State.linkDisable_mem (s : State) (n : Nat) : (s.linkDisable n).mem = s.mem := by
  simp [State.linkDisable]

@[simp] theorem State.linkStep_mem (s : State) (n : Nat) (from_ : LState) (f : Link → Link) : (s.linkStep n from_ f).mem = s.mem := by
  simp [State.linkStep]

@[simp] theorem State.emitFlit_mem (s : State) (n : Nat) (f : Flit) : (s.emitFlit n f).mem = s.mem := by rfl

@[simp] theorem State.emitTrain_mem (s : State) (n : Nat) (f : Flit) : (s.emitTrain n f).mem = s.mem := by rfl

@[simp] theorem State.trainSend_mem (s : State) (n : Nat) : (s.trainSend n).mem = s.mem := by
  simp [State.trainSend]

@[simp] theorem State.resend_mem (s : State) (n : Nat) : (s.resend n).mem = s.mem := by
  simp [State.resend]

@[simp] theorem State.flitBoundary_mem (s : State) (n : Nat) : (s.flitBoundary n).mem = s.mem := by
  unfold State.flitBoundary
  dsimp only
  (repeat' split) <;> simp

@[simp] theorem State.linkUp_mem (s : State) (n pid plink : Nat) : (s.linkUp n pid plink).mem = s.mem := by
  simp [State.linkUp]

@[simp] theorem State.msgAcked_mem (s : State) (n id : Nat) : (s.msgAcked n id).mem = s.mem := by
  simp [State.msgAcked]

@[simp] theorem State.ackRx_mem (s : State) (n ack : Nat) : (s.ackRx n ack).mem = s.mem := by
  simp [State.ackRx]

@[simp] theorem State.linkRetryWarn_mem (s : State) (n : Nat) : (s.linkRetryWarn n).mem = s.mem := by
  simp [State.linkRetryWarn]

@[simp] theorem State.dropFlits_mem (s : State) (n : Nat) : (s.dropFlits n).mem = s.mem := by rfl

@[simp] theorem State.routeInstall_mem (s : State) : (s.routeInstall).mem = s.mem := by
  simp [State.routeInstall]

@[simp] theorem State.sendRouted_mem (s : State) (dst cls kind tag : Nat) (body : List Byte) :
    (s.sendRouted dst cls kind tag body).2.mem = s.mem := by
  unfold State.sendRouted
  dsimp only
  (repeat' split) <;> simp

@[simp] theorem State.exportRep_wf {s : State} (w : s.mem.wf = true) (move : Bool) (sess tag : Nat) (e : ExportParams) :
    (s.exportRep move sess tag e).s.mem.wf = true := by
  refine State.onHandle_wf w (fun t i => ?_) _
  dsimp only
  split <;> simp

@[simp] theorem State.packCapture_wf {s0 : State} (w : s0.mem.wf = true) (i : Nat) :
    (s0.packCapture i).mem.wf = true := by
  unfold State.packCapture
  dsimp only
  (repeat' split) <;> simp [w]

@[simp] theorem State.updXfer_mem (s : State) (p : Xfer → Bool) (f : Xfer → Xfer) : (s.updXfer p f).mem = s.mem := by rfl

@[simp] theorem State.packDelivered_mem (s : State) (i : Nat) : (s.packDelivered i).mem = s.mem := by
  unfold State.packDelivered
  split <;> simp

@[simp] theorem State.importRefused_mem (s : State) (st dom tag : Nat) : (s.importRefused st dom tag).mem = s.mem := by
  simp [State.importRefused]

@[simp] theorem State.placePack_wf {s : State} (w : s.mem.wf = true) (i : Nat) (k : Pack) (compat : Bool) :
    (s.placePack i k compat).mem.wf = true := by
  simp [State.placePack, w]

@[simp] theorem State.importPack_wf {s : State} (w : s.mem.wf = true) (compat : Bool) (op : OpenParams) (b : List Byte) (sess tag : Nat) :
    (s.importPack compat op b sess tag).2.2.2.mem.wf = true := by
  unfold State.importPack
  dsimp only
  (repeat' split) <;> simp (disch := simp [w]) [w]

@[simp] theorem State.importRep_wf {s : State} (w : s.mem.wf = true) (h : Hdr) (lane : Byte) (op : OpenParams) (pack : List Byte) :
    (s.importRep h lane op pack).s.mem.wf = true := by
  unfold State.importRep
  dsimp only
  split <;> simp [w]

@[simp] theorem State.xferImport_wf {s : State} (w : s.mem.wf = true) (tag : Nat) (body : List Byte) :
    (s.xferImport tag body).2.mem.wf = true := by
  simp [State.xferImport, w]

@[simp] theorem State.packResult_mem (s : State) (src : Nat) (body : List Byte) : (s.packResult src body).mem = s.mem := by
  unfold State.packResult
  dsimp only
  split <;> simp

@[simp] theorem State.packXfer_wf {s : State} (w : s.mem.wf = true) (src tag : Nat) (body : List Byte) :
    (s.packXfer src tag body).mem.wf = true := by
  simp [State.packXfer, w]

@[simp] theorem State.xferTimeout_mem (s : State) (h : Nat) : (s.xferTimeout h).mem = s.mem := by
  unfold State.xferTimeout
  split <;> simp

@[simp] theorem State.retried_mem (s : State) (addr : Nat) : (s.retried addr).mem = s.mem := by rfl

@[simp] theorem State.charge_wf {s : State} (w : s.mem.wf = true) (addr : Nat) (rq : MemReq) : (s.charge addr rq).mem.wf = true := by
  cases rq with
  | swapIn | kiosk | loadPath =>
    simp only [State.charge]
    split <;> simp [w]
  | restore | staging | refetch | voiceFrame | adapter | mover | mgmt | voiceOpen | voiceHash | host | scrub =>
    simp [State.charge, w]

@[simp] theorem State.blockRead_wf {s : State} (w : s.mem.wf = true) (addr : Nat) (rq : MemReq) (reads : List (List Byte × BitVec 16)) :
    (s.blockRead addr rq reads).mem.wf = true := by
  unfold State.blockRead
  split <;> simp [w]

@[simp] theorem State.scrubRead_mem (s0 : State) (addr : Nat) (reads : List (List Byte × BitVec 16)) :
    (s0.scrubRead addr reads).mem = s0.mem := by
  unfold State.scrubRead
  split <;> simp

@[simp] theorem State.retrySecond_mem (s : State) : (s.retrySecond).mem = s.mem := by
  simp [State.retrySecond]

theorem State.lateRead_mem (o : Option Refetch) (t : State) (q : Nat) :
    (((o.map fun r => t.rbLate (q / 4) r.deadline).getD t).rbBytes (q / 4) 64).mem = t.mem := by
  cases o <;> simp

@[simp] theorem State.refetchDone_wf {s : State} (w : s.mem.wf = true) (q a : Nat) : (s.refetchDone q a).mem.wf = true := by
  unfold State.refetchDone
  extract_lets b mine waiting mx s1
  have w1 : s1.mem.wf = true := w
  clear_value s1
  split
  · exact w
  · split
    · rename_i s2 _ _ _ _
      have w2 : s2.mem.wf = true := by rw [show s2.mem = s1.mem from State.lateRead_mem _ s1 q]; exact w1
      clear_value s2
      split <;> simp [w2]
    · simp [w1]

end Sys2Proof.Machine
end

section
/-!
SUPPORT: memory under the network, power and register writes.
-/

namespace Sys2Proof.Machine

@[simp] theorem State.updEth_mem (s : State) (p : Nat) (f : EthPort → EthPort) : (s.updEth p f).mem = s.mem := by rfl

@[simp] theorem State.frameRx_mem (s : State) (p : Nat) (f : EthFrame) : (s.frameRx p f).mem = s.mem := by
  simp [State.frameRx]

@[simp] theorem State.ethChange_mem (s : State) (p : Nat) (up : Bool) (lanes : Nat) : (s.ethChange p up lanes).mem = s.mem := by
  simp [State.ethChange]

@[simp] theorem State.noLight_mem (s : State) (p : Nat) : (s.noLight p).mem = s.mem := by
  simp [State.noLight]

@[simp] theorem State.answer_mem (s : State) (p : Nat) (own : Bool) (m : NetMsg) : (s.answer p own m).mem = s.mem := by
  simp [State.answer]

@[simp] theorem State.sendAck_mem (s : State) (n : Nat) : (s.sendAck n).mem = s.mem := by
  unfold State.sendAck
  split <;> simp

@[simp] theorem State.ackDelay_mem (s : State) (n : Nat) : (s.ackDelay n).mem = s.mem := by
  unfold State.ackDelay
  split <;> simp

@[simp] theorem State.dropSess_mem (s : State) (n : Nat) : (s.dropSess n).mem = s.mem := by
  simp [State.dropSess]

@[simp] theorem State.loseSess_mem (s : State) (n : Nat) : (s.loseSess n).mem = s.mem := by
  simp [State.loseSess]

@[simp] theorem State.retx_mem (s : State) (n : Nat) : (s.retx n).mem = s.mem := by
  unfold State.retx
  split <;> simp

@[simp] theorem State.sessIdle_mem (s : State) (n : Nat) : (s.sessIdle n).mem = s.mem := by
  unfold State.sessIdle
  split <;> simp

@[simp] theorem State.sessReply_mem (s : State) (src : Peer) (n st tag : Nat) (pay : List Byte) :
    (s.sessReply src n st tag pay).mem = s.mem := by rfl

@[simp] theorem State.openSess_wf {s : State} (w : s.mem.wf = true) (i : Instr) (src : Peer) (tag epoch mask maxPay : Nat) :
    (s.openSess i src tag epoch mask maxPay).mem.wf = true := by
  unfold State.openSess
  split
  · simp [w]
  · split <;> simp [w]

@[simp] theorem State.closeSess_wf {s : State} (w : s.mem.wf = true) (h : Hdr) :
    (s.closeSess h).mem.wf = true := by
  simp [State.closeSess, w]

@[simp] theorem State.hostReturn_mem (s : State) (i : Nat) : (s.hostReturn i).mem = s.mem := by
  simp [State.hostReturn]

@[simp] theorem State.hostPut_mem (s : State) (i v : Nat) : (s.hostPut i v).mem = s.mem := by
  simp [State.hostPut]

@[simp] theorem State.beTake_wf {s : State} (w : s.mem.wf = true) (i : Nat) :
    (s.beTake i).mem.wf = true := by
  unfold State.beTake
  dsimp only
  (repeat' split) <;> simp [w]

@[simp] theorem State.updPtp_mem (s : State) (p : Nat) (f : Ptp → Ptp) : (s.updPtp p f).mem = s.mem := by rfl

@[simp] theorem State.updRtp_mem (s : State) (r : Nat) (f : Rtp → Rtp) : (s.updRtp r f).mem = s.mem := by rfl

@[simp] theorem State.ptpLock_wf {s : State} (w : s.mem.wf = true) (p : Nat) (on : Bool) :
    (s.ptpLock p on).mem.wf = true := by
  simp [State.ptpLock, w]

@[simp] theorem State.ptpMeasure_wf {s : State} (w : s.mem.wf = true) (p : Nat) (t1 t2 : Int) :
    (s.ptpMeasure p t1 t2).mem.wf = true := by
  simp [State.ptpMeasure, w]

@[simp] theorem State.ptpFreq_wf {s : State} (w : s.mem.wf = true) (p : Nat) (ppm : Int) :
    (s.ptpFreq p ppm).mem.wf = true := by
  simp [State.ptpFreq, w]

@[simp] theorem State.ptpSync_wf {s : State} (w : s.mem.wf = true) (p seq : Nat) (two : Bool) (t1 t2 ppm : Int) :
    (s.ptpSync p seq two t1 t2 ppm).mem.wf = true := by
  simp [State.ptpSync, w]

@[simp] theorem State.ptpFollowUp_wf {s : State} (w : s.mem.wf = true) (p seq : Nat) (t1 : Int) :
    (s.ptpFollowUp p seq t1).mem.wf = true := by
  unfold State.ptpFollowUp
  split <;> simp [w]

@[simp] theorem State.ptpDelay_mem (s : State) (p seq : Nat) (t4 : Int) : (s.ptpDelay p seq t4).mem = s.mem := by
  simp [State.ptpDelay]

@[simp] theorem State.ptpDelayReq_mem (s : State) (p : EthNo) (t3 : Int) : (s.ptpDelayReq p t3).mem = s.mem := by
  simp [State.ptpDelayReq]

@[simp] theorem State.ptpAnnounce_mem (s : State) (p clock : Nat) (better : Bool) : (s.ptpAnnounce p clock better).mem = s.mem := by
  simp [State.ptpAnnounce]

@[simp] theorem State.ptpTimeout_wf {s : State} (w : s.mem.wf = true) (p : Nat) :
    (s.ptpTimeout p).mem.wf = true := by
  simp [State.ptpTimeout, w]

@[simp] theorem State.rtpSample_mem (s : State) (r : Nat) : (s.rtpSample r).2.mem = s.mem := by
  simp [State.rtpSample]

@[simp] theorem State.rtpSlip_wf {s : State} (w : s.mem.wf = true) (r : Nat) (rep : Bool) :
    (s.rtpSlip r rep).mem.wf = true := by
  simp [State.rtpSlip, w]

@[simp] theorem State.rtpTick_wf {s : State} (w : s.mem.wf = true) (r : Nat) :
    (s.rtpTick r).mem.wf = true := by
  simp [State.rtpTick, w]

@[simp] theorem State.rtpTicks_wf {s : State} (w : s.mem.wf = true) (dom : Nat) :
    (s.rtpTicks dom).mem.wf = true := by
  simp [State.rtpTicks, w]

@[simp] theorem State.rtpPull_wf {s : State} (w : s.mem.wf = true) (r : Nat) :
    (s.rtpPull r).mem.wf = true := by
  simp [State.rtpPull, w]

@[simp] theorem State.rtpPulls_wf (n r : Nat) {s : State} (w : s.mem.wf = true) : (State.rtpPulls n r s).mem.wf = true := by
  induction n generalizing s with
  | zero => exact w
  | succ n ih => exact ih (State.rtpPull_wf w r)

@[simp] theorem State.rtpAdvance_wf {s : State} (w : s.mem.wf = true) (r : Nat) :
    (s.rtpAdvance r).mem.wf = true := by
  simp [State.rtpAdvance, w]

@[simp] theorem State.rtpEnable_mem (s : State) (r : Nat) : (s.rtpEnable r).mem = s.mem := by
  simp [State.rtpEnable]

@[simp] theorem State.rtpDisable_mem (s : State) (r : Nat) : (s.rtpDisable r).mem = s.mem := by rfl

@[simp] theorem State.rtpSend_wf {s : State} (w : s.mem.wf = true) (r : RtpNo) :
    (s.rtpSend r).mem.wf = true := by
  simp [State.rtpSend, w]

@[simp] theorem State.twinRecord_wf {s : State} (w : s.mem.wf = true) :
    (s.twinRecord).mem.wf = true := by
  simp [State.twinRecord, w]

@[simp] theorem State.releaseHeld_mem (s : State) : (s.releaseHeld).mem = s.mem := by
  simp [State.releaseHeld]

@[simp] theorem State.forwardEnd_mem (s : State) : (s.forwardEnd).mem = s.mem := by
  simp [State.forwardEnd]

@[simp] theorem State.twinEnd_wf {s : State} (w : s.mem.wf = true) :
    (s.twinEnd).mem.wf = true := by
  simp (disch := simp [w]) [State.twinEnd]

@[simp] theorem State.takeOver_wf {s : State} (w : s.mem.wf = true) :
    (s.takeOver).mem.wf = true := by
  simp [State.takeOver, w]

@[simp] theorem State.powerTo_wf {s : State} (w : s.mem.wf = true) (k wake : Nat) :
    (s.powerTo k wake).mem.wf = true := by
  simp [State.powerTo, w]

@[simp] theorem State.powerReq_wf {s : State} (w : s.mem.wf = true) (k : Nat) :
    (s.powerReq k).2.mem.wf = true := by
  unfold State.powerReq
  dsimp only
  (repeat' split) <;> simp [w]

@[simp] theorem State.powerEntry_wf {s : State} (w : s.mem.wf = true) :
    (s.powerEntry).mem.wf = true := by
  unfold State.powerEntry
  split <;> simp [w]

@[simp] theorem State.powerBack_wf {s : State} (w : s.mem.wf = true) :
    (s.powerBack).mem.wf = true := by
  simp [State.powerBack, w]

@[simp] theorem State.timerWake_mem (s : State) : (s.timerWake).mem = s.mem := by
  simp [State.timerWake]

@[simp] theorem State.clockStep_mem (s : State) (k : Nat) : (s.clockStep k).mem = s.mem := by rfl

@[simp] theorem State.capOver_mem (s : State) (dw : Nat) : (s.capOver dw).mem = s.mem := by
  simp [State.capOver]

@[simp] theorem State.powerMeasured_mem (s : State) (dw : Nat) : (s.powerMeasured dw).mem = s.mem := by
  simp [State.powerMeasured]

@[simp] theorem State.capFrame_mem (s : State) (d : Nat) : (s.capFrame d).mem = s.mem := by
  simp [State.capFrame]

@[simp] theorem State.setShadow_mem (s : State) (rq : Requester) (off v : Nat) : (s.setShadow rq off v).mem = s.mem := by rfl

@[simp] theorem State.readReg_mem (s : State) (rq : Requester) (r : RegName) (i j : Nat) : (s.readReg rq r i j).2.mem = s.mem := by
  simp [State.readReg]

@[simp] theorem State.regRead1_mem (s : State) (rq : Requester) (off : Nat) : (s.regRead1 rq off).2.2.mem = s.mem := by
  unfold State.regRead1
  split <;> simp

@[simp] theorem State.putWord_mem (s : State) (r : RegName) (i : Nat) (v : Nat) (j : Nat) : (s.putWord r i v j).mem = s.mem := by rfl

@[simp] theorem State.guarded_mem (s : State) (ok : Bool) (r : RegName) (i v : Nat) (evt : RegName) (k bit : Nat) :
    (s.guarded ok r i v evt k bit).mem = s.mem := by
  simp [State.guarded]

@[simp] theorem State.writeTickCtl_wf {s : State} (w : s.mem.wf = true) (d v : Nat) :
    (s.writeTickCtl d v).mem.wf = true := by
  simp [State.writeTickCtl, w]

@[simp] theorem State.writeTick_wf {s : State} (w : s.mem.wf = true) (r : RegName) (d v : Nat) :
    (s.writeTick r d v).mem.wf = true := by
  unfold State.writeTick
  split <;> simp [w]

@[simp] theorem State.writeSdir_mem (s : State) (r : RegName) (i v : Nat) : (s.writeSdir r i v).mem = s.mem := by
  unfold State.writeSdir
  dsimp only
  split <;> simp

@[simp] theorem State.writeQtr_mem (s : State) (r : RegName) (q v : Nat) : (s.writeQtr r q v).mem = s.mem := by
  unfold State.writeQtr
  split <;> simp

@[simp] theorem State.writeSched_mem (s : State) (r : RegName) (i v : Nat) : (s.writeSched r i v).mem = s.mem := by
  unfold State.writeSched
  dsimp only
  (repeat' split) <;> simp

@[simp] theorem State.excClear_mem (s : State) (q j : Nat) : (s.excClear q j).mem = s.mem := by rfl

@[simp] theorem State.writeKiosk_mem (s : State) (r : RegName) (q j v : Nat) : (s.writeKiosk r q j v).mem = s.mem := by
  unfold State.writeKiosk
  split <;> simp

@[simp] theorem State.writePause_mem (s : State) (n : Nat) (b : Bool) : (s.writePause n b).mem = s.mem := by
  simp [State.writePause]

@[simp] theorem State.writeChan_wf {s : State} (w : s.mem.wf = true) (n v : Nat) :
    (s.writeChan n v).mem.wf = true := by
  simp [State.writeChan, w]

@[simp] theorem State.writeHead_mem (s : State) (r : RegName) (n v : Nat) : (s.writeHead r n v).mem = s.mem := by
  simp [State.writeHead]

@[simp] theorem State.chanCmd_wf {s : State} (w : s.mem.wf = true) (n : Nat) (rq : Requester) (v : Nat) :
    (s.chanCmd n rq v).mem.wf = true := by
  simp [State.chanCmd, w]

@[simp] theorem State.writeMovr_wf {s : State} (w : s.mem.wf = true) (rq : Requester) (r : RegName) (n v : Nat) :
    (s.writeMovr rq r n v).mem.wf = true := by
  unfold State.writeMovr
  split <;> simp [w]

@[simp] theorem State.writePortCfg_mem (s : State) (p v : Nat) : (s.writePortCfg p v).mem = s.mem := by
  simp [State.writePortCfg]

@[simp] theorem State.writePort_mem (s : State) (r : RegName) (p v : Nat) : (s.writePort r p v).mem = s.mem := by
  unfold State.writePort
  dsimp only
  split <;> simp [State.cond]

@[simp] theorem State.writeRtp_mem (s : State) (r v : Nat) : (s.writeRtp r v).mem = s.mem := by
  simp [State.writeRtp]

@[simp] theorem State.writePtp_wf {s : State} (w : s.mem.wf = true) (p v : Nat) :
    (s.writePtp p v).mem.wf = true := by
  simp [State.writePtp, w]

@[simp] theorem State.writeHost_wf {s : State} (w : s.mem.wf = true) (r : RegName) (i j v : Nat) :
    (s.writeHost r i j v).mem.wf = true := by
  unfold State.writeHost
  split <;> simp [w]

@[simp] theorem State.stageRoute_mem (s : State) (v : Nat) : (s.stageRoute v).mem = s.mem := by rfl

@[simp] theorem State.writeLink_wf {s : State} (w : s.mem.wf = true) (r : RegName) (n v : Nat) :
    (s.writeLink r n v).mem.wf = true := by
  unfold State.writeLink
  split <;> simp [w]

@[simp] theorem State.writeWdog_mem (s : State) (v : Nat) : (s.writeWdog v).mem = s.mem := by
  simp [State.writeWdog]

@[simp] theorem State.writeMisc_mem (s : State) (r : RegName) (i v : Nat) : (s.writeMisc r i v).mem = s.mem := by
  unfold State.writeMisc
  split <;> simp

@[simp] theorem State.writePwr_wf {s : State} (w : s.mem.wf = true) (v : Nat) :
    (s.writePwr v).2.mem.wf = true := by
  simp [State.writePwr, w]

@[simp] theorem State.writeReg_wf {s : State} (w : s.mem.wf = true) (rq : Requester) (r : RegName) (i j v : Nat) :
    (s.writeReg rq r i j v).2.mem.wf = true := by
  unfold State.writeReg
  dsimp only
  (repeat' split) <;> simp [w]

@[simp] theorem State.regWrite1_wf {s : State} (w : s.mem.wf = true) (rq : Requester) (off v : Nat) :
    (s.regWrite1 rq off v).2.mem.wf = true := by
  unfold State.regWrite1
  split <;> simp [w]

end Sys2Proof.Machine
end

section
/-!
SUPPORT: memory under the Kiosks and the host's accesses.
-/

namespace Sys2Proof.Machine

@[simp] theorem State.recordExc_mem (s : State) (k cause pc : Nat) (addr : Option Nat) : (s.recordExc k cause pc addr).mem = s.mem := by
  unfold State.recordExc
  split <;> simp

@[simp] theorem State.excFault_wf {s : State} (w : s.mem.wf = true) (k cause : Nat) :
    (s.excFault k cause).mem.wf = true := by
  unfold State.excFault
  split <;> simp [w]

@[simp] theorem State.kioskExc_wf {s : State} (w : s.mem.wf = true) (k cause : Nat) (addr : Option Nat) :
    (s.kioskExc k cause addr).mem.wf = true := by
  simp [State.kioskExc, w]

@[simp] theorem State.kioskTraffic_mem (s : State) (k a : Nat) : (s.kioskTraffic k a).mem = s.mem := by
  simp [State.kioskTraffic]

@[simp] theorem State.lineFault_wf {s : State} (w : s.mem.wf = true) (k : Nat) :
    (s.lineFault k).mem.wf = true := by
  unfold State.lineFault
  split <;> simp [w]

@[simp] theorem State.dropClean_mem (s : State) (k la : Nat) : (s.dropClean k la).mem = s.mem := by rfl

/-- A line's dirty bytes are stored one by one. -/
theorem Memory.wf_foldl_write {m : Memory} (w : m.wf = true) (l : List Nat) (has : Nat → Bool) (a : Nat → Nat) (v : Nat → Byte) :
    Memory.wf (l.foldl (fun m i => if has i then m.write (a i) [v i] else m) m) = true := by
  induction l generalizing m with
  | nil => exact w
  | cons i l ih =>
    refine ih ?_
    dsimp only
    split
    · exact Memory.wf_write _ _ w
    · exact w

@[simp] theorem State.putLine_wf {s : State} (w : s.mem.wf = true) (l : CLine) : (s.putLine l).mem.wf = true :=
  Memory.wf_foldl_write w _ _ (fun i => l.addr + i) (fun i => l.data.getD i 0#8)

@[simp] theorem State.incK_mem (s : State) (r : RegName) (k : Nat) : (s.incK r k).mem = s.mem := by rfl

@[simp] theorem State.landLine_wf {s : State} (w : s.mem.wf = true) (k : Nat) (l : CLine) :
    (s.landLine k l).mem.wf = true := by
  unfold State.landLine
  dsimp only
  (repeat' split) <;> simp [w]

@[simp] theorem State.landAll_wf {s : State} (w : s.mem.wf = true) (k : Nat) (ls : List CLine) :
    (s.landAll k ls).mem.wf = true := by
  simp [State.landAll, w]

@[simp] theorem State.landFlight_wf {s : State} (w : s.mem.wf = true) (k : Nat) :
    (s.landFlight k).mem.wf = true := by
  simp [State.landFlight, w]

@[simp] theorem State.landRelease_wf {s : State} (w : s.mem.wf = true) (k : Nat) :
    (s.landRelease k).mem.wf = true := by
  simp [State.landRelease, w]

@[simp] theorem State.landBlock_wf {s : State} (w : s.mem.wf = true) (k a : Nat) :
    (s.landBlock k a).mem.wf = true := by
  simp [State.landBlock, w]

@[simp] theorem State.evictLine_wf {s : State} (w : s.mem.wf = true) (k addr : Nat) :
    (s.evictLine k addr).mem.wf = true := by
  simp [State.evictLine, w]

@[simp] theorem State.cachedStore_wf {s0 : State} (w : s0.mem.wf = true) (k a : Nat) (bs : List Byte) :
    (s0.cachedStore k a bs).mem.wf = true := by
  simp [State.cachedStore, w]

@[simp] theorem State.storePiece_wf {s : State} (w : s.mem.wf = true) (k a : Nat) (bs : List Byte) :
    (s.storePiece k a bs).mem.wf = true := by
  unfold State.storePiece
  split <;> simp [w]

@[simp] theorem State.kset_mem (s : State) (k : Nat) (f : Kiosk → Kiosk) : (s.kset k f).mem = s.mem := by rfl

@[simp] theorem State.issueOp_wf {s : State} {op : State → State} (w : s.mem.wf = true)
    (h : ∀ t : WfState, (op t.s).mem.wf = true) (i : Instr) : (s.issueOp i op).mem.wf = true := by
  have ho := h ⟨s, w⟩
  unfold State.issueOp
  split
  · split
    · split
      · exact ho
      · simp [w]
    · exact w
  · exact w

@[simp] theorem State.withTst_wf {s : State} {f : Nat → State → State} (w : s.mem.wf = true)
    (h : ∀ i (t : WfState), (f i t.s).mem.wf = true) (k n : Nat) : (s.withTst k n f).mem.wf = true := by
  unfold State.withTst
  dsimp only
  split
  · exact h _ ⟨s, w⟩
  · simp [w]

@[simp] theorem State.beginRel_mem (s : State) (k : Nat) (r : KRel) : (s.beginRel k r).mem = s.mem := by rfl

@[simp] theorem State.kNop_mem (s : State) (k : Nat) : (s.kNop k).mem = s.mem := by rfl

@[simp] theorem State.kEnd_wf {s : State} (w : s.mem.wf = true) (k : Nat) :
    (s.kEnd k).mem.wf = true := by
  simp [State.kEnd, w]

@[simp] theorem State.kYield_wf {s : State} (w : s.mem.wf = true) (k : Nat) (f : FS) :
    (s.kYield k f).mem.wf = true := by
  simp [State.kYield, w]

@[simp] theorem State.kWait_wf {s : State} (w : s.mem.wf = true) (k : Nat) (f : FS) :
    (s.kWait k f).mem.wf = true := by
  simp [State.kWait, w]

@[simp] theorem State.kPass_wf {s : State} (w : s.mem.wf = true) (k : Nat) (f : FS) :
    (s.kPass k f).mem.wf = true := by
  simp [State.kPass, w]

@[simp] theorem State.kArm_wf {s : State} (w : s.mem.wf = true) (k : Nat) (f : FS) : (s.kArm k f).mem.wf = true := by
  refine State.withTst_wf w (fun i t => ?_) _ _
  dsimp only
  split <;> simp

@[simp] theorem State.kTrst_wf {s : State} (w : s.mem.wf = true) (k : Nat) (f : FS) :
    (s.kTrst k f).mem.wf = true := by
  simp [State.kTrst, w]

@[simp] theorem State.kFlush_mem (s : State) (k : Nat) (f : FS) : (s.kFlush k f).mem = s.mem := by rfl

@[simp] theorem State.kInv_mem (s : State) (k : Nat) (f : FS) : (s.kInv k f).mem = s.mem := by rfl

@[simp] theorem State.kFence_mem (s : State) (k : Nat) : (s.kFence k).mem = s.mem := by rfl

@[simp] theorem State.settle_mem (s : State) (k : Nat) : (s.settle k).mem = s.mem := by
  simp [State.settle]

@[simp] theorem State.kWaitMet_mem (s : State) (k : Nat) : (s.kWaitMet k).mem = s.mem := by
  simp [State.kWaitMet]

@[simp] theorem State.kioskTileEnd_wf {s : State} (w : s.mem.wf = true) (k : Nat) (yielded : Bool) :
    (s.kioskTileEnd k yielded).mem.wf = true := by
  unfold State.kioskTileEnd
  split <;> simp [w]

@[simp] theorem State.kioskReleaseDone_wf {s : State} (w : s.mem.wf = true) (k : Nat) :
    (s.kioskReleaseDone k).mem.wf = true := by
  unfold State.kioskReleaseDone
  dsimp only
  (repeat' split) <;> simp [w]

@[simp] theorem State.kCsr_mem (s : State) (k : Nat) (f : FS) : (s.kCsr k f).mem = s.mem := by rfl

@[simp] theorem State.kOpr_mem (s : State) (k : Nat) (f : FS) : (s.kOpr k f).mem = s.mem := by rfl

@[simp] theorem State.kAddi_mem (s : State) (k : Nat) (f : FI) : (s.kAddi k f).mem = s.mem := by rfl

@[simp] theorem State.kLui_mem (s : State) (k : Nat) (f : FI) : (s.kLui k f).mem = s.mem := by rfl

@[simp] theorem State.kSalu_mem (s : State) (k : Nat) (f : FV) : (s.kSalu k f).mem = s.mem := by
  unfold State.kSalu
  dsimp only
  split <;> simp

@[simp] theorem State.branch_mem (s : State) (k : Nat) (f : FB) (take : BitVec 64 → BitVec 64 → Bool) :
    (s.branch k f take).mem = s.mem := by
  simp [State.branch]

@[simp] theorem State.kJal_mem (s : State) (k : Nat) (f : FI) : (s.kJal k f).mem = s.mem := by rfl

@[simp] theorem State.kJr_mem (s : State) (k : Nat) (f : FI) : (s.kJr k f).mem = s.mem := by rfl

/-- The state an access ends in. -/
def KRes.state {α : Type} : KRes α → State
  | .ok _ t => t
  | .exc _ _ t => t
  | .stop t => t
  | .wait t => t

section
variable {α : Type} (v : α) (c x : Nat) (t : State)
@[simp] theorem KRes.state_ok : (KRes.ok v t).state = t := rfl
@[simp] theorem KRes.state_exc : (KRes.exc c x t : KRes α).state = t := rfl
@[simp] theorem KRes.state_stop : (KRes.stop t : KRes α).state = t := rfl
@[simp] theorem KRes.state_wait : (KRes.wait t : KRes α).state = t := rfl
end

@[simp] theorem State.lineParity_wf (e : Option Nat) (ws : List Nat) {s : State} (w : s.mem.wf = true) :
    (State.lineParity e ws s).state.mem.wf = true := by
  induction ws generalizing s with
  | nil => exact w
  | cons a ws ih =>
    unfold State.lineParity
    dsimp only
    split
    · exact ih (State.parity_wf w ..)
    · exact State.parity_wf w ..
    · exact State.parity_wf w ..

@[simp] theorem State.fillLine_wf {s : State} (w : s.mem.wf = true) (k a : Nat) : (s.fillLine k a).state.mem.wf = true := by
  unfold State.fillLine
  extract_lets s1 e
  have w1 : s1.mem.wf = true := by simp [s1, w]
  clear_value s1 e
  split
  · simp only [KRes.state_stop]
    split <;> simp [w1]
  · have wp := State.lineParity_wf e (s1.badWordsIn a 64) w1
    split
    · next s2 h =>
      rw [h] at wp
      simp only [KRes.state_ok] at wp ⊢
      split <;> simp [wp]
    · exact wp

@[simp] theorem State.cachedLoad_wf {s : State} (w : s.mem.wf = true) (k a n : Nat) : (s.cachedLoad k a n).state.mem.wf = true := by
  unfold State.cachedLoad
  extract_lets la get fill
  have wf : ∀ t : State, t.mem.wf = true → (fill t).state.mem.wf = true := by
    intro t wt
    have h := State.fillLine_wf wt k la
    simp only [fill]
    split <;> simp_all
  split
  · exact wf s w
  · split
    · exact w
    · split
      · simp [w]
      · exact wf _ (by simp [w])

@[simp] theorem State.loadPiece_wf {s : State} (w : s.mem.wf = true) (k a n : Nat) : (s.loadPiece k a n).state.mem.wf = true := by
  unfold State.loadPiece
  split <;> simp [w]

@[simp] theorem State.loadPieces_wf (k : Nat) (ps : List (Nat × Nat)) {s : State} (w : s.mem.wf = true) :
    (State.loadPieces k ps s).state.mem.wf = true := by
  induction ps generalizing s with
  | nil => exact w
  | cons p ps ih =>
    have h1 := State.loadPiece_wf w k p.1 p.2
    unfold State.loadPieces
    split
    · next v t h =>
      rw [h] at h1
      have h2 := ih h1
      split <;> simp_all
    all_goals simp_all

@[simp] theorem State.kioskLoad_wf {s : State} (w : s.mem.wf = true) (k : Nat) (vec : Option Nat) (ps : List (Nat × Nat)) :
    (s.kioskLoad k vec ps).state.mem.wf = true := by
  have h := State.loadPieces_wf k ps w
  unfold State.kioskLoad
  split
  · exact w
  · split <;> simp_all

@[simp] theorem State.loaded_wf {r : KRes (List (List Byte))} (w : r.state.mem.wf = true) (k : Nat)
    (f : List (List Byte) → Kiosk → Kiosk) (n sz : Nat) : (State.loaded k r f n sz).mem.wf = true := by
  cases r <;> simp_all [State.loaded]

@[simp] theorem State.kLd_wf {s : State} (w : s.mem.wf = true) (k : Nat) (f : FM) :
    (s.kLd k f).mem.wf = true := by
  simp [State.kLd, w]

@[simp] theorem State.kioskStore_wf {s : State} (w : s.mem.wf = true) (k : Nat) (vec : Option Nat) (ps : List (Nat × List Byte)) :
    (s.kioskStore k vec ps).state.mem.wf = true := by
  unfold State.kioskStore
  split
  · exact w
  · simp [w]

@[simp] theorem State.stored_wf {r : KRes Unit} (w : r.state.mem.wf = true) (k : Nat) : (State.stored k r).mem.wf = true := by
  cases r <;> simp_all [State.stored]

@[simp] theorem State.kSt_wf {s : State} (w : s.mem.wf = true) (k : Nat) (f : FM) :
    (s.kSt k f).mem.wf = true := by
  simp [State.kSt, w]

@[simp] theorem State.kVld_wf {s : State} (w : s.mem.wf = true) (k : Nat) (f : FM) :
    (s.kVld k f).mem.wf = true := by
  simp [State.kVld, w]

@[simp] theorem State.kVst_wf {s : State} (w : s.mem.wf = true) (k : Nat) (f : FM) :
    (s.kVst k f).mem.wf = true := by
  simp [State.kVst, w]

@[simp] theorem State.kGather_wf {s : State} (w : s.mem.wf = true) (k : Nat) (f : FV) :
    (s.kGather k f).mem.wf = true := by
  simp [State.kGather, w]

@[simp] theorem State.kScatter_wf {s : State} (w : s.mem.wf = true) (k : Nat) (f : FV) :
    (s.kScatter k f).mem.wf = true := by
  simp [State.kScatter, w]

@[simp] theorem State.lanewise_mem (s : State) (k : Nat) (f : FV) (g : Kiosk → Nat → BitVec 32) : (s.lanewise k f g).mem = s.mem := by rfl

@[simp] theorem State.kValu_mem (s : State) (k : Nat) (f : FV) : (s.kValu k f).mem = s.mem := by rfl

@[simp] theorem State.kVfma_mem (s : State) (k : Nat) (f : FV) : (s.kVfma k f).mem = s.mem := by rfl

@[simp] theorem State.kVcmp_mem (s : State) (k : Nat) (f : FV) : (s.kVcmp k f).mem = s.mem := by
  unfold State.kVcmp
  dsimp only
  split <;> simp

@[simp] theorem State.kVcvt_mem (s : State) (k : Nat) (f : FV) : (s.kVcvt k f).mem = s.mem := by
  simp [State.kVcvt]

@[simp] theorem State.kSfu_mem (s : State) (k : Nat) (f : FV) (n : Nat) : (s.kSfu k f n).mem = s.mem := by rfl

@[simp] theorem State.kSincos_mem (s : State) (k : Nat) (f : FV) : (s.kSincos k f).mem = s.mem := by rfl

@[simp] theorem State.kVmovs_mem (s : State) (k : Nat) (f : FV) : (s.kVmovs k f).mem = s.mem := by
  unfold State.kVmovs
  dsimp only
  (repeat' split) <;> simp

@[simp] theorem State.kVred_mem (s : State) (k : Nat) (f : FV) : (s.kVred k f).mem = s.mem := by rfl

@[simp] theorem State.overlength_wf {s : State} (w : s.mem.wf = true) (k : Nat) :
    (s.overlength k).mem.wf = true := by
  simp [State.overlength, w]

@[simp] theorem State.reservedOp_wf {s : State} (hw : s.mem.wf = true) (k : KioskNo) (w : Nat) :
    (s.reservedOp k w).mem.wf = true := by
  simp [State.reservedOp, hw]

@[simp] theorem State.fetchBad_wf {s : State} (w : s.mem.wf = true) (k : Nat) :
    (s.fetchBad k).mem.wf = true := by
  simp [State.fetchBad, w]

@[simp] theorem State.kioskDo_wf {s : State} (w : s.mem.wf = true) (i : Instr) : (s.kioskDo i).mem.wf = true := by
  unfold State.kioskDo
  split <;> simp [w]

@[simp] theorem State.kioskResumed_mem (s : State) (k : Nat) : (s.kioskResumed k).mem = s.mem := by rfl

@[simp] theorem State.kioskHalt_mem (s : State) (k : Nat) : (s.kioskHalt k).mem = s.mem := by
  simp [State.kioskHalt]

@[simp] theorem State.kioskUnhalt_mem (s : State) (k : Nat) : (s.kioskUnhalt k).mem = s.mem := by
  simp [State.kioskUnhalt]

@[simp] theorem State.kioskStep_wf {s : State} (w : s.mem.wf = true) (k : Nat) : (s.kioskStep k).mem.wf = true := by
  unfold State.kioskStep
  extract_lets x s1 s2
  have w1 : s1.mem.wf = true := by simp [s1, w]
  clear_value s1
  have w2 : s2.mem.wf = true := by
    simp only [s2]
    split
    · simp [w1]
    · split
      · split <;> simp [w1]
      · simp [w1]
  split
  · simpa using w2
  · exact w

@[simp] theorem State.excRelease_wf {s : State} (w : s.mem.wf = true) (k : Nat) :
    (s.excRelease k).mem.wf = true := by
  unfold State.excRelease
  split <;> simp [w]

@[simp] theorem State.releaseExcs_wf {s : State} (w : s.mem.wf = true) :
    (s.releaseExcs).mem.wf = true := by
  simp [State.releaseExcs, w]

@[simp] theorem State.dbgCtl_wf {s : State} (w : s.mem.wf = true) (v : Nat) :
    (s.dbgCtl v).mem.wf = true := by
  simp (disch := simp [w]) [State.dbgCtl, w]

@[simp] theorem State.viewWrite_wf {s : State} (w : s.mem.wf = true) (v : Nat) :
    (s.viewWrite v).mem.wf = true := by
  simp [State.viewWrite, w]

@[simp] theorem State.regWriteAt_wf {s : State} (w : s.mem.wf = true) (rq : Requester) (off v : Nat) :
    (s.regWriteAt rq off v).2.mem.wf = true := by
  unfold State.regWriteAt
  split <;> simp [w]

@[simp] theorem State.readRegs_mem (rq : Requester) (as : List Nat) (r : Nat × List Byte × State) :
    (State.readRegs rq as r).2.2.mem = r.2.2.mem := by
  induction as generalizing r with
  | nil => rfl
  | cons a as ih =>
    unfold State.readRegs
    dsimp only
    rw [ih]
    cases regOff a <;> simp

@[simp] theorem State.writeRegs_wf (rq : Requester) (es : List (Nat × Nat)) {r : Nat × State} (w : r.2.mem.wf = true) :
    (State.writeRegs rq es r).2.mem.wf = true := by
  induction es generalizing r with
  | nil => exact w
  | cons e es ih =>
    unfold State.writeRegs
    refine ih ?_
    dsimp only
    split <;> simp [w]

@[simp] theorem State.regReadRep_mem (s : State) (n : Nat) (as : List DWord) : (s.regReadRep n as).s.mem = s.mem := by
  simp [State.regReadRep]

@[simp] theorem State.regWriteRep_wf {s : State} (w : s.mem.wf = true) (n : Nat) (es : List (DWord × Word)) :
    (s.regWriteRep n es).s.mem.wf = true := by
  simp [State.regWriteRep, w]

theorem State.foldl_hostParity_wf (ws : List Nat) {r : State × Bool} (h : r.1.mem.wf = true) :
    (ws.foldl (fun r w =>
      let p := r.1.parity w none
      if p.2 == .wait then
        let q := w / 0x1000000 % 16
        let bad := match p.1.imageByte q (w / 64 * 64) with | some src => !(p.1.badIn src 64).isEmpty | none => false
        (p.1.refetchDone q w, r.2 || bad)
      else (p.1, r.2)) r).1.mem.wf = true := by
  induction ws generalizing r with
  | nil => exact h
  | cons w ws ih =>
    refine ih ?_
    dsimp only
    split <;> simp [h]

@[simp] theorem State.hostParity_wf {s : State} (w : s.mem.wf = true) (ws : List Nat) : (s.hostParity ws).1.mem.wf = true :=
  State.foldl_hostParity_wf ws w

@[simp] theorem State.hostRead_wf {s : State} (w : s.mem.wf = true) (a n : Nat) :
    (s.hostRead a n).2.2.mem.wf = true := by
  unfold State.hostRead
  dsimp only
  (repeat' split) <;> simp [w]

@[simp] theorem State.hostBlock_wf {s : State} (w : s.mem.wf = true) (a : Nat) (bs : List Byte) :
    (s.hostBlock a bs).2.mem.wf = true := by
  unfold State.hostBlock
  split
  · exact w
  · split <;> simp [w]
  · split <;> simp [w]

@[simp] theorem State.hostBlocks_wf (bs : List (Nat × List Byte)) {r : Nat × State} (w : r.2.mem.wf = true) :
    (State.hostBlocks bs r).2.mem.wf = true := by
  induction bs generalizing r with
  | nil => exact w
  | cons b bs ih =>
    have w1 := State.hostBlock_wf w b.1 b.2
    unfold State.hostBlocks
    dsimp only
    split
    · exact w1
    · exact ih w1

@[simp] theorem State.hostWrite_wf {s : State} (w : s.mem.wf = true) (a : Nat) (d : List Byte) :
    (s.hostWrite a d).2.mem.wf = true := by
  unfold State.hostWrite
  dsimp only
  split
  · exact w
  · exact State.hostBlocks_wf _ w

@[simp] theorem State.memReadRep_wf {s : State} (w : s.mem.wf = true) (a n : Nat) :
    (s.memReadRep a n).s.mem.wf = true := by
  unfold State.memReadRep
  split <;> simp [w]

@[simp] theorem State.memWriteRep_wf {s : State} (w : s.mem.wf = true) (a : Nat) (d : List Byte) :
    (s.memWriteRep a d).s.mem.wf = true := by
  simp [State.memWriteRep, w]

@[simp] theorem State.jtag_wf {s : State} (w : s.mem.wf = true) (wr : Bool) (a v : Nat) :
    (s.jtag wr a v).mem.wf = true := by
  unfold State.jtag
  dsimp only
  (repeat' split) <;> simp [w]

@[simp] theorem State.reaching_wf {s : State} {f : State → State} (w : s.mem.wf = true)
    (h : ∀ t : WfState, (f t.s).mem.wf = true) (rq : Requester) (off : Nat) (wr : Bool) :
    (s.reaching rq off wr f).mem.wf = true := by
  unfold State.reaching
  split
  · exact h ⟨s, w⟩
  · split <;> simp [w]

end Sys2Proof.Machine
end

section
/-!
SUPPORT: memory under epochs, starts, security and replay.
-/

namespace Sys2Proof.Machine

@[simp] theorem State.applyReg_wf {s : State} (w : s.mem.wf = true) (c : CfgRec) :
    (s.applyReg c).2.mem.wf = true := by
  unfold State.applyReg
  dsimp only
  split <;> simp [w]

@[simp] theorem State.applyTwin_mem (s : State) (v : List Byte) : (s.applyTwin v).mem = s.mem := by
  unfold State.applyTwin
  extract_lets n s1 s2 s3
  refine (State.each_mem (fun t l => ?_) s2 _).trans rfl
  rfl

@[simp] theorem State.applyStart_mem (s : State) (c : CfgRec) : (s.applyStart c).mem = s.mem := by
  unfold State.applyStart
  dsimp only
  split
  case h_3 =>
    refine State.each_mem (fun t k => ?_) s _
    rfl
  all_goals simp

@[simp] theorem State.applyRec_wf {s : State} (w : s.mem.wf = true) (c : CfgRec) :
    (s.applyRec c).2.mem.wf = true := by
  unfold State.applyRec
  dsimp only
  (repeat' split) <;> simp [w]

@[simp] theorem countRefused_mem (s t : State) : (countRefused s t).mem = t.mem := by
  simp [countRefused]

@[simp] theorem State.applyStaged_wf {s : State} (w : s.mem.wf = true) (p : Nat × CfgRec) :
    (s.applyStaged p).mem.wf = true := by
  simp [State.applyStaged, w]

@[simp] theorem State.applyAll_wf {s : State} (w : s.mem.wf = true) (l : List (Nat × CfgRec)) :
    (s.applyAll l).mem.wf = true := by
  simp [State.applyAll, w]

@[simp] theorem State.stageRep_mem (s : State) (d : List Byte) : (s.stageRep d).s.mem = s.mem := by
  unfold State.stageRep
  dsimp only
  split <;> simp

@[simp] theorem State.commitRep_mem (s : State) : (s.commitRep).s.mem = s.mem := by
  unfold State.commitRep
  split
  · simp
  · split <;> simp

@[simp] theorem State.applyClass_wf {s : State} (w : s.mem.wf = true) (k : RecClass) :
    (s.applyClass k).mem.wf = true := by
  simp [State.applyClass, w]

@[simp] theorem State.orphanRecs_wf {s : State} (w : s.mem.wf = true) :
    (s.orphanRecs).mem.wf = true := by
  simp [State.orphanRecs, w]

@[simp] theorem State.nextRoll_wf {s : State} (w : s.mem.wf = true) :
    (s.nextRoll).mem.wf = true := by
  unfold State.nextRoll
  dsimp only
  split <;> simp [w]

@[simp] theorem State.adopt_wf {s : State} (w : s.mem.wf = true) (p drain : Nat) :
    (s.adopt p drain).mem.wf = true := by
  simp [State.adopt, w]

@[simp] theorem State.rollFix_wf {s : State} (w : s.mem.wf = true) :
    (s.rollFix).mem.wf = true := by
  simp [State.rollFix, w]

@[simp] theorem State.rollEnd_wf {s : State} (w : s.mem.wf = true) (p : Nat) :
    (s.rollEnd p).mem.wf = true := by
  simp (disch := simp [w]) [State.rollEnd, w]

@[simp] theorem State.rollStart_wf {s : State} (w : s.mem.wf = true) (p : Nat) :
    (s.rollStart p).mem.wf = true := by
  simp [State.rollStart, w]

@[simp] theorem State.rollIdle_wf {s : State} (w : s.mem.wf = true) (p : Nat) :
    (s.rollIdle p).mem.wf = true := by
  simp [State.rollIdle, w]

@[simp] theorem State.rollsIdle_wf {s : State} (w : s.mem.wf = true) :
    (s.rollsIdle).mem.wf = true := by
  simp [State.rollsIdle, w]

@[simp] theorem State.commitApply_wf {s : State} (w : s.mem.wf = true) (dom : Nat) : (s.commitApply dom).mem.wf = true := by
  unfold State.commitApply
  split
  · exact w
  · extract_lets c0 s1 s2 ps s3 c1 s4 s5 still
    have w2 : s2.mem.wf = true := by simp [s2, s1, w]
    clear_value s2
    have w4 : s4.mem.wf = true := State.each_wf w2 (fun t p => by simp) _
    have w5 : s5.mem.wf = true := by simp [s5, w4]
    clear_value s5
    exact State.rollsIdle_wf (State.nextRoll_wf (State.each_wf w5 (fun t d => by simp) _))

@[simp] theorem State.cfgFrame_wf {s : State} (w : s.mem.wf = true) (d : Nat) : (s.cfgFrame d).mem.wf = true := by
  unfold State.cfgFrame
  extract_lets s1 s2 ps s3
  have w1 : s1.mem.wf = true := by simp [s1, w]
  clear_value s1
  have w2 : s2.mem.wf = true := by simp [s2, w1]
  clear_value s2
  have w3 : s3.mem.wf = true :=
    State.each_wf w2 (fun t p => State.muted_wf t.wf (fun u => by split <;> simp) p) _
  clear_value s3
  split
  · exact w1
  · have w4 : ∀ l : List Nat, (match l with | p :: _ => s3.rollStart p | [] => s3 : State).mem.wf = true := fun l => by
      split <;> simp [w3]
    exact State.rollsIdle_wf (w4 _)

@[simp] theorem State.commitTimer_wf {s : State} (w : s.mem.wf = true) :
    (s.commitTimer).mem.wf = true := by
  simp [State.commitTimer, w]

@[simp] theorem State.drainDone_wf {s : State} (w : s.mem.wf = true) (p : Nat) :
    (s.drainDone p).mem.wf = true := by
  simp [State.drainDone, w]

@[simp] theorem State.setPart_mem (s : State) (kind : Nat) (b : List Byte) : (s.setPart kind b).mem = s.mem := by
  simp [State.setPart]

@[simp] theorem State.storeChunk_wf {s : State} (w : s.mem.wf = true) (u : Upload) (off : Nat) (d : List Byte) :
    (s.storeChunk u off d).mem.wf = true := by
  unfold State.storeChunk
  split
  · split <;> simp [w]
  · simp [w]

@[simp] theorem State.imageWhole_mem (s : State) (m : PendMsg) (u : Upload) : (s.imageWhole m u).2.mem = s.mem := by
  unfold State.imageWhole
  dsimp only
  (repeat' split) <;> simp

@[simp] theorem State.uploadChunk_wf {s : State} (w : s.mem.wf = true) (m : PendMsg) (sess kind off total : Nat) (d : List Byte) :
    (s.uploadChunk m sess kind off total d).2.2.mem.wf = true := by
  unfold State.uploadChunk
  dsimp only
  (repeat' split) <;> simp [w]

@[simp] theorem State.uploadRep_wf {s : State} (w : s.mem.wf = true) (i : Instr) (h : Hdr) (kind off total : Nat) (d : List Byte) :
    (s.uploadRep i h kind off total d).s.mem.wf = true := by
  unfold State.uploadRep
  dsimp only
  split <;> simp [w]

@[simp] theorem State.programDone_wf {s : State} (w : s.mem.wf = true) (ok : Bool) :
    (s.programDone ok).mem.wf = true := by
  unfold State.programDone
  split <;> simp [w]

@[simp] theorem State.sendImageReq_mem (s : State) : (s.sendImageReq).mem = s.mem := by
  unfold State.sendImageReq
  dsimp only
  split <;> simp

@[simp] theorem State.imageReq_mem (s : State) (src off : Nat) : (s.imageReq src off).mem = s.mem := by
  unfold State.imageReq
  split <;> simp

@[simp] theorem State.imageData_wf {s : State} (w : s.mem.wf = true) (off total : Nat) (d : List Byte) :
    (s.imageData off total d).mem.wf = true := by
  simp [State.imageData, w]

/-- A device-wide reset keeps LPDDR5X or nothing. -/
@[simp] theorem State.deviceReset_wf {s : State} (w : s.mem.wf = true) (c : Cause) : (s.deviceReset c).mem.wf = true := by
  show Memory.wf (if _ then [] else _) = true
  split
  · rfl
  · exact Memory.wf_filter _ w

@[simp] theorem State.stagesOff_wf (s : State) : s.stagesOff.mem.wf = true := by rfl

@[simp] theorem State.goodRise_wf {s : State} (w : s.mem.wf = true) :
    (s.goodRise).mem.wf = true := by
  simp [State.goodRise, w]

@[simp] theorem State.resetRep_mem (s : State) : (s.resetRep).s.mem = s.mem := by rfl

@[simp] theorem State.resetPitchRep_wf {s : State} (w : s.mem.wf = true) (m : PendMsg) (p : Nat) :
    (s.resetPitchRep m p).s.mem.wf = true := by
  unfold State.resetPitchRep
  split
  · split <;> simp [w]
  · simp [w]

@[simp] theorem State.holdAt_mem (s : State) (code step : Nat) : (s.holdAt code step).mem = s.mem := by rfl

@[simp] theorem State.unlessHeld_mem {f : State → State} (h : ∀ t, (f t).mem = t.mem) (s : State) :
    (s.unlessHeld f).mem = s.mem := by
  simp [State.unlessHeld, h]

@[simp] theorem State.unlessHeld_wf {f : State → State} {s : State} (w : s.mem.wf = true)
    (h : ∀ t : WfState, (f t.s).mem.wf = true) : (s.unlessHeld f).mem.wf = true := by
  unfold State.unlessHeld
  split
  · exact h ⟨s, w⟩
  · exact w

@[simp] theorem State.readMac_mem (s : State) (ok : Bool) : (s.readMac ok).mem = s.mem := by
  refine State.each_mem (fun t p => ?_) s _
  rfl

@[simp] theorem State.startSecurity_mem (s : State) (e : StartEnv) : (s.startSecurity e).mem = s.mem := by
  unfold State.startSecurity
  extract_lets id s0 s1
  have h1 : s1.mem = s.mem := by
    show (State.cond _ _ _).mem = s.mem
    cases e.pufOk <;> rfl
  clear_value s1
  split
  · simp [h1]
  · split
    · exact h1
    · split <;> simp [h1]

@[simp] theorem State.drivePorts_wf {s : State} (w : s.mem.wf = true) (l : List CfgRec) :
    (s.drivePorts l).mem.wf = true := by
  simp [State.drivePorts, w]

@[simp] theorem State.startConfig_wf {s : State} (w : s.mem.wf = true) :
    (s.startConfig).mem.wf = true := by
  unfold State.startConfig
  dsimp only
  (repeat' split) <;> simp [w]

@[simp] theorem State.step2_wf {s : State} (w : s.mem.wf = true) (e : StartEnv) :
    (s.step2 e).mem.wf = true := by
  simp [State.step2, w]

@[simp] theorem State.fetchLinks_mem (s : State) : s.fetchLinks.mem = s.mem := by
  unfold State.fetchLinks
  split
  · refine State.each_mem (fun t n => ?_) s _
    rfl
  · rfl

@[simp] theorem State.step3_mem (s : State) : (s.step3).mem = s.mem := by
  simp [State.step3]

@[simp] theorem State.step4_mem (s : State) (e : StartEnv) : (s.step4 e).mem = s.mem := by
  simp [State.step4]

@[simp] theorem State.findRing_mem (s : State) : (s.findRing).mem = s.mem := by
  unfold State.findRing
  split <;> simp

@[simp] theorem State.step5_wf {s : State} (w : s.mem.wf = true) : s.step5.mem.wf = true := by
  have h := s.findRing_mem
  exact Memory.wf_filter _ (h ▸ w)

@[simp] theorem State.step6_wf {s : State} (w : s.mem.wf = true) (e : StartEnv) :
    (s.step6 e).mem.wf = true := by
  simp [State.step6, w]

@[simp] theorem State.applyImage_wf {s : State} (w : s.mem.wf = true) (c : CfgRec) : (s.applyImage c).mem.wf = true := by
  have wr := State.applyRec_wf w c
  unfold State.applyImage
  split
  · exact w
  · dsimp only
    split
    · exact wr
    · exact (Sys2Proof.Machine.countRefused_mem _ _).symm ▸ wr

@[simp] theorem State.step7_wf {s : State} (w : s.mem.wf = true) :
    (s.step7).mem.wf = true := by
  simp [State.step7, w]

@[simp] theorem State.startRecord_wf {s : State} (w : s.mem.wf = true) :
    (s.startRecord).mem.wf = true := by
  simp [State.startRecord, w]

@[simp] theorem State.raiseCounters_mem (s : State) : (s.raiseCounters).mem = s.mem := by rfl

@[simp] theorem State.step8_wf {s : State} (w : s.mem.wf = true) (e : StartEnv) :
    (s.step8 e).mem.wf = true := by
  simp (disch := simp [w]) [State.step8]

@[simp] theorem State.deviceStart_wf {s : State} (w : s.mem.wf = true) (e : StartEnv) : (s.deviceStart e).mem.wf = true := by
  unfold State.deviceStart
  extract_lets s1 s2 s3
  have w1 : s1.mem.wf = true := by simp [s1, w]
  have w2 : s2.mem.wf = true := State.unlessHeld_wf w1 (fun t => by simp)
  have w3 : s3.mem.wf = true := State.unlessHeld_wf w2 (fun t => by simp)
  have w5 := State.unlessHeld_wf w3 (f := State.step5) (fun t => by simp)
  have w6 := State.unlessHeld_wf w5 (f := fun s => s.step6 e) (fun t => by simp)
  have w7 := State.unlessHeld_wf w6 (f := State.step7) (fun t => by simp)
  split
  · exact w
  · exact State.unlessHeld_wf w7 (fun t => by simp)

@[simp] theorem State.stepTimeout_mem (s : State) (step : Nat) : (s.stepTimeout step).mem = s.mem := by
  unfold State.stepTimeout
  split
  · split <;> simp
  · simp

@[simp] theorem State.signerBusy_mem (s : State) (n : Nat) : (s.signerBusy n).mem = s.mem := by
  simp [State.signerBusy]

@[simp] theorem State.attestRep_mem (s : State) (i : Instr) (n : Nat) (nonce : List Byte) : (s.attestRep i n nonce).s.mem = s.mem := by
  unfold State.attestRep
  split
  · simp
  · split <;> simp

@[simp] theorem State.signerFree_mem (s : State) : (s.signerFree).mem = s.mem := by
  simp [State.signerFree]

@[simp] theorem State.signDone_wf {s : State} (w : s.mem.wf = true) :
    (s.signDone).mem.wf = true := by
  unfold State.signDone
  split <;> simp [w]

@[simp] theorem State.authRefused_mem (s : State) (n st code : Nat) : (s.authRefused n st code).mem = s.mem := by
  simp [State.authRefused]

@[simp] theorem State.newChallenge_mem (s : State) : (s.newChallenge).mem = s.mem := by rfl

@[simp] theorem State.levelTo_wf {s : State} (w : s.mem.wf = true) (l tokens : Nat) :
    (s.levelTo l tokens).mem.wf = true := by
  simp [State.levelTo, w]

@[simp] theorem State.levelRecord_wf {s : State} (w : s.mem.wf = true) (l : Nat) :
    (s.levelRecord l).mem.wf = true := by
  simp [State.levelRecord, w]

@[simp] theorem State.debugRep_wf {s : State} (w : s.mem.wf = true) (n l : Nat) (ts : List (List Byte)) :
    (s.debugRep n l ts).s.mem.wf = true := by
  unfold State.debugRep
  dsimp only
  (repeat' split) <;> simp [w]

@[simp] theorem State.policyInForce_wf {s : State} (w : s.mem.wf = true) (b : List Byte) :
    (s.policyInForce b).mem.wf = true := by
  simp [State.policyInForce, w]

@[simp] theorem State.policyRep_wf {s : State} (w : s.mem.wf = true) (n : Nat) (b : List Byte) (ts : List (List Byte)) :
    (s.policyRep n b ts).s.mem.wf = true := by
  unfold State.policyRep
  dsimp only
  (repeat' split) <;> simp [w]

@[simp] theorem State.trecReadRep_mem (s : State) (sess q n : Nat) : (s.trecReadRep sess q n).s.mem = s.mem := by
  unfold State.trecReadRep
  dsimp only
  (repeat' split) <;> simp

@[simp] theorem State.trecAckRep_mem (s : State) (q : Nat) : (s.trecAckRep q).s.mem = s.mem := by
  unfold State.trecAckRep
  dsimp only
  split <;> simp

@[simp] theorem State.trecClearRep_wf {s : State} (w : s.mem.wf = true) :
    (s.trecClearRep).s.mem.wf = true := by
  unfold State.trecClearRep
  split <;> simp [w]

@[simp] theorem State.twinDetachRep_mem (s : State) : (s.twinDetachRep).s.mem = s.mem := by
  unfold State.twinDetachRep
  split <;> simp

@[simp] theorem State.replayBeginRep_mem (s : State) (sess : Nat) : (s.replayBeginRep sess).s.mem = s.mem := by
  unfold State.replayBeginRep
  dsimp only
  (repeat' split) <;> simp

@[simp] theorem State.replayEndRep_mem (s : State) : (s.replayEndRep).s.mem = s.mem := by
  unfold State.replayEndRep
  split <;> simp

@[simp] theorem State.repOf_wf {s : State} (w : s.mem.wf = true) (i : Instr) : (s.repOf i).s.mem.wf = true := by
  unfold State.repOf
  dsimp only
  split <;> simp [w]

@[simp] theorem State.playMsg_wf {s : State} (w : s.mem.wf = true) (i : Instr) :
    (s.playMsg i).s.mem.wf = true := by
  unfold State.playMsg
  split <;> simp [w]

@[simp] theorem State.playKtp_wf {s : State} (w : s.mem.wf = true) (r : RecIn) (cmp : Bool) :
    (s.playKtp r cmp).mem.wf = true := by
  unfold State.playKtp
  split
  · simp [w]
  · split <;> simp [w]

@[simp] theorem State.playSlip_wf {s : State} (w : s.mem.wf = true) (r : RecIn) :
    (s.playSlip r).mem.wf = true := by
  simp [State.playSlip, w]

@[simp] theorem State.playView_mem (s : State) (r : RecIn) : (s.playView r).mem = s.mem := by rfl

@[simp] theorem State.compare_mem (s : State) (r : RecIn) (same : Bool) : (s.compare r same).mem = s.mem := by
  simp [State.compare]

@[simp] theorem State.playRec_wf {s0 : State} (w : s0.mem.wf = true) (r : RecIn) :
    (s0.playRec r).mem.wf = true := by
  unfold State.playRec
  split <;> simp [w]

@[simp] theorem State.playDue_wf {s : State} (w : s.mem.wf = true) (r : RecIn) :
    (s.playDue r).mem.wf = true := by
  simp [State.playDue, w]

@[simp] theorem State.playTick_wf {s : State} (w : s.mem.wf = true) (d t : Nat) :
    (s.playTick d t).mem.wf = true := by
  simp [State.playTick, w]

@[simp] theorem State.playTickCfg_wf {s : State} (w : s.mem.wf = true) (r : RecIn) (d : Nat) :
    (s.playTickCfg r d).mem.wf = true := by
  simp [State.playTickCfg, w]

@[simp] theorem State.playBuild_wf {s : State} (w : s.mem.wf = true) (v : List Byte) (seq : Nat) :
    (s.playBuild v seq).mem.wf = true := by
  simp [State.playBuild, w]

@[simp] theorem State.playStart_wf {s : State} (w : s.mem.wf = true) (r : RecIn) : (s.playStart r).mem.wf = true := by
  have w1 : ((s.playTickCfg r 0).playTickCfg r 1).mem.wf = true := by simp [w]
  simp [State.playStart, w1]

@[simp] theorem State.takeRec_wf {s : State} (w : s.mem.wf = true) (r : RecIn) :
    (s.takeRec r).mem.wf = true := by
  simp [State.takeRec, w]

theorem State.takeRecs_wf (n : Nat) (b : List Byte) (k : Nat) {s : State} (w : s.mem.wf = true) :
    (s.takeRecs n b k).2.2.mem.wf = true := by
  induction n generalizing s b k with
  | zero => exact w
  | succ n ih =>
    unfold State.takeRecs
    split
    · exact w
    · split
      · exact ih _ _ w
      · split
        · exact w
        · dsimp only
          split
          · exact w
          · exact ih _ _ (by simp [w])

@[simp] theorem State.replayDataRep_wf {s : State} (w : s.mem.wf = true) (d : List Byte) : (s.replayDataRep d).s.mem.wf = true := by
  unfold State.replayDataRep
  split
  · exact w
  · exact State.each_wf (State.takeRecs_wf _ _ _ w) (fun t k => by simp) _

end Sys2Proof.Machine
end

section
/-!
SUPPORT: memory under KTP, the twin, the links' flits, the ports' frames and the ticks.
-/

namespace Sys2Proof.Machine

@[simp] theorem State.runInstr_wf {s : State} (w : s.mem.wf = true) (i : Instr) :
    (s.runInstr i).mem.wf = true := by
  unfold State.runInstr
  split <;> simp [w]

@[simp] theorem State.badDgram_mem (s : State) : (s.badDgram).mem = s.mem := by rfl

@[simp] theorem State.dgramWake_mem (s : State) (src : Peer) (d : Dgram) : (s.dgramWake src d).mem = s.mem := by
  simp [State.dgramWake]

@[simp] theorem State.ackDgram_mem (s : State) (x : Session) (d : Dgram) : (s.ackDgram x d).mem = s.mem := by
  simp [State.ackDgram]

@[simp] theorem State.refuseMsg_mem (s : State) (n : Nat) (p : Partial) (st : Nat) : (s.refuseMsg n p st).mem = s.mem := by
  simp [State.refuseMsg]

@[simp] theorem State.message_wf {s : State} (w : s.mem.wf = true) (n : Nat) (p : Partial) : (s.message n p).mem.wf = true := by
  unfold State.message
  (iterate 2 split; · simp [w])
  split <;> simp [w]

@[simp] theorem State.acceptDgram_wf {s : State} (w : s.mem.wf = true) (x : Session) (src : Peer) (d : Dgram) :
    (s.acceptDgram x src d).mem.wf = true := by
  unfold State.acceptDgram
  dsimp only
  (repeat' split) <;> simp [w]

@[simp] theorem State.sequenced_wf {s : State} (w : s.mem.wf = true) (x : Session) (src : Peer) (d : Dgram) :
    (s.sequenced x src d).mem.wf = true := by
  simp [State.sequenced, w]

@[simp] theorem State.openDgram_wf {s : State} (w : s.mem.wf = true) (src : Peer) (d : Dgram) :
    (s.openDgram src d).mem.wf = true := by
  simp [State.openDgram, w]

@[simp] theorem State.dropDgram_mem (s : State) : (s.dropDgram).mem = s.mem := by rfl

@[simp] theorem State.dgramRx_wf {s : State} (w : s.mem.wf = true) (src : Peer) (dst udp : Nat) (b : List Byte) :
    (s.dgramRx src dst udp b).mem.wf = true := by
  unfold State.dgramRx
  dsimp only
  (repeat' split) <;> simp [w]

@[simp] theorem State.wakeDone_wf {s : State} (w : s.mem.wf = true) :
    (s.wakeDone).mem.wf = true := by
  simp [State.wakeDone, w]

@[simp] theorem State.twinAttach_wf {s : State} (w : s.mem.wf = true) (n : Nat) :
    (s.twinAttach n).mem.wf = true := by
  simp [State.twinAttach, w]

@[simp] theorem State.hushed_mem {f : State → State} (h : ∀ t, (f t).mem = t.mem) (s : State) :
    (s.hushed f).mem = s.mem := by
  simp [State.hushed, h]

@[simp] theorem State.hushed_wf {f : State → State} {s : State} (w : s.mem.wf = true)
    (h : ∀ t : WfState, (f t.s).mem.wf = true) : (s.hushed f).mem.wf = true := by
  have hf : ∀ t : State, t.mem.wf = true → (f t).mem.wf = true := fun t wt => h ⟨t, wt⟩
  exact hf _ w

@[simp] theorem State.inputMsg_wf {s : State} (w : s.mem.wf = true) (r : RecIn) :
    (s.inputMsg r).mem.wf = true := by
  unfold State.inputMsg
  split <;> simp [w]

@[simp] theorem State.inputSrc_wf {s : State} (w : s.mem.wf = true) (d fr dest : Nat) :
    (s.inputSrc d fr dest).mem.wf = true := by
  unfold State.inputSrc
  split
  · simp [w]
  · split <;> simp [w]

@[simp] theorem State.applyInput_wf {s : State} (w : s.mem.wf = true) (r : RecIn) :
    (s.applyInput r).mem.wf = true := by
  unfold State.applyInput
  split <;> simp [w]

@[simp] theorem State.twinInput_wf {s : State} (w : s.mem.wf = true) (b : List Byte) :
    (s.twinInput b).mem.wf = true := by
  unfold State.twinInput
  split
  · simp [w]
  · split <;> simp [w]

@[simp] theorem State.abandonCkpt_mem (s : State) : (s.abandonCkpt).mem = s.mem := by
  simp [State.abandonCkpt]

@[simp] theorem State.twinCkpt_wf {s : State} (w : s.mem.wf = true) (f h : Nat) (pack : List Byte) :
    (s.twinCkpt f h pack).mem.wf = true := by
  unfold State.twinCkpt
  split
  · exact w
  · dsimp only
    split
    · simp [w]
    · split <;> simp [w]

@[simp] theorem State.retireInput_wf {s : State} (w : s.mem.wf = true) (r : RecIn) :
    (s.retireInput r).mem.wf = true := by
  unfold State.retireInput
  split
  · split <;> simp [w]
  · simp [w]

@[simp] theorem State.consumed_mem (s : State) (h : Nat) (pack : List Byte) : (s.consumed h pack).mem = s.mem := by
  unfold State.consumed
  split <;> simp

@[simp] theorem State.twinCkptEnd_wf {s0 : State} (w : s0.mem.wf = true) (f cnt : Nat) :
    (s0.twinCkptEnd f cnt).mem.wf = true := by
  simp [State.twinCkptEnd, w]

@[simp] theorem State.twinHb_mem (s : State) (d t : Nat) : (s.twinHb d t).mem = s.mem := by
  simp [State.twinHb]

@[simp] theorem State.twinLost_wf {s : State} (w : s.mem.wf = true) :
    (s.twinLost).mem.wf = true := by
  simp [State.twinLost, w]

@[simp] theorem State.twinHbLoss_wf {s : State} (w : s.mem.wf = true) :
    (s.twinHbLoss).mem.wf = true := by
  simp [State.twinHbLoss, w]

@[simp] theorem State.twinPrimaryLoss_wf {s : State} (w : s.mem.wf = true) :
    (s.twinPrimaryLoss).mem.wf = true := by
  simp [State.twinPrimaryLoss, w]

@[simp] theorem State.twinOrder_wf {s : State} (w : s.mem.wf = true) :
    (s.twinOrder).mem.wf = true := by
  simp [State.twinOrder, w]

@[simp] theorem State.ckptOne_mem (s : State) (i f : Nat) : (s.ckptOne i f).2.mem = s.mem := by
  unfold State.ckptOne
  dsimp only
  (repeat' split) <;> simp

@[simp] theorem State.ckptAll_mem (l : List (Nat × Nat)) (s : State) : (State.ckptAll l s).2.mem = s.mem := by
  induction l generalizing s with
  | nil => rfl
  | cons c t ih => exact (ih _).trans (State.ckptOne_mem ..)

@[simp] theorem State.ckptClose_mem (s : State) : (s.ckptClose).mem = s.mem := by
  unfold State.ckptClose
  split <;> simp

@[simp] theorem State.ckptStep_mem (s : State) : (s.ckptStep).mem = s.mem := by
  simp [State.ckptStep]

@[simp] theorem State.ckptBegin_mem (s : State) (d f : Nat) : (s.ckptBegin d f).mem = s.mem := by
  simp [State.ckptBegin]

@[simp] theorem State.ckptSkip_mem (s : State) (k : Nat) : (s.ckptSkip k).mem = s.mem := by rfl

@[simp] theorem State.ckptFrame_mem (s : State) (d f : Nat) : (s.ckptFrame d f).mem = s.mem := by
  simp [State.ckptFrame]

@[simp] theorem State.hbSend_mem (s : State) (d t : Nat) : (s.hbSend d t).mem = s.mem := by
  simp [State.hbSend]

@[simp] theorem State.hbCount_mem (s : State) (d t : Nat) : (s.hbCount d t).mem = s.mem := by
  simp [State.hbCount]

@[simp] theorem State.haltSwaps_mem (s : State) (i : Nat) : (s.haltSwaps i).mem = s.mem := by
  simp [State.haltSwaps]

@[simp] theorem State.restoreOne_wf {s : State} (w : s.mem.wf = true) (i : Nat) (k : Pack) :
    (s.restoreOne i k).mem.wf = true := by
  simp [State.restoreOne, w]

@[simp] theorem State.resumeAfter_mem (s : State) (i : Nat) : (s.resumeAfter i).mem = s.mem := by rfl

@[simp] theorem State.restoreAll_wf {s : State} (w : s.mem.wf = true) : s.restoreAll.mem.wf = true := by
  unfold State.restoreAll
  extract_lets put s1
  have w1 : s1.mem.wf = true := by
    refine State.each_wf w (fun t e => ?_) _
    simp only [put]
    split
    · split <;> simp
    · simp
  rw [State.each_mem State.resumeAfter_mem]
  exact w1

@[simp] theorem State.restoreDone_wf {s : State} (w : s.mem.wf = true) : s.restoreDone.mem.wf = true := by
  unfold State.restoreDone
  extract_lets s1 ds tw s2 s3
  have w1 : s1.mem.wf = true := State.hushed_wf w (fun t => by simp)
  have w3 : s3.mem.wf = true := by simp [s3, s2, w1]
  split
  · exact State.each_wf w3 (fun t d => by simp) _
  · exact w

@[simp] theorem State.crcFail_mem (s : State) (n : Nat) : (s.crcFail n).mem = s.mem := by
  simp [State.crcFail]

@[simp] theorem State.trainRx_mem (s : State) (n : Nat) (p : List Byte) : (s.trainRx n p).mem = s.mem := by
  simp [State.trainRx]

@[simp] theorem State.tickRx_mem (s : State) (n : Nat) (p : List Byte) : (s.tickRx n p).mem = s.mem := by
  simp [State.tickRx]

@[simp] theorem State.linkMsg_wf {s : State} (w : s.mem.wf = true) (n src kind tag : Nat) (b : List Byte) :
    (s.linkMsg n src kind tag b).mem.wf = true := by
  unfold State.linkMsg
  split <;> simp [w]

@[simp] theorem State.linkWhole_wf {s : State} (w : s.mem.wf = true) (n : Nat) (a : LAsm) :
    (s.linkWhole n a).mem.wf = true := by
  simp [State.linkWhole, w]

@[simp] theorem State.localFlit_wf {s : State} (w : s.mem.wf = true) (n : Nat) (f : Flit) :
    (s.localFlit n f).mem.wf = true := by
  unfold State.localFlit
  dsimp only
  (repeat' split) <;> simp [w]

@[simp] theorem State.transit_mem (s : State) (n out : Nat) (f : Flit) : (s.transit n out f).mem = s.mem := by rfl

@[simp] theorem State.transitUni_mem (s : State) (n : Nat) (f : Flit) : (s.transitUni n f).mem = s.mem := by
  unfold State.transitUni
  dsimp only
  split <;> simp

@[simp] theorem State.transitMulti_wf {s : State} (w : s.mem.wf = true) (n : Nat) (f : Flit) :
    (s.transitMulti n f).mem.wf = true := by
  unfold State.transitMulti
  split <;> simp [w]

@[simp] theorem State.msgFlit_wf {s : State} (w : s.mem.wf = true) (n : Nat) (f : Flit) :
    (s.msgFlit n f).mem.wf = true := by
  simp [State.msgFlit, w]

@[simp] theorem State.seqFlit_wf {s : State} (w : s.mem.wf = true) (n : Nat) (f : Flit) :
    (s.seqFlit n f).mem.wf = true := by
  simp [State.seqFlit, w]

@[simp] theorem State.upFlit_wf {s : State} (w : s.mem.wf = true) (n : Nat) (f : Flit) :
    (s.upFlit n f).mem.wf = true := by
  unfold State.upFlit
  split <;> simp [w]

@[simp] theorem State.flitRx_wf {s : State} (w : s.mem.wf = true) (n : Nat) (b : List Byte) : (s.flitRx n b).mem.wf = true := by
  unfold State.flitRx
  split
  · split <;> simp [w]
  · split <;> simp [w]
  · exact w

@[simp] theorem State.stoppedEvt_mem (s : State) (d : Nat) : (s.stoppedEvt d).mem = s.mem := by
  simp [State.stoppedEvt]

@[simp] theorem State.stopDom_wf {s : State} (w : s.mem.wf = true) (d : Nat) :
    (s.stopDom d).mem.wf = true := by
  simp [State.stopDom, w]

@[simp] theorem State.newFrameDiv_mem (s : State) (d t : Nat) : (s.newFrameDiv d t).mem = s.mem := by
  unfold State.newFrameDiv
  split <;> simp

@[simp] theorem State.frameBooks_mem (s : State) (d : Nat) : (s.frameBooks d).mem = s.mem := by
  simp [State.frameBooks]

@[simp] theorem State.groupFrame_mem (s : State) (d g : Nat) : (s.groupFrame d g).mem = s.mem := by
  simp [State.groupFrame]

@[simp] theorem State.moveRow_mem (s : State) (i b : Nat) : (s.moveRow i b).mem = s.mem := by
  unfold State.moveRow
  dsimp only
  (repeat' split) <;> simp

@[simp] theorem State.groupChange_mem (s : State) (i : Nat) : (s.groupChange i).mem = s.mem := by
  unfold State.groupChange
  dsimp only
  (repeat' split) <;> simp

@[simp] theorem State.groupChanges_mem (s : State) (d : Nat) : (s.groupChanges d).mem = s.mem := by
  simp [State.groupChanges]

@[simp] theorem State.sparseFrame_mem (s : State) (p : Nat) : (s.sparseFrame p).mem = s.mem := by
  have h1 : ∀ (t : State) (l : List Nat), (t.each l fun s q => s.setFld .qtrStat q 23 16 (min 255 (s.sparseOn q))).mem = t.mem :=
    fun t l => State.each_keeps State.mem _ (fun _ _ => by rfl) l t
  have h2 : ∀ (t : State) (l : List Nat), (t.each l fun s q => s.flag .qtrEvt q 4).mem = t.mem :=
    fun t l => State.each_keeps State.mem _ (fun _ _ => by rfl) l t
  simp [State.sparseFrame, h1, h2]

theorem Regroup.try_mem (i : Nat) (bs : List Nat) (r : Regroup) : (Regroup.try_ i bs r).s.mem = r.s.mem := by
  induction bs generalizing r with
  | nil => rfl
  | cons b bs ih =>
    unfold Regroup.try_
    dsimp only
    (repeat' split) <;> simp [ih]

theorem Regroup.run_mem (ts ss : List Nat) (n : Nat) (r : Regroup) : (Regroup.run ts ss n r).s.mem = r.s.mem := by
  induction n generalizing r with
  | zero => rfl
  | succ n ih =>
    unfold Regroup.run
    dsimp only
    split
    · rfl
    · rw [ih, Regroup.try_mem]

theorem Regroup.key_mem (r : Regroup) (bs : List Batch) : (r.key bs).s.mem = r.s.mem := by
  unfold Regroup.key
  dsimp only
  split
  · rfl
  · exact Regroup.run_mem ..

theorem Regroup.foldl_key_mem {α : Type} (f : α → List Batch) (l : List α) (r : Regroup) :
    (l.foldl (fun r k => r.key (f k)) r).s.mem = r.s.mem := by
  induction l generalizing r with
  | nil => rfl
  | cons k l ih => exact (ih _).trans (Regroup.key_mem ..)

@[simp] theorem State.regroup_mem (s : State) (p : Nat) : (s.regroup p).mem = s.mem := by
  have h := fun (f : List Nat → List Batch) l => Regroup.foldl_key_mem f l ⟨s, [], []⟩
  unfold State.regroup
  dsimp only
  split <;> simp [h]

@[simp] theorem State.resize_mem (s : State) (p c : Nat) : (s.resize p c).mem = s.mem := by
  simp [State.resize]

@[simp] theorem State.clampChunk_mem (s : State) (p : Nat) : (s.clampChunk p).mem = s.mem := by
  simp [State.clampChunk]

@[simp] theorem State.chunkFrame_mem (s0 : State) (p : Nat) : (s0.chunkFrame p).mem = s0.mem := by
  simp [State.chunkFrame]

@[simp] theorem State.shedFrame_mem (s : State) (p : Nat) : (s.shedFrame p).mem = s.mem := by
  unfold State.shedFrame
  dsimp only
  split <;> simp

@[simp] theorem State.pitchBooks_mem (s : State) (p : Nat) : (s.pitchBooks p).mem = s.mem := by
  simp [State.pitchBooks]

@[simp] theorem State.idleScan_mem (s : State) (i : Nat) : (s.idleScan i).mem = s.mem := by
  simp [State.idleScan]

@[simp] theorem State.streamFrame_mem (s : State) (t i : Nat) : (s.streamFrame t i).mem = s.mem := by
  simp [State.streamFrame]

@[simp] theorem State.defer_mem (s : State) (i : Nat) (l : List Nat) : (s.defer i l).mem = s.mem := by
  simp [State.defer]

@[simp] theorem State.voiceReads_wf {s : State} (w : s.mem.wf = true) (i : Nat) :
    (s.voiceReads i).2.mem.wf = true := by
  unfold State.voiceReads
  dsimp only
  (repeat' split) <;> simp [w]

@[simp] theorem State.frameOf_wf {s : State} (w : s.mem.wf = true) (i : Nat) :
    (s.frameOf i).2.mem.wf = true := by
  unfold State.frameOf
  dsimp only
  (repeat' split) <;> simp [w]

@[simp] theorem State.framesOf_wf (l : List Nat) {s : State} (w : s.mem.wf = true) : (State.framesOf l s).2.mem.wf = true := by
  induction l generalizing s with
  | nil => exact w
  | cons i t ih => exact ih (State.frameOf_wf w ..)

@[simp] theorem State.frameExecs_mem (s : State) (aco : Model) (q : Nat) (be : Bool) (dl : Nat) (l : List (Nat × List Nat)) :
    (s.frameExecs aco q be dl l).mem = s.mem := by
  simp [State.frameExecs]

@[simp] theorem State.frameLc_wf {s : State} (w : s.mem.wf = true) (p dl : Nat) : (s.frameLc p dl).mem.wf = true := by
  refine State.each_wf w (fun t f => ?_) _
  split <;> simp

@[simp] theorem State.frameBe_wf {s : State} (w : s.mem.wf = true) (p : Nat) : (s.frameBe p).mem.wf = true := by
  refine State.each_wf w (fun t f => ?_) _
  split
  · simp
  · exact State.each_wf t.wf (fun u l => by simp) _

@[simp] theorem State.frameWork_wf {s : State} (w : s.mem.wf = true) (p t : Nat) :
    (s.frameWork p t).mem.wf = true := by
  simp [State.frameWork, w]

@[simp] theorem State.pitchFrame_wf {s : State} (w : s.mem.wf = true) (p : Nat) :
    (s.pitchFrame p).mem.wf = true := by
  simp (disch := simp [w]) [State.pitchFrame]

@[simp] theorem State.frameTick_wf {s : State} (w : s.mem.wf = true) (d t : Nat) : (s.frameTick d t).mem.wf = true := by
  unfold State.frameTick
  extract_lets s1 s2 s3 s4 is s5 s6
  have w1 : s1.mem.wf = true := by simp [s1, w]
  have w2 : s2.mem = s1.mem := State.each_mem (fun t g => t.groupFrame_mem d g) _ _
  have w3 : s3.mem = s2.mem := by simp [s3]
  have w4 : s4.mem.wf = true := State.each_wf (by rw [w3, w2]; exact w1) (fun t p => by simp) _
  have w5 : s5.mem = s4.mem :=
    (State.each_mem (fun t i => t.idleScan_mem i) _ _).trans (State.each_mem (fun u i => u.streamFrame_mem t i) _ _)
  have w6 : s6.mem.wf = true := by
    show (if _ then s5.twinEnd else s5 : State).mem.wf = true
    split <;> simp [w5, w4]
  simp [w6]

@[simp] theorem State.overrun_mem (s : State) (d t : Nat) : (s.overrun d t).mem = s.mem := by
  have h : ∀ (u : State) (l : List Exec), (u.each l fun s e => s.updExec e.id fun x => { x with missAt := some s.cycle }).mem = u.mem :=
    fun u l => State.each_keeps State.mem _ (fun _ _ => by rfl) l u
  unfold State.overrun
  dsimp only
  split <;> simp [h]

@[simp] theorem State.deliverTake_mem (s : State) (i v : Nat) : (s.deliverTake i v).mem = s.mem := by
  simp [State.deliverTake]

@[simp] theorem State.takeOne_mem (s : State) (i : Nat) : (s.takeOne i).mem = s.mem := by
  unfold State.takeOne
  split <;> simp

@[simp] theorem State.takeFill_mem (s : State) (i : Nat) (slip : Bool) : (s.takeFill i slip).mem = s.mem := by
  simp [State.takeFill]

@[simp] theorem State.underrun_mem (s : State) (i : Nat) : (s.underrun i).mem = s.mem := by
  simp [State.underrun]

@[simp] theorem State.takeAlone_mem (s : State) (i : Nat) : (s.takeAlone i).mem = s.mem := by
  simp [State.takeAlone]

@[simp] theorem State.beginTakes_mem (s : State) (t i : Nat) : (s.beginTakes t i).mem = s.mem := by
  simp [State.beginTakes]

@[simp] theorem State.takeStream_mem (s : State) (t i : Nat) : (s.takeStream t i).mem = s.mem := by
  simp [State.takeStream]

@[simp] theorem State.takeMember_mem (s : State) (i : Nat) : (s.takeMember i).mem = s.mem := by
  simp [State.takeMember]

@[simp] theorem State.holdMember_mem (s : State) (i : Nat) : (s.holdMember i).mem = s.mem := by
  simp [State.holdMember]

@[simp] theorem State.setHold_mem (s : State) (g : Nat) (h : Bool) (n : Nat) : (s.setHold g h n).mem = s.mem := by rfl

@[simp] theorem State.groupTake_mem (s : State) (g d : Nat) (ms : List Nat) : (s.groupTake g d ms).mem = s.mem := by
  simp [State.groupTake]

@[simp] theorem State.takeGroup_mem (s : State) (t g d : Nat) (all : List Nat) : (s.takeGroup t g d all).mem = s.mem := by
  simp [State.takeGroup]

@[simp] theorem State.gateHeld_mem (s : State) (i : Nat) : (s.gateHeld i).mem = s.mem := by
  simp [State.gateHeld]

@[simp] theorem State.takesAt_wf {s0 : State} (w : s0.mem.wf = true) (d t : Nat) :
    (s0.takesAt d t).mem.wf = true := by
  simp [State.takesAt, w]

@[simp] theorem State.releaseRow_mem (s : State) (i : Nat) : (s.releaseRow i).2.mem = s.mem := by
  unfold State.releaseRow
  dsimp only
  (repeat' split) <;> simp

@[simp] theorem State.releaseRows_mem (l : List Nat) (s : State) : (State.releaseRows l s).2.mem = s.mem := by
  induction l generalizing s with
  | nil => rfl
  | cons i t ih => exact (ih _).trans (State.releaseRow_mem ..)

@[simp] theorem State.batchStep_mem (s : State) (t : Nat) (b : Batch) : (s.batchStep t b).mem = s.mem := by
  refine State.muted_mem (fun u => ?_) s _
  dsimp only
  split
  · simp
  · split <;> simp

@[simp] theorem State.stepsAt_mem (s : State) (d t : Nat) : (s.stepsAt d t).mem = s.mem := by
  simp [State.stepsAt]

@[simp] theorem State.tickFlits_mem (s : State) (d t : Nat) : (s.tickFlits d t).mem = s.mem := by
  simp [State.tickFlits]

@[simp] theorem State.issueTick_mem (s : State) (d t : Nat) : (s.issueTick d t).mem = s.mem := by
  simp [State.issueTick]

@[simp] theorem State.dirChecks_wf {s : State} (w : s.mem.wf = true) (d : Nat) :
    (s.dirChecks d).mem.wf = true := by
  simp [State.dirChecks, w]

@[simp] theorem State.runTick_wf {s : State} (w : s.mem.wf = true) (d t : Nat) (frame : Bool) :
    (s.runTick d t frame).mem.wf = true := by
  unfold State.runTick
  extract_lets s1 s2 s3 s4 s5 s6
  have w1 : s1.mem.wf = true := by simp [s1, w]
  have w2 : s2.mem.wf = true := by
    show (if _ then _ else s1 : State).mem.wf = true
    split <;> simp [w1]
  have w3 : s3.mem.wf = true := by simp [s3, w2]
  have w4 : s4.mem.wf = true := by
    show (if _ then _ else s3 : State).mem.wf = true
    split
    · exact State.each_wf w3 (fun u p => State.muted_wf u.wf (fun v => by simp) p) _
    · exact w3
  have w5 : s5.mem = s4.mem := State.each_mem (fun u p => u.orderShares_mem p) _ _
  have w6 : s6.mem.wf = true := by simp [s6, w5, w4]
  simp [w6]

@[simp] theorem State.tickEdge_wf {s0 : State} (w : s0.mem.wf = true) (d : Nat) :
    (s0.tickEdge d).mem.wf = true := by
  simp [State.tickEdge, w]

end Sys2Proof.Machine
end

section
/-!
SUPPORT and proof of O60: every command keeps memory canonical, so every step does.
-/

namespace Sys2Proof.Machine

/-- What a command answers keeps memory canonical. -/
def KeepsWf (o : Host.Outcome State Fault Refusal) : Prop := ∀ t, o = .next t → t.mem.wf = true

theorem done_keepsWf {s : State} (w : s.mem.wf = true) : KeepsWf (done s) := by
  rintro t ⟨⟩
  rwa [finish_mem]

theorem done_runMsg_keepsWf {f : State → Rep} {i : Instr} {s : State} (w : s.mem.wf = true)
    (h : ∀ t : WfState, (f t.s).s.mem.wf = true) : KeepsWf (done (runMsg i f s)) :=
  done_keepsWf (runMsg_wf w h i)

/-- The commands of the device itself, then the messages. -/
theorem exec_keepsWf (i : Instr) {s : State} (w : s.mem.wf = true) : KeepsWf (exec i s) := by
  cases i with
  | tickEdge | sourceEdge | predictedEdgeMissed | tickHoldover | tickLocked | monitorIntervalEnd | tickEnSet | tickEnClear | tickSrcChange
  | tickRestart | tickFrameWrite | latchedLoRead | rcRead | registerWrite | streamDrained | streamAbortDone | chunkCut | swapStart | swapOutDone
  | swapInDone | slotCopyDone | packCapture | packDelivered | tileDispatch | tileEnd | tileTimeout | fetchDiscard | cancelComplete
  | pitchDispatchResume | tstlArm | tstlPass | tstlReset | graphCopyDone | graphUnloadDone | pitchBuildDone | ctxSpillDone | ctxRestoreDone | kNop
  | kEnd | kYield | kWait | kWaitMet | kPass | kArm | kTrst | kFlush | kInv | kFence | kioskReleaseDone | kCsr | kOpr | addi | lui | salu | ld | st
  | vld | vst | beq | bne | blt | bltu | jal | jr | valu | vfma | vcmp | vcvt | klog2 | kexp2 | ksqrt | krcp | ksincosTurn | vmovs | vred | vgather
  | vscatter | kioskOverlength | kioskCacheEvict | kskExcClear | blockRead | scrubRead | retryWarnSecond | parityRefetchDone | movrEnSet
  | movrEnClear | movrPauseSet | movrPauseClear | movrPaused | movrStart | movrResume | movrAbort | movrTimerTrigger | movrDescFetch | movrReadData
  | movrDescComplete | portEnSet | portEnClear | portRestart | portFrameStart | portRxFrame | portClockLost | portClockRegained | portRateMeasure
  | portPinShort | sdoContention | wclkOutShort | ethFrameRx | ethLinkChange | ethNoLight | arpRequest | neighbourSolicitation | icmpEcho
  | icmpv6Echo | ktpDatagram | ktpAckDelay | ktpRetxTimeout | ktpSessionIdle | sessionOpen | sessionClose | imageProgramDone | mgmtResetFire
  | configCommitTimer | pitchRollDrainDone | attestSignDone | hostReturnSend | beHostTake | ptpSync | ptpFollowUp | ptpDelayResp | ptpAnnounce
  | ptpDelayReqTimer | ptpAnnounceTimeout | rtpEnSet | rtpPacketSend | linkEnSet | linkEnClear | linkSignalDetect | linkSeekTimeout
  | linkPatternDecoded | linkTrainSend | linkFlitRx | linkAckTimeout | linkSignalLoss | linkRetrainTimer | linkRetryWarn | routeInstall | packXfer
  | packResult | packXferTimeout | twinAttach | twinInput | twinCkpt | twinCkptEnd | twinHb | twinHbLoss | twinPrimaryLoss | twinTakeover
  | twinRestoreDone | twinOrder | imageReq | imageData | imageFetchRetry | supplyFault | pwrGoodRise | pwrGoodHeldLow
  | deviceStart | startStepTimeout | watchdogTimeout | thermalTrip | thermalRelease | pwrReqP1 | pwrReqP2 | pwrReqP3
  | powerEntryDone | wakePin | wakeTimer | wakeDone | powerMeasure | kioskHaltSet | kioskHaltClear | kioskStep | kioskExcRelease | kioskViewWrite
  | jtagDbgAccess | flitBoundary | reservedOpcode | fetchOutsideImage =>
    exact done_keepsWf (by simp [w])
  | execRelease sel =>
    cases sel with
    | exec id => exact done_keepsWf (by simp [w])
    | be p => exact done_keepsWf (by simp [w])
  | supplyStagesStart | pinResetRelease => exact done_keepsWf w
  | pinReset => exact done_keepsWf (State.cond_wf (s := { s with dev := { s.dev with rstLow := true } }) w (fun t => by simp) _)
  | streamOpen | streamCloseDrain | streamCloseAbort | streamPause | streamResume | streamSetGroup | streamStats | voiceSet | voiceClear | feature
  | packExportSnapshot | packExportMove | packImport | graphLoad | graphUnload | pitchBuild | pitchDissolve | ctxRegister | ctxAdmit | ctxTeardown
  | ping | status | identity | imageUpload | resetMgmt | resetPitch | regRead | regWrite | memRead | memWrite | configStage | configCommit
  | configRead | authPolicy | attest | debugLevel | twinDetach | trecStatus | trecRead | trecAck | trecClear | replayBegin | replayData | replayEnd =>
    exact done_runMsg_keepsWf w fun t => by simp

/-- Settles O60, command by command: each is the composition of operations that keep memory canonical. -/
theorem memoryStaysCanonical : Obligations.MemoryStaysCanonical := by
  unfold Obligations.MemoryStaysCanonical
  intro s t w h
  unfold step at h
  split at h
  · cases h
    rwa [idle_mem]
  next c rest _ =>
    have w' : ({ s with pending := rest } : State).mem.wf = true := w
    exact exec_keepsWf c w' t h

end Sys2Proof.Machine
end

section
/-!
SUPPORT and proof of O56, O57, O58 and O59: the step and its idle case, what the reports of a command may change, and the state
after reset.
-/

namespace Sys2Proof.Machine

/-! ### The step (log 2) -/

/-- Every command answers a next state: its arm is an effect under `done`. -/
theorem exec_eq_next (i : Instr) (s : State) : ∃ t, exec i s = .next t := by
  cases i <;> exact ⟨_, rfl⟩

/-- Settles O56. -/
theorem stepRunsTheFrontCommand : Obligations.StepRunsTheFrontCommand := by
  unfold Obligations.StepRunsTheFrontCommand
  refine ⟨fun c rest s => rfl, fun s h => ?_, exec_eq_next⟩
  simp [step, h]

/-! ### Uptime -/

theorem nsAt_step (k : Nat) : nsAt (k + 1) - nsAt k = 40 ∨ nsAt (k + 1) - nsAt k = 41 := by
  unfold nsAt; omega

theorem nsAt_mono (k : Nat) : nsAt k ≤ nsAt (k + 1) := by
  unfold nsAt; omega

theorem idle_uptime (s : State) : (idle s).uptime = s.uptime + (nsAt (s.phase + 1) - nsAt s.phase) := rfl
theorem idle_phase (s : State) : (idle s).phase = (s.phase + 1) % 1536 := rfl

/-- Periods that do not pass the end of the phase's cycle: uptime rises by the ns between their ends. -/
theorem idle_iterate_uptime (n : Nat) : ∀ s : State, s.phase + n ≤ 1536 →
    (idle^[n] s).uptime = s.uptime + (nsAt (s.phase + n) - nsAt s.phase) := by
  induction n with
  | zero => simp
  | succ n ih =>
    intro s h
    rw [Function.iterate_succ_apply]
    cases n with
    | zero => simp [idle_uptime]
    | succ n =>
      have hp : (idle s).phase = s.phase + 1 := by rw [idle_phase]; omega
      rw [ih (idle s) (by omega), idle_uptime, hp]
      unfold nsAt
      omega

/-- Upsets reach stored bits only. -/
theorem State.spoil_frame (s : State) (u : Config.Upset) : ∃ x k ss, s.spoil u = { s with memx := x, kiosks := k, streams := ss } := by
  cases u with
  | word a =>
    unfold State.spoil
    dsimp only
    split <;> exact ⟨_, _, _, rfl⟩
  | none | line k a w | queue i | cond i => exact ⟨_, _, _, rfl⟩

theorem idle_frame (s : State) : ∃ x k ss f d p u c, idle s =
    { s with memx := x, kiosks := k, streams := ss, free := f, dev := d, phase := p, uptime := u, cycle := c } := by
  obtain ⟨x, k, ss, h⟩ := s.spoil_frame (Config.upset s.free)
  have e : idle s = { s.spoil (Config.upset s.free) with
      free := s.free + 1, dev := { s.dev with mclk := Config.mclkIn s.free }, phase := (s.phase + 1) % 1536,
      uptime := s.uptime + (nsAt (s.phase + 1) - nsAt s.phase),
      cycle := s.cycle + (cycAt s.pwr.step (s.phase + 1) - cycAt s.pwr.step s.phase) } := rfl
  rw [e, h]
  exact ⟨_, _, _, _, _, _, _, _, rfl⟩

theorem Tab.get?_adjust {α : Type} (t : Tab α) (n m : Nat) (f : α → α) :
    Tab.get? (Tab.adjust t n f) m = (Tab.get? t m).map (fun x => if m = n then f x else x) := by
  induction t with
  | nil => rfl
  | cons p t ih =>
    obtain ⟨k, v⟩ := p
    change Tab.get? ((if k = n then (k, f v) else (k, v)) :: Tab.adjust t n f) m = _
    by_cases hn : k = n <;> by_cases hm : k = m <;> simp_all [Tab.get?]

/-- A change of one entry's table shows in a stream only where the change allows it. -/
theorem Tab.getD_adjust {α : Type} (P : α → α → Prop) (hr : ∀ x, P x x) (t : Tab α) (n m : Nat) (d : α) {f : α → α}
    (hf : ∀ x, P x (f x)) : P (Tab.getD t m d) (Tab.getD (Tab.adjust t n f) m d) := by
  unfold Tab.getD
  rw [Tab.get?_adjust]
  cases Tab.get? t m with
  | none => exact hr d
  | some x =>
    by_cases h : m = n
    · simpa [h] using hf x
    · simpa [h] using hr x

/-- A stream after an upset: only the marks of its spoilt queue and conditioning differ. -/
def Stream.Spoilt (x y : Stream) : Prop :=
  ∃ b c, y = { x with del := { x.del with bad := b }, feat := { x.feat with bad := c } }

theorem Stream.Spoilt.rfl (x : Stream) : x.Spoilt x := ⟨_, _, Eq.refl x⟩

theorem State.spoil_stream (s : State) (u : Config.Upset) (i : Nat) : (s.stream i).Spoilt ((s.spoil u).stream i) := by
  cases u with
  | none | line k a w => exact .rfl _
  | word a =>
    unfold State.spoil
    dsimp only
    split <;> exact .rfl _
  | queue k | cond k =>
    simp only [State.spoil, State.stream]
    refine Tab.getD_adjust Stream.Spoilt .rfl s.streams k i Stream.blank (fun x => ?_)
    exact ⟨_, _, Eq.refl _⟩

/-- Settles O57. -/
theorem uptimeIsExact : Obligations.UptimeIsExact := by
  unfold Obligations.UptimeIsExact
  refine ⟨fun s _ => ?_, fun s h h0 => ?_, fun s _ => ?_, fun s i => ?_⟩
  · rw [idle_uptime]
    have := nsAt_step s.phase
    omega
  · rw [idle_iterate_uptime 384 s (by omega)]
    unfold nsAt
    omega
  · refine ⟨by rw [idle_phase]; omega, idle_mem _, idle_regs _, ?_⟩
    obtain ⟨x, k, ss, f, d, p, u, c, h⟩ := idle_frame s
    simp [h]
  · exact s.spoil_stream (Config.upset s.free) i

/-! ### The state after reset -/

theorem TickDom.reset_of (d : Nat) : State.reset.td d = TickDom.reset := by
  unfold State.td
  split <;> rfl

theorem State.reset_rg (r : RegName) (i j : Nat) : State.reset.rg r i j = r.card.reset + i * r.card.step := rfl

/-- Settles O59. -/
theorem resetState : Obligations.ResetState := by
  unfold Obligations.ResetState
  refine ⟨rfl, rfl, rfl, rfl, rfl, rfl, rfl, rfl, rfl, rfl, rfl, rfl, rfl, fun _ => rfl, fun d => ?_, fun _ => ⟨rfl, rfl⟩,
    fun _ => ⟨rfl, rfl, rfl⟩, State.reset_rg⟩
  rw [TickDom.reset_of]
  exact ⟨rfl, rfl⟩

/-! ### Reports -/

/-- What a report may change: sessions, registers, memory, links, replay, the fault list and the recorder. -/
def State.ReportFrame (s t : State) : Prop :=
  t = { s with sessions := t.sessions, regs := t.regs, mem := t.mem, memx := t.memx, links := t.links, msgId := t.msgId,
               replay := t.replay, faultSec := t.faultSec, trec := t.trec }

theorem State.ReportFrame.rfl {s : State} : s.ReportFrame s := Eq.refl s

theorem State.ReportFrame.trans {s t u : State} (h : s.ReportFrame t) (k : t.ReportFrame u) : s.ReportFrame u := by
  unfold State.ReportFrame at *
  rw [k, h]

theorem State.ReportFrame.ite {s t u : State} {c : Prop} [Decidable c] (ht : s.ReportFrame t) (hu : s.ReportFrame u) :
    s.ReportFrame (if c then t else u) := by
  split
  · exact ht
  · exact hu

theorem State.ReportFrame.each {α : Type} {f : State → α → State} (h : ∀ t x, State.ReportFrame t (f t x)) (l : List α) (s : State) :
    s.ReportFrame (s.each l f) :=
  State.each_inv (P := s.ReportFrame) l (fun _ x _ ht => ht.trans (h _ x)) _ .rfl

theorem State.reportFrame_setRg (s : State) (r : RegName) (i v j : Nat) : s.ReportFrame (s.setRg r i v j) := Eq.refl _

theorem State.reportFrame_flag (s : State) (r : RegName) (i b : Nat) : s.ReportFrame (s.flag r i b) := Eq.refl _

theorem State.reportFrame_cnt (s : State) (r : RegName) (i hi lo n : Nat) : s.ReportFrame (s.cnt r i hi lo n) := Eq.refl _

theorem State.reportFrame_poke (s : State) (a : Nat) (bs : List Byte) : s.ReportFrame (s.poke a bs) := Eq.refl _

/-- An event changes sessions, and the counter and flag of lost events. -/
theorem State.event_frame (s : State) (code subject dom a b : Nat) :
    ∃ ss rs, s.event code subject dom a b = { s with sessions := ss, regs := rs } := by
  unfold State.event State.eventIf
  dsimp only
  split <;> exact ⟨_, _, rfl⟩

theorem State.reportFrame_event (s : State) (code subject dom a b : Nat) : s.ReportFrame (s.event code subject dom a b) := by
  obtain ⟨ss, rs, h⟩ := s.event_frame code subject dom a b
  rw [h]
  exact Eq.refl _

theorem State.reportFrame_deviceFault (s : State) (code a : Nat) : s.ReportFrame (s.deviceFault code a) := by
  unfold State.deviceFault
  split
  · split
    · exact Eq.refl _
    · exact .trans (t := { s with faultSec := _ }) (Eq.refl _) (State.reportFrame_event _ _ _ _ _ _)
  · exact .trans (t := { s with faultSec := _ }) (Eq.refl _) (State.reportFrame_event _ _ _ _ _ _)

theorem State.reportFrame_readFailed (s : State) (a c : Nat) : s.ReportFrame (s.readFailed a c) := by
  unfold State.readFailed
  extract_lets b ch s1 s2 x s3
  have h1 : s.ReportFrame s1 :=
    ((State.reportFrame_cnt ..).trans (State.reportFrame_cnt ..)).trans (State.reportFrame_setRg ..)
  have h2 : s.ReportFrame s2 := h1.trans (State.reportFrame_setRg ..)
  have h3 : s2.ReportFrame s3 := .ite .rfl (Eq.refl _)
  exact ((h2.trans h3).trans (State.reportFrame_flag ..)).trans (State.reportFrame_event ..)

theorem State.reportFrame_storePart (s : State) (a : Nat) (bs : List Byte) (c : Nat) : s.ReportFrame (s.storePart a bs c) := by
  unfold State.storePart
  refine .ite (State.reportFrame_poke ..) (.each (fun t p => ?_) _ _)
  exact .ite (State.reportFrame_readFailed ..) (State.reportFrame_poke ..)

theorem State.reportFrame_mgmtStore (s : State) (a : Nat) (bs : List Byte) : s.ReportFrame (s.mgmtStore a bs) := by
  unfold State.mgmtStore
  split
  · exact State.reportFrame_poke ..
  · exact (State.reportFrame_storePart ..).trans (State.reportFrame_deviceFault ..)

theorem State.reportFrame_trecPut (s : State) (a : Area) (bs : List Byte) (n : Nat) : s.ReportFrame (s.trecPut a bs n) := by
  unfold State.trecPut
  extract_lets t t1 w nh t2 t3 t4 s0 s1 s2
  have h0 : s.ReportFrame s0 := (State.reportFrame_mgmtStore ..).trans (State.reportFrame_mgmtStore ..)
  have h1 : s0.ReportFrame s1 := Eq.refl _
  have h2 : s1.ReportFrame s2 := .ite (State.reportFrame_flag ..) .rfl
  exact ((h0.trans h1).trans h2).trans (.ite (State.reportFrame_event ..) .rfl)

theorem State.reportFrame_ringRecord (s : State) (k u d : Nat) (b : List Byte) : s.ReportFrame (s.ringRecord k u d b) := by
  unfold State.ringRecord
  split
  · exact .rfl
  · refine .ite .rfl (.ite (.ite (.trans ?_ (State.reportFrame_deviceFault ..)) .rfl)
      (.trans (.ite .rfl (State.reportFrame_trecPut ..)) (State.reportFrame_trecPut ..)))
    exact Eq.refl _

theorem State.reportFrame_diverge (s : State) (q : Nat) : s.ReportFrame (s.diverge q) := by
  unfold State.diverge
  extract_lets s1
  have h1 : s.ReportFrame s1 := Eq.refl _
  have h2 : s1.ReportFrame { s1 with replay := { s1.replay with diverged := true } } := Eq.refl _
  exact .ite h1 ((h1.trans h2).trans (State.reportFrame_deviceFault ..))

theorem State.reportFrame_forward (s : State) (bs : List Byte) : s.ReportFrame (s.forward bs).2 := by
  unfold State.forward
  split
  · exact .rfl
  · exact Eq.refl _

theorem State.reportFrame_record (s : State) (k u d : Nat) (b : List Byte) : s.ReportFrame (s.record k u d b) := by
  unfold State.record
  extract_lets s1 s2
  have h1 : s.ReportFrame s1 := .ite (State.reportFrame_forward ..) .rfl
  have h2 : s1.ReportFrame s2 := .ite (State.reportFrame_diverge ..) .rfl
  exact (h1.trans h2).trans (State.reportFrame_ringRecord ..)

theorem State.ringRecord_of_noRing {s : State} (h : s.cfg.trec = none) (k u d : Nat) (b : List Byte) :
    s.ringRecord k u d b = s := by
  unfold State.ringRecord State.ring
  rw [h]

/-- The work of a record before the ring leaves memory, the configuration and the recorder's words. -/
theorem State.record_eq_ringRecord (s : State) (k u d : Nat) (b : List Byte) :
    ∃ t : State, s.record k u d b = t.ringRecord k u d b ∧ t.mem = s.mem ∧ t.cfg = s.cfg ∧ t.trec = s.trec := by
  unfold State.record
  extract_lets s1 s2
  have h1 : s1.mem = s.mem ∧ s1.cfg = s.cfg ∧ s1.trec = s.trec := by
    unfold s1
    split <;> simp
  have h2 : s2.mem = s1.mem ∧ s2.cfg = s1.cfg ∧ s2.trec = s1.trec := by
    unfold s2
    split <;> simp
  obtain ⟨m1, c1, r1⟩ := h1
  obtain ⟨m2, c2, r2⟩ := h2
  exact ⟨s2, Eq.refl _, m2.trans m1, c2.trans c1, r2.trans r1⟩

/-! ### Where a record is written (19 R488 to R492) -/

/-- A piece of a store lies in the range of the store. -/
theorem blockPieces_range {a x : Nat} {bs : List Byte} (h : x < a ∨ a + bs.length ≤ x) :
    ∀ p ∈ blockPieces a bs, x < p.1 ∨ p.1 + p.2.length ≤ x := by
  intro p hp
  obtain ⟨k, -, rfl⟩ := List.mem_map.mp hp
  simp only [List.length_take, List.length_drop]
  omega

theorem State.storePart_read_out {s : State} {a x : Nat} {bs : List Byte} (c : Nat) (h : x < a ∨ a + bs.length ≤ x) :
    (s.storePart a bs c).mem.read x = s.mem.read x := by
  unfold State.storePart
  split
  · exact State.poke_read_out h
  · refine State.each_inv (P := fun t => t.mem.read x = s.mem.read x) _ (fun t p hp ht => ?_) _ rfl
    split
    · rw [State.readFailed_mem]
      exact ht
    · rw [State.poke_read_out (blockPieces_range h p hp)]
      exact ht

theorem State.mgmtStore_read_out {s : State} {a x : Nat} {bs : List Byte} (h : x < a ∨ a + bs.length ≤ x) :
    (s.mgmtStore a bs).mem.read x = s.mem.read x := by
  unfold State.mgmtStore
  split
  · exact State.poke_read_out h
  · rw [State.deviceFault_mem]
    exact State.storePart_read_out _ h

@[simp] theorem leBytes_length (n v : Nat) : (leBytes n v).length = n := by
  induction n generalizing v with
  | zero => rfl
  | succ n ih => simp [leBytes, ih]

theorem Trec.header_length (t : Trec) : t.header.length = 64 := by
  simp [Trec.header]

theorem recBytes_length (len kind flags seq up tick sec ns epoch subject : Nat) (body : List Byte) :
    (recBytes len kind flags seq up tick sec ns epoch subject body).length = recLen body.length := by
  simp [recBytes, recLen]
  omega

/-- Dropping old records moves the tail, not the head. -/
theorem trecDrop_head (m : Memory) (base size lo len : Nat) (f : Nat) : ∀ t : Trec, (trecDrop m base size lo len f t).head = t.head := by
  induction f with
  | zero => exact fun _ => rfl
  | succ f ih =>
    intro t
    unfold trecDrop
    split
    · exact ih _
    · rfl

theorem State.trecPut_read_out {s : State} {a : Area} {x : Nat} {bs : List Byte} (n : Nat)
    (hh : x < a.base ∨ a.base + 64 ≤ x) (hb : x < a.base + s.trec.head ∨ a.base + s.trec.head + bs.length ≤ x) :
    (s.trecPut a bs n).mem.read x = s.mem.read x := by
  unfold State.trecPut
  extract_lets t t1 w nh t2 t3 t4 s0 s1 s2
  have h0 : s0.mem.read x = s.mem.read x := by
    unfold s0
    rw [State.mgmtStore_read_out (by rwa [Trec.header_length]), State.mgmtStore_read_out hb]
  have h2 : s2.mem = s0.mem := by
    unfold s2
    split <;> rfl
  rw [← h0, ← h2]
  split
  · rw [State.event_mem]
  · rfl

/-- After a record that ends at the ring's end the head is at the ring's first record. -/
theorem State.trecPut_head_wraps {s : State} {a : Area} (bs : List Byte) {n : Nat} (h : a.size ≤ s.trec.head + n) :
    (s.trecPut a bs n).trec.head = 0x10000 := by
  unfold State.trecPut
  extract_lets t t1 w nh t2 t3 t4 s0 s1 s2
  have hn : nh = 0x10000 := by
    unfold nh t1
    rw [trecDrop_head]
    exact if_neg (Nat.not_lt.mpr h)
  have h4 : t4.head = 0x10000 := by
    unfold t4 t3
    (repeat' split) <;> exact hn
  have h2 : s2.trec = t4 := by
    unfold s2
    split <;> rfl
  split
  · rw [State.event_trec, h2, h4]
  · rw [h2, h4]

theorem State.ringRecord_read_out {s : State} {a : Area} {x : Nat} (hr : s.cfg.trec = some a) (k u d : Nat) {b : List Byte}
    (hl : 0x10000 + recLen b.length ≤ a.size) (h0 : 0x10000 ≤ s.trec.head) (h1 : s.trec.head < a.size)
    (hx : x < a.base ∨ a.base + a.size ≤ x) : (s.ringRecord k u d b).mem.read x = s.mem.read x := by
  have hrec (t : State) (len kind sub : Nat) (bd : List Byte) : (t.mkRecord len kind sub d bd).length = recLen bd.length :=
    recBytes_length ..
  unfold State.ringRecord State.ring
  rw [hr]
  dsimp only [State.cond]
  split
  · rfl
  split
  · split
    · rw [State.deviceFault_mem]
      rfl
    · rfl
  split
  · exact State.trecPut_read_out _ (by omega) (by rw [hrec]; omega)
  · have hw : (s.trecPut a ((s.mkRecord (a.size - s.trec.head) 0xFFFF 0 d
        (List.replicate (a.size - s.trec.head - 64) 0#8)).take (a.size - s.trec.head)) (a.size - s.trec.head)).trec.head = 0x10000 :=
      State.trecPut_head_wraps _ (by omega)
    rw [State.trecPut_read_out _ (by omega) (by rw [hrec, hw]; omega)]
    exact State.trecPut_read_out _ (by omega) (by rw [List.length_take]; omega)

/-- Settles O58. -/
theorem reportsChangeNothingElse : Obligations.ReportsChangeNothingElse := by
  unfold Obligations.ReportsChangeNothingElse
  refine ⟨fun s c u d a b => ?_, fun s => ⟨_, _, rfl⟩, fun s k u d body => ?_⟩
  · obtain ⟨ss, rs, h⟩ := s.event_frame c u d a b
    exact ⟨ss, rs, h, s.sameRegs_event c u d a b⟩
  · obtain ⟨t, hrec, hm, hc, ht⟩ := s.record_eq_ringRecord k u d body
    refine ⟨_, _, _, _, _, _, _, _, _, s.reportFrame_record k u d body, s.sameRegs_record k u d body, fun h => ?_,
      fun a x ha hl h0 h1 hx => ?_⟩
    · rw [hrec, State.ringRecord_of_noRing (hc ▸ h), hm]
    · rw [hrec, State.ringRecord_read_out (hc ▸ ha) k u d hl (ht ▸ h0) (ht ▸ h1) hx, hm]

end Sys2Proof.Machine
end

section
/-!
SUPPORT: the tick domains of the state, and proofs of O1 to O3: what starts, stops and steers a domain.
-/

namespace Sys2Proof.Machine

/-! ### Reading and writing a domain -/

theorem State.td_of_eq {s t : State} (h0 : t.td0 = s.td0) (h1 : t.td1 = s.td1) (d : Nat) : t.td d = s.td d := by
  unfold State.td
  rw [h0, h1]

@[simp] theorem State.td_setTd (s : State) (d : Nat) (t : TickDom) : (s.setTd d t).td d = t := by
  unfold State.td State.setTd
  split <;> rfl

@[simp] theorem State.setTd_setTd (s : State) (d : Nat) (t u : TickDom) : (s.setTd d t).setTd d u = s.setTd d u := by
  unfold State.setTd
  split <;> rfl

@[simp] theorem State.setTd_td (s : State) (d : Nat) : s.setTd d (s.td d) = s := by
  unfold State.td State.setTd
  split <;> rfl

@[simp] theorem State.rg_setTd (s : State) (d : Nat) (t : TickDom) (r : RegName) (i j : Nat) : (s.setTd d t).rg r i j = s.rg r i j := by
  unfold State.setTd
  split <;> rfl

@[simp] theorem State.td_setRg (s : State) (r : RegName) (i v j d : Nat) : (s.setRg r i v j).td d = s.td d := rfl
@[simp] theorem State.td_setFld (s : State) (r : RegName) (i hi lo v d : Nat) : (s.setFld r i hi lo v).td d = s.td d := rfl
@[simp] theorem State.td_flag (s : State) (r : RegName) (i b d : Nat) : (s.flag r i b).td d = s.td d := rfl
@[simp] theorem State.td_cnt (s : State) (r : RegName) (i hi lo n d : Nat) : (s.cnt r i hi lo n).td d = s.td d := rfl
@[simp] theorem State.td_inc (s : State) (r : RegName) (i d : Nat) : (s.inc r i).td d = s.td d := rfl
@[simp] theorem State.td_event (s : State) (c u k a b d : Nat) : (s.event c u k a b).td d = s.td d :=
  State.td_of_eq (by simp) (by simp) d
/-- A port whose domain has stopped. -/
def portStopped (x : Port) : Port := { x with fifo := [], primed := false, repeated := false }

/-- What commutes with each step of a loop commutes with the loop. -/
theorem State.each_comm {α : Type} {f : State → α → State} {g : State → State} (h : ∀ s x, f (g s) x = g (f s x)) (l : List α) :
    ∀ s : State, (g s).each l f = g (s.each l f) := by
  induction l with
  | nil => exact fun _ => rfl
  | cons x l ih =>
    intro s
    change (f (g s) x).each l f = g ((f s x).each l f)
    rw [h, ih]

@[simp] theorem State.td_portsStop (s : State) (p d : Nat) : (s.portsStop p).td d = s.td d :=
  State.each_keeps (fun t => t.td d) (fun t p => t.updPort p portStopped) (fun _ _ => rfl) _ s
@[simp] theorem State.regs_portsStop (s : State) (p : Nat) : (s.portsStop p).regs = s.regs :=
  State.each_keeps (fun t => t.regs) (fun t p => t.updPort p portStopped) (fun _ _ => rfl) _ s

theorem State.bit_of_regs {s t : State} (h : t.regs = s.regs) (r : RegName) (i n : Nat) : t.bit r i n = s.bit r i n := by
  unfold State.bit State.rg
  rw [h]

theorem State.baseRate_of_regs {s t : State} (h : t.regs = s.regs) (d : Nat) : t.baseRate d = s.baseRate d := by
  unfold State.baseRate
  rw [State.bit_of_regs h]

@[simp] theorem State.baseRate_setTd (s : State) (d e : Nat) (t : TickDom) : (s.setTd d t).baseRate e = s.baseRate e :=
  State.baseRate_of_regs (State.setTd_regs ..) e
@[simp] theorem State.baseRate_portsStop (s : State) (p d : Nat) : (s.portsStop p).baseRate d = s.baseRate d :=
  State.baseRate_of_regs (State.regs_portsStop ..) d
@[simp] theorem State.srcRegs_setTd (s : State) (d e : Nat) (t : TickDom) : (s.setTd d t).srcRegs e = s.srcRegs e := by
  simp [State.srcRegs, State.fld]
@[simp] theorem State.portsStop_setTd (s : State) (d p : Nat) (t : TickDom) : (s.setTd d t).portsStop p = (s.portsStop p).setTd d t := by
  have hd (q : Nat) : (s.setTd d t).portDom q = s.portDom q := by simp [State.portDom, State.fld]
  unfold State.portsStop
  simp only [hd]
  refine State.each_comm (g := fun u => u.setTd d t) (fun u q => ?_) _ s
  unfold State.setTd
  split <;> rfl

/-! ### The changes of a domain's state -/

theorem State.nominal16_eq (s : State) (d : Nat) : s.nominal16 d = 16 * s.baseRate d := Nat.mul_comm _ _

theorem State.baseRate_pos (s : State) (d : Nat) : 44100 ≤ s.baseRate d := by
  unfold State.baseRate
  split <;> omega

/-- The nominal rate is not at the clamp. -/
theorem clampRate_self {n : Nat} (h : 100 ≤ n) : clampRate n n = n ∧ ¬ (n ≤ n * 98 / 100 ∨ n * 102 / 100 ≤ n) := by
  unfold clampRate
  omega

theorem State.takeSrc_eq (s : State) (d : Nat) :
    s.takeSrc d = s.setTd d ((s.td d).fresh (s.srcRegs d) (16 * s.baseRate d)) := by
  obtain ⟨hc, hn⟩ := clampRate_self (n := 16 * s.baseRate d) (by have := s.baseRate_pos d; omega)
  simp [State.takeSrc, State.setRate, State.updTd, State.nominal16_eq, TickDom.fresh, hc, hn]

theorem srcRecord_of_ne {old s : State} {d : Nat} (h : (old.td d).mon ≠ (s.td d).mon) :
    srcRecord old s d = s.monRecord d (old.td d).mon (s.td d).mon := if_neg h

theorem srcRecord_of_eq {old s : State} {d : Nat} (h : (old.td d).mon = (s.td d).mon) : srcRecord old s d = s := if_pos h

theorem State.toLocked_eq {s : State} {d : Nat} (h : (s.td d).mon ≠ .locked) : s.toLocked d =
    (((s.setTd d (s.td d).lockedNow).flag .tickEvt d 2).event 0x0101 d d).monRecord d (s.td d).mon .locked := by
  unfold State.toLocked
  rw [srcRecord_of_ne] <;> simp [State.updTd, State.flagT, TickDom.lockedNow, h]

theorem State.toAcquire_eq {s : State} {d : Nat} (h : (s.td d).mon ≠ .acquire) : s.toAcquire d false =
    ((s.portsStop d).setTd d (s.td d).acquiring).monRecord d (s.td d).mon .acquire := by
  simp only [State.toAcquire, Bool.false_eq_true, if_false]
  rw [srcRecord_of_ne] <;> simp [State.updTd, TickDom.acquiring, h]

theorem State.toAcquire_again {s : State} {d : Nat} (h : (s.td d).mon = .acquire) : s.toAcquire d false =
    (s.portsStop d).setTd d (s.td d).acquiring := by
  simp only [State.toAcquire, Bool.false_eq_true, if_false]
  rw [srcRecord_of_eq] <;> simp [State.updTd, TickDom.acquiring, h]

theorem State.toOff_eq {s : State} {d : Nat} (h : (s.td d).mon ≠ .off) : s.toOff d =
    ((s.portsStop d).setTd d (s.td d).offNow).monRecord d (s.td d).mon .off := by
  simp only [State.toOff]
  rw [srcRecord_of_ne] <;> simp [State.updTd, TickDom.offNow, h]

theorem State.toOff_again {s : State} {d : Nat} (h : (s.td d).mon = .off) : s.toOff d = (s.portsStop d).setTd d (s.td d).offNow := by
  simp only [State.toOff]
  rw [srcRecord_of_eq] <;> simp [State.updTd, TickDom.offNow, h]

/-! ### Start, stop, restart, frame length and source (O1, O2) -/

@[simp] theorem TickDom.fresh_mon (t : TickDom) (u : TickSrc) (n : Nat) : (t.fresh u n).mon = t.mon := rfl

theorem State.tickEn_local {s : State} {d : Nat} (h : (s.td d).mon = .off) (hs : s.fld .tickCtl d 4 2 = 0) :
    s.tickEn d = ((s.setFld .tickCtl d 0 0 1).takeSrc d).toLocked d := by
  simp [State.tickEn, h, hs]

theorem State.tickEn_source {s : State} {d : Nat} (h : (s.td d).mon = .off) (hs : s.fld .tickCtl d 4 2 ≠ 0) :
    s.tickEn d = ((s.setFld .tickCtl d 0 0 1).takeSrc d).toAcquire d false := by
  simp [State.tickEn, h, hs]

theorem State.tickEn_running {s : State} {d : Nat} (h : (s.td d).mon ≠ .off) :
    s.tickEn d = (s.setFld .tickCtl d 0 0 1).setTd d { s.td d with stopReq := false } := by
  unfold State.tickEn
  split
  · contradiction
  · simp [State.updTd]

/-- Settles O1. -/
theorem tickDomainStarts : Obligations.TickDomainStarts := by
  unfold Obligations.TickDomainStarts
  intro d s
  dsimp only
  refine ⟨fun h hs => ?_, fun h hs => ?_, fun h => ?_⟩
  · change done (s.tickEn d) = _
    rw [State.tickEn_local h hs, State.takeSrc_eq, State.toLocked_eq (by simp [h])]
    simp [h, done]
  · change done (s.tickEn d) = _
    rw [State.tickEn_source h hs, State.takeSrc_eq, State.toAcquire_eq (by simp [h])]
    simp [h, done]
  · change done (s.tickEn d) = _
    rw [State.tickEn_running h]
    rfl

/-! ### Stop, restart, frame length and source (O2) -/

theorem State.tickDis_ticking {s : State} {d : Nat} (h : (s.td d).ticking = true) :
    s.tickDis d = (s.setFld .tickCtl d 0 0 0).setTd d { s.td d with stopReq := true } := by
  simp [State.tickDis, h, State.updTd]

theorem State.tickDis_still {s : State} {d : Nat} (h : (s.td d).ticking = false) :
    s.tickDis d = (s.setFld .tickCtl d 0 0 0).toOff d := by
  simp [State.tickDis, h]

theorem TickDom.ticking_of_off {t : TickDom} (h : t.mon = .off) : t.ticking = false := by
  simp [TickDom.ticking, h]

theorem TickDom.ticking_of_stopped {t : TickDom} (h : t.mon = .stopped) : t.ticking = false := by
  simp [TickDom.ticking, h]

theorem State.tickRestart_stopped {s : State} {d : Nat} (h : (s.td d).mon = .stopped) :
    s.tickRestart d = (s.takeSrc d).toAcquire d false := if_pos h

theorem State.tickRestart_other {s : State} {d : Nat} (h : (s.td d).mon ≠ .stopped) : s.tickRestart d = s := if_neg h

theorem frameDivOk_iff (f : Nat) : frameDivOk f = true ↔ 64 ≤ f ∧ f ≤ 4096 ∧ f % 64 = 0 := by
  simp [frameDivOk, and_assoc]

theorem State.frameWrite_eq (s : State) (d v : Nat) : s.frameWrite d v =
    if frameDivOk (v % 8192) then (s.setFld .tickFrame d 12 0 (v % 8192)).setTd d
      { s.td d with framePend := if v % 8192 = (s.td d).frameDiv then none else some (v % 8192) }
    else s.flag .tickEvt d 5 := by
  simp [State.frameWrite, bitsOf, State.updTd, State.tickCfgErr, State.flagT]

theorem State.srcChange_undefined {s : State} {d src mult link : Nat} (h : 6 ≤ src ∨ mult = 3) :
    s.srcChange d src mult link = s.flag .tickEvt d 5 := if_pos h

theorem State.srcChange_same {s : State} {d src mult link : Nat} (h : ¬ (6 ≤ src ∨ mult = 3)) (hs : s.srcRegs d = ⟨src, mult, link⟩) :
    s.srcChange d src mult link = s := by
  simp [State.srcChange, h, hs]

theorem State.srcChange_new {s : State} {d src mult link : Nat} (h : ¬ (6 ≤ src ∨ mult = 3)) (hs : s.srcRegs d ≠ ⟨src, mult, link⟩) :
    s.srcChange d src mult link =
      (((s.setFld .tickCtl d 4 2 src).setFld .tickCtl d 6 5 mult).setFld .tickCtl d 12 7 link).newSrc d ⟨src, mult, link⟩ := by
  simp [State.srcChange, h, hs]

theorem State.newSrc_ticking {s : State} {d : Nat} (h : (s.td d).ticking = true) (u : TickSrc) :
    s.newSrc d u = s.setTd d { s.td d with srcPend := some u } := if_pos h

theorem State.newSrc_acquire {s : State} {d : Nat} (h : (s.td d).ticking = false) (hm : (s.td d).mon = .acquire) (u : TickSrc) :
    s.newSrc d u = (s.takeSrc d).toAcquire d false := by
  simp [State.newSrc, h, hm]

theorem State.newSrc_still {s : State} {d : Nat} (hm : (s.td d).mon = .off ∨ (s.td d).mon = .stopped) (u : TickSrc) :
    s.newSrc d u = s := by
  obtain hm | hm := hm <;> simp [State.newSrc, TickDom.ticking, hm]

/-- Settles O2. -/
theorem tickDomainControl : Obligations.TickDomainControl := by
  unfold Obligations.TickDomainControl
  dsimp only
  refine ⟨fun d s => ⟨fun h => ?_, fun h hm => ?_, fun h => ?_⟩, fun d s => ⟨fun h => ?_, fun h => ?_⟩,
    fun d v s => ⟨fun h => ?_, fun h => ?_⟩, fun d src mult link s => ⟨fun h => ?_, fun h1 h2 => ?_⟩⟩
  · exact congrArg done (State.tickDis_ticking h)
  · refine congrArg done ?_
    rw [State.tickDis_still h, State.toOff_eq (by simpa using hm)]
    simp
  · refine congrArg done ?_
    rw [State.tickDis_still (TickDom.ticking_of_off h), State.toOff_again (by simpa using h)]
    simp
  · refine congrArg done ?_
    rw [State.tickRestart_stopped h, State.takeSrc_eq, State.toAcquire_eq (by simp [h])]
    simp [h]
  · exact congrArg done (State.tickRestart_other h)
  · refine congrArg done ?_
    rw [State.frameWrite_eq, if_pos ((frameDivOk_iff _).mpr h)]
  · refine congrArg done ?_
    rw [State.frameWrite_eq, if_neg (mt (frameDivOk_iff _).mp h)]
  · refine congrArg done (State.srcChange_undefined ?_)
    obtain h | rfl := h
    · exact .inl h
    · exact .inr rfl
  · have hd : ¬ (6 ≤ src.toNat ∨ mult.toNat = 3) := by
      have : mult.toNat ≠ 3 := fun e => h2 (BitVec.eq_of_toNat_eq e)
      omega
    refine ⟨fun hs => congrArg done (State.srcChange_same hd hs), fun hs => ⟨fun ht => ?_, fun ht hm => ?_, fun hm => ?_⟩⟩ <;>
      refine congrArg done ((State.srcChange_new hd hs).trans ?_)
    · rw [State.newSrc_ticking (by simpa using ht)]
      simp
    · rw [State.newSrc_acquire (by simpa using ht) (by simpa using hm), State.takeSrc_eq, State.toAcquire_again (by simpa using hm)]
      simp
    · exact State.newSrc_still (by simpa using hm) _

/-! ### Edges of the source (O3) -/

/-- The source's edges are divided (01 R529). -/
abbrev TickDom.Divides (t : TickDom) : Prop := (t.srcUse.src = 1 ∨ t.srcUse.src = 2) ∧ 2 ^ t.srcUse.mult ≠ 1

theorem TickDom.divides_test (t : TickDom) :
    ((t.srcUse.src == 1 || t.srcUse.src == 2) && decide (2 ^ t.srcUse.mult ≠ 1)) = true ↔ t.Divides := by
  simp [TickDom.Divides]

theorem TickDom.divide_of_not {t : TickDom} (h : ¬ t.Divides) : t.divide = (true, t) := by
  unfold TickDom.divide
  exact if_pos (by rw [Bool.not_eq_true', ← Bool.not_eq_true]; exact mt t.divides_test.mp h)

theorem TickDom.divide_first {t : TickDom} (h : t.Divides) (ho : t.divOn = false) :
    t.divide = (true, { t with divOn := true, divPh := 0 }) := by
  unfold TickDom.divide
  simp only [t.divides_test.mpr h, ho]
  rfl

theorem TickDom.divide_next {t : TickDom} (h : t.Divides) (ho : t.divOn = true) :
    t.divide = ((t.divPh + 1) % 2 ^ t.srcUse.mult == 0, { t with divPh := (t.divPh + 1) % 2 ^ t.srcUse.mult }) := by
  unfold TickDom.divide
  simp only [t.divides_test.mpr h, ho]
  rfl

/-- What the divider changes: its own phase. -/
theorem TickDom.divide_snd (t : TickDom) : t.divide.2 =
    if (t.srcUse.src = 1 ∨ t.srcUse.src = 2) ∧ 2 ^ t.srcUse.mult ≠ 1 then
      { t with divOn := true, divPh := if t.divOn then (t.divPh + 1) % 2 ^ t.srcUse.mult else 0 }
    else t := by
  by_cases h : t.Divides
  · rw [if_pos h]
    cases ho : t.divOn
    · rw [TickDom.divide_first h ho]
      rfl
    · simp [TickDom.divide_next h ho, ho]
  · rw [if_neg h, TickDom.divide_of_not h]

/-- An edge of the train is one that the divider does not swallow. -/
theorem TickDom.divide_fst (t : TickDom) : t.divide.1 = true ↔
    ¬ (((t.srcUse.src = 1 ∨ t.srcUse.src = 2) ∧ 2 ^ t.srcUse.mult ≠ 1) ∧ t.divOn = true ∧
      (t.divPh + 1) % 2 ^ t.srcUse.mult ≠ 0) := by
  by_cases h : t.Divides
  · cases ho : t.divOn
    · simp [TickDom.divide_first h ho]
    · rw [TickDom.divide_next h ho]
      exact beq_iff_eq.trans ⟨fun hz hh => hh.2.2 hz, fun hh => by_contra fun hz => hh ⟨h, rfl, hz⟩⟩
  · simp only [TickDom.divide_of_not h, true_iff]
    exact fun hh => h hh.1

theorem TickDom.divide_frame (t : TickDom) : ∃ on ph, t.divide.2 = { t with divOn := on, divPh := ph } := by
  by_cases h : t.Divides
  · cases ho : t.divOn
    · rw [TickDom.divide_first h ho]
      exact ⟨_, _, rfl⟩
    · rw [TickDom.divide_next h ho]
      exact ⟨_, _, rfl⟩
  · rw [TickDom.divide_of_not h]
    exact ⟨_, _, rfl⟩

/-- A raw edge is counted while ticks are issued. -/
def TickDom.counted (t : TickDom) : TickDom := { t with edges := if t.ticking then t.edges + 1 else t.edges }

theorem State.countEdge_eq (s : State) (d : Nat) :
    (if (s.td d).ticking then s.updTd d (fun t => { t with edges := t.edges + 1 }) else s) = s.setTd d (s.td d).counted := by
  unfold TickDom.counted
  cases h : (s.td d).ticking
  · exact (s.setTd_td d).symm
  · rfl

/-- An edge of the train, in each state of the monitor. -/
theorem State.edge_eq (s : State) (d : Nat) (off : Int) (iv : Nat) :
    s.edge d off iv =
      let u := (s.td d).counted
      let good := if s.srcPtp d then s.srcServo d else within2 iv
      match (s.td d).mon with
      | .locked =>
        if (if s.srcPtp d then s.srcServo d else decide (off.natAbs ≤ 50000)) then (s.setTd d { u with missed := 0 }).steer d
        else (s.setTd d u).discard d
      | .holdover =>
        if good then s.setTd d { u with run := u.run + 1 } else (s.setTd d { u with run := 0 }).discard d
      | .acquire =>
        s.setTd d (if !u.runOpen then { u with runOpen := true, run := 0 } else if good then { u with run := u.run + 1 }
          else { u with run := 0 })
      | _ => s.setTd d u := by
  unfold State.edge
  dsimp only
  rw [State.countEdge_eq]
  cases (s.td d).mon <;> simp [State.updTd]

theorem State.sourceEdge_discarded {s : State} {d : Nat} (h : (s.td d).srcUse.src = 5 ∧ (s.td d).skipEdge = true) (off : Int)
    (iv : Nat) : s.sourceEdge d off iv = s.setTd d { (s.td d).counted with skipEdge := false } := by
  simp [State.sourceEdge, h, State.updTd, TickDom.counted]

theorem State.sourceEdge_between {s : State} {d : Nat} (h : ¬ ((s.td d).srcUse.src = 5 ∧ (s.td d).skipEdge = true))
    (hd : (s.td d).divide.1 = false) (off : Int) (iv : Nat) : s.sourceEdge d off iv = s.setTd d (s.td d).divide.2 := by
  simp [State.sourceEdge, h, hd]

theorem State.sourceEdge_train {s : State} {d : Nat} (h : ¬ ((s.td d).srcUse.src = 5 ∧ (s.td d).skipEdge = true))
    (hd : (s.td d).divide.1 = true) (off : Int) (iv : Nat) :
    s.sourceEdge d off iv = (s.setTd d (s.td d).divide.2).edge d off iv := by
  simp [State.sourceEdge, h, hd]

theorem State.srcPtp_setTd {s : State} {d : Nat} {t : TickDom} (h : t.srcUse = (s.td d).srcUse) : (s.setTd d t).srcPtp d = s.srcPtp d := by
  simp [State.srcPtp, h]

theorem State.srcServo_setTd {s : State} {d : Nat} {t : TickDom} (h : t.srcUse = (s.td d).srcUse) :
    (s.setTd d t).srcServo d = s.srcServo d := by
  simp [State.srcServo, h]

theorem within2_iff (iv : Nat) : within2 iv = true ↔ 980000 ≤ iv ∧ iv ≤ 1020000 := by
  simp [within2]

/-- What an edge of the train does, said of the domain before the divider. -/
theorem State.sourceEdge_of_train {s : State} {d : Nat} (h : ¬ ((s.td d).srcUse.src = 5 ∧ (s.td d).skipEdge = true))
    (hd : (s.td d).divide.1 = true) (off : Int) (iv : Nat) :
    s.sourceEdge d off iv =
      let u := (s.td d).divide.2.counted
      let good := if s.srcPtp d then s.srcServo d else within2 iv
      match (s.td d).mon with
      | .locked =>
        if (if s.srcPtp d then s.srcServo d else decide (off.natAbs ≤ 50000)) then (s.setTd d { u with missed := 0 }).steer d
        else (s.setTd d u).discard d
      | .holdover =>
        if good then s.setTd d { u with run := u.run + 1 } else (s.setTd d { u with run := 0 }).discard d
      | .acquire =>
        s.setTd d (if !u.runOpen then { u with runOpen := true, run := 0 } else if good then { u with run := u.run + 1 }
          else { u with run := 0 })
      | _ => s.setTd d u := by
  obtain ⟨on, ph, hf⟩ := (s.td d).divide_frame
  have huse : (s.td d).divide.2.srcUse = (s.td d).srcUse := by rw [hf]
  have hmon : (s.td d).divide.2.mon = (s.td d).mon := by rw [hf]
  rw [State.sourceEdge_train h hd, State.edge_eq, State.srcPtp_setTd huse, State.srcServo_setTd huse, State.td_setTd, hmon]
  cases (s.td d).mon <;> simp

/-! ### Missed edges, HOLDOVER, lock and the monitor's interval (O3) -/

theorem State.holdRate_eq (s : State) (d : Nat) : s.holdRate d =
    s.setTd d { s.td d with held16 := if (s.td d).mon = .locked ∧ (s.td d).missed = 0 then (s.td d).meanRate else (s.td d).held16 } := by
  by_cases h : (s.td d).mon = .locked ∧ (s.td d).missed = 0
  · simp only [State.holdRate, State.updTd, if_pos h]
  · simp only [State.holdRate, State.updTd, if_neg h]

theorem State.edgeMissed_locked {s : State} {d : Nat} (h : (s.td d).mon = .locked) : s.edgeMissed d =
    (s.setTd d { s.td d with
      missed := (s.td d).missed + 1
      held16 := if (s.td d).missed = 0 then (s.td d).meanRate else (s.td d).held16 }).inc .tickMissCnt d := by
  simp [State.edgeMissed, h, State.holdRate_eq, State.updTd]

theorem State.setRate_eq (s : State) (d r : Nat) : s.setRate d r =
    let n := 16 * s.baseRate d
    let c := clampRate n r
    s.setTd d { s.td d with rate16 := c, clamp := decide (c ≤ n * 98 / 100 ∨ n * 102 / 100 ≤ c) } := by
  simp only [State.setRate, State.nominal16_eq, State.updTd]

theorem State.holdover_locked {s : State} {d : Nat} (h : (s.td d).mon = .locked) (hm : 16 ≤ (s.td d).missed) : s.holdover d =
    let n := 16 * s.baseRate d
    let c := clampRate n (s.td d).held16
    (((((s.setTd d { s.td d with
      mon := .holdover, run := 0, missed := 0, divOn := false, rate16 := c
      clamp := decide (c ≤ n * 98 / 100 ∨ n * 102 / 100 ≤ c) }).cnt .tickHoldCnt d 15 0 1).flag .tickEvt d 1).event 0x0102 d d).monRecord d
      .locked .holdover) := by
  have h0 : (s.td d).missed ≠ 0 := by omega
  simp only [State.holdover, h, hm, and_self, if_true, State.toHoldover]
  rw [srcRecord_of_ne] <;> simp [State.holdRate_eq, State.setRate_eq, State.updTd, State.flagT, h, h0]

theorem State.mon_steer (s : State) (d : Nat) : ((s.steer d).td d).mon = (s.td d).mon := by
  simp only [State.steer, State.setRate_eq, State.updTd, State.td_setTd]
  rfl

theorem State.rateStep_eq {s : State} {d : Nat} (h : (s.td d).mon ≠ .stepPending) : s.rateStep d =
    let t := s.td d
    let n := 16 * s.baseRate d
    let hr := if t.mon = .locked ∧ t.missed = 0 then t.meanRate else t.held16
    let c := clampRate n hr
    (((s.setTd d { t with
      mon := .stepPending, missed := 0, run := 0, held16 := hr, rate16 := c
      clamp := decide (c ≤ n * 98 / 100 ∨ n * 102 / 100 ≤ c) }).flag .tickEvt d 3).event 0x0103 d d (s.rg .tickMeasRate d)).monRecord d
      t.mon .stepPending := by
  simp only [State.rateStep]
  rw [srcRecord_of_ne] <;> simp [State.holdRate_eq, State.setRate_eq, State.updTd, State.flagT, h]

/-- An edge that steers the generator, then the lock. -/
theorem State.toLocked_steer {s : State} {d : Nat} (h : (s.td d).mon ≠ .locked) : (s.steer d).toLocked d =
    ((((s.steer d).setTd d ((s.steer d).td d).lockedNow).flag .tickEvt d 2).event 0x0101 d d).monRecord d (s.td d).mon .locked := by
  rw [State.toLocked_eq (by rwa [State.mon_steer]), State.mon_steer]

theorem State.locked_acquire {s : State} {d : Nat} (hm : (s.td d).mon = .acquire) (h : 64 ≤ (s.td d).run) :
    s.locked d = ((s.setTd d { s.td d with
      next := (match (s.td d).mark with
        | some k => if (s.td d).srcUse.src = 5 then k + 1 else (s.td d).next
        | none => (s.td d).next)
      issued := (s.td d).issued || (s.td d).mark.isSome }).steer d).toLocked d := by
  simp only [State.locked, h, if_true, hm, State.updTd] <;> rfl

theorem State.locked_holdover {s : State} {d : Nat} (hm : (s.td d).mon = .holdover) (h : 64 ≤ (s.td d).run) :
    s.locked d = (s.steer d).toLocked d := by
  simp only [State.locked, h, if_true, hm]

theorem State.locked_other {s : State} {d : Nat}
    (h : ¬ (64 ≤ (s.td d).run ∧ ((s.td d).mon = .acquire ∨ (s.td d).mon = .holdover))) : s.locked d = s := by
  unfold State.locked
  dsimp only
  split
  · next hr =>
    split
    · next hm => exact absurd ⟨hr, .inl hm⟩ h
    · next hm => exact absurd ⟨hr, .inr hm⟩ h
    · rfl
  · rfl

/-- The monitor's interval ends now (01 R30). -/
def TickDom.IntervalEnds (t : TickDom) : Prop :=
  t.ticking = true ∧ t.issued = true ∧ t.ivFrom = some (t.cnt - 1024) ∧ 1024 ≤ t.cnt

/-- The interval that ends is out of range at nominal rate `n` (01 R30). -/
abbrev TickDom.OutOfRange (t : TickDom) (n : Nat) : Prop :=
  512 ≤ t.edges ∧ (t.mon = .locked ∨ t.mon = .holdover) ∧
    (t.edges * t.rate16 * 100 < n * 1024 * 98 ∨ n * 1024 * 102 < t.edges * t.rate16 * 100)

theorem State.intervalEnd_not {s : State} {d : Nat} (h : ¬ (s.td d).IntervalEnds) : s.intervalEnd d = s := by
  unfold State.intervalEnd
  refine if_neg ?_
  simpa [TickDom.IntervalEnds, and_assoc] using h

theorem State.intervalEnd_ends {s : State} {d : Nat} (h : (s.td d).IntervalEnds) :
    s.intervalEnd d =
      let t := s.td d
      let n := 16 * s.baseRate d
      let u := (s.setRg .tickMeasRate d (t.edges * t.rate16 / 1024 % 2 ^ 24)).setTd d
        { t with edges := 0, outRange := decide (t.OutOfRange n), ivFrom := some t.cnt }
      if t.OutOfRange n ∧ t.outRange = true then u.rateStep d else u := by
  have hc : ((s.td d).ticking && (s.td d).issued && (s.td d).ivFrom == some ((s.td d).cnt - 1024) && decide (1024 ≤ (s.td d).cnt)) = true := by
    simpa [TickDom.IntervalEnds, and_assoc] using h
  have ho : (decide (512 ≤ (s.td d).edges) && ((s.td d).mon == .locked || (s.td d).mon == .holdover) &&
      (decide ((s.td d).edges * (s.td d).rate16 * 100 < 16 * s.baseRate d * 1024 * 98) ||
        decide (16 * s.baseRate d * 1024 * 102 < (s.td d).edges * (s.td d).rate16 * 100))) =
      decide ((s.td d).OutOfRange (16 * s.baseRate d)) := by
    simp [Bool.decide_and, Bool.decide_or, Bool.and_assoc, beq_eq_decide]
  unfold State.intervalEnd
  dsimp only
  rw [if_pos hc, State.nominal16_eq, ho]
  simp only [State.updTd, State.td_setRg, Bool.and_eq_true, decide_eq_true_iff]

theorem tickMeasRate_off_ne : ∀ d : Dom, RegName.tickMeasRate.off d 0 ≠ RegName.tickCtl.off d 0 := by decide

theorem State.baseRate_setMeasRate (s : State) (d : Dom) (v : Nat) : (s.setRg .tickMeasRate d v).baseRate d = s.baseRate d := by
  unfold State.baseRate State.bit
  rw [State.rg_setRg_ne _ (tickMeasRate_off_ne d)]

/-- Settles O3. -/
theorem sourceMonitor : Obligations.SourceMonitor := by
  unfold Obligations.SourceMonitor
  refine ⟨fun d off iv s => ?_, fun d s => ⟨fun h => ?_, fun h => ?_⟩, fun d s => ⟨fun h hm => ?_, fun h => ?_⟩,
    fun d s => ?_, fun d s => ?_⟩
  · have hgives (u : State) (h : s.sourceEdge d off iv = u) : exec (.sourceEdge d off iv) s = .next (finish u) := congrArg done h
    extract_lets t m divided t1 t2 near good meets gives
    have ht1 : t1 = t.divide.2 := t.divide_snd.symm
    have ht2 : t2 = t.divide.2.counted := by
      obtain ⟨on, ph, hf⟩ := t.divide_frame
      simp only [t2, ht1, hf]
      rfl
    by_cases hsk : t.srcUse.src = 5 ∧ t.skipEdge = true
    · have hd : t.divide.2 = t := by rw [TickDom.divide_of_not]; omega
      rw [if_pos hsk]
      refine hgives _ ((State.sourceEdge_discarded hsk off iv).trans ?_)
      rw [ht2, hd]
    rw [if_neg hsk]
    by_cases hdiv : divided ∧ t.divOn = true ∧ (t.divPh + 1) % m ≠ 0
    · have hd : t.divide.1 = false := by
        rw [← Bool.not_eq_true, TickDom.divide_fst]
        exact not_not.mpr hdiv
      rw [if_pos hdiv]
      exact hgives _ ((State.sourceEdge_between hsk hd off iv).trans (by rw [ht1]))
    rw [if_neg hdiv]
    have hedge := State.sourceEdge_of_train hsk (t.divide_fst.mpr hdiv) off iv
    have hrun : t2.run = t.run ∧ t2.runOpen = t.runOpen := by
      obtain ⟨on, ph, hf⟩ := t.divide_frame
      rw [ht2, hf]
      exact ⟨rfl, rfl⟩
    have hgood : (if s.srcPtp d then s.srcServo d else within2 iv) = true ↔ good := by
      unfold good near
      split
      · rfl
      · exact within2_iff iv
    have hmeets : (if s.srcPtp d then s.srcServo d else decide (off.natAbs ≤ 50000)) = true ↔ meets := by
      unfold meets
      split
      · rfl
      · exact decide_eq_true_iff
    have ht : s.td d = t := rfl
    dsimp only at hedge
    rw [ht, ← ht2] at hedge
    clear_value t2
    refine ⟨fun hm h => hgives _ ?_, fun hm h => hgives _ ?_, fun hm h => hgives _ ?_, fun hm h => hgives _ ?_,
      fun hm h => hgives _ ?_, fun hm h h' => hgives _ ?_, fun hm h h' => hgives _ ?_, fun hm => hgives _ ?_⟩
    · rw [hedge, hm]
      exact if_pos (hmeets.mpr h)
    · rw [hedge, hm]
      exact if_neg (mt hmeets.mp h)
    · rw [hedge, hm, ← hrun.1]
      exact if_pos (hgood.mpr h)
    · rw [hedge, hm]
      exact if_neg (mt hgood.mp h)
    · rw [hedge, hm]
      exact congrArg (s.setTd d) (if_pos (by rw [hrun.2, h, Bool.not_false]))
    · rw [hedge, hm, ← hrun.1]
      exact congrArg (s.setTd d) ((if_neg (by simp [hrun.2, h])).trans (if_pos (hgood.mpr h')))
    · rw [hedge, hm]
      exact congrArg (s.setTd d) ((if_neg (by simp [hrun.2, h])).trans (if_neg (mt hgood.mp h')))
    · obtain hm | hm | hm := hm <;> rw [hedge, hm]
  · exact congrArg done (State.edgeMissed_locked h)
  · exact congrArg done (if_neg h)
  · exact congrArg done (State.holdover_locked h hm)
  · refine congrArg done (if_neg ?_)
    rintro ⟨h1, h2⟩
    obtain h | h := h
    · exact h h1
    · exact absurd h2 (by omega)
  · extract_lets t lock
    refine ⟨fun hm h => congrArg done ?_, fun hm h => congrArg done ?_, fun h => congrArg done ?_⟩
    · rw [State.locked_acquire hm h, State.toLocked_steer (by rw [State.td_setTd]; exact fun e => nomatch hm.symm.trans e),
        State.td_setTd] <;> rfl
    · rw [State.locked_holdover hm h, State.toLocked_steer (fun e => nomatch hm.symm.trans e)]
    · exact State.locked_other h
  · extract_lets t r n ends out u hr c x t1
    refine ⟨fun he h => congrArg done ?_, fun he ho h => ?_, fun he => congrArg done ?_⟩
    · rw [State.intervalEnd_ends he]
      exact if_neg h
    · refine congrArg done ?_
      rw [State.intervalEnd_ends he]
      refine (if_pos ⟨ho, h⟩).trans ?_
      rw [State.rateStep_eq (by rw [State.td_setTd]; exact fun e => by rcases ho.2.1 with hm | hm <;> exact nomatch hm.symm.trans e)]
      simp only [State.td_setTd, State.setTd_setTd, u, x, t1, State.baseRate_setTd, State.baseRate_setMeasRate]
      rfl
    · exact State.intervalEnd_not he

end Sys2Proof.Machine
end

section
/-!
SUPPORT and proof of O4: a tick of a domain, and a stop at a frame tick.
-/

namespace Sys2Proof.Machine

@[simp] theorem State.td_record (s : State) (k u m : Nat) (b : List Byte) (d : Nat) : (s.record k u m b).td d = s.td d :=
  State.td_of_eq (by simp) (by simp) d

@[simp] theorem State.td_finish (s : State) (d : Nat) : (finish s).td d = s.td d := rfl

/-- A record of a transition changes no domain, no stream and no execution. -/
theorem srcRecord_keeps (old s : State) (d : Nat) : (srcRecord old s d).td d = s.td d ∧ (srcRecord old s d).streams = s.streams ∧
    (srcRecord old s d).execs = s.execs := by
  unfold srcRecord
  split <;> simp

theorem State.stoppedEvt_keeps (s : State) (d : Nat) : (s.stoppedEvt d).td d = s.td d ∧ (s.stoppedEvt d).streams = s.streams ∧
    (s.stoppedEvt d).execs = s.execs := by
  simp [State.stoppedEvt]

@[simp] theorem State.portsStop_streams (s : State) (p : Nat) : (s.portsStop p).streams = s.streams :=
  State.each_keeps (fun t => t.streams) (fun t p => t.updPort p portStopped) (fun _ _ => rfl) _ s
@[simp] theorem State.portsStop_execs (s : State) (p : Nat) : (s.portsStop p).execs = s.execs :=
  State.each_keeps (fun t => t.execs) (fun t p => t.updPort p portStopped) (fun _ _ => rfl) _ s

/-- A stop leaves the next index, the streams and their work (01 R32, R33). -/
theorem State.stopDom_keeps (s : State) (d : Nat) :
    ((s.stopDom d).td d).mon = (if (s.td d).stopReq then .off else .stopped) ∧ ((s.stopDom d).td d).next = (s.td d).next ∧
      (s.stopDom d).streams = s.streams ∧ (s.stopDom d).execs = s.execs := by
  unfold State.stopDom
  dsimp only
  split
  · simp [State.stoppedEvt_keeps, srcRecord_keeps, State.toOff, State.updTd]
  · split
    · simp [State.stoppedEvt_keeps, srcRecord_keeps, State.updTd]
    · have hp (x : State) (p : Pwr) : ({ x with pwr := p } : State).td d = x.td d := rfl
      rw [hp]
      simp [State.updTd]

theorem State.tickEdge_stop {s0 : State} {d : Nat} (h0 : (s0.td d).ticking = true) :
    let t := (s0.td d).next
    let s := if s0.replay.active then s0.playTick d t else s0
    (s.td d).ticking = true → t % max 1 (s.td d).frameDiv = 0 → s.stopsHere d = true → s0.tickEdge d = s.stopDom d := by
  intro t s h1 hf hs
  unfold State.tickEdge
  rw [if_neg (by simp [h0])]
  refine (if_neg (by rw [Bool.not_eq_true', Bool.not_eq_false]; exact h1)).trans (if_pos ?_)
  exact (Bool.and_eq_true _ _).mpr ⟨beq_iff_eq.mpr hf, hs⟩

theorem State.tickEdge_run {s0 : State} {d : Nat} (h0 : (s0.td d).ticking = true) :
    let t := (s0.td d).next
    let s := if s0.replay.active then s0.playTick d t else s0
    (s.td d).ticking = true → ¬ (t % max 1 (s.td d).frameDiv = 0 ∧ s.stopsHere d = true) →
    s0.tickEdge d = s.runTick d t (decide (t % max 1 (s.td d).frameDiv = 0)) := by
  intro t s h1 hs
  unfold State.tickEdge
  rw [if_neg (by simp [h0])]
  refine (if_neg (by rw [Bool.not_eq_true', Bool.not_eq_false]; exact h1)).trans (if_neg ?_)
  rw [Bool.and_eq_true]
  exact fun h => hs ⟨beq_iff_eq.mp h.1, h.2⟩

/-- Settles O4. -/
theorem tickIsIssued : Obligations.TickIsIssued := by
  unfold Obligations.TickIsIssued
  refine ⟨fun d s0 h0 => ?_, fun d s h => congrArg done (if_pos (by simp [h]))⟩
  extract_lets t s frame s1 s2 s3 s4 s5
  refine fun h1 => ⟨fun hs => congrArg done ?_, fun hf hs => ?_⟩
  · rw [State.tickEdge_run h0 h1 hs]
    simp only [State.runTick, decide_eq_true_iff]
    rfl
  · obtain ⟨hm, hn, hst, he⟩ := s.stopDom_keeps d
    exact ⟨finish (s.stopDom d), congrArg done (State.tickEdge_stop h0 h1 hf hs), hm, hn, hst, he⟩

end Sys2Proof.Machine
end

section
/-!
SUPPORT and proofs of O5, O6, O7 and O9: streams read and written, the commands a handle names, and opening.
-/

namespace Sys2Proof.Machine

/-! ### Reading and writing a stream -/

theorem State.stream_of_streams {s t : State} (h : t.streams = s.streams) (j : Nat) : t.stream j = s.stream j := by
  unfold State.stream
  rw [h]

@[simp] theorem State.stream_setStream (s : State) (i : Nat) (x : Stream) : (s.setStream i x).stream i = x :=
  Tab.getD_set_same ..

theorem State.stream_setStream_ne (s : State) {i j : Nat} (h : j ≠ i) (x : Stream) : (s.setStream i x).stream j = s.stream j :=
  Tab.getD_set_ne _ h.symm ..

@[simp] theorem State.stream_updStream (s : State) (i : Nat) (f : Stream → Stream) : (s.updStream i f).stream i = f (s.stream i) :=
  Tab.getD_set_same ..

theorem State.stream_updStream_ne (s : State) {i j : Nat} (h : j ≠ i) (f : Stream → Stream) : (s.updStream i f).stream j = s.stream j :=
  Tab.getD_set_ne _ h.symm ..

/-! ### Commands on a stream that a handle names -/

theorem State.onHandle_found {s : State} {h i : Nat} (f : State → Nat → Rep) (hf : (s.dirCheck (h % 2 ^ 17)).findHandle h = some i) :
    s.onHandle h f = f (s.dirCheck (h % 2 ^ 17)) i := by
  simp only [State.onHandle, hf]

/-- A message whose handle names a stream is answered as its rule says. -/
theorem exec_onHandle {c : Instr} {h : Hdr} {s u : State} {x i st : Nat} {pay : List Byte} {f : State → Nat → Rep}
    (ha : s.accepts c h) (hf : ((s.woken c).dirCheck (x % 2 ^ 17)).findHandle x = some i)
    (hr : f ((s.woken c).dirCheck (x % 2 ^ 17)) i = ⟨st, pay, u, false⟩) :
    done (runMsg c (fun t => t.onHandle x f) s) = answered c h s u st pay :=
  done_runMsg ha ((State.onHandle_found f hf).trans hr)

/-! ### Closing (02 R56) -/

theorem State.closeDrain_runs {s : State} {i : Nat} (h : (s.stream i).dir.state ∈ [SState.idle, .run, .paused, .ended])
    (hc : (s.stream i).isClosing = false) : s.closeDrain i =
      .ok (s.setStream i { s.stream i with dir := { (s.stream i).dir with state := .drain } }) := by
  have hf : (s.stream i).dir.state ≠ .faulted ∧ (s.stream i).dir.state ≠ .drain := by
    constructor <;> rintro e <;> simp [e] at h
  simp [State.closeDrain, hf, hc, State.updStream]

theorem State.closeDrain_again {s : State} {i : Nat} (h : (s.stream i).dir.state ≠ .faulted)
    (hc : (s.stream i).dir.state = .drain ∨ (s.stream i).isClosing = true) : s.closeDrain i = .ok s := by
  simp [State.closeDrain, h, hc]

theorem State.closeDrain_faulted {s : State} {i : Nat} (h : (s.stream i).dir.state = .faulted) : s.closeDrain i = .no s 0x111 :=
  if_pos h

/-- The directory record of an entry is the same in both states. -/
def State.SameDir (i : Nat) (s t : State) : Prop := (t.stream i).dir = (s.stream i).dir

theorem State.SameDir.of_streams {i : Nat} {s t : State} (h : t.streams = s.streams) : State.SameDir i s t :=
  congrArg Stream.dir (State.stream_of_streams h i)

theorem State.SameDir.trans {i : Nat} {s t u : State} (h : State.SameDir i s t) (k : State.SameDir i t u) : State.SameDir i s u :=
  Eq.trans k h

theorem State.SameDir.updStream (s : State) (i : Nat) {f : Stream → Stream} (h : (f (s.stream i)).dir = (s.stream i).dir) :
    State.SameDir i s (s.updStream i f) := by
  unfold State.SameDir
  rw [State.stream_updStream, h]

@[simp] theorem State.freeSlot_streams (s : State) (q n k : Nat) : (s.freeSlot q n k).streams = s.streams := by
  unfold State.freeSlot
  split
  · rfl
  · dsimp only
    split <;> rfl

theorem State.cancelExport_sameDir (s : State) (i : Nat) (lost : Bool) : State.SameDir i s (s.cancelExport i lost) := by
  unfold State.cancelExport
  dsimp only
  split
  · exact .of_streams rfl
  · split
    · exact .of_streams rfl
    · refine .trans (.updStream s i ?_) (.of_streams (State.event_streams ..))
      rfl

theorem State.dropSwaps_streams (s : State) (i : Nat) : (s.dropSwaps i).streams = s.streams := by
  unfold State.dropSwaps
  dsimp only
  generalize s.swap.flatMap _ = ops
  induction ops generalizing s with
  | nil => rfl
  | cons o ops ih =>
    rw [List.foldl_cons, ih]
    cases o <;> simp

theorem State.releaseSlot_streams (s : State) (i : Nat) : (s.releaseSlot i).streams = s.streams := by
  unfold State.releaseSlot
  dsimp only
  split <;> simp

theorem State.leaveBatch_sameDir (s : State) (i : Nat) : State.SameDir i s (s.leaveBatch i) :=
  (State.SameDir.updStream s i (f := fun x => { x with life := { x.life with batch := none } }) rfl).trans (.of_streams rfl)

theorem State.setRefcnt_streams (s : State) (v n : Nat) : (s.setRefcnt v n).streams = s.streams := by
  simp [State.setRefcnt]

theorem State.dropRef_streams (s : State) (v : Nat) : (s.dropRef v).streams = s.streams := by
  unfold State.dropRef
  dsimp only
  split <;> simp [State.setRefcnt_streams]

theorem State.groupTidy_streams (s : State) (g : Option Nat) : (s.groupTidy g).streams = s.streams := by
  unfold State.groupTidy
  split
  · rfl
  · split <;> rfl

/-- A close that ends: an entry with the same record but its generation and its state, then the event. -/
theorem State.finishClose_open {s : State} {i : Nat} (h : (s.stream i).isOpen = true) :
    ∃ v : State, s.finishClose i = v.event 0x0203 ((s.stream i).handle i) (s.stream i).dir.domain ∧
      (v.stream i).dir = { (s.stream i).dir with state := .free, gen := nextGen (s.stream i).dir.gen } := by
  unfold State.finishClose
  rw [if_neg (by simp [h])]
  refine ⟨_, rfl, ?_⟩
  rw [State.stream_of_streams (State.groupTidy_streams _ _), State.stream_updStream, State.stream_of_streams (State.dropRef_streams _ _)]
  have hs : State.SameDir i s (((((s.cancelExport i true).dropSwaps i).releaseSlot i).leaveBatch i).deadRows i) :=
    ((((State.cancelExport_sameDir s i true).trans (.of_streams (State.dropSwaps_streams _ i))).trans
      (.of_streams (State.releaseSlot_streams _ i))).trans (State.leaveBatch_sameDir _ i)).trans (.of_streams rfl)
  unfold Stream.freed
  rw [hs]

theorem State.drained_iff (s : State) (i : Nat) : s.drained i =
    if (s.stream i).dir.state = .drain ∧ (s.stream i).del.queue = [] ∧ s.atRest i = true then (s.sendHostBuf i).finishClose i else s := by
  simp [State.drained, and_assoc]

theorem State.abortDone_iff (s : State) (i : Nat) : s.abortDone i =
    if (s.stream i).isOpen = true ∧ (s.stream i).isClosing = true ∧ s.atRest i = true then s.finishClose i else s := by
  simp [State.abortDone, and_assoc]

/-- Settles O6. -/
theorem streamCloses : Obligations.StreamCloses := by
  unfold Obligations.StreamCloses
  refine ⟨⟨fun h x s i ha => ?_, fun h x s i ha => ?_⟩, fun i s => ?_, fun i s => ?_, fun i s ho => ?_⟩
  · intro c w hf
    exact ⟨fun hs hc => exec_onHandle ha hf (State.closeDrain_runs hs hc),
      fun hs hc => exec_onHandle ha hf (State.closeDrain_again hs hc),
      fun hs => exec_onHandle ha hf (State.closeDrain_faulted hs)⟩
  · intro c w hf y
    exact exec_onHandle (f := fun s i => .ok (s.closeAbort i)) ha hf rfl
  · exact ⟨fun h1 h2 h3 => congrArg done ((s.drained_iff i).trans (if_pos ⟨h1, h2, h3⟩)),
      fun h => congrArg done ((s.drained_iff i).trans (if_neg h))⟩
  · exact ⟨fun h1 h2 h3 => congrArg done ((s.abortDone_iff i).trans (if_pos ⟨h1, h2, h3⟩)),
      fun h => congrArg done ((s.abortDone_iff i).trans (if_neg h))⟩
  · obtain ⟨v, hv, hd⟩ := State.finishClose_open ho
    have hu : ((s.finishClose i).stream i).dir = { (s.stream i).dir with state := .free, gen := nextGen (s.stream i).dir.gen } := by
      rw [hv, State.stream_of_streams (State.event_streams ..), hd]
    refine ⟨by rw [hu], by rw [hu], State.findHandle_eq_none (.inr ?_), v, hv⟩
    have hi : (s.stream i).handle i % 2 ^ 17 = i.val := State.handle_index (s := s) i.isLt
    rw [hi, Stream.isOpen, hu]
    rfl

/-! ### Pause and resume (02 R56, R73) -/

theorem Stream.refuse_faulted {x : Stream} (h : x.dir.state = .faulted) : x.refuse = 0x111 := if_pos h

theorem Stream.refuse_closed {x : Stream} (h : x.dir.state ≠ .faulted) (hc : x.dir.state = .drain ∨ x.isClosing = true) :
    x.refuse = 0x112 := by
  simp [Stream.refuse, h, hc]

theorem Stream.refuse_none {x : Stream} (h : x.dir.state ≠ .faulted) (hd : x.dir.state ≠ .drain) (hc : x.isClosing = false) :
    x.refuse = 0 := by
  simp [Stream.refuse, h, hd, hc]

theorem State.pauseRep_refused {s : State} {i : Nat} (h : (s.stream i).refuse ≠ 0) : s.pauseRep i = .no s (s.stream i).refuse :=
  if_pos h

theorem State.pauseRep_paused {s : State} {i : Nat} (h : (s.stream i).dir.state = .paused) (hc : (s.stream i).isClosing = false) :
    s.pauseRep i = .ok s := by
  simp [State.pauseRep, h, Stream.refuse_none (x := s.stream i) (by simp [h]) (by simp [h]) hc]

theorem State.pauseRep_runs {s : State} {i : Nat} (h : (s.stream i).dir.state ∈ [SState.idle, .run, .ended])
    (hc : (s.stream i).isClosing = false) :
    s.pauseRep i = .ok (s.each (s.withGroup i) (fun s j => s.updStream j Stream.pause)) := by
  have hn : (s.stream i).dir.state ≠ .faulted ∧ (s.stream i).dir.state ≠ .drain ∧ (s.stream i).dir.state ≠ .paused := by
    refine ⟨?_, ?_, ?_⟩ <;> rintro e <;> simp [e] at h
  simp [State.pauseRep, hn, Stream.refuse_none hn.1 hn.2.1 hc]

theorem State.resumeRep_refused {s : State} {i : Nat} (h : (s.stream i).refuse ≠ 0) : s.resumeRep i = .no s (s.stream i).refuse :=
  if_pos h

theorem State.resumeRep_paused {s : State} {i : Nat} (h : (s.stream i).dir.state = .paused) (hc : (s.stream i).isClosing = false) :
    s.resumeRep i = .ok (s.each (s.withGroup i) (fun s j => s.resume1 j)) := by
  simp [State.resumeRep, h, Stream.refuse_none (x := s.stream i) (by simp [h]) (by simp [h]) hc]

theorem State.resumeRep_runs {s : State} {i : Nat} (h : (s.stream i).dir.state ∈ [SState.idle, .run, .ended])
    (hc : (s.stream i).isClosing = false) : s.resumeRep i = .ok s := by
  have hn : (s.stream i).dir.state ≠ .faulted ∧ (s.stream i).dir.state ≠ .drain ∧ (s.stream i).dir.state ≠ .paused := by
    refine ⟨?_, ?_, ?_⟩ <;> rintro e <;> simp [e] at h
  simp [State.resumeRep, hn, Stream.refuse_none hn.1 hn.2.1 hc]

theorem State.withGroup_single {s : State} {i : Nat} (h : (s.stream i).dir.group = none) : s.withGroup i = [i] := by
  simp [State.withGroup, h]

theorem Stream.pause_runs {x : Stream} (h : x.dir.state ∈ [SState.idle, .run, .ended]) (hc : x.isClosing = false) :
    x.pause = { x with dir := { x.dir with state := .paused }, del := { x.del with taking := false } } := by
  refine if_pos ?_
  simp only [List.mem_cons, List.not_mem_nil, or_false] at h
  rcases h with h | h | h <;> simp [Stream.canPause, h, hc]

theorem State.resume1_paused {s : State} {i : Nat} (h : (s.stream i).dir.state = .paused) (hc : (s.stream i).isClosing = false) :
    s.resume1 i = (s.setStream i { s.stream i with dir := { (s.stream i).dir with state := .idle } }).openDep i := by
  simp [State.resume1, h, hc, State.updStream]

/-- Settles O7. -/
theorem streamPausesAndResumes : Obligations.StreamPausesAndResumes := by
  unfold Obligations.StreamPausesAndResumes
  refine ⟨fun h x s i ha => ?_, fun h x s i ha => ?_, fun w i => ?_⟩
  · intro c w hf
    refine ⟨fun hg hs hc => exec_onHandle ha hf ?_, fun hs hc => exec_onHandle ha hf (State.pauseRep_runs hs hc),
      fun hs hc => exec_onHandle ha hf (State.pauseRep_paused hs hc), fun hs => exec_onHandle ha hf ?_,
      fun hs hc => exec_onHandle ha hf ?_⟩
    · refine (State.pauseRep_runs hs hc).trans ?_
      rw [State.withGroup_single hg]
      exact congrArg (fun y => Rep.ok (w.setStream i y)) (Stream.pause_runs hs hc)
    · have hr := Stream.refuse_faulted hs
      exact (State.pauseRep_refused (by rw [hr]; decide)).trans (by rw [hr]; rfl)
    · have hr := Stream.refuse_closed hs hc
      exact (State.pauseRep_refused (by rw [hr]; decide)).trans (by rw [hr]; rfl)
  · intro c w hf
    refine ⟨fun hg hs hc => exec_onHandle ha hf ?_, fun hs hc => exec_onHandle ha hf (State.resumeRep_paused hs hc),
      fun hs hc => exec_onHandle ha hf (State.resumeRep_runs hs hc), fun hs => exec_onHandle ha hf ?_,
      fun hs hc => exec_onHandle ha hf ?_⟩
    · refine (State.resumeRep_paused hs hc).trans ?_
      rw [State.withGroup_single hg]
      exact congrArg Rep.ok (State.resume1_paused hs hc)
    · have hr := Stream.refuse_faulted hs
      exact (State.resumeRep_refused (by rw [hr]; decide)).trans (by rw [hr]; rfl)
    · have hr := Stream.refuse_closed hs hc
      exact (State.resumeRep_refused (by rw [hr]; decide)).trans (by rw [hr]; rfl)
  · unfold State.withGroup
    generalize (w.stream i).dir.group = g
    cases g <;> rfl

/-! ### Statistics and groups (02 R61, R531) -/

/-- Whether the group that a command names takes the stream (02 R70). -/
def State.groupFits (s : State) (i : Nat) (into : Option Nat) : Bool :=
  match into with
  | none => true
  | some n => s.groupOk n i (s.stream i).dir.domain (s.stream i).dir.d (s.stream i).dir.dest

/-- The phase of the stream once it is in the group. -/
def State.phaseIn (s : State) (i : Nat) (into : Option Nat) : Nat :=
  match into.bind (fun n => s.groupPhase n i) with
  | some p => p
  | none => (s.stream i).dir.phase

section
variable {s : State} {i : Nat} {g : Half}

theorem State.setGroupRep_refused (h : (s.stream i).refuse ≠ 0) : s.setGroupRep i g = .no s (s.stream i).refuse := if_pos h

theorem State.setGroupRep_mismatch (hr : (s.stream i).refuse = 0) (h : (s.stream i).dir.be = true ∨ s.groupFits i (grpOf g) = false) :
    s.setGroupRep i g = .no s 0x109 := by
  unfold State.setGroupRep
  refine (if_neg (not_not.mpr hr)).trans ?_
  cases hb : (s.stream i).dir.be
  · have hf := h.resolve_left (by simp [hb])
    exact if_pos (congrArg Bool.not hf)
  · rfl

theorem State.setGroupRep_fits (hr : (s.stream i).refuse = 0) (hb : (s.stream i).dir.be = false) (hf : s.groupFits i (grpOf g) = true) :
    s.setGroupRep i g =
      if s.phaseIn i (grpOf g) = (s.stream i).dir.phase then .ok ((s.unreserve i).setPend i ⟨grpOf g, none, s.phaseIn i (grpOf g)⟩)
      else
        match (s.unreserve i).voiceModels (s.stream i).dir.pitch (s.stream i).dir.voice with
        | none => .no s 0x105
        | some m =>
          match (s.unreserve i).admission (s.stream i).dir.pitch (s.stream i).dir.domain (s.stream i).dir.d m.1 m.2
              (some (s.phaseIn i (grpOf g))) with
          | .no st bw => .no (s.admRefused (s.stream i).dir.pitch bw) st
          | .ok pl =>
            let b := (s.unreserve i).formBatch (s.stream i).dir.pitch (s.stream i).dir.domain (s.stream i).dir.d m.2 pl
            .ok ((b.2.updBatch b.1 (fun y => { y with reserved := addMember i y.reserved })).setPend i
              ⟨grpOf g, some b.1, s.phaseIn i (grpOf g)⟩) := by
  unfold State.setGroupRep
  refine (if_neg (not_not.mpr hr)).trans ((if_neg (by simp [hb])).trans ?_)
  exact (if_neg (fun e => by simpa [hf] using (show (!s.groupFits i (grpOf g)) = true from e))).trans rfl
end

theorem State.statsRep_claim (s : State) (i sess : Nat) :
    s.statsRep i sess true = .ok (s.setStream i { s.stream i with del := { (s.stream i).del with sess := sess } })
      ({ s.stream i with del := { (s.stream i).del with sess := sess } } : Stream).record := by
  simp only [State.statsRep, if_true, State.stream_updStream]
  rfl

/-- Settles O9. -/
theorem streamStatsAndGroup : Obligations.StreamStatsAndGroup := by
  unfold Obligations.StreamStatsAndGroup
  refine ⟨fun h x claim s i ha => ?_, fun h x g s i ha => ?_⟩
  · intro c w hf y
    refine ⟨fun hc => ?_, fun hc => ?_⟩ <;> subst hc
    · exact exec_onHandle (f := fun s i => s.statsRep i h.session false) ha hf rfl
    · refine exec_onHandle (f := fun s i => s.statsRep i h.session true) ha hf (State.statsRep_claim ..)
  · intro c w hf d into fits ph u
    have hans {u' : State} {st : Nat} (hr : w.setGroupRep i g = ⟨st, [], u', false⟩) : exec c s = answered c h s u' st [] :=
      exec_onHandle (f := fun s i => s.setGroupRep i g) ha hf hr
    refine ⟨fun hs => hans ?_, fun hs hc => hans ?_, fun hs hc => ?_⟩
    · have hr := Stream.refuse_faulted hs
      exact (State.setGroupRep_refused (by rw [hr]; decide)).trans (by rw [hr]; rfl)
    · have hr := Stream.refuse_closed hs hc
      exact (State.setGroupRep_refused (by rw [hr]; decide)).trans (by rw [hr]; rfl)
    have hr : (w.stream i).refuse = 0 := by
      refine Stream.refuse_none ?_ ?_ hc <;> intro e <;> simp [d, e] at hs
    refine ⟨fun h => hans (State.setGroupRep_mismatch hr h), fun hb hfit hp => ?_, fun hb hfit hp hv => ?_, fun hb hfit hp m hv => ?_⟩
    · exact hans ((State.setGroupRep_fits hr hb hfit).trans (if_pos hp))
    · refine hans ((State.setGroupRep_fits hr hb hfit).trans ((if_neg hp).trans ?_))
      rw [hv]
      rfl
    · have hfits := (State.setGroupRep_fits hr hb hfit).trans (if_neg hp)
      rw [hv] at hfits
      refine ⟨fun st bw had => hans (hfits.trans ?_), fun pl had => hans (hfits.trans ?_)⟩
      · have had' : (w.unreserve i).admission (w.stream i).dir.pitch (w.stream i).dir.domain (w.stream i).dir.d m.1 m.2
          (some (w.phaseIn i (grpOf g))) = .no st bw := had
        simp only [had']
        rfl
      · have had' : (w.unreserve i).admission (w.stream i).dir.pitch (w.stream i).dir.domain (w.stream i).dir.d m.1 m.2
          (some (w.phaseIn i (grpOf g))) = .ok pl := had
        simp only [had']
        rfl

/-! ### Opening (02 R53, R54) -/

/-- What the members of a batch and its frame batch leave of a stream. -/
def Stream.Joined (x y : Stream) : Prop :=
  ∃ ph d b, y = { x with dir := { x.dir with phase := ph, d := d }, life := { x.life with batch := b } }

/-- An open touches the directory, the voice's entry, the batches and memory's checks, nothing else. -/
def State.OpenFrame (s t : State) : Prop :=
  t.pitches = s.pitches ∧ t.ctxs = s.ctxs ∧ t.models = s.models ∧ t.execs = s.execs ∧ t.groups = s.groups ∧ t.td0 = s.td0 ∧
    t.td1 = s.td1

theorem State.OpenFrame.trans {s t u : State} (h : s.OpenFrame t) (k : t.OpenFrame u) : s.OpenFrame u := by
  obtain ⟨a1, a2, a3, a4, a5, a6, a7⟩ := h
  obtain ⟨b1, b2, b3, b4, b5, b6, b7⟩ := k
  exact ⟨b1.trans a1, b2.trans a2, b3.trans a3, b4.trans a4, b5.trans a5, b6.trans a6, b7.trans a7⟩

theorem State.OpenFrame.rfl {s : State} : s.OpenFrame s := ⟨Eq.refl _, Eq.refl _, Eq.refl _, Eq.refl _, Eq.refl _, Eq.refl _, Eq.refl _⟩

theorem State.fetchVoice_frame (s : State) (v : Nat) : s.OpenFrame (s.fetchVoice v) ∧ (s.fetchVoice v).streams = s.streams := by
  unfold State.fetchVoice
  split
  · exact ⟨.rfl, rfl⟩
  · dsimp only
    split
    · exact ⟨.rfl, rfl⟩
    · split <;> exact ⟨.rfl, rfl⟩

theorem State.addRef_frame (s : State) (v : Nat) : s.OpenFrame (s.addRef v) ∧ (s.addRef v).streams = s.streams := by
  unfold State.addRef State.setRefcnt State.OpenFrame
  simp

theorem State.formBatch_frame (s : State) (p dom d : Nat) (voc : Model) (pl : Place) :
    s.OpenFrame (s.formBatch p dom d voc pl).2 ∧ (s.formBatch p dom d voc pl).2.streams = s.streams := by
  unfold State.formBatch
  split <;> exact ⟨.rfl, rfl⟩

theorem State.joinFrame_frame (s : State) (i p q a : Nat) : s.OpenFrame (s.joinFrame i p q a) ∧ (s.joinFrame i p q a).streams = s.streams := by
  unfold State.joinFrame
  dsimp only
  split <;> exact ⟨.rfl, rfl⟩

/-- A stream that joins a batch keeps all but its phase, d and batch; other streams keep everything. -/
theorem State.joinBatch_frame (s : State) (i b aco : Nat) : s.OpenFrame (s.joinBatch i b aco) ∧
    (s.stream i).Joined ((s.joinBatch i b aco).stream i) ∧ ∀ j, j ≠ i → (s.joinBatch i b aco).stream j = s.stream j := by
  unfold State.joinBatch
  split
  · exact ⟨.rfl, ⟨_, _, _, rfl⟩, fun _ _ => rfl⟩
  · dsimp only
    obtain ⟨hf, hs⟩ := State.joinFrame_frame ((s.updBatch b _).updStream i _) i _ _ aco
    refine ⟨.trans .rfl hf, ?_, fun j hj => ?_⟩
    · rw [State.stream_of_streams hs, State.stream_updStream]
      exact ⟨_, _, _, rfl⟩
    · rw [State.stream_of_streams hs, State.stream_updStream_ne _ hj]
      rfl

theorem Stream.Joined.rfl (x : Stream) : x.Joined x := ⟨_, _, _, Eq.refl _⟩

/-- An accepted open: a new stream in the lowest free entry, which may join a batch; other streams keep everything. -/
theorem State.openStream_opens (s : State) (p : OpenParams) (sess : Nat) {r : OpenRes} (hr : ∀ st bw, r ≠ .no st bw) :
    (s.openStream p sess r).1 = s.freeIndex.getD 0 ∧
    (∃ cls q sd, (s.newStream p (s.freeIndex.getD 0) sess cls q sd).Joined ((s.openStream p sess r).2.stream (s.freeIndex.getD 0))) ∧
    (∀ j, j ≠ s.freeIndex.getD 0 → (s.openStream p sess r).2.stream j = s.stream j) ∧ s.OpenFrame (s.openStream p sess r).2 := by
  generalize hi : s.freeIndex.getD 0 = i
  have ht : ∃ t : State, t = ((s.fetchVoice p.voice.toNat).addRef p.voice.toNat).dirWritten i ∧ s.OpenFrame t ∧ t.streams = s.streams := by
    obtain ⟨f1, s1⟩ := s.fetchVoice_frame p.voice.toNat
    obtain ⟨f2, s2⟩ := (s.fetchVoice p.voice.toNat).addRef_frame p.voice.toNat
    exact ⟨_, rfl, f1.trans f2, s2.trans s1⟩
  obtain ⟨t, htd, hf, hs⟩ := ht
  cases r with
  | no st bw => exact absurd rfl (hr st bw)
  | be aco voc =>
    simp only [State.openStream, hi, ← htd]
    refine ⟨trivial, ?_, fun j hj => ?_, hf.trans .rfl⟩
    · rw [State.stream_setStream]
      exact ⟨_, _, _, .rfl _⟩
    · rw [State.stream_setStream_ne _ hj, State.stream_of_streams hs]
  | lc aco voc pl =>
    simp only [State.openStream, hi, ← htd]
    generalize hs1 : t.setStream i _ = s1
    obtain ⟨hb, hbs⟩ := s1.formBatch_frame p.pitch.toNat p.domain.toNat (rateDiv (s.voice p.voice.toNat).rate) voc pl
    generalize s1.formBatch p.pitch.toNat p.domain.toNat (rateDiv (s.voice p.voice.toNat).rate) voc pl = b at hb hbs
    obtain ⟨hj, hji, hjn⟩ := b.2.joinBatch_frame i b.1 aco.id
    refine ⟨trivial, ⟨classOf (512 + aco.stateBytes + voc.stateBytes), pl.quarter, streamSeed (s.voice p.voice.toNat) p.seed.toNat, ?_⟩,
      fun j hn => ?_, ((hf.trans (hs1 ▸ .rfl)).trans hb).trans hj⟩
    · rw [State.stream_of_streams hbs, ← hs1, State.stream_setStream] at hji
      exact hji
    · rw [hjn j hn, State.stream_of_streams hbs, ← hs1, State.stream_setStream_ne _ hn, State.stream_of_streams hs]

theorem State.openCheck_full {s : State} {p : OpenParams} (h : s.freeIndex = none) : s.openCheck p = .no 0x102 false := by
  simp [State.openCheck, State.openHead, firstFail, h]

theorem State.openCheck_voice {s : State} {p : OpenParams} (h : s.freeIndex ≠ none) (hv : s.voiceOk p.voice.toNat = false) :
    s.openCheck p = .no 0x103 false := by
  have hs : s.freeIndex.isSome = true := Option.isSome_iff_ne_none.mpr h
  simp [State.openCheck, State.openHead, firstFail, hs, hv]

/-- Without a bad block no read fails. -/
theorem State.failedRead_of_noBadBlocks {s : State} (h : s.memx.badBlocks = []) (a n c : Nat) : s.failedRead a n c = s := by
  simp [State.failedRead, State.badIn, h]

theorem State.readVoice_of_noBadBlocks {s : State} (h : s.memx.badBlocks = []) (v : Nat) : s.readVoice v = s := by
  simp [State.readVoice, State.failedRead_of_noBadBlocks h]

theorem State.openFailed_full (s : State) (p : OpenParams) :
    s.openFailed p 0x102 false = (s.inc .sdirRefuseCnt).flag .sdirEvt 0 1 := rfl

theorem State.openFailed_voice {s : State} (h : s.memx.badBlocks = []) (p : OpenParams) :
    s.openFailed p 0x103 false = (s.inc .sdirRefuseCnt).flag .sdirEvt 0 1 := by
  simp only [State.openFailed, State.readVoice_of_noBadBlocks h, State.failedRead_of_noBadBlocks h, ite_self]
  rfl

theorem State.streamOpenRep_refused {s0 : State} {p : OpenParams} {st : Nat} {bw : Bool} (h : s0.openReads.openCheck p = .no st bw)
    (sess : Nat) : s0.streamOpenRep p sess = .no (s0.openReads.openFailed p st bw) st := by
  simp only [State.streamOpenRep, h]

theorem State.streamOpenRep_opens {s0 : State} {p : OpenParams} {r : OpenRes} (h : s0.openReads.openCheck p = r)
    (hr : ∀ st bw, r ≠ .no st bw) (sess : Nat) : s0.streamOpenRep p sess =
      .ok (s0.openReads.openStream p sess r).2 ((s0.openReads.openStream p sess r).2.openReply (s0.openReads.openStream p sess r).1) := by
  subst h
  unfold State.streamOpenRep
  dsimp only
  split
  · next st bw he => exact absurd he (hr st bw)
  · rfl

/-- Settles O5. -/
theorem streamOpens : Obligations.StreamOpens := by
  unfold Obligations.StreamOpens
  refine ⟨fun h p s ha => ?_, fun h p s ha => ⟨fun hn => ?_, fun hn hv hb => ?_⟩⟩
  · intro c w
    split
    · next st bw he => exact done_runMsg (f := fun t => t.streamOpenRep p h.session) ha (State.streamOpenRep_refused he _)
    · next hr =>
      obtain ⟨hi, ⟨cls, q, sd, ph, d, b, hj⟩, hn, f1, f2, f3, f4, f5, f6, f7⟩ := w.openStream_opens p h.session hr
      refine ⟨(w.openStream p h.session (w.openCheck p)).2, ?_, ?_⟩
      · rw [← hi]
        exact done_runMsg (f := fun t => t.streamOpenRep p h.session) ha (State.streamOpenRep_opens rfl hr _)
      · rw [hj]
        exact ⟨rfl, rfl, rfl, rfl, rfl, rfl, rfl, rfl, rfl, rfl, rfl, rfl, rfl, rfl, hn, f1, f2, f3, f4, f5, f6, f7⟩
  · refine done_runMsg (f := fun t => t.streamOpenRep p h.session) ha ?_
    rw [State.streamOpenRep_refused (State.openCheck_full hn), State.openFailed_full]
    rfl
  · refine done_runMsg (f := fun t => t.streamOpenRep p h.session) ha ?_
    rw [State.streamOpenRep_refused (State.openCheck_voice hn hv), State.openFailed_voice hb]
    rfl

end Sys2Proof.Machine
end

section
/-!
SUPPORT and proof of O10: the voice table (02 R48, R50).
-/

namespace Sys2Proof.Machine

/-- A voice entry written with new bytes: what the cache held of it goes. -/
def State.putVoice (s : State) (v : Nat) (bs : List Byte) : State :=
  { s.poke (s.voiceAddr v) bs with vcache := (s.poke (s.voiceAddr v) bs).vcache.filter (fun x => x != v) }

theorem State.voiceSetRep_accepted {s : State} {v : Nat} {e : List Byte} (h : s.voiceSetCheck v e = 0) :
    s.voiceSetRep v e = .ok (s.voiceWrite v e) (leBytes 4 ((s.voiceWrite v e).voice v).gen ++ leBytes 4 0 ++ ((s.voiceWrite v e).voice v).hash) :=
  if_neg (not_not.mpr h)

/-- A failed read keeps memory, the cache and the streams, and without a bad block nothing fails. -/
theorem State.failedRead_keeps (s : State) (a n c : Nat) : (s.failedRead a n c).mem = s.mem ∧ (s.failedRead a n c).vcache = s.vcache ∧
    (s.failedRead a n c).streams = s.streams := by
  unfold State.failedRead
  split <;> simp

theorem State.voiceSetRep_refused {s : State} {v : Nat} {e : List Byte} (h : s.voiceSetCheck v e ≠ 0) :
    ∃ t, s.voiceSetRep v e = .no t (s.voiceSetCheck v e) ∧ t.mem = s.mem ∧ t.vcache = s.vcache ∧ t.streams = s.streams ∧
      (s.memx.badBlocks = [] → t = s) := by
  refine ⟨_, if_pos h, ?_⟩
  split
  · split
    · exact ⟨(s.failedRead_keeps ..).1, (s.failedRead_keeps ..).2.1, (s.failedRead_keeps ..).2.2,
        fun hb => State.failedRead_of_noBadBlocks hb ..⟩
    · exact ⟨(s.failedRead_keeps ..).1, (s.failedRead_keeps ..).2.1, (s.failedRead_keeps ..).2.2,
        fun hb => State.failedRead_of_noBadBlocks hb ..⟩
  · exact ⟨rfl, rfl, rfl, fun _ => rfl⟩

section
variable {s : State} {v : Nat}

theorem State.voiceClearRep_past (h : 16384 ≤ v) : s.voiceClearRep v = .no s 0x103 := by
  have hv : ¬ v < voiceCount := Nat.not_lt.mpr h
  simp [State.voiceClearRep, firstFail, hv]

theorem State.voiceClearRep_busy (h : v < 16384) (hr : (s.voice v).refcnt ≠ 0) : s.voiceClearRep v = .no s 0x104 := by
  have hv : v < voiceCount := h
  simp [State.voiceClearRep, firstFail, hv, hr]

theorem State.voiceClearRep_invalid (h : v < 16384) (hr : (s.voice v).refcnt = 0) (hi : (s.voice v).valid = false) :
    s.voiceClearRep v = .ok s := by
  have hv : v < voiceCount := h
  simp [State.voiceClearRep, firstFail, hv, hr, hi]

theorem State.voiceClearRep_clears (h : v < 16384) (hr : (s.voice v).refcnt = 0) (hi : (s.voice v).valid = true)
    (hb : s.partBad (s.voiceAddr v) 1 = none) : s.voiceClearRep v = .ok (s.putVoice v [0#8]) := by
  have hv : v < voiceCount := h
  simp [State.voiceClearRep, firstFail, hv, hr, hi, hb, State.putVoice]
end

theorem State.voice_woken (s : State) (c : Instr) (v : Nat) : (s.woken c).voice v = s.voice v :=
  State.of_woken s c (f := fun t => t.voice v) fun _ => rfl

theorem State.voiceAddr_woken (s : State) (c : Instr) (v : Nat) : (s.woken c).voiceAddr v = s.voiceAddr v :=
  State.of_woken s c (f := fun t => t.voiceAddr v) fun _ => rfl

theorem State.voiceSetCheck_woken (s : State) (c : Instr) (v : Nat) (e : List Byte) :
    (s.woken c).voiceSetCheck v e = s.voiceSetCheck v e :=
  State.of_woken s c (f := fun t => t.voiceSetCheck v e) fun _ => rfl

/-- Settles O10. -/
theorem voiceTable : Obligations.VoiceTable := by
  unfold Obligations.VoiceTable
  refine ⟨fun h v e s ha => ?_, fun h v s ha => ?_⟩
  · intro c gen hash u w
    have hans {u' : State} {st : Nat} {pay : List Byte} (hr : (s.woken c).voiceSetRep v.toNat e = ⟨st, pay, u', false⟩) :
        exec c s = answered c h s u' st pay := done_runMsg (f := fun t => t.voiceSetRep v.toNat e) ha hr
    refine ⟨fun h0 => ?_, fun h0 => ?_⟩
    · have hw : (s.woken c).voiceWrite v.toNat e = w := by
        have hb : (s.woken c).voiceBytes (parseVoice e) = s.voiceBytes (parseVoice e) :=
          State.of_woken s c (f := fun t => t.voiceBytes (parseVoice e)) fun _ => rfl
        unfold State.voiceWrite
        rw [State.voice_woken, hb, State.voiceAddr_woken]
      refine hans ((State.voiceSetRep_accepted (by rwa [State.voiceSetCheck_woken])).trans ?_)
      rw [hw]
      rfl
    · obtain ⟨t, ht, hm, hv, hs, hb⟩ := State.voiceSetRep_refused (s := s.woken c) (v := v.toNat) (e := e) (by rwa [State.voiceSetCheck_woken])
      rw [State.voiceSetCheck_woken] at ht
      exact ⟨t, hans ht, by simpa using hm, by simpa using hv, by simpa using hs, by simpa using hb⟩
  · intro c u
    have hans {u' : State} {st : Nat} (hr : (s.woken c).voiceClearRep v.toNat = ⟨st, [], u', false⟩) :
        exec c s = answered c h s u' st [] := done_runMsg (f := fun t => t.voiceClearRep v.toNat) ha hr
    have hp : (s.woken c).partBad ((s.woken c).voiceAddr v.toNat) 1 = s.partBad (s.voiceAddr v.toNat) 1 :=
      State.of_woken s c (f := fun t => t.partBad (t.voiceAddr v.toNat) 1) fun _ => rfl
    rw [← State.voice_woken s c, ← hp]
    refine ⟨fun h1 => hans (State.voiceClearRep_past h1), fun h1 h2 => hans (State.voiceClearRep_busy h1 h2),
      fun h1 h2 h3 => hans (State.voiceClearRep_invalid h1 h2 h3), fun h1 h2 h3 h4 => hans ?_⟩
    rw [State.voiceClearRep_clears h1 h2 h3 h4, State.putVoice, State.voiceAddr_woken]
    rfl

end Sys2Proof.Machine
end

section
/-!
SUPPORT and proof of O12: the swap engines (03 R83 to R93, 04 R127).
-/

namespace Sys2Proof.Machine

/-! ### Engines -/

@[simp] theorem State.engine_updEngine (s : State) (w : Nat) (f : SwapEng → SwapEng) : (s.updEngine w f).engine w = f (s.engine w) :=
  Tab.getD_modify_same ..

theorem State.engine_of_swap {s t : State} (h : t.swap = s.swap) (w : Nat) : t.engine w = s.engine w := by
  unfold State.engine
  rw [h]

theorem State.rbBytes_keeps (s : State) (w n : Nat) :
    (s.rbBytes w n).streams = s.streams ∧ (s.rbBytes w n).mem = s.mem ∧ (s.rbBytes w n).swap = s.swap := ⟨rfl, rfl, rfl⟩

theorem State.rbLate_keeps (s : State) (w : Nat) (d : Option Nat) :
    (s.rbLate w d).streams = s.streams ∧ (s.rbLate w d).mem = s.mem ∧ (s.rbLate w d).swap = s.swap := by
  unfold State.rbLate
  split
  · split <;> exact ⟨rfl, rfl, rfl⟩
  · exact ⟨rfl, rfl, rfl⟩

theorem State.engine_finish (s : State) (w : Nat) : (finish s).engine w = s.engine w := rfl
theorem State.stream_finish (s : State) (i : Nat) : (finish s).stream i = s.stream i := rfl

/-! ### Starting an operation -/

/-- A swap-in starts: its slot is taken, its engine has the operation, its stream is MOVING with the slot. -/
def State.startIn (s : State) (w i q n k : Nat) (o : SwapOp) : State :=
  (((s.takeSlot q (s.stream i).dir.cls n k).beginOp w o).updEngine w (fun e => { e with waiting := none, evicting := none })).updStream i
    (fun x => { x with dir := { x.dir with loc := .moving, quarter := q, slot := slotUnits (s.stream i).dir.cls n k } })

section
variable (s : State) (w i q n k : Nat) (o : SwapOp)

theorem State.startIn_cur : ((s.startIn w i q n k o).engine w).cur = some o := by
  have h : (s.startIn w i q n k o).swap = (((s.takeSlot q (s.stream i).dir.cls n k).beginOp w o).updEngine w
    (fun e => { e with waiting := none, evicting := none })).swap := rfl
  rw [State.engine_of_swap h, State.engine_updEngine, State.beginOp, State.engine_updEngine]

theorem State.startIn_dir : ((s.startIn w i q n k o).stream i).dir =
    { (s.stream i).dir with loc := .moving, quarter := q, slot := slotUnits (s.stream i).dir.cls n k } := by
  rw [State.startIn, State.stream_updStream]
  rfl

theorem State.startIn_mem : (s.startIn w i q n k o).mem = s.mem := by
  simp [State.startIn, State.beginOp]

theorem State.startIn_other {j : Nat} (h : j ≠ i) : (s.startIn w i q n k o).stream j = s.stream j := by
  rw [State.startIn, State.stream_updStream_ne _ h]
  rfl
end

section
variable {s : State} {w : Nat}

theorem State.swapStart_idle (hc : (s.engine w).cur = none) : s.swapStart w = State.tryOps w (s.engine w).queue false s := by
  simp [State.swapStart, hc]

theorem State.swapStart_queue {l : List SwapOp} (hc : (s.engine w).cur = none) (hq : (s.engine w).queue = l) :
    s.swapStart w = State.tryOps w l false s := by
  rw [State.swapStart_idle hc, hq]

theorem State.swapStart_rests (h : (s.engine w).cur.isSome = true ∨ (s.engine w).queue = []) : s.swapStart w = s := by
  unfold State.swapStart
  dsimp only
  split
  · rfl
  · next hc =>
    rw [h.resolve_left hc]
    rfl

variable {i q dl : Nat} {lc fresh : Bool} {rest : List SwapOp} (he : s.evictPending w = false)
include he

theorem State.tryOps_slot {n k : Nat} (hr : s.roomFor q (s.stream i).dir.cls = .slot n k) :
    State.tryOps w (.swapIn i lc dl q fresh :: rest) false s =
      s.startIn w i q n k (.swapIn i lc dl q fresh) := by
  simp [State.tryOps, he, hr, State.startIn]

theorem State.tryOps_evict {v : Nat} (hr : s.roomFor q (s.stream i).dir.cls = .evict v) :
    State.tryOps w (.swapIn i lc dl q fresh :: rest) false s =
      let u := (s.evict v).updEngine w (fun e => { e with evicting := some v })
      if (u.engine w).cur.isSome then u else State.tryOps w rest true u := by
  simp [State.tryOps, he, hr]

theorem State.tryOps_wait (hr : s.roomFor q (s.stream i).dir.cls = .none) :
    State.tryOps w (.swapIn i lc dl q fresh :: rest) false s = State.tryOps w rest true (s.swapWait w i) := by
  simp [State.tryOps, he, hr]
end

theorem State.tryOps_copy {s : State} {w i q n k dl : Nat} {lc : Bool} {rest : List SwapOp} (hf : ∀ e ∈ s.flights i, e.quarter = q)
    (hl : (s.stream i).dir.loc = .resident) : State.tryOps w (.copy i q n k lc dl :: rest) false s =
      (s.beginOp w (.copy i q n k lc dl)).setLoc i .moving := by
  have ha : (s.flights i).all (fun e => e.quarter == q) = true := by simpa using hf
  simp [State.tryOps, ha, hl]

theorem State.tryOps_swapOut {s : State} {w i : Nat} {rest : List SwapOp} (hc : s.candidate i = true) (hf : s.flights i = []) :
    State.tryOps w (.swapOut i :: rest) false s = s.startOut w i := by
  simp [State.tryOps, hc, hf]

/-! ### Ends of operations -/

theorem State.engineDone_streams (s : State) (w : Nat) : (s.engineDone w).streams = s.streams := rfl

/-- Without a mark a stream's state is not touched. -/
theorem State.applyDue_of_noMarks {s : State} {i : Nat} (h : (s.stream i).feat.marks = []) : s.applyDue i = s := by
  simp [State.applyDue, h]

/-- A copy of bytes: what stands at its destination, and elsewhere. -/
theorem State.move_read (s : State) (a b n : Nat) :
    (∀ k, k < n → (s.move a b n).mem.read (b + k) = s.mem.read (a + k)) ∧
      ∀ x, x < b ∨ b + n ≤ x → (s.move a b n).mem.read x = s.mem.read x := by
  rw [State.move_mem]
  refine ⟨fun k hk => ?_, fun x hx => ?_⟩
  · rw [Memory.read_copy, if_pos (by omega), Nat.add_sub_cancel_left]
  · rw [Memory.read_copy, if_neg (by omega)]

theorem State.swapOutDone_eq {s : State} {w i : Nat} (h : (s.engine w).cur = some (.swapOut i)) :
    s.swapOutDone w =
      let x := s.stream i
      let n := slotBytes x.dir.cls
      let u := ((s.move (s.slotAddr x) (s.storeAddr i) n).rbBytes w n).engineDone w
      if s.badWordsIn (s.slotAddr x) n = [] then
        if x.life.dep then (((u.setLoc i .resident).closeDep i).inc .sdirSwapReclaimCnt).applyDue i
        else (((u.releaseSlot i).setLoc i .stored).inc .sdirSwapOutCnt).retryWaits
      else (((s.engineDone w).setLoc i .resident).slotParity i (s.slotAddr x) n).closeDep i := by
  unfold State.swapOutDone
  rw [h]
  by_cases hb : s.badWordsIn (s.slotAddr (s.stream i)) (slotBytes (s.stream i).dir.cls) = []
  · simp only [hb, if_true]
    rfl
  · simp [hb]

theorem State.swapInDone_stored {s : State} {w i dl q : Nat} {lc : Bool} (h : (s.engine w).cur = some (.swapIn i lc dl q false)) :
    s.swapInDone w =
      let n := slotBytes (s.stream i).dir.cls
      if s.badIn (s.storeAddr i) n = [] then
        ((((((((s.move (s.storeAddr i) (s.slotAddr (s.stream i)) n).rbBytes w n).rbLate w (if lc then some dl else none)).engineDone
          w).setLoc i .resident).closeDep i).inc .sdirSwapInCnt).applyDue i)
      else (s.failedRead (s.storeAddr i) n 2).swapInFail w i := by
  unfold State.swapInDone
  rw [h]
  simp

theorem State.swapInDone_fresh {s : State} {w i dl q : Nat} {lc : Bool} (h : (s.engine w).cur = some (.swapIn i lc dl q true)) :
    s.swapInDone w = ((((((s.poke (s.slotAddr (s.stream i)) (s.freshState i)).engineDone w).setLoc i .resident).closeDep i).inc
      .sdirSwapInCnt).applyDue i) := by
  unfold State.swapInDone
  rw [h]
  rfl

/-- A swap-in ends: its engine is free, its stream resident, its dependence met. -/
def State.landed (u : State) (w i : Nat) : State := (((u.engineDone w).setLoc i .resident).closeDep i).inc .sdirSwapInCnt

section
variable (u : State) (w i : Nat)

theorem State.landed_mem : (u.landed w i).mem = u.mem := rfl

theorem State.landed_cur : ((u.landed w i).engine w).cur = none := by
  have h : (u.landed w i).swap = (u.engineDone w).swap := rfl
  rw [State.engine_of_swap h, State.engineDone, State.engine_updEngine]

theorem State.landed_stream : (u.landed w i).stream i =
    { u.stream i with dir := { (u.stream i).dir with loc := .resident }, life := { (u.stream i).life with dep := false } } := by
  have h : (u.landed w i).streams = (((u.engineDone w).setLoc i .resident).closeDep i).streams := rfl
  rw [State.stream_of_streams h, State.closeDep, State.stream_updStream, State.setLoc, State.stream_updStream,
    State.stream_of_streams (u.engineDone_streams w)]

theorem State.landed_other {j : Nat} (hj : j ≠ i) : (u.landed w i).stream j = u.stream j := by
  have h : (u.landed w i).streams = (((u.engineDone w).setLoc i .resident).closeDep i).streams := rfl
  rw [State.stream_of_streams h, State.closeDep, State.stream_updStream_ne _ hj, State.setLoc, State.stream_updStream_ne _ hj,
    State.stream_of_streams (u.engineDone_streams w)]
end

/-- A swap-in's copy without a mark that is due: the stream is resident with the bytes of its store entry. -/
theorem State.swapInDone_lands {s : State} {w i dl q : Nat} {lc : Bool} (h : (s.engine w).cur = some (.swapIn i lc dl q false))
    (hb : s.badIn (s.storeAddr i) (slotBytes (s.stream i).dir.cls) = []) (hm : (s.stream i).feat.marks = []) :
    ∃ u : State, s.swapInDone w = u.landed w i ∧ u.streams = s.streams ∧ u.mem = (s.move (s.storeAddr i) (s.slotAddr (s.stream i)) (slotBytes (s.stream i).dir.cls)).mem := by
  obtain ⟨s1, m1, -⟩ := (s.move (s.storeAddr i) (s.slotAddr (s.stream i)) (slotBytes (s.stream i).dir.cls)).rbBytes_keeps w
    (slotBytes (s.stream i).dir.cls)
  obtain ⟨s2, m2, -⟩ := ((s.move (s.storeAddr i) (s.slotAddr (s.stream i)) (slotBytes (s.stream i).dir.cls)).rbBytes w
    (slotBytes (s.stream i).dir.cls)).rbLate_keeps w (if lc then some dl else none)
  have hs := (s2.trans s1).trans (State.move_streams ..)
  refine ⟨_, ?_, hs, m2.trans m1⟩
  rw [State.swapInDone_stored h]
  refine (if_pos hb).trans (State.applyDue_of_noMarks ?_)
  change ((State.landed _ w i).stream i).feat.marks = []
  rw [State.landed_stream, State.stream_of_streams hs]
  exact hm

theorem State.slotCopyDone_eq {s : State} {w i q n k dl : Nat} {lc : Bool} (h : (s.engine w).cur = some (.copy i q n k lc dl)) :
    s.slotCopyDone w =
      let x := s.stream i
      let dest := qBase q + slotUnits x.dir.cls n k * 4096
      let u := ((s.move (s.slotAddr x) dest (slotBytes x.dir.cls)).engineDone w).releaseSlot i
      if s.badWordsIn (s.slotAddr x) (slotBytes x.dir.cls) = [] then
        (((u.setStream i { x with dir := { x.dir with quarter := q, slot := slotUnits x.dir.cls n k, loc := .resident } }).closeDep
          i).applyDue i).retryWaits
      else ((((s.engineDone w).freeSlot q n k).setLoc i .resident).closeDep i).slotParity i (s.slotAddr x) (slotBytes x.dir.cls) := by
  have hs (a b c : Nat) : (((s.move a b c).engineDone w).releaseSlot i).stream i = s.stream i :=
    State.stream_of_streams (State.releaseSlot_streams _ i) i
  unfold State.slotCopyDone
  rw [h]
  simp only [State.updStream, hs]
  by_cases hb : s.badWordsIn (s.slotAddr (s.stream i)) (slotBytes (s.stream i).dir.cls) = [] <;> simp [hb]

/-- Settles O12. -/
theorem swapsRun : Obligations.SwapsRun := by
  unfold Obligations.SwapsRun
  refine ⟨⟨fun w s i lc dl q fresh rest hc hq he => ⟨fun n k hr => ?_, fun v hr => ?_, fun hr => ?_⟩,
    fun w s i q n k dl lc rest hc hq hf hl => ?_, fun w s i rest hc hq hcand hf => ?_, fun w s h => ?_⟩,
    fun w s i hc => ?_, fun w s i lc dl q hc => ?_, fun w s i lc dl q hc => ?_, fun w s i q n k dl lc hc => ?_⟩
  · have hx : s.swapStart w = s.startIn w i q n k (.swapIn i lc dl q fresh) :=
      (State.swapStart_queue hc hq).trans (State.tryOps_slot he hr)
    refine ⟨finish (s.startIn w i q n k (.swapIn i lc dl q fresh)), congrArg done hx, ?_⟩
    rw [State.engine_finish, State.stream_finish, State.startIn_cur, State.startIn_dir]
    refine ⟨rfl, rfl, by rw [finish_mem, State.startIn_mem], fun j hj => ?_⟩
    rw [State.stream_finish, State.startIn_other _ _ _ _ _ _ _ hj]
  · intro u
    change done (s.swapStart w) = done _
    rw [State.swapStart_queue hc hq, State.tryOps_evict he hr]
  · exact congrArg done ((State.swapStart_queue hc hq).trans (State.tryOps_wait he hr))
  · exact congrArg done ((State.swapStart_queue hc hq).trans (State.tryOps_copy hf hl))
  · exact congrArg done ((State.swapStart_queue hc hq).trans (State.tryOps_swapOut hcand hf))
  · exact congrArg done (State.swapStart_rests h)
  · intro x n u
    have hend := State.swapOutDone_eq hc
    obtain ⟨hin, hout⟩ := s.move_read (s.slotAddr x) (s.storeAddr i) n
    have hm : u.mem = (s.move (s.slotAddr x) (s.storeAddr i) n).mem :=
      (State.engineDone_mem ..).trans (State.rbBytes_mem ..)
    have hst : u.streams = s.streams := (State.engineDone_streams ..).trans (State.rbBytes_keeps ..).1
    rw [← hm] at hin hout
    exact ⟨fun hb => ⟨fun hd => congrArg done (hend.trans ((if_pos hb).trans (if_neg (by simpa using hd)))),
      fun hd => congrArg done (hend.trans ((if_pos hb).trans (if_pos hd))), hin, hout, hst⟩,
      fun hb => congrArg done (hend.trans (if_neg hb))⟩
  · intro n
    have hend := State.swapInDone_stored hc
    refine ⟨fun hb hm => ?_, fun hb => congrArg done (hend.trans (if_pos hb)), fun hb => congrArg done (hend.trans (if_neg hb))⟩
    obtain ⟨u, hu, hs, hmem⟩ := State.swapInDone_lands hc hb hm
    obtain ⟨hin, hout⟩ := s.move_read (s.storeAddr i) (s.slotAddr (s.stream i)) n
    rw [← hmem] at hin hout
    refine ⟨finish (u.landed w i), congrArg done hu, ?_⟩
    rw [State.stream_finish, State.engine_finish, finish_mem, State.landed_stream, State.landed_cur, State.landed_mem,
      State.stream_of_streams hs]
    refine ⟨rfl, rfl, rfl, hin, hout, fun j hj => ?_⟩
    rw [State.stream_finish, State.landed_other _ _ _ hj, State.stream_of_streams hs]
  · exact congrArg done (State.swapInDone_fresh hc)
  · intro x dest u at_
    have hend := State.slotCopyDone_eq hc
    obtain ⟨hin, hout⟩ := s.move_read (s.slotAddr x) dest (slotBytes x.dir.cls)
    have hm : u.mem = (s.move (s.slotAddr x) dest (slotBytes x.dir.cls)).mem := State.releaseSlot_mem ..
    rw [← hm] at hin hout
    exact ⟨fun hb => ⟨congrArg done (hend.trans (if_pos hb)), hin, hout, State.releaseSlot_streams _ i⟩,
      fun hb => congrArg done (hend.trans (if_neg hb))⟩

end Sys2Proof.Machine
end

section
/-!
SUPPORT and proof of O13: exports taken, captured and delivered (03 R98 to R100).
-/

namespace Sys2Proof.Machine

/-- The export that a message asks for. -/
def newExport (e : ExportParams) (move : Bool) (sess tag : Nat) : Export :=
  { move := move, toDevice := e.toDevice, device := e.device.toNat, session := sess, tag := tag, opn := openBytes e.op,
    capAt := none, queue := [], pack := [] }

/-- An export of a stream without one. -/
def State.takeExport (s : State) (i : Nat) (x : Export) : State :=
  ((s.setStream i { s.stream i with life := { (s.stream i).life with exportP := some x } }).wakeCtxOf i).openDep i

/-- The rule of an export for the stream it names. -/
def State.exportOf (move : Bool) (sess tag : Nat) (e : ExportParams) (s : State) (i : Nat) : Rep :=
  if (s.stream i).life.exportP.isSome then .no s 0x201 else .ok (s.takeExport i (newExport e move sess tag))

theorem State.exportRep_eq (s : State) (move : Bool) (sess tag : Nat) (e : ExportParams) :
    s.exportRep move sess tag e = s.onHandle e.handle.toNat (State.exportOf move sess tag e) := rfl

theorem exec_packExport {h : Hdr} {e : ExportParams} {move : Bool} {s u : State} {i st : Nat} {pay : List Byte} {c : Instr}
    (hc : c = if move then Instr.packExportMove h e else Instr.packExportSnapshot h e) (ha : s.accepts c h)
    (hf : ((s.woken c).dirCheck (e.handle.toNat % 2 ^ 17)).findHandle e.handle.toNat = some i)
    (hr : State.exportOf move h.session h.tag.toNat e ((s.woken c).dirCheck (e.handle.toNat % 2 ^ 17)) i = ⟨st, pay, u, false⟩) :
    exec c s = answered c h s u st pay := by
  cases move <;> subst hc <;> exact exec_onHandle ha hf hr

/-! ### The capture -/

/-- The state a capture sees: a parity error in its slot is met first (03 R93). -/
def State.capturable (s : State) (i : Nat) : State :=
  if (s.stream i).capturing = true ∧ (s.stream i).dir.loc = .resident ∧ s.captureTurn i = true then
    s.slotParity i (s.slotAddr (s.stream i)) (slotBytes (s.stream i).dir.cls)
  else s

/-- The export of a stream whose frame tick has come and which can be captured now. -/
def State.CaptureReady (s : State) (i : Nat) (e : Export) (f : Nat) : Prop :=
  (s.stream i).life.exportP = some e ∧ e.capAt = some f ∧ (s.stream i).dir.loc = .resident ∧ s.beforeF i f = false ∧
    s.captureTurn i = true

/-- The pack on its way. -/
def State.captured (s : State) (i : Nat) (e : Export) (f : Nat) : Xfer :=
  { idx := i, handle := (s.stream i).handle i, toDevice := e.toDevice, srcTick := f, dest := e.device, tag := e.tag,
    session := e.session, move := e.move, pack := s.packOf i (if e.move then some (s.stream i).del.queue else none) f, msg := none,
    sentAt := s.uptime, delivered := false, answers := 0 }

/-- The stream once its pack is taken: its export is over, and a MOVE closes it. -/
def State.exported (s : State) (i : Nat) (e : Export) : State :=
  let u : State := { s with swap := s.swap.map (fun g => (g.1, { g.2 with queue := g.2.queue.filter (fun o => o != .capture i) })) }
  let v := u.setStream i { s.stream i with life := { (s.stream i).life with exportP := none } }
  if e.move then v.closeAbort i else v

theorem State.exported_xfers (s : State) (i : Nat) (e : Export) : (s.exported i e).xfers = s.xfers := by
  unfold State.exported
  dsimp only
  split <;> rfl

theorem State.capturable_test (s : State) (i : Nat) :
    (if (s.stream i).capturing && (s.stream i).dir.loc == .resident && s.captureTurn i then
      s.slotParity i (s.slotAddr (s.stream i)) (slotBytes (s.stream i).dir.cls) else s) = s.capturable i := by
  simp [State.capturable, and_assoc]

theorem State.packCapture_ready {s0 s : State} {i f : Nat} {e : Export} (hs : s0.capturable i = s) (h : s.CaptureReady i e f) :
    s0.packCapture i =
      if e.toDevice then
        let r := (s.exported i e).sendRouted e.device 2 1 e.tag
          (xferBody e.opn (s.stream i).dir.laneCompat ((s.stream i).handle i) (s.captured i e f).pack)
        { r.2 with xfers := r.2.xfers ++ [{ s.captured i e f with msg := r.1.id }] }
      else { s.exported i e with xfers := s.xfers ++ [s.captured i e f] } := by
  obtain ⟨he, hf, hl, hb, ht⟩ := h
  unfold State.packCapture
  dsimp only
  rw [State.capturable_test, hs, he]
  simp only [hf, hl, hb, ht]
  refine (if_neg (by decide)).trans ?_
  split
  · rfl
  · exact congrArg (fun x => ({ s.exported i e with xfers := x ++ [s.captured i e f] } : State)) (State.exported_xfers s i e)

theorem State.packCapture_waits {s0 s : State} {i : Nat} (hs : s0.capturable i = s) (h : ∀ e f, ¬ s.CaptureReady i e f) :
    s0.packCapture i = s := by
  unfold State.packCapture
  dsimp only
  rw [State.capturable_test, hs]
  split
  · rfl
  · next e he =>
    split
    · rfl
    · next f hf =>
      refine if_pos ?_
      by_contra hn
      simp only [Bool.or_eq_true, not_or, Bool.not_eq_true, bne_eq_false_iff_eq, Bool.not_eq_false'] at hn
      exact h e f ⟨he, hf, hn.1.1, hn.1.2, hn.2⟩

/-! ### Delivery -/

theorem State.packDelivered_none {s : State} {i : Nat} (h : s.xfers.find? (fun x => x.idx == i && s.deliverable x) = none) :
    s.packDelivered i = s := by
  unfold State.packDelivered find1
  rw [List.head?_filter, h]

theorem State.packDelivered_some {s : State} {i : Nat} {x : Xfer}
    (h : s.xfers.find? (fun x => x.idx == i && s.deliverable x) = some x) :
    s.packDelivered i =
      let same := fun (y : Xfer) => y.idx == i && y.srcTick == x.srcTick && y.handle == x.handle
      let u := if x.toDevice then { s with xfers := updWhere same (fun y => { y with delivered := true }) s.xfers }
        else ({ s with xfers := s.xfers.filter (fun y => !same y) } : State).sendMsg x.session 0xF2 0 0 s.epoch
          (leBytes 4 x.handle ++ leBytes 4 0 ++ x.pack)
      (u.inc .sdirPackExpCnt).event 0x0302 x.handle (s.stream i).dir.domain x.srcTick := by
  unfold State.packDelivered find1
  rw [List.head?_filter, h]
  dsimp only
  cases x.toDevice <;> rfl

/-- Settles O13. -/
theorem packExports : Obligations.PackExports := by
  unfold Obligations.PackExports
  refine ⟨fun h e move s i => ?_, fun i s0 => ?_, fun i s => ?_⟩
  · intro c w x ha hf
    exact ⟨fun hp => exec_packExport rfl ha hf (if_pos hp), fun hp => exec_packExport rfl ha hf (if_neg (fun hs => absurd hs (by rw [show _ = none from hp]; exact Bool.false_ne_true)))⟩
  · intro s ready
    refine ⟨fun e f hr => ?_, fun hn => congrArg done (State.packCapture_waits rfl hn)⟩
    intro x pack xf u v z
    have hc := State.packCapture_ready (s0 := s0) rfl hr
    exact ⟨fun hd => congrArg done (hc.trans (if_neg (by simp [hd]))), fun hd => congrArg done (hc.trans (if_pos hd))⟩
  · intro goes
    refine ⟨fun x hx => ?_, fun hn => congrArg done (State.packDelivered_none hn)⟩
    intro same tell
    have hd := State.packDelivered_some hx
    refine ⟨fun hv => congrArg done (hd.trans ?_), fun hv => congrArg done (hd.trans ?_)⟩
    · rw [hv]
      rfl
    · rw [hv]
      rfl

end Sys2Proof.Machine
end

section
/-!
SUPPORT and proofs of O15 and O16: packs and results over links (16 R412), and the host's operations on Turnstiles (09 R231).
-/

namespace Sys2Proof.Machine

/-! ### Results (16 R412) -/

@[simp] theorem State.event_epoch (s : State) (c u k a b : Nat) : (s.event c u k a b).epoch = s.epoch := by
  unfold State.epoch
  simp

/-- The events of a result. -/
def State.resultEvent (s : State) (st h dom src : Nat) (body : List Byte) : State :=
  if st = 0 then s.event 0x0303 h dom (byteAt body 12) else s.event 0x0304 h dom st src

theorem State.resultEvent_xfers (s : State) (st h dom src : Nat) (body : List Byte) :
    (s.resultEvent st h dom src body).xfers = s.xfers := by
  unfold State.resultEvent
  split <;> simp

theorem find1_eq_find? {α : Type} (l : List α) (p : α → Bool) : find1 l p = l.find? p := List.head?_filter ..

/-- The transfer that a result names. -/
def resultNames (src h : Nat) (x : Xfer) : Bool := x.toDevice && x.handle == h && (x.dest == src || isMulticast x.dest)

theorem State.packResult_none {s : State} {src : Nat} {body : List Byte}
    (h : s.xfers.find? (resultNames src (numAt body 4 4)) = none) : s.packResult src body = s := by
  rw [← find1_eq_find?] at h
  unfold State.packResult
  dsimp only
  split
  · rfl
  · next x hx => exact nomatch h.symm.trans hx

theorem State.packResult_some {s : State} {src : Nat} {body : List Byte} {x : Xfer}
    (h : s.xfers.find? (resultNames src (numAt body 4 4)) = some x) : s.packResult src body =
      let dom := (s.stream x.idx).dir.domain
      let mine := fun (y : Xfer) => y.toDevice && y.handle == numAt body 4 4 && y.srcTick == x.srcTick
      let u := s.resultEvent (numAt body 0 2) (numAt body 4 4) dom src body
      if isMulticast x.dest then { u with xfers := updWhere mine (fun y => { y with answers := y.answers + 1 }) s.xfers }
      else if x.delivered then { u with xfers := s.xfers.filter (fun y => !mine y) }
      else (({ u with xfers := s.xfers.filter (fun y => !mine y) } : State).inc .sdirPackExpCnt).event 0x0302 (numAt body 4 4) dom
        x.srcTick := by
  rw [← find1_eq_find?] at h
  unfold State.packResult
  dsimp only
  split
  · next hx => exact nomatch h.symm.trans hx
  · next y hx =>
    cases h.symm.trans hx
    have hu := s.resultEvent_xfers (numAt body 0 2) (numAt body 4 4) (s.stream x.idx).dir.domain src body
    unfold State.updXfer
    rw [← hu]
    rfl

theorem State.xferTimeout_none {s : State} {h : Nat}
    (hn : s.xfers.find? (fun x => x.toDevice && x.handle == h && decide (x.sentAt + 1000000000 ≤ s.uptime)) = none) :
    s.xferTimeout h = s := by
  unfold State.xferTimeout
  rw [find1_eq_find?, hn]

theorem State.xferTimeout_some {s : State} {h : Nat} {x : Xfer}
    (hx : s.xfers.find? (fun x => x.toDevice && x.handle == h && decide (x.sentAt + 1000000000 ≤ s.uptime)) = some x) :
    s.xferTimeout h =
      let mine := fun (y : Xfer) => y.toDevice && y.handle == h && y.srcTick == x.srcTick
      let u : State := { s with xfers := s.xfers.filter (fun y => !mine y) }
      let v := u.event 0x0304 h (s.stream x.idx).dir.domain 0x0701 x.dest
      if x.answers ≠ 0 then u
      else if x.move then v.sendMsg x.session 0xF2 0 0 s.epoch (leBytes 4 h ++ leBytes 4 0 ++ x.pack) else v := by
  unfold State.xferTimeout
  rw [find1_eq_find?, hx]
  dsimp only
  rw [State.event_epoch]
  rfl

/-- Settles O15. -/
theorem packsOverLinks : Obligations.PacksOverLinks := by
  unfold Obligations.PacksOverLinks
  refine ⟨fun src tag body s => ?_, fun src body s => ?_, fun hd s => ?_⟩
  · intro r res o
    exact ⟨fun h => congrArg done (if_neg (fun e => Bool.false_ne_true (h.symm.trans e))), fun h => congrArg done (if_pos h)⟩
  · intro h st named
    refine ⟨fun hn => congrArg done (State.packResult_none hn), fun x hx => ?_⟩
    have he := State.packResult_some hx
    exact ⟨fun hm => congrArg done (he.trans (if_pos hm)),
      fun hm hd => congrArg done (he.trans ((if_neg (by simp [hm])).trans (if_pos hd))),
      fun hm hd => congrArg done (he.trans ((if_neg (by simp [hm])).trans (if_neg (by simp [hd]))))⟩
  · intro late
    refine ⟨fun hn => congrArg done (State.xferTimeout_none hn), fun x hx => ?_⟩
    have he := State.xferTimeout_some hx
    exact ⟨fun ha => congrArg done (he.trans (if_pos ha)),
      fun ha hm => congrArg done (he.trans ((if_neg (not_not.mpr ha)).trans (if_neg (by simp [hm])))),
      fun ha hm => congrArg done (he.trans ((if_neg (not_not.mpr ha)).trans (if_pos hm)))⟩

/-! ### Turnstiles (09 R231, R235, R236) -/

/-- What a trigger of the movers leaves: Turnstiles, memory, streams and executions. -/
def State.TrigFrame (s t : State) : Prop := t.tstl = s.tstl ∧ t.mem = s.mem ∧ t.streams = s.streams ∧ t.execs = s.execs

theorem State.TrigFrame.rfl {s : State} : s.TrigFrame s := ⟨Eq.refl _, Eq.refl _, Eq.refl _, Eq.refl _⟩

theorem State.TrigFrame.trans {s t u : State} (h : s.TrigFrame t) (k : t.TrigFrame u) : s.TrigFrame u := by
  obtain ⟨h1, h2, h3, h4⟩ := h
  obtain ⟨k1, k2, k3, k4⟩ := k
  exact ⟨k1.trans h1, k2.trans h2, k3.trans h3, k4.trans h4⟩

theorem State.raiseFor_frame (s : State) (n : Nat) : s.TrigFrame (s.raiseFor n) := by
  have htx (p : Nat) : s.TrigFrame (s.raiseTx p) := by
    unfold State.raiseTx
    split
    · exact .rfl
    · dsimp only
      split <;> exact .rfl
  have hrx (p : Nat) : s.TrigFrame (s.raiseRx p) := by
    unfold State.raiseRx
    split
    · exact .rfl
    · dsimp only
      split <;> exact .rfl
  have hfree : s.TrigFrame (s.raiseFree n) := by
    unfold State.raiseFree
    dsimp only
    split <;> exact .rfl
  unfold State.raiseFor
  dsimp only
  split
  · exact htx _
  · split
    · exact hrx _
    · split
      · exact hfree
      · exact .rfl

theorem State.goChan_frame (s : State) (n : Nat) : s.TrigFrame (s.goChan n) := by
  unfold State.goChan
  split
  · exact .rfl
  · split
    · dsimp only
      split
      · exact .rfl
      · exact .trans (t := s.updChan n _) .rfl (State.raiseFor_frame _ n)
    · exact .rfl

theorem State.autoStart_frame (s : State) (n : Nat) : s.TrigFrame (s.autoStart n) := by
  unfold State.autoStart
  dsimp only
  split
  · exact .rfl
  · split <;> exact .rfl

theorem State.trigger_frame (s : State) (n : Nat) (g : Option Nat) : s.TrigFrame (s.trigger n g) := by
  unfold State.trigger
  dsimp only
  split
  · exact .rfl
  · split
    · exact .trans .rfl (State.goChan_frame _ n)
    · split
      · split
        · exact .rfl
        · exact ⟨by simp, by simp, by simp, by simp⟩
      · exact .trans .rfl (State.autoStart_frame _ n)

theorem State.triggerAll_frame (s : State) (src : Nat) (p : Nat → Bool) (g : Option Nat) : s.TrigFrame (s.triggerAll src p g) := by
  refine State.each_inv (P := s.TrigFrame) (f := fun t n => t.trigger n g) _ (fun t n _ ht => ht.trans (t.trigger_frame n g)) s .rfl

@[simp] theorem State.tst_setTst (s : State) (n : Nat) (t : Tstl) : (s.setTst n t).tst n = t := Tab.getD_set_same ..

theorem State.tst_setTst_ne (s : State) {n m : Nat} (h : m ≠ n) (t : Tstl) : (s.setTst n t).tst m = s.tst m :=
  Tab.getD_set_ne _ h.symm ..

theorem State.tst_of_tstl {s t : State} (h : t.tstl = s.tstl) (n : Nat) : t.tst n = s.tst n := by
  unfold State.tst
  rw [h]

/-- A Turnstile takes its new value; channels that it triggers leave the rest. -/
theorem State.putTst_frame (s : State) (n : Nat) (t : Tstl) : (s.setTst n t).TrigFrame (s.putTst n t) := by
  unfold State.putTst
  dsimp only
  split
  · exact State.triggerAll_frame ..
  · exact .rfl

/-- A change of one Turnstile alone. -/
def State.TstFrame (s : State) (n : Nat) (x : Tstl) (t : State) : Prop :=
  t.tst n = x ∧ (∀ m, m ≠ n → t.tst m = s.tst m) ∧ t.mem = s.mem ∧ t.streams = s.streams ∧ t.execs = s.execs

theorem State.TrigFrame.tstFrame {s t : State} {n : Nat} {x : Tstl} (h : (s.setTst n x).TrigFrame t) : s.TstFrame n x t := by
  obtain ⟨h1, h2, h3, h4⟩ := h
  exact ⟨by rw [State.tst_of_tstl h1, State.tst_setTst], fun m hm => by rw [State.tst_of_tstl h1, State.tst_setTst_ne _ hm], h2, h3, h4⟩

theorem State.hostTst_unbound {s : State} {n : Nat} (h : (s.tst n).bound = none) (f : State → State) : s.hostTst n f = f s := by
  simp [State.hostTst, h]

theorem State.hostTst_bound {s : State} {n : Nat} (h : (s.tst n).bound.isSome = true) (f : State → State) :
    s.hostTst n f = s.tstRange := if_pos h

theorem State.passTst_unarmed {s : State} {n : Nat} (h : (s.tst n).armed = false) (k : Nat) :
    s.passTst n k = (s.inc .schedTstlErrCnt).flag .schedGraphEvt 0 1 := by
  simp [State.passTst, h]

theorem State.passTst_frame {s : State} {n : Nat} (h : (s.tst n).armed = true) (k : Nat) :
    (s.setTst n ((s.tst n).passed k)).TrigFrame (s.passTst n k) := by
  unfold State.passTst
  rw [if_neg (by simp [h])]
  dsimp only
  split
  · exact (s.putTst_frame n _).trans .rfl
  · exact s.putTst_frame n _

theorem State.tstArg_lt (s : State) : s.tstArg < 2 ^ 24 := by
  unfold State.tstArg State.fld bitsOf
  exact Nat.mod_lt _ (by decide)

theorem Tstl.armed'_eq {x : Tstl} (hb : x.bound = none) {k : Nat} (hk : k < 2 ^ 24) :
    x.armed' (BitVec.ofNat 24 k) = ⟨0, BitVec.ofNat 24 k, true, decide (k = 0), false, none⟩ := by
  have hz : (BitVec.ofNat 24 k == 0#24) = decide (k = 0) := by
    rw [beq_eq_decide]
    congr 1
    simp only [← BitVec.toNat_inj, BitVec.toNat_ofNat, Nat.mod_eq_of_lt hk, Nat.zero_mod]
  rw [Tstl.armed', hz, hb]

theorem Tstl.passed_eq {x : Tstl} (ha : x.armed = true) (hb : x.bound = none) (k : Nat) :
    x.passed k = ⟨BitVec.ofNat 32 (min (x.count.toNat + k) 0xFFFFFFFF), x.target, true,
      x.met || decide (x.target.toNat ≤ min (x.count.toNat + k) 0xFFFFFFFF),
      x.ovf || decide (x.target.toNat < min (x.count.toNat + k) 0xFFFFFFFF), none⟩ := by
  simp only [Tstl.passed, ha, hb]

/-- Settles O16. -/
theorem turnstileOperations : Obligations.TurnstileOperations := by
  unfold Obligations.TurnstileOperations
  refine ⟨fun n s hb => ?_, fun n s hb ha hk => ?_, fun n s hb ha hk => ?_, fun n s hb => ?_, fun n s hk => ?_, fun n s hb => ?_⟩
  · have hf : s.TstFrame n.toNat ((s.tst n.toNat).armed' (BitVec.ofNat 24 s.tstArg)) (s.armTst n.toNat (BitVec.ofNat 24 s.tstArg)) :=
      (s.putTst_frame n.toNat _).tstFrame
    rw [Tstl.armed'_eq hb s.tstArg_lt] at hf
    exact ⟨finish (s.armTst n.toNat (BitVec.ofNat 24 s.tstArg)), congrArg done (State.hostTst_unbound hb _), hf⟩
  · have hf := (State.passTst_frame ha s.tstArg).tstFrame
    rw [Tstl.passed_eq ha hb] at hf
    exact ⟨finish (s.passTst n.toNat s.tstArg), congrArg done ((if_neg hk).trans (State.hostTst_unbound hb _)), hf⟩
  · refine congrArg done ((if_neg hk).trans ((State.hostTst_unbound hb _).trans (State.passTst_unarmed ha _)))
  · refine congrArg done ((State.hostTst_unbound hb _).trans ?_)
    have hc : (s.tst n.toNat).cleared = ⟨0, 0, false, false, false, none⟩ := by rw [Tstl.cleared, hb]
    rw [State.resetTst, hc]
    rfl
  · exact congrArg done (if_pos hk)
  · exact ⟨congrArg done (State.hostTst_bound hb _), congrArg done (State.hostTst_bound hb _),
      fun hk => congrArg done ((if_neg hk).trans (State.hostTst_bound hb _))⟩

end Sys2Proof.Machine
end

section
/-!
SUPPORT and proof of O17: the release of executions (09 R234, 07 R187) and of BE batches (04 R127).
-/

namespace Sys2Proof.Machine

/-! ### Lists -/

theorem find?_updWhere {α : Type} {p : α → Bool} {f : α → α} (hf : ∀ x, p x = true → p (f x) = true) (l : List α) :
    (updWhere p f l).find? p = (l.find? p).map f := by
  induction l with
  | nil => rfl
  | cons a l ih =>
    rw [updWhere, List.map_cons, ← updWhere]
    by_cases h : p a = true
    · simp [h, hf a h]
    · simp [h, ih]

theorem find?_filter_of {α : Type} {p q : α → Bool} (h : ∀ x, p x = true → q x = true) (l : List α) :
    (l.filter q).find? p = l.find? p := by
  rw [List.find?_filter]
  congr 1
  funext x
  by_cases hp : p x = true
  · simp [hp, h x hp]
  · simp [hp]

theorem mem_insertBy {α : Type} (key : α → List Nat) (a x : α) (l : List α) : x ∈ insertBy key a l ↔ x = a ∨ x ∈ l := by
  induction l with
  | nil => simp [insertBy]
  | cons b l ih =>
    unfold insertBy
    split
    · simp
    · simp [ih, or_left_comm]

theorem mem_sortBy {α : Type} (key : α → List Nat) (x : α) (l : List α) : x ∈ sortBy key l ↔ x ∈ l := by
  have h (acc : List α) : x ∈ l.foldl (fun acc a => insertBy key a acc) acc ↔ x ∈ acc ∨ x ∈ l := by
    induction l generalizing acc with
    | nil => simp
    | cons a l ih => simp [ih, mem_insertBy, or_assoc, or_comm, or_left_comm]
  exact (h []).trans (by simp)

/-! ### Executions -/

theorem State.exec?_eq (s : State) (id : Nat) : s.exec? id = s.execs.find? (fun e => e.id == id) := find1_eq_find? ..

theorem State.exec?_id {s : State} {id : Nat} {e : Exec} (h : s.exec? id = some e) : e.id = id := by
  rw [State.exec?_eq] at h
  simpa using List.find?_some h

theorem State.exec?_updExec (s : State) (id : Nat) {f : Exec → Exec} (hf : ∀ x, (f x).id = x.id) :
    (s.updExec id f).exec? id = (s.exec? id).map f := by
  rw [State.exec?_eq, State.exec?_eq]
  exact find?_updWhere (fun x hx => by rw [hf]; exact hx) _

theorem State.exec?_of_execs {s t : State} (h : t.execs = s.execs) (id : Nat) : t.exec? id = s.exec? id := by
  unfold State.exec?
  rw [h]

/-! ### The chunk batch (07 R187) -/

/-- The mates of a chunk execution are others. -/
theorem State.chunkMates_id {s : State} {e x : Exec} (h : x ∈ s.chunkMates e) : x.id ≠ e.id := by
  unfold State.chunkMates at h
  dsimp only at h
  generalize hl : sortBy _ (List.filter _ s.execs) = l at h
  have hsame : ∀ y ∈ l, y.id ≠ e.id := by
    intro y hy
    rw [← hl, mem_sortBy, List.mem_filter] at hy
    have := hy.2
    simp only [Bool.and_eq_true, bne_iff_ne] at this
    exact this.1.1.1.2
  have hf (acc : List Exec) (hacc : ∀ y ∈ acc, y.id ≠ e.id) (g : List Exec → Exec → Bool) :
      ∀ y ∈ l.foldl (fun m x => if g m x then m ++ [x] else m) acc, y.id ≠ e.id := by
    clear hl h
    induction l generalizing acc with
    | nil => exact hacc
    | cons a l ih =>
      refine ih (fun y hy => hsame y (List.mem_cons_of_mem _ hy)) _ ?_
      dsimp only
      split
      · intro y hy
        obtain hy | hy := List.mem_append.mp hy
        · exact hacc y hy
        · rw [List.mem_singleton.mp hy]
          exact hsame a List.mem_cons_self
      · exact hacc
  exact hf [] (by simp) _ x h

/-- The chunk batch of an execution: the same execution, with the rows of its mates too. -/
theorem State.exec?_joinChunks {s : State} {id : Nat} {e : Exec} (h : s.exec? id = some e) :
    ∃ x, (s.joinChunks e).exec? id = some x ∧ ∀ r ∈ e.rows, r ∈ x.rows := by
  obtain rfl := State.exec?_id h
  unfold State.joinChunks
  extract_lets mates ids rows dl q s1 s2 fix
  have hs (l : List Nat) (u : State) : (u.each l (fun s i => s.updStream i (fun x =>
      { x with feat := { x.feat with chunks := x.feat.chunks.map fix } }))).execs = u.execs :=
    State.each_keeps (fun t => t.execs) _ (by intros; rfl) l u
  rw [State.exec?_of_execs (hs _ s2)]
  have h2 : s2.exec? e.id = s1.exec? e.id := by
    rw [State.exec?_eq, State.exec?_eq]
    refine find?_filter_of (fun x hx => ?_) _
    have hx' : x.id = e.id := beq_iff_eq.mp hx
    rw [Bool.not_eq_true', ← Bool.not_eq_true, List.contains_iff_mem]
    intro hm
    obtain ⟨y, hy, hyx⟩ := List.mem_map.mp hm
    exact State.chunkMates_id hy (hyx.trans hx')
  have h1 : s1.exec? e.id = some { e with rows := rows, deadline := dl, quarter := q } := by
    unfold s1
    exact (State.exec?_updExec _ _ (by intro x; rfl)).trans (congrArg _ h)
  exact ⟨_, h2.trans h1, fun r hr => (mem_sortBy _ _ _).mpr (List.mem_append_left _ hr)⟩

/-- Joining chunks touches executions and streams. -/
theorem State.joinChunks_keeps (s : State) (e : Exec) : (s.joinChunks e).tstl = s.tstl ∧ (s.joinChunks e).mem = s.mem := by
  unfold State.joinChunks
  extract_lets mates ids rows dl q s1 s2 fix
  exact ⟨State.each_keeps (fun t => t.tstl) _ (by intros; rfl) _ s2, State.each_keeps (fun t => t.mem) _ (by intros; rfl) _ s2⟩

/-! ### Binding Turnstiles (09 R234) -/

theorem State.armTst_frame (s : State) (n : Nat) (t : BitVec 24) : (s.setTst n ((s.tst n).armed' t)).TrigFrame (s.armTst n t) :=
  s.putTst_frame n _

/-- One logical Turnstile bound and armed. -/
theorem State.bindTst_frame (s : State) (n id : Nat) (t : BitVec 24) :
    let u := (s.setTst n { s.tst n with bound := some id }).armTst n t
    (u.tst n).bound = some id ∧ (u.tst n).armed = true ∧ (∀ m, m ≠ n → u.tst m = s.tst m) ∧ u.mem = s.mem ∧ u.streams = s.streams ∧
      u.execs = s.execs := by
  obtain ⟨h1, h2, h3, h4, h5⟩ := (State.armTst_frame (s.setTst n { s.tst n with bound := some id }) n t).tstFrame
  rw [State.tst_setTst] at h1
  exact ⟨by rw [h1]; rfl, by rw [h1]; rfl, fun m hm => (h2 m hm).trans (State.tst_setTst_ne _ hm _), h3, h4, h5⟩

/-- All of them: each of the list is bound to the execution and armed, and no other changes. -/
theorem State.bindTsts_frame (b : Img) (e : Exec) (l : List (Nat × Nat)) : ∀ s : State,
    let u := s.each l (fun s p => (s.setTst p.1 { s.tst p.1 with bound := some e.id }).armTst p.1 (BitVec.ofNat 24 (tstlTarget b e p.2)))
    (∀ k ∈ l.map Prod.fst, (u.tst k).bound = some e.id ∧ (u.tst k).armed = true) ∧ (∀ k, k ∉ l.map Prod.fst → u.tst k = s.tst k) ∧
      u.mem = s.mem ∧ u.streams = s.streams ∧ u.execs = s.execs := by
  induction l with
  | nil => exact fun s => ⟨fun k hk => (nomatch hk), fun _ _ => rfl, rfl, rfl, rfl⟩
  | cons p l ih =>
    intro s
    obtain ⟨b1, b2, b3, b4, b5, b6⟩ := s.bindTst_frame p.1 e.id (BitVec.ofNat 24 (tstlTarget b e p.2))
    obtain ⟨i1, i2, i3, i4, i5⟩ := ih ((s.setTst p.1 { s.tst p.1 with bound := some e.id }).armTst p.1 (BitVec.ofNat 24 (tstlTarget b e p.2)))
    refine ⟨fun k hk => ?_, fun k hk => ?_, i3.trans b4, i4.trans b5, i5.trans b6⟩
    · by_cases hl : k ∈ l.map Prod.fst
      · exact i1 k hl
      · have hkp : k = p.1 := (List.mem_cons.mp hk).resolve_right hl
        have hi := i2 k hl
        subst hkp
        exact ⟨(congrArg Tstl.bound hi).trans b1, (congrArg Tstl.armed hi).trans b2⟩
    · rw [List.map_cons, List.mem_cons, not_or] at hk
      exact (i2 k hk.2).trans (b3 k hk.1)

theorem State.bindTsts_spec (s : State) (b : Img) (e : Exec) (l : List Nat) :
    (∀ k ∈ l, ((s.bindTsts b e l).tst k).bound = some e.id ∧ ((s.bindTsts b e l).tst k).armed = true) ∧
      (∀ k, k ∉ l → (s.bindTsts b e l).tst k = s.tst k) ∧ (s.bindTsts b e l).mem = s.mem ∧ (s.bindTsts b e l).streams = s.streams ∧
      (s.bindTsts b e l).execs = s.execs := by
  have h := State.bindTsts_frame b e l.zipIdx s
  rw [List.zipIdx_map_fst] at h
  exact h

/-! ### The release of one execution -/

/-- What keeps an execution from its release. -/
def State.Unreleasable (s : State) (e : Exec) : Prop :=
  e.released = true ∨ e.cancelled = true ∨ (s.ctx e.ctx).state ≠ .resident ∨
    (if e.sub = .chunk then s.heldPitch e.pitch else s.noRelease e.pitch) = true

/-- The state that a release binds in: its chunks joined. -/
def State.joined (s : State) (e : Exec) : State := if e.sub = .chunk then s.joinChunks e else s

theorem State.release_refused {s : State} {id : Nat} (h : ∀ e, s.exec? id = some e → s.Unreleasable e) : s.release id = s := by
  unfold State.release
  split
  · rfl
  · next e he =>
    refine if_pos ?_
    obtain h1 | h1 | h1 | h1 := h e he <;> simp [h1]

section
variable {s : State} {id : Nat} {e : Exec} (he : s.exec? id = some e) (h1 : e.released = false) (h2 : e.cancelled = false)
  (h3 : (s.ctx e.ctx).state = .resident) (h4 : (if e.sub = .chunk then s.heldPitch e.pitch else s.noRelease e.pitch) = false)
include he h1 h2 h3 h4

theorem State.release_waits (hn : ((s.freePool e.pitch).take (imgTstlCnt (s.execImg e))).length < imgTstlCnt (s.execImg e)) :
    s.release id = if e.waited then s else (s.updExec id (fun x => { x with waited := true })).inc .schedTstlWaitCnt := by
  unfold State.release
  rw [he]
  dsimp only
  rw [if_neg (by simp [h1, h2, h3, h4]), if_pos hn]

/-- An execution that is released holds its Turnstiles, bound to it and armed. -/
theorem State.release_binds (hn : imgTstlCnt (s.execImg e) ≤ ((s.freePool e.pitch).take (imgTstlCnt (s.execImg e))).length) :
    let pool := (s.freePool e.pitch).take (imgTstlCnt (s.execImg e))
    let u := s.release id
    (∃ x, u.exec? id = some x ∧ x.released = true ∧ x.bound = pool ∧ x.relCycle = s.cycle ∧
        (e.sub ≠ .chunk → x.rows = e.rows) ∧ (∀ r ∈ e.rows, r ∈ x.rows)) ∧
      (∀ k ∈ pool, (u.tst k).bound = some id ∧ (u.tst k).armed = true) ∧
      (∀ k, k ∉ pool → u.tst k = s.tst k) ∧ u.mem = s.mem ∧ u.streams = (s.joined e).streams := by
  intro pool
  have hj : ∃ x, (s.joined e).exec? id = some x ∧ (e.sub ≠ .chunk → x.rows = e.rows) ∧ ∀ r ∈ e.rows, r ∈ x.rows := by
    unfold State.joined
    split
    · next hc =>
      obtain ⟨x, hx, hr⟩ := State.exec?_joinChunks he
      exact ⟨x, hx, fun hn => absurd hc hn, hr⟩
    · exact ⟨e, he, fun _ => rfl, fun _ hr => hr⟩
  have hk : (s.joined e).tstl = s.tstl ∧ (s.joined e).mem = s.mem := by
    unfold State.joined
    split
    · exact s.joinChunks_keeps e
    · exact ⟨rfl, rfl⟩
  obtain ⟨x, hx, hrows, hsub⟩ := hj
  obtain ⟨kt, km⟩ := hk
  obtain ⟨b1, b2, b3, b4, b5⟩ := (s.joined e).bindTsts_spec (s.execImg e) x pool
  have hb : ((s.joined e).bindTsts (s.execImg e) x pool).exec? id = some x := (State.exec?_of_execs b5 id).trans hx
  have hid := State.exec?_id hx
  generalize hw : (s.joined e).bindTsts (s.execImg e) x pool = w at b1 b2 b3 b4 hb
  have hu : ∃ n, s.release id = (w.updExec id (fun x =>
      { x with released := true, bound := pool, fetches := n, relCycle := s.cycle })).updCtx e.ctx (fun c => { c with busy := true }) := by
    unfold State.release
    rw [he]
    dsimp only
    rw [if_neg (by simp [h1, h2, h3, h4]), if_neg (Nat.not_lt.mpr hn), ← State.joined, hx, ← hw]
    exact ⟨_, rfl⟩
  obtain ⟨n, hu⟩ := hu
  intro u
  have hexec : u.exec? id = some { x with released := true, bound := pool, fetches := n, relCycle := s.cycle } :=
    (State.exec?_of_execs (congrArg State.execs hu) id).trans
      ((State.exec?_updExec _ _ (by intro x; rfl)).trans (congrArg _ hb))
  have htst (k : Nat) : u.tst k = w.tst k := State.tst_of_tstl (congrArg State.tstl hu) k
  refine ⟨⟨_, hexec, rfl, rfl, rfl, hrows, hsub⟩, fun k hk => ?_, fun k hk => ?_, ?_, ?_⟩
  · rw [htst, ← hid]
    exact b1 k hk
  · exact (htst k).trans ((b2 k hk).trans (State.tst_of_tstl kt k))
  · exact (congrArg State.mem hu).trans (b3.trans km)
  · exact (congrArg State.streams hu).trans b4
end

/-! ### A BE release (04 R127) -/

theorem State.gatherAll_subset (q : Nat) (l : List Nat) : ∀ s : State,
    (State.gatherAll q l s).1 ⊆ l ∧ (State.gatherAll q l s).1.length ≤ l.length := by
  induction l with
  | nil => exact fun s => ⟨List.Subset.refl _, le_rfl⟩
  | cons i l ih =>
    intro s
    unfold State.gatherAll
    split
    · next s1 _ =>
      obtain ⟨h1, h2⟩ := ih s1
      exact ⟨List.cons_subset_cons i h1, Nat.succ_le_succ h2⟩
    · obtain ⟨h1, h2⟩ := ih s
      exact ⟨List.Subset.trans h1 (List.subset_cons_self i l), Nat.le_succ_of_le h2⟩

theorem State.releaseBe_held {s : State} {p : Nat} (h : s.noRelease p = true) : s.releaseBe p = s := by
  simp [State.releaseBe, h, pickMin]

/-- The batch formed for the stream `f` among those that are ready. -/
def State.beBatch (s0 : State) (p : Nat) (ready : List Nat) (f : Nat) (m : Model × Model) : State :=
  let same := ready.filter (fun i => (s0.stream i).dir.d == (s0.stream f).dir.d
    && ((s0.voiceModels p (s0.stream i).dir.voice).map (fun m => m.2.id)) == some m.2.id)
  let q := (s0.stream (same.headD f)).dir.quarter
  let g := State.gatherAll q (same.take 64) s0
  ((g.2.each g.1 State.runStream).stepExec m.2 q true g.1 0).release s0.nextId

/-- The batch for the stream `f`, where its voice has its models. -/
def State.beFirst (s0 : State) (p : Nat) (ready : List Nat) (f : Nat) : State :=
  (s0.voiceModels p (s0.stream f).dir.voice).elim s0 (s0.beBatch p ready f)

/-- The place of a stream in the BE order of its Pitch. -/
def State.bePlace (s0 : State) (p i : Nat) : Nat :=
  match s0.streamCtx (s0.stream i) with | some c => (s0.pitch p).beOrder.idxOf c | none => 0

theorem State.releaseBe_free {s : State} {p : Nat} (h : s.noRelease p = false) :
    let s0 := s.each (s.streamsWhere (fun x => x.dir.be && x.dir.pitch == p)) State.starve
    let ready := (s0.streamsWhere (fun x => x.dir.be && x.dir.pitch == p)).filter (s0.beReady p)
    s.releaseBe p = (pickMin (fun i => [s0.bePlace p i, i]) ready).elim s0 (s0.beFirst p ready) := by
  intro s0 ready
  unfold State.releaseBe
  simp only [h, Bool.false_eq_true, if_false]
  split
  · next hp => exact (congrArg (Option.elim · s0 (s0.beFirst p ready)) hp).symm
  · next f hp =>
    refine Eq.trans ?_ (congrArg (Option.elim · s0 (s0.beFirst p ready)) hp).symm
    unfold State.beFirst Option.elim
    dsimp only
    split
    · next hm => exact (congrArg (Option.elim · s0 _) hm).symm
    · next m hm => exact (congrArg (Option.elim · s0 (s0.beBatch p ready f)) hm).symm

theorem State.releaseBe_first {s : State} {p f : Nat} (h : s.noRelease p = false) :
    let s0 := s.each (s.streamsWhere (fun x => x.dir.be && x.dir.pitch == p)) State.starve
    let ready := (s0.streamsWhere (fun x => x.dir.be && x.dir.pitch == p)).filter (s0.beReady p)
    pickMin (fun i => [s0.bePlace p i, i]) ready = some f → s.releaseBe p = s0.beFirst p ready f := by
  intro s0 ready hf
  exact (State.releaseBe_free h).trans (congrArg (Option.elim · s0 (s0.beFirst p ready)) hf)

theorem State.beFirst_some {s0 : State} {p f : Nat} {m : Model × Model} (h : s0.voiceModels p (s0.stream f).dir.voice = some m)
    (ready : List Nat) : s0.beFirst p ready f = s0.beBatch p ready f m := by
  unfold State.beFirst
  rw [h]
  rfl

theorem State.beFirst_none {s0 : State} {p f : Nat} (h : s0.voiceModels p (s0.stream f).dir.voice = none)
    (ready : List Nat) : s0.beFirst p ready f = s0 := by
  unfold State.beFirst
  rw [h]
  rfl

/-- Settles O17: the one execution by `State.release_binds`, the batch by `State.releaseBe_free`. -/
theorem executionsAreReleased : Obligations.ExecutionsAreReleased := by
  unfold Obligations.ExecutionsAreReleased
  refine ⟨fun id e s he h1 h2 h3 h4 => ⟨fun hn => ?_, fun hn hw => ?_, fun hn hw => ?_⟩, fun id s h => ?_, fun p s h => ?_,
    fun p s h => ⟨fun hr => ?_, fun f m hf hm => ⟨?_, ?_, fun i hi => ?_⟩, fun f hf hm => ?_⟩⟩
  · obtain ⟨⟨x, hx, hr⟩, b1, b2, b3, b4⟩ := State.release_binds he h1 h2 h3 h4 hn
    refine ⟨finish (s.release id), rfl, ⟨x, (State.exec?_of_execs (finish_execs _) id).trans hx, hr⟩, fun k hk => ?_, fun k hk => ?_,
      (finish_mem _).trans b3, (finish_streams _).trans b4⟩
    · rw [State.tst_of_tstl (finish_tstl _)]
      exact b1 k hk
    · exact (State.tst_of_tstl (finish_tstl _) k).trans (b2 k hk)
  · exact congrArg done ((State.release_waits he h1 h2 h3 h4 hn).trans (if_neg (by simp [hw])))
  · exact congrArg done ((State.release_waits he h1 h2 h3 h4 hn).trans (if_pos hw))
  · exact congrArg done (State.release_refused h)
  · exact congrArg done (State.releaseBe_held h)
  · exact congrArg done ((State.releaseBe_free h).trans (congrArg (fun l => (pickMin _ l).elim _ (State.beFirst _ p l)) hr))
  · exact congrArg done ((State.releaseBe_first h hf).trans (State.beFirst_some hm _))
  · exact (State.gatherAll_subset _ _ _).2.trans (List.length_take_le ..)
  · have hs := (List.take_subset _ _) ((State.gatherAll_subset _ _ _).1 hi)
    obtain ⟨hr, hd⟩ := List.mem_filter.mp hs
    exact ⟨hr, beq_iff_eq.mp (Bool.and_eq_true_iff.mp hd).1⟩
  · exact congrArg done ((State.releaseBe_first h hf).trans (State.beFirst_none hm _))

end Sys2Proof.Machine
end

section
/-!
SUPPORT and proof of O23, O24 and O25: the registers, the scalar and branch and the vector instructions of a Kiosk (11 R282 to R290).
-/

namespace Sys2Proof.Machine

/-! ### Registers (11 R282) -/

section
variable (x : Kiosk)

@[simp] theorem Kiosk.rA_zero : x.rA 0 = 0 := rfl
@[simp] theorem Kiosk.rM_zero : x.rM 0 = 0xFFFFFFFF := rfl

theorem Kiosk.rA_wA {n : Nat} (m : Nat) (v : BitVec 64) (hl : x.a.length = 32) (h0 : 0 < n) (h : n < 32) :
    (x.wA n v).rA m = if m = n then v else x.rA m := by
  by_cases hm : m = n
  · subst hm
    simp [Kiosk.rA, Kiosk.wA, Nat.ne_of_gt h0, List.getD_eq_getElem?_getD, hl, h]
  · simp [Kiosk.rA, Kiosk.wA, Nat.ne_of_gt h0, hm, List.getD_eq_getElem?_getD, List.getElem?_set_ne (Ne.symm hm)]

theorem Kiosk.rM_wM {n : Nat} (m : Nat) (v : BitVec 32) (hl : x.m.length = 8) (h0 : 0 < n) (h : n < 8) :
    (x.wM n v).rM m = if m = n then v else x.rM m := by
  by_cases hm : m = n
  · subst hm
    simp [Kiosk.rM, Kiosk.wM, Nat.ne_of_gt h0, List.getD_eq_getElem?_getD, hl, h]
  · simp [Kiosk.rM, Kiosk.wM, Nat.ne_of_gt h0, hm, List.getD_eq_getElem?_getD, List.getElem?_set_ne (Ne.symm hm)]

/-- Another mask register stays, whatever is written. -/
theorem Kiosk.rM_wM_ne {n m : Nat} (v : BitVec 32) (hm : m ≠ n) : (x.wM n v).rM m = x.rM m := by
  by_cases h0 : n = 0
  · simp [Kiosk.wM, h0]
  · simp [Kiosk.rM, Kiosk.wM, h0, List.getD_eq_getElem?_getD, List.getElem?_set_ne (Ne.symm hm)]

theorem Kiosk.lane_wV {n i : Nat} (m : Nat) (mask : BitVec 32) (g : Nat → BitVec 32) (hl : x.v.length = 32) (h : n < 32) (hi : i < 32) :
    (x.wV n mask g).lane m i = if m = n ∧ mask.getLsbD i = true then g i else x.lane m i := by
  by_cases hm : m = n
  · subst hm
    simp [Kiosk.lane, Kiosk.rV, Kiosk.wV, List.getD_eq_getElem?_getD, hl, h, hi]
  · simp [Kiosk.lane, Kiosk.rV, Kiosk.wV, hm, List.getD_eq_getElem?_getD, List.getElem?_set_ne (Ne.symm hm)]
end

/-- Settles O23. -/
theorem kioskRegisters : Obligations.KioskRegisters := by
  unfold Obligations.KioskRegisters
  exact ⟨fun x v m => ⟨rfl, rfl, rfl, rfl⟩, fun x n m v hl h0 h => x.rA_wA m v hl h0 h, fun x n m v hl h0 h => x.rM_wM m v hl h0 h,
    fun x n m i mask g hl h hi => x.lane_wV m mask g hl h hi⟩

/-! ### Issue (11 R288, R291) -/

theorem State.kRuns_issueOp {s : State} {k : KioskNo} {c : Instr} (h : s.kRuns k c) (op : State → State) : s.issueOp c op = op s := by
  obtain ⟨w, hw, hi, hl⟩ := h
  exact State.issueOp_runs op hw hi hl

theorem State.updKiosk_congr {s : State} {k : Nat} {f g : Kiosk → Kiosk} (h : f (s.kiosk k) = g (s.kiosk k)) :
    s.updKiosk k f = s.updKiosk k g := by
  unfold State.kiosk at h
  simp only [State.updKiosk, Tab.modify, h]

@[simp] theorem State.kiosk_updKiosk (s : State) (k : Nat) (f : Kiosk → Kiosk) : (s.updKiosk k f).kiosk k = f (s.kiosk k) :=
  Tab.getD_modify_same ..

/-- An instruction that changes its Kiosk's registers and goes on. -/
theorem State.kset_eq {s : State} {k : Nat} {f g : Kiosk → Kiosk} (h : (f (s.kiosk k)).next = g (s.kiosk k)) :
    s.kset k f = s.updKiosk k g := State.updKiosk_congr h

/-! ### Scalars (11 R287) -/

/-- A write of an A register, and the next word. -/
theorem State.kset_wA (s : State) (k n : Nat) (v : Kiosk → BitVec 64) :
    s.kset k (fun x => x.wA n (v x)) = s.updKiosk k (fun x => { x.wA n (v x) with pc := pcAfter x.pc 1 }) :=
  State.kset_eq (by simp [Kiosk.next])

/-- SALU with a stated result. -/
theorem State.kSalu_eq {s : State} {k : Nat} {f : FV} {v : BitVec 64}
    (ho : saluOpen f.fn.toNat ((s.kiosk k).rA f.b.toNat) = false)
    (hv : saluOp f.fn.toNat ((s.kiosk k).rA f.a.toNat) ((s.kiosk k).rA f.b.toNat) 0 = v) :
    s.kSalu k f = s.updKiosk k (fun x => { x.wA f.d.toNat v with pc := pcAfter x.pc 1 }) := by
  simp only [State.kSalu, ho]
  exact State.kset_eq (by simp [Kiosk.next, ← hv])

/-- SALU with a shift by 64 or more (log 59). -/
theorem State.kSalu_open {s : State} {k : Nat} {f : FV} (hf : f.fn = 10 ∨ f.fn = 11 ∨ f.fn = 12)
    (hb : 64 ≤ ((s.kiosk k).rA f.b.toNat).toNat) :
    s.kSalu k f = { s with free := s.free + 1 }.updKiosk k (fun x =>
      { x.wA f.d.toNat (BitVec.ofNat 64 (Config.freeNat s.free)) with pc := pcAfter x.pc 1 }) := by
  have ho : saluOpen f.fn.toNat ((s.kiosk k).rA f.b.toNat) = true := by
    obtain hf | hf | hf := hf <;> simp [saluOpen, hf, hb]
  have hv (a u : BitVec 64) : saluOp f.fn.toNat a ((s.kiosk k).rA f.b.toNat) u = u := by
    obtain hf | hf | hf := hf <;> simp [saluOp, hf, Nat.not_lt.mpr hb]
  simp only [State.kSalu, ho, hv]
  exact State.kset_wA { s with free := s.free + 1 } k _ (fun _ => _)

theorem State.branch_eq (s : State) (k : Nat) (f : FB) (take : BitVec 64 → BitVec 64 → Bool) {p : Bool}
    (hp : take ((s.kiosk k).rA f.a.toNat) ((s.kiosk k).rA f.b.toNat) = p) :
    s.branch k f take = s.updKiosk k (fun x => { x with pc := pcAfter x.pc (if p then f.off.toInt else 1) }) := by
  refine State.updKiosk_congr ?_
  rw [hp]
  cases p <;> rfl

/-- Settles O24. -/
theorem kioskScalars : Obligations.KioskScalars := by
  unfold Obligations.KioskScalars
  refine ⟨⟨fun k f s h => ?_, fun k f s h => ?_, fun k f s v h hv => ?_, fun k f s h hf hb => ?_, fun k f s h => ?_,
    fun k f s h => ?_, fun k f s h => ?_⟩, fun k f s => ⟨fun h => ?_, fun h => ?_, fun h => ?_, fun h => ?_⟩,
    fun k f s => ⟨fun h => ?_, fun h => ?_⟩⟩ <;> refine congrArg done ((State.kRuns_issueOp h _).trans ?_)
  · exact State.kset_wA s _ _ (fun x => x.rA f.a.toNat + f.imm.signExtend 64)
  · exact State.kset_wA s _ _ (fun _ => f.imm.signExtend 64 <<< 16)
  · obtain ⟨hf, hv⟩ | ⟨hf, hv⟩ | ⟨hf, hv⟩ | ⟨hf, hv⟩ | ⟨hf, hv⟩ | ⟨hf, hv⟩ | ⟨hf, hb, hv⟩ | ⟨hf, hb, hv⟩ | ⟨hf, hb, hv⟩ | ⟨hf, hv⟩ |
      ⟨hf, hv⟩ := hv
    all_goals exact State.kSalu_eq (by simp [saluOpen, *]) (by simp [saluOp, slt64, BitVec.slt, BitVec.ult, *])
  · exact State.kSalu_open hf hb
  · exact State.kset_wA s _ _ (fun _ => BitVec.ofNat 64 (s.csr k.val f.imm.toNat))
  · exact State.kset_wA s _ _ (fun x => x.opr.getD f.imm.toNat 0)
  · rfl
  · exact s.branch_eq _ f _ rfl
  · exact s.branch_eq _ f _ rfl
  · exact s.branch_eq _ f _ rfl
  · exact s.branch_eq _ f _ rfl
  · rfl
  · rfl

/-! ### Vectors (11 R287) -/

/-- A word packed from bits has those bits. -/
theorem pack_bits (g : Nat → Bool) (n : Nat) :
    pack ((List.range n).map (fun i => (b2n (g i), i))) < 2 ^ n ∧
      ∀ i < n, (pack ((List.range n).map (fun i => (b2n (g i), i)))).testBit i = g i := by
  induction n with
  | zero => exact ⟨by simp [pack], fun i hi => absurd hi (Nat.not_lt_zero i)⟩
  | succ n ih =>
    obtain ⟨hlt, hbit⟩ := ih
    have hp : pack ((List.range (n + 1)).map (fun i => (b2n (g i), i))) =
        2 ^ n * b2n (g n) + pack ((List.range n).map (fun i => (b2n (g i), i))) := by
      simp [pack, List.range_succ, Nat.mul_comm, Nat.add_comm]
    have hb : b2n (g n) ≤ 1 := by unfold b2n; split <;> decide
    rw [hp]
    refine ⟨?_, fun i hi => ?_⟩
    · rw [Nat.pow_succ]
      nlinarith
    · rw [Nat.testBit_two_pow_mul_add _ hlt]
      split
      · next h => exact hbit i h
      · next h =>
        have hin : i = n := by omega
        subst hin
        cases hg : g i <;> simp [b2n]

theorem maskOf_bit (mask : BitVec 32) (f : Nat → Bool) (u : Nat) {i : Nat} (hi : i < 32) :
    (maskOf mask f u).getLsbD i = if mask.getLsbD i then f i else u.testBit i := by
  rw [maskOf, BitVec.getLsbD_ofNat, (pack_bits _ 32).2 i hi]
  simp [hi]

/-- A lane operation writes its lanes and goes on. -/
theorem State.lanewise_eq (s : State) (k : Nat) (f : FV) {g h : Kiosk → Nat → BitVec 32} (e : ∀ x i, g x i = h x i) :
    s.lanewise k f g = s.updKiosk k (fun x => { x.wV f.d.toNat (x.rM f.msk.toNat) (h x) with pc := pcAfter x.pc 1 }) :=
  State.updKiosk_congr (by rw [show g = h from funext fun x => funext (e x)]; rfl)

/-- What VCMP leaves: the bits of disabled lanes are those of some `u` (log 59). -/
theorem State.kVcmp_eq (s : State) (k : Nat) (f : FV) : ∃ (u : Nat) (t : State), s.kVcmp k f = t.updKiosk k (fun x =>
    (x.wM f.d.toNat (maskOf ((s.kiosk k).rM f.msk.toNat)
      (fun i => vcmpLane f.fn.toNat f.ty.toNat (x.lane f.a.toNat i) (x.lane f.b.toNat i)) u)).next) ∧
      t.kiosk k = s.kiosk k ∧ t.mem = s.mem := by
  unfold State.kVcmp
  dsimp only
  split
  · exact ⟨_, _, rfl, rfl, rfl⟩
  · exact ⟨_, _, rfl, rfl, rfl⟩

theorem State.kVcvt_eq (s : State) (k : Nat) (f : FV) : s.kVcvt k f = s.kset k (fun x =>
    let out := cvtBytes f (x.rM f.msk.toNat) (x.vBytes f.a.toNat)
      (if cvtPair f then x.vBytes f.d.toNat ++ x.vBytes (f.d.toNat + 1) else x.vBytes f.d.toNat) (x.rA f.b.toNat)
    { x with v := if cvtPair f then (x.v.set f.d.toNat (lanesOfBytes (out.take 128))).set (f.d.toNat + 1) (lanesOfBytes (out.drop 128))
        else x.v.set f.d.toNat (lanesOfBytes (out.take 128)) }) := rfl

theorem State.kVmovs_lane {s : State} {k : Nat} {f : FV} (hf : f.fn = 2) (h : ((s.kiosk k).rA f.b.toNat).toNat < 32) :
    s.kVmovs k f = s.updKiosk k (fun x =>
      { x.wA f.d.toNat (((s.kiosk k).lane f.a.toNat ((s.kiosk k).rA f.b.toNat).toNat).setWidth 64) with pc := pcAfter x.pc 1 }) := by
  simp only [State.kVmovs, hf, BitVec.reduceToNat, h, if_true]
  refine (s.kset_wA k _ (fun _ => _)).trans (congrArg (fun v => s.updKiosk k fun x => { x.wA f.d.toNat v with pc := pcAfter x.pc 1 }) ?_)
  rw [Nat.mod_eq_of_lt (BitVec.isLt _), BitVec.ofNat_toNat]

theorem State.kVmovs_open {s : State} {k : Nat} {f : FV} (hf : f.fn = 2) (h : 32 ≤ ((s.kiosk k).rA f.b.toNat).toNat) :
    s.kVmovs k f = { s with free := s.free + 1 }.updKiosk k (fun x =>
      { x.wA f.d.toNat (BitVec.ofNat 64 (Config.freeNat s.free % 2 ^ 32)) with pc := pcAfter x.pc 1 }) := by
  simp only [State.kVmovs, hf, BitVec.reduceToNat, Nat.not_lt.mpr h, if_false]
  exact State.kset_wA { s with free := s.free + 1 } k _ (fun _ => _)

/-- Settles O25. -/
theorem kioskVectors : Obligations.KioskVectors := by
  unfold Obligations.KioskVectors
  refine ⟨fun k f s => ⟨fun h => ?_, fun h => ?_, fun h => ?_, fun h => ?_, fun h => ?_, fun h => ?_⟩, fun k f s h => ?_,
    fun k f s h => ?_, fun k f s h hp => ?_, fun k f s h hp => ?_,
    fun k f s h => ⟨fun hf => ?_, fun hf => ?_, fun hf hn => ?_, fun hf hn => ?_⟩, fun k f s h => ?_⟩
  · exact congrArg done ((State.kRuns_issueOp h _).trans (s.lanewise_eq _ f fun _ _ => rfl))
  · exact congrArg done ((State.kRuns_issueOp h _).trans (s.lanewise_eq _ f fun _ _ => rfl))
  · exact congrArg done ((State.kRuns_issueOp h _).trans (s.lanewise_eq _ f fun _ _ => rfl))
  · exact congrArg done ((State.kRuns_issueOp h _).trans (s.lanewise_eq _ f fun _ _ => rfl))
  · exact congrArg done ((State.kRuns_issueOp h _).trans (s.lanewise_eq _ f fun _ _ => rfl))
  · exact congrArg done ((State.kRuns_issueOp h _).trans (s.lanewise_eq _ f fun _ _ => rfl))
  · exact congrArg done ((State.kRuns_issueOp h _).trans rfl)
  · obtain ⟨u, t, hu, hk, hm⟩ := s.kVcmp_eq k f
    have hd : f.d.toNat < 8 := by
      obtain ⟨w, -, -, hl⟩ := h
      simp only [kioskLegal, Bool.and_eq_true, decide_eq_true_eq] at hl
      exact hl.2
    have hx := (congrArg (State.kiosk · k) hu).trans (t.kiosk_updKiosk k _)
    rw [hk] at hx
    refine ⟨_, congrArg done (State.kRuns_issueOp h _), ?_⟩
    have hfin : (finish (s.kVcmp k f)).kiosk k = (s.kVcmp k f).kiosk k := rfl
    rw [hfin, hx]
    refine ⟨by simp [Kiosk.next], by simp [Kiosk.next], by simp [Kiosk.next], ?_, fun i hi hon hd0 hlen => ?_, fun n hn => ?_⟩
    · rw [finish_mem, hu]
      exact hm
    · refine (congrArg (BitVec.getLsbD · i) (((s.kiosk k).rM_wM _ _ hlen hd0 hd).trans (if_pos rfl))).trans ?_
      rw [maskOf_bit _ _ _ hi, if_pos hon]
    · exact (s.kiosk k).rM_wM_ne _ hn
  · refine congrArg done ((State.kRuns_issueOp h _).trans ((s.kVcvt_eq _ f).trans ?_))
    rw [hp]
    rfl
  · refine congrArg done ((State.kRuns_issueOp h _).trans ((s.kVcvt_eq _ f).trans ?_))
    rw [hp]
    rfl
  · refine congrArg done ((State.kRuns_issueOp h _).trans ?_)
    simp only [State.kVmovs, hf]
    exact s.lanewise_eq _ f fun _ _ => rfl
  · refine congrArg done ((State.kRuns_issueOp h _).trans ?_)
    simp only [State.kVmovs, hf]
    exact s.lanewise_eq _ f fun _ _ => rfl
  · exact congrArg done ((State.kRuns_issueOp h _).trans (State.kVmovs_lane hf hn))
  · exact congrArg done ((State.kRuns_issueOp h _).trans (State.kVmovs_open hf hn))
  · exact congrArg done ((State.kRuns_issueOp h _).trans (s.kset_wA _ _ (fun x =>
      BitVec.ofNat 64 (vredSum (x.rM f.msk.toNat) (x.lane f.a.toNat)))))

end Sys2Proof.Machine
end

section
/-!
SUPPORT and proof of O26 and O27: the loads, the stores and the data cache of a Kiosk (11 R291 to R297).
-/

namespace Sys2Proof.Machine

/-! ### Loads (11 R291) -/

/-- How the command of a load ends, given how its pieces do: `g` puts what they hold and goes on. -/
structure LoadEnds (o : Host.Outcome State Fault Refusal) (k : Nat) (r : KRes (List (List Byte)))
    (g : List (List Byte) → Kiosk → Kiosk) : Prop where
  ok : ∀ v t, r = .ok v t → o = done (t.updKiosk k (g v))
  exc : ∀ c a t, r = .exc c a t → o = done (t.kioskExc k c (some a))
  stop : ∀ t, r = .stop t → ∃ v, o = done ({ t with free := t.free + 1 }.updKiosk k (g v))
  wait : ∀ t, r = .wait t → o = done t

theorem State.loaded_ends {k : Nat} {r : KRes (List (List Byte))} {w g : List (List Byte) → Kiosk → Kiosk} {n sz : Nat} {u : State}
    (hu : u = State.loaded k r w n sz) (hw : ∀ v x, (w v x).next = g v x) : LoadEnds (done u) k r g where
  ok v t hr := congrArg done (hu.trans (by rw [hr]; exact State.kset_eq (hw v _)))
  exc c a t hr := congrArg done (hu.trans (by rw [hr]; rfl))
  stop t hr := ⟨_, congrArg done (hu.trans (by rw [hr]; exact State.kset_eq (hw _ _)))⟩
  wait t hr := congrArg done (hu.trans (by rw [hr]; rfl))

/-! ### Stores -/

/-- How the command of a store ends, given how its pieces do. -/
structure StoreEnds (o : Host.Outcome State Fault Refusal) (k : Nat) (r : KRes Unit) : Prop where
  ok : ∀ v t, r = .ok v t → o = done (t.updKiosk k (fun x => { x with pc := pcAfter x.pc 1 }))
  exc : ∀ c a t, r = .exc c a t → o = done (t.kioskExc k c (some a))
  stop : ∀ t, r = .stop t → o = done t
  wait : ∀ t, r = .wait t → o = done t

theorem State.stored_ends {k : Nat} {r : KRes Unit} {u : State} (hu : u = State.stored k r) : StoreEnds (done u) k r where
  ok v t hr := congrArg done (hu.trans (by rw [hr]; rfl))
  exc c a t hr := congrArg done (hu.trans (by rw [hr]; rfl))
  stop t hr := congrArg done (hu.trans (by rw [hr]; rfl))
  wait t hr := congrArg done (hu.trans (by rw [hr]; rfl))

/-! ### Alignment (11 R291, R302; log 58) -/

theorem State.pieceFault_align (s : State) (k : Nat) (wr : Bool) {a n : Nat} (h : a % n ≠ 0) :
    s.pieceFault k wr none [(a, n)] = some (2, a) := by
  have hb : (a % n == 0) = false := beq_false_of_ne h
  simp [State.pieceFault, find1, alignOk, hb]

theorem State.kioskLoad_align (s : State) (k : Nat) {a n : Nat} (h : a % n ≠ 0) : s.kioskLoad k none [(a, n)] = .exc 2 a s := by
  simp [State.kioskLoad, s.pieceFault_align k false h]

theorem State.kioskStore_align (s : State) (k : Nat) {a : Nat} {bs : List Byte} (h : a % bs.length ≠ 0) :
    s.kioskStore k none [(a, bs)] = .exc 2 a s := by
  simp [State.kioskStore, s.pieceFault_align k true h]

theorem execLd_ends {k : KioskNo} {f : FM} {s : State} (h : s.kRuns k (.ld k f)) : LoadEnds (exec (.ld k f) s) k
    (s.kioskLoad k none [((s.kiosk k).scalarAddr f, 2 ^ f.sz.toNat)])
    (fun v x => { x.wA f.d.toNat (BitVec.ofNat 64 (leNat (v.headD []))) with pc := pcAfter x.pc 1 }) :=
  State.loaded_ends (State.kRuns_issueOp h _) (fun v x => by simp [Kiosk.next])

theorem execSt_ends {k : KioskNo} {f : FM} {s : State} (h : s.kRuns k (.st k f)) : StoreEnds (exec (.st k f) s) k
    (s.kioskStore k none [((s.kiosk k).scalarAddr f, leBytes (2 ^ f.sz.toNat) ((s.kiosk k).rA f.d.toNat).toNat)]) :=
  State.stored_ends (State.kRuns_issueOp h _)

/-- Settles O26. -/
theorem kioskLoadsAndStores : Obligations.KioskLoadsAndStores := by
  unfold Obligations.KioskLoadsAndStores
  refine ⟨fun k f s h => ?_, fun k f s h => ?_, fun k f s h => ?_, fun k f s h => ?_, fun k f s h => ?_, fun k f s h => ?_,
    fun k f s ha => ⟨fun h => ?_, fun h => ?_⟩⟩
  · have he := execLd_ends h
    split
    exacts [he.ok _ _ ‹_›, he.exc _ _ _ ‹_›, he.wait _ ‹_›, he.stop _ ‹_›]
  · intro a m
    have he : LoadEnds (exec (.vld k f) s) k (s.kioskLoad k (some a) ((onLanes m).map (fun i => (a + 4 * i, 4))))
        (fun v x => { x.putLanes f.d.toNat m v with pc := pcAfter x.pc 1 }) :=
      State.loaded_ends (State.kRuns_issueOp h _) (fun v x => rfl)
    split
    exacts [he.ok _ _ ‹_›, he.exc _ _ _ ‹_›, he.wait _ ‹_›, he.stop _ ‹_›]
  · intro m
    have he : LoadEnds (exec (.vgather k f) s) k (s.kioskLoad k none ((onLanes m).map (fun i => ((s.kiosk k).laneAddr f i, 4))))
        (fun v x => { x.putLanes f.d.toNat m v with pc := pcAfter x.pc 1 }) :=
      State.loaded_ends (State.kRuns_issueOp h _) (fun v x => rfl)
    split
    exacts [he.ok _ _ ‹_›, he.exc _ _ _ ‹_›, he.wait _ ‹_›, he.stop _ ‹_›]
  · intro x
    have he := execSt_ends h
    split
    exacts [he.ok _ _ ‹_›, he.exc _ _ _ ‹_›, he.wait _ ‹_›, he.stop _ ‹_›]
  · intro x a
    have he : StoreEnds (exec (.vst k f) s) k (s.kioskStore k (some a) ((onLanes (x.rM f.msk.toNat)).map (fun i =>
        (a + 4 * i, leBytes 4 (x.lane f.d.toNat i).toNat)))) := State.stored_ends (State.kRuns_issueOp h _)
    split
    exacts [he.ok _ _ ‹_›, he.exc _ _ _ ‹_›, he.wait _ ‹_›, he.stop _ ‹_›]
  · intro x
    have he : StoreEnds (exec (.vscatter k f) s) k (s.kioskStore k none ((onLanes (x.rM f.msk.toNat)).map (fun i =>
        (x.laneAddr f i, leBytes 4 (x.lane f.d.toNat i).toNat)))) := State.stored_ends (State.kRuns_issueOp h _)
    split
    exacts [he.ok _ _ ‹_›, he.exc _ _ _ ‹_›, he.wait _ ‹_›, he.stop _ ‹_›]
  · exact (execLd_ends h).exc _ _ _ (s.kioskLoad_align k ha)
  · exact (execSt_ends h).exc _ _ _ (s.kioskStore_align k (by rw [leBytes_length]; exact ha))

/-! ### The data cache (11 R293, R294, R297) -/

theorem State.dropClean_keeps (s : State) (k a : Nat) : (s.dropClean k a).mem = s.mem ∧ (s.dropClean k a).memx = s.memx ∧
    ((s.dropClean k a).kiosk k).wbuf = (s.kiosk k).wbuf := by
  unfold State.dropClean
  refine ⟨rfl, rfl, ?_⟩
  rw [State.kiosk_updKiosk]
  rfl

theorem State.cachedStore_keeps (s0 : State) (k a : Nat) (bs : List Byte) (h : (s0.kiosk k).wbuf.length < 8) :
    (s0.cachedStore k a bs).mem = s0.mem ∧ (s0.cachedStore k a bs).memx = s0.memx := by
  unfold State.cachedStore
  extract_lets n hit s x r s1
  have hs : s.mem = s0.mem ∧ s.memx = s0.memx ∧ (s.kiosk k).wbuf = (s0.kiosk k).wbuf := by
    unfold s
    split
    · exact s0.dropClean_keeps k _
    · exact ⟨rfl, rfl, rfl⟩
  obtain ⟨hm, hx, hw⟩ := hs
  have h1 : s1 = s := if_pos (by show (s.kiosk k).wbuf.length < 8; rwa [hw])
  split
  · exact ⟨hm, hx⟩
  · split
    · exact ⟨hm, hx⟩
    · rw [h1]
      exact ⟨hm, hx⟩

/-- Nothing written stands for the block: its line goes, and memory is as it was. -/
theorem State.evictLine_clean {s : State} {k addr : Nat} {l : CLine} (hl : (s.kiosk k).lines = [l]) (ha : l.addr = addr / 64 * 64)
    (hd : l.isDirty = false) (hf : (s.kiosk k).flight = []) (hw : (s.kiosk k).wbuf = []) :
    ((s.evictLine k addr).kiosk k).lines = [] ∧ (s.evictLine k addr).mem = s.mem ∧ (s.evictLine k addr).memx = s.memx := by
  have hb : s.landBlock k (addr / 64 * 64) = s.updKiosk k (fun x =>
      { x with flight := x.flight.filter (fun l => !(l.addr == addr / 64 * 64)), wbuf := x.wbuf.filter (fun l => !(l.addr == addr / 64 * 64)) }) := by
    simp only [State.landBlock, hf, hw]
    rfl
  have he : s.evictLine k addr = (s.landBlock k (addr / 64 * 64)).updKiosk k (fun x =>
      { x with lines := x.lines.filter (fun l => l.addr != addr / 64 * 64) }) := by
    simp only [State.evictLine, hl, ha, List.filter_cons, beq_self_eq_true, if_true, hd, Bool.false_eq_true, if_false, List.filter_nil]
    rfl
  rw [he, hb]
  refine ⟨?_, rfl, rfl⟩
  simp [State.kiosk_updKiosk, hl, ha]

/-- Settles O27. -/
theorem kioskCaches : Obligations.KioskCaches := by
  unfold Obligations.KioskCaches
  refine ⟨fun k f s h => congrArg done ((State.kRuns_issueOp h _).trans rfl),
    fun k f s h => congrArg done ((State.kRuns_issueOp h _).trans rfl), fun k addr s => rfl, fun k addr s l hl ha hd hf hw => ?_,
    fun k s a bs h => s.cachedStore_keeps k a bs h⟩
  exact ⟨_, rfl, State.evictLine_clean hl ha hd hf hw⟩

end Sys2Proof.Machine
end

section
/-!
SUPPORT and proof of O28: Turnstiles, waits and releases of a Kiosk (09 R235, 11 R297 to R301).
-/

namespace Sys2Proof.Machine

/-! ### What does not look at the Kiosks

A Turnstile's operation neither reads nor changes a Kiosk, so it may be done before or after a change of one. -/

/-- The state with other Kiosks. -/
def State.withK (s : State) (x : Tab Kiosk) : State := { s with kiosks := x }

section
variable (s : State) (x : Tab Kiosk)

theorem ite_withK (p : Prop) [Decidable p] (a b : State) : (if p then a else b).withK x = if p then a.withK x else b.withK x :=
  apply_ite (State.withK · x) p a b

theorem State.event_withK (code subject dom arg0 arg1 : Nat) :
    (s.withK x).event code subject dom arg0 arg1 = (s.event code subject dom arg0 arg1).withK x := by
  unfold State.event State.eventIf
  dsimp only
  rw [ite_withK]
  exact if_congr Iff.rfl rfl rfl

theorem State.raiseTx_withK (p : Nat) : (s.withK x).raiseTx p = (s.raiseTx p).withK x := by
  have h : (s.withK x).servedBy (p + 1) = s.servedBy (p + 1) := rfl
  unfold State.raiseTx
  rw [h]
  cases s.servedBy (p + 1) with
  | none => rfl
  | some n =>
    dsimp only
    rw [ite_withK]
    exact if_congr Iff.rfl rfl rfl

theorem State.raiseRx_withK (p : Nat) : (s.withK x).raiseRx p = (s.raiseRx p).withK x := by
  have h : (s.withK x).servedBy (p + 9) = s.servedBy (p + 9) := rfl
  unfold State.raiseRx
  rw [h]
  cases s.servedBy (p + 9) with
  | none => rfl
  | some n =>
    dsimp only
    rw [ite_withK]
    exact if_congr Iff.rfl rfl rfl

theorem State.raiseFree_withK (n : Nat) : (s.withK x).raiseFree n = (s.raiseFree n).withK x := by
  unfold State.raiseFree
  dsimp only
  rw [ite_withK]
  exact if_congr Iff.rfl rfl rfl

theorem State.raiseFor_withK (n : Nat) : (s.withK x).raiseFor n = (s.raiseFor n).withK x := by
  unfold State.raiseFor
  dsimp only
  rw [ite_withK, ite_withK, ite_withK]
  exact if_congr Iff.rfl (s.raiseTx_withK x _) (if_congr Iff.rfl (s.raiseRx_withK x _) (if_congr Iff.rfl (s.raiseFree_withK x _) rfl))

theorem State.goChan_withK (n : Nat) : (s.withK x).goChan n = (s.goChan n).withK x := by
  have h : (s.withK x).chan n = s.chan n := rfl
  unfold State.goChan
  rw [h]
  cases (s.chan n).desc with
  | none => rfl
  | some d =>
    dsimp only
    rw [ite_withK, ite_withK]
    exact if_congr Iff.rfl (if_congr Iff.rfl rfl (State.raiseFor_withK
      (s.updChan n (fun c => { c with state := if c.request then .run else .waitPreq })) x n)) rfl

theorem State.autoStart_withK (n : Nat) : (s.withK x).autoStart n = (s.autoStart n).withK x := by
  have h : (s.withK x).chan n = s.chan n := rfl
  unfold State.autoStart
  dsimp only
  rw [h]
  cases (s.chan n).trigs with
  | nil => rfl
  | cons t l =>
    dsimp only
    rw [ite_withK]
    exact if_congr Iff.rfl rfl rfl

theorem State.trigger_withK (n : Nat) (g : Option Nat) : (s.withK x).trigger n g = (s.trigger n g).withK x := by
  have h : (s.withK x).chan n = s.chan n := rfl
  unfold State.trigger
  dsimp only
  rw [h, ite_withK, ite_withK, ite_withK, ite_withK]
  have ha := State.goChan_withK (s.updChan n (fun c => { c with gen := g, trigTime := some s.uptime })) x n
  have hb := State.autoStart_withK (s.updChan n (fun c => { c with trigs := c.trigs ++ [(g, s.uptime)] })) x n
  have hc := State.event_withK ((s.inc .movrChTrigLostCnt n).flag .movrChEvt n 1) x 0x0703 n (s.chanDom n) 0 0
  exact if_congr Iff.rfl rfl (if_congr Iff.rfl ha (if_congr Iff.rfl (if_congr Iff.rfl rfl hc) hb))

theorem State.triggerAll_withK (src : Nat) (p : Nat → Bool) (g : Option Nat) :
    (s.withK x).triggerAll src p g = (s.triggerAll src p g).withK x := by
  unfold State.triggerAll
  exact (List.foldl_hom (State.withK · x) (g₂ := fun t n => t.trigger n g) (fun t n => (t.trigger_withK x n g)) (init := s)).symm ▸ rfl

theorem State.putTst_withK (n : Nat) (t : Tstl) : (s.withK x).putTst n t = (s.putTst n t).withK x := by
  unfold State.putTst
  dsimp only
  rw [ite_withK]
  exact if_congr Iff.rfl (State.triggerAll_withK (s.setTst n t) x ..) rfl

theorem State.passTst_withK (n k : Nat) : (s.withK x).passTst n k = (s.passTst n k).withK x := by
  have h : (s.withK x).tst n = s.tst n := rfl
  unfold State.passTst
  dsimp only
  rw [h, ite_withK, ite_withK, s.putTst_withK]
  exact if_congr Iff.rfl rfl (if_congr Iff.rfl rfl rfl)
end

/-! ### Turnstile instructions (09 R235, 11 R299) -/

theorem Tab.set_set {α : Type} (t : Tab α) (n : Nat) (v w : α) : Tab.set (Tab.set t n v) n w = Tab.set t n w := by
  induction t with
  | nil => simp [Tab.set]
  | cons p t ih =>
    obtain ⟨k, u⟩ := p
    by_cases h : n < k
    · simp [Tab.set, h]
    · by_cases he : n = k <;> simp [Tab.set, h, he, ih]

/-- Two changes of a Kiosk are one. -/
theorem State.updKiosk_updKiosk (s : State) (k : Nat) (f g : Kiosk → Kiosk) :
    (s.updKiosk k f).updKiosk k g = s.updKiosk k (fun x => g (f x)) := by
  simp [State.updKiosk, Tab.modify, Tab.set_set]

theorem State.withTst_in {s : State} {k n : Nat} (h : s.inPool (s.kioskPitch k) ((s.kiosk k).tstIdx n) = true)
    (f : Nat → State → State) : s.withTst k n f = f ((s.kiosk k).tstIdx n) s := if_pos h

theorem State.withTst_out {s : State} {k n : Nat} (h : s.inPool (s.kioskPitch k) ((s.kiosk k).tstIdx n) = false)
    (f : Nat → State → State) :
    s.withTst k n f = ((s.inc .schedTstlErrCnt).flag .schedGraphEvt 0 0).kioskExc k 7 (some ((s.kiosk k).tstIdx n)) :=
  if_neg (by simp [h])

/-- A target of at most 24 bits. -/
theorem State.kArm_in {s : State} {k : Nat} {f : FS} (h : s.inPool (s.kioskPitch k) ((s.kiosk k).tstIdx f.a.toNat) = true)
    (hb : ((s.kiosk k).rA f.b.toNat).toNat < 2 ^ 24) :
    s.kArm k f = (s.armTst ((s.kiosk k).tstIdx f.a.toNat) (BitVec.ofNat 24 ((s.kiosk k).rA f.b.toNat).toNat)).updKiosk k
      (fun x => { x with pc := pcAfter x.pc 1 }) := by
  refine (State.withTst_in h _).trans ?_
  dsimp only
  rw [if_pos hb]
  rfl

/-- A larger one (log 59). -/
theorem State.kArm_open {s : State} {k : Nat} {f : FS} (h : s.inPool (s.kioskPitch k) ((s.kiosk k).tstIdx f.a.toNat) = true)
    (hb : 2 ^ 24 ≤ ((s.kiosk k).rA f.b.toNat).toNat) :
    s.kArm k f = ({ s with free := s.free + 1 }.armTst ((s.kiosk k).tstIdx f.a.toNat) (BitVec.ofNat 24 (Config.freeNat s.free))).updKiosk k
      (fun x => { x with pc := pcAfter x.pc 1 }) := by
  refine (State.withTst_in h _).trans ?_
  dsimp only
  rw [if_neg (Nat.not_lt.mpr hb)]
  rfl

/-! ### Ends, yields and waits -/

section
variable {s : State} {k : Nat} {f : FS}

theorem State.kYield_bad (h : s.lastTile k = true ∨ (s.kiosk k).pc ≠ s.boundPc k) : s.kYield k f = s.kioskExc k 5 none :=
  if_pos (by simpa using h)

theorem State.kYield_plain (hl : s.lastTile k = false) (hp : (s.kiosk k).pc = s.boundPc k) (ha : f.a = 0) :
    s.kYield k f = s.updKiosk k (fun x => { x with run := .release, rel := some .yield, waitT := 0 }) :=
  (if_neg (by simp [hl, hp])).trans (if_pos ha)

theorem State.kYield_waits (hl : s.lastTile k = false) (hp : (s.kiosk k).pc = s.boundPc k) (ha : f.a ≠ 0) :
    s.kYield k f = if s.inPool (s.kioskPitch k) ((s.kiosk k).tstIdx f.a.toNat) then
        s.updKiosk k (fun x => { x with run := .release, rel := some .yield, waitT := (s.kiosk k).tstIdx f.a.toNat + 1 })
      else ((s.inc .schedTstlErrCnt).flag .schedGraphEvt 0 0).kioskExc k 7 (some ((s.kiosk k).tstIdx f.a.toNat)) :=
  (if_neg (by simp [hl, hp])).trans (if_neg ha)

theorem State.kWaitMet_met (hr : (s.kiosk k).run = .wait) (ht : s.tstMet (s.kiosk k).waitT = true) :
    s.kWaitMet k = s.updKiosk k (fun x =>
      { x.acquire with run := .run, pc := pcAfter x.pc 1, haltAt := if x.halt then s.cycle else x.haltAt }) := by
  refine (if_pos (by simp [hr, ht])).trans ((State.updKiosk_updKiosk ..).trans (State.updKiosk_congr ?_))
  cases hh : (s.kiosk k).halt with
  | false => simp [Kiosk.next, Kiosk.acquire, hh]
  | true =>
    simp only [Kiosk.next, Kiosk.acquire, hh, Bool.true_and, if_true]
    rfl

theorem State.kWaitMet_not (h : (s.kiosk k).run ≠ .wait ∨ s.tstMet (s.kiosk k).waitT = false) : s.kWaitMet k = s := by
  refine if_neg ?_
  obtain h | h := h <;> simp [h]

/-! ### The end of a release (11 R297) -/

/-- The instruction that a release held back is done. -/
def State.goesOn (s : State) (k : Nat) : State :=
  (s.updKiosk k (fun x => { x with run := .run, rel := none, pc := pcAfter x.pc 1 })).settle k

/-- What a release leaves, by what it held back. -/
def State.released (s : State) (k : Nat) : KRel → State
  | .fence => (s.landFlight k).goesOn k
  | .pass t n => ((s.landRelease k).passTst t n).goesOn k
  | .yield => (s.landRelease k).kioskTileEnd k true
  | .fin => (s.landRelease k).kioskTileEnd k false

theorem State.kioskReleaseDone_of {r : KRel} (hr : (s.kiosk k).run = .release) (hl : (s.kiosk k).rel = some r) :
    s.kioskReleaseDone k = s.released k r := by
  unfold State.kioskReleaseDone
  dsimp only
  rw [hr, hl]
  cases r <;> rfl

theorem State.kioskReleaseDone_none (h : (s.kiosk k).run ≠ .release ∨ (s.kiosk k).rel = none) : s.kioskReleaseDone k = s := by
  unfold State.kioskReleaseDone
  dsimp only
  by_cases hr : (s.kiosk k).run = .release
  · rw [hr, h.resolve_left (not_not.mpr hr)]
    rfl
  · exact if_pos (by simp [hr])

theorem State.kioskTileEnd_none (h : s.unitRun (k / 16) .kiosk (k % 16) = none ∨ s.kioskTask k = none) (y : Bool) :
    s.kioskTileEnd k y = s := by
  unfold State.kioskTileEnd
  obtain h | h := h
  · simp [h]
  · cases s.unitRun (k / 16) .kiosk (k % 16) <;> simp [h]

theorem State.kioskTileEnd_some {u : UnitRun} {t : Exec × Img × TaskRec} (hu : s.unitRun (k / 16) .kiosk (k % 16) = some u)
    (ht : s.kioskTask k = some t) (y : Bool) :
    s.kioskTileEnd k y =
      let v := (s.tileDone u t.1 t.2.1 t.2.2).updKiosk k (fun x => { x with run := .idle, exec := none, rel := none })
      if y then v.updTask t.1.id (s.kiosk k).task (fun y =>
        { y with saved := (s.kiosk k).a, waitT := if (s.kiosk k).waitT = 0 then none else some ((s.kiosk k).waitT - 1) })
      else v := by
  unfold State.kioskTileEnd
  rw [hu, ht]

/-- With nothing written, a release of a PASS is the PASS. -/
theorem State.passRelease_empty {t n : Nat} (hh : (s.kiosk k).halt = false) (hf : (s.kiosk k).flight = []) (hw : (s.kiosk k).wbuf = [])
    (hl : (s.kiosk k).lines = []) : ((s.landRelease k).passTst t n).goesOn k =
      (s.passTst t n).updKiosk k (fun x => { x with run := .run, rel := none, pc := pcAfter x.pc 1 }) := by
  have hrel : s.landRelease k = s.withK (s.updKiosk k (fun x => { x with flight := [], wbuf := [], lines := x.lines.map CLine.clean })).kiosks := by
    simp only [State.landRelease, Kiosk.dirtyLines, hf, hw, hl]
    rfl
  have hs : s.passTst t n = (s.passTst t n).withK s.kiosks := s.passTst_withK s.kiosks t n
  have hk : (s.passTst t n).kiosks = s.kiosks := (congrArg State.kiosks hs).trans rfl
  have hpass : (s.landRelease k).passTst t n =
      (s.passTst t n).updKiosk k (fun x => { x with flight := [], wbuf := [], lines := x.lines.map CLine.clean }) := by
    rw [hrel, State.passTst_withK]
    unfold State.updKiosk
    rw [hk]
    rfl
  have hx : (s.passTst t n).kiosk k = s.kiosk k := congrArg (Tab.getD · k Kiosk.reset) hk
  rw [hpass]
  unfold State.goesOn State.settle
  rw [State.updKiosk_updKiosk, State.updKiosk_updKiosk]
  refine State.updKiosk_congr ?_
  rw [hx]
  generalize s.kiosk k = x at hh hf hw hl ⊢
  cases x
  dsimp only at hh hf hw hl
  subst hh hf hw hl
  rfl
end

/-- Settles O28. -/
theorem kioskSynchronisation : Obligations.KioskSynchronisation := by
  unfold Obligations.KioskSynchronisation
  refine ⟨fun k f s hp => ⟨fun h => ?_, fun h => ?_, fun h hb => ?_, fun h hb => ?_, fun h => ?_⟩,
    fun k f s hp => ⟨fun h => ?_, fun h => ?_, fun h => ?_, fun h => ?_⟩,
    fun k f s => ⟨fun h => ?_, fun h hl => ?_, fun h hl => ?_, fun h hl hpc ha => ?_, fun h hl hpc ha => ?_, fun h hb => ?_⟩,
    fun k s => ⟨fun hr ht => congrArg done (State.kWaitMet_met hr ht), fun h => congrArg done (State.kWaitMet_not h)⟩,
    fun k s hr => ⟨fun hl => ?_, fun t n hl => ?_, fun r t hu ht => ⟨fun hl => ?_, fun hl => ?_⟩, fun hl hn => ?_⟩,
    fun k s h => congrArg done (State.kioskReleaseDone_none h), fun k s t n hr hl hh hf hw hs => ?_⟩
  · exact congrArg done ((State.kRuns_issueOp h _).trans (State.withTst_in hp _))
  · exact congrArg done ((State.kRuns_issueOp h _).trans (State.withTst_in hp _))
  · exact congrArg done ((State.kRuns_issueOp h _).trans (State.kArm_in hp hb))
  · exact congrArg done ((State.kRuns_issueOp h _).trans (State.kArm_open hp hb))
  · exact congrArg done ((State.kRuns_issueOp h _).trans (State.withTst_in hp _))
  · exact congrArg done ((State.kRuns_issueOp h _).trans (State.withTst_out hp _))
  · exact congrArg done ((State.kRuns_issueOp h _).trans (State.withTst_out hp _))
  · exact congrArg done ((State.kRuns_issueOp h _).trans (State.withTst_out hp _))
  · exact congrArg done ((State.kRuns_issueOp h _).trans (State.withTst_out hp _))
  · exact congrArg done (State.kRuns_issueOp h _)
  · exact congrArg done ((State.kRuns_issueOp h _).trans (if_pos hl))
  · exact congrArg done ((State.kRuns_issueOp h _).trans (if_neg (by simp [hl])))
  · exact congrArg done ((State.kRuns_issueOp h _).trans (State.kYield_plain hl hpc ha))
  · exact congrArg done ((State.kRuns_issueOp h _).trans (State.kYield_waits hl hpc ha))
  · exact congrArg done ((State.kRuns_issueOp h _).trans (State.kYield_bad hb))
  · exact congrArg done (State.kioskReleaseDone_of hr hl)
  · exact congrArg done (State.kioskReleaseDone_of hr hl)
  · exact congrArg done ((State.kioskReleaseDone_of hr hl).trans (State.kioskTileEnd_some hu ht false))
  · exact congrArg done ((State.kioskReleaseDone_of hr hl).trans (State.kioskTileEnd_some hu ht true))
  · obtain hl | hl := hl
    · exact congrArg done ((State.kioskReleaseDone_of hr hl).trans (State.kioskTileEnd_none hn false))
    · exact congrArg done ((State.kioskReleaseDone_of hr hl).trans (State.kioskTileEnd_none hn true))
  · exact congrArg done ((State.kioskReleaseDone_of hr hl).trans (State.passRelease_empty hh hf hw hs))

end Sys2Proof.Machine
end

section
/-!
SUPPORT and proof of O29: the exceptions of a Kiosk and their record (11 R288, R291, R301 to R303, 18 R475).
-/

namespace Sys2Proof.Machine

/-! ### Words that are not there or not legal (11 R288, R291; log 11) -/

/-- The command of a Kiosk instruction issues its operation. -/
theorem exec_issueOp {i : Instr} {kw : KioskNo × Nat} (h : kioskWord i = some kw) (s : State) :
    ∃ op, exec i s = done (s.issueOp i op) := by
  cases i with
  | kNop | kEnd | kYield | kWait | kPass | kArm | kTrst | kFlush | kInv | kFence | kCsr | kOpr | addi | lui | salu | ld | st | vld | vst
  | beq | bne | blt | bltu | jal | jr | valu | vfma | vcmp | vcvt | klog2 | kexp2 | ksqrt | krcp | ksincosTurn | vmovs | vred
  | vgather | vscatter => exact ⟨_, rfl⟩
  | _ => cases h

theorem State.reservedOp_bad {s : State} {k : KioskNo} {w : Nat} (hi : s.issues k.val w = true)
    (hb : ∀ i, kioskDecode k w = some i → kioskLegal i = false) : s.reservedOp k w = s.kioskExc k.val 1 none := by
  unfold State.reservedOp
  dsimp only
  rw [hi]
  cases hd : kioskDecode k w with
  | none => rfl
  | some i => simp [hb i hd]

theorem State.reservedOp_legal {s : State} {k : KioskNo} {w : Nat}
    (h : s.issues k.val w = false ∨ ∃ i, kioskDecode k w = some i ∧ kioskLegal i = true) : s.reservedOp k w = s := by
  refine if_neg ?_
  obtain h | ⟨i, hd, hl⟩ := h
  · simp [h]
  · simp [hd, hl]

theorem State.fetchBad_not {s : State} {k : Nat}
    (h : s.kioskRuns k = false ∨ (s.kiosk k).halt = true ∨ (s.fetchWord k).isSome = true) : s.fetchBad k = s := by
  refine if_neg ?_
  obtain h | h | h := h
  · simp [h]
  · simp [h]
  · rw [Option.isSome_iff_exists] at h
    obtain ⟨w, h⟩ := h
    simp [h]

theorem State.fetchBad_outside {s : State} {k : Nat} (hr : s.kioskRuns k = true) (hh : (s.kiosk k).halt = false)
    (hw : s.fetchWord k = none) : s.fetchBad k = s.kioskExc k 4 (some (s.kiosk k).pc) :=
  if_pos (by simp [hr, hh, hw])

/-! ### The record of an exception (11 R303) -/

theorem State.rg_flag_ne (s : State) {r q : RegName} {i a b : Nat} (h : r.off i ≠ q.off a b) (n : Nat) :
    (s.flag r i n).rg q a b = s.rg q a b := s.rg_setRg_ne h _

theorem State.rg_inc_ne (s : State) {r q : RegName} {i a b : Nat} (h : r.off i ≠ q.off a b) : (s.inc r i).rg q a b = s.rg q a b :=
  s.rg_setRg_ne h _

/-- The four words of an exception record lie apart from each other and from the counter and the flags of their Quarter. -/
theorem kskExc_apart (q j : Nat) :
    (RegName.kskExcPc.off q j ≠ RegName.kskExc.off q j ∧ RegName.kskExcAddrLo.off q j ≠ RegName.kskExc.off q j ∧
      RegName.kskExcAddrHi.off q j ≠ RegName.kskExc.off q j ∧ RegName.kskExcAddrLo.off q j ≠ RegName.kskExcPc.off q j ∧
      RegName.kskExcAddrHi.off q j ≠ RegName.kskExcPc.off q j ∧ RegName.kskExcAddrHi.off q j ≠ RegName.kskExcAddrLo.off q j) ∧
    ∀ r ∈ [RegName.kskExc, .kskExcPc, .kskExcAddrLo, .kskExcAddrHi],
      RegName.qtrKskExcCnt.off q ≠ r.off q j ∧ RegName.qtrKskEvt.off q ≠ r.off q j := by
  have h0 : RegName.kskExc.off q j = 0x100108 + q * 0x10000 + j * 0x20 := rfl
  have h1 : RegName.kskExcPc.off q j = 0x10010C + q * 0x10000 + j * 0x20 := rfl
  have h2 : RegName.kskExcAddrLo.off q j = 0x100110 + q * 0x10000 + j * 0x20 := rfl
  have h3 : RegName.kskExcAddrHi.off q j = 0x100114 + q * 0x10000 + j * 0x20 := rfl
  have h4 : RegName.qtrKskExcCnt.off q = 0x100070 + q * 0x10000 + 0 * 0 := rfl
  have h5 : RegName.qtrKskEvt.off q = 0x10006C + q * 0x10000 + 0 * 0 := rfl
  simp only [List.forall_mem_cons, List.not_mem_nil, false_implies, implies_true, and_true, h0, h1, h2, h3, h4, h5]
  omega

/-- The four words of a Kiosk's exception record. -/
structure State.ExcRecord (s : State) (k cause pc lo hi : Nat) : Prop where
  cause : s.rg .kskExc (k / 16) (k % 16) = cause % 2 ^ 32
  pc : s.rg .kskExcPc (k / 16) (k % 16) = pc % 2 ^ 32
  lo : s.rg .kskExcAddrLo (k / 16) (k % 16) = lo % 2 ^ 32
  hi : s.rg .kskExcAddrHi (k / 16) (k % 16) = hi % 2 ^ 32

/-- Written in order, they hold what was written. -/
theorem State.excRecord_set (s : State) (k c pc lo hi : Nat) :
    ((((s.setRg .kskExc (k / 16) c (k % 16)).setRg .kskExcPc (k / 16) pc (k % 16)).setRg .kskExcAddrLo (k / 16) lo (k % 16)).setRg
      .kskExcAddrHi (k / 16) hi (k % 16)).ExcRecord k c pc lo hi := by
  obtain ⟨⟨h1, h2, h3, h4, h5, h6⟩, -⟩ := kskExc_apart (k / 16) (k % 16)
  constructor
  · rw [State.rg_setRg_ne _ h3, State.rg_setRg_ne _ h2, State.rg_setRg_ne _ h1, State.rg_setRg_same]
  · rw [State.rg_setRg_ne _ h5, State.rg_setRg_ne _ h4, State.rg_setRg_same]
  · rw [State.rg_setRg_ne _ h6, State.rg_setRg_same]
  · rw [State.rg_setRg_same]

/-- Counting and flagging it leave the record. -/
theorem State.ExcRecord.counted {s : State} {k c pc lo hi : Nat} (h : s.ExcRecord k c pc lo hi) :
    ((s.inc .qtrKskExcCnt (k / 16)).flag .qtrKskEvt (k / 16) 0).ExcRecord k c pc lo hi := by
  obtain ⟨-, ha⟩ := kskExc_apart (k / 16) (k % 16)
  have hr (r : RegName) (hr : r ∈ [RegName.kskExc, .kskExcPc, .kskExcAddrLo, .kskExcAddrHi]) :
      ((s.inc .qtrKskExcCnt (k / 16)).flag .qtrKskEvt (k / 16) 0).rg r (k / 16) (k % 16) = s.rg r (k / 16) (k % 16) := by
    obtain ⟨h1, h2⟩ := ha r hr
    rw [State.rg_flag_ne _ h2, State.rg_inc_ne _ h1]
  obtain ⟨h1, h2, h3, h4⟩ := h
  exact ⟨(hr _ (by decide)).trans h1, (hr _ (by decide)).trans h2, (hr _ (by decide)).trans h3, (hr _ (by decide)).trans h4⟩

theorem State.recordExc_record (s : State) (k cause pc addr : Nat) :
    (s.recordExc k cause pc (some addr)).ExcRecord k (cause + 2 ^ 31) pc addr (addr / 2 ^ 32 % 65536) :=
  (s.excRecord_set k _ _ _ _).counted

theorem State.recordExc_keeps (s : State) (k cause pc : Nat) (addr : Option Nat) :
    (s.recordExc k cause pc addr).execs = s.execs ∧ (s.recordExc k cause pc addr).ctxs = s.ctxs ∧
      (s.recordExc k cause pc addr).streams = s.streams ∧ (s.recordExc k cause pc addr).kiosks = s.kiosks := by
  unfold State.recordExc
  dsimp only
  simp only [State.flag_execs, State.inc_execs, State.setRg_execs, State.flag_ctxs, State.inc_ctxs, State.setRg_ctxs,
    State.flag_streams, State.inc_streams, State.setRg_streams, State.flag_kiosks, State.inc_kiosks, State.setRg_kiosks]
  cases addr <;> exact ⟨rfl, rfl, rfl, rfl⟩

section
variable (s : State) (k : Nat) (f : Kiosk → Kiosk)
@[simp] theorem State.updKiosk_execs : (s.updKiosk k f).execs = s.execs := rfl
@[simp] theorem State.updKiosk_ctxs : (s.updKiosk k f).ctxs = s.ctxs := rfl
@[simp] theorem State.updKiosk_streams : (s.updKiosk k f).streams = s.streams := rfl
end

@[simp] theorem State.rg_updKiosk (s : State) (k : Nat) (f : Kiosk → Kiosk) (r : RegName) (i j : Nat) :
    (s.updKiosk k f).rg r i j = s.rg r i j := rfl

/-- An exception that is held faults nothing yet (18 R475). -/
theorem State.kioskExc_held {s : State} {k : Nat} (cause : Nat) (addr : Option Nat) (hh : (s.kiosk k).haltExc = true)
    (hl : 2 ≤ s.sec.level) :
    s.kioskExc k cause addr = ((s.recordExc k cause (s.kiosk k).pc addr).updKiosk k (fun x => { x with run := .exc, rel := none })).updKiosk k
      (fun x => { x with held := some cause, haltAt := s.cycle }) :=
  if_pos (by simp [hh, hl])

/-- One that is not faults the Kiosk's execution. -/
theorem State.kioskExc_faults {s : State} {k : Nat} (cause : Nat) {e : Nat} (addr : Option Nat)
    (hh : (s.kiosk k).haltExc = false ∨ s.sec.level < 2) (he : (s.kiosk k).exec = some e) :
    s.kioskExc k cause addr = (((s.recordExc k cause (s.kiosk k).pc addr).updKiosk k (fun x =>
      { x with run := .exc, rel := none })).execFault e (if cause = 7 then 0x11 else 0x11 + cause)) := by
  have hk : (s.recordExc k cause (s.kiosk k).pc addr).kiosk k = s.kiosk k :=
    congrArg (Tab.getD · k Kiosk.reset) (s.recordExc_keeps k cause _ addr).2.2.2
  have hf : kioskFault cause = if cause = 7 then 0x11 else 0x11 + cause := by
    unfold kioskFault
    split
    · rfl
    · next h => exact (if_neg h).symm
  refine (if_neg ?_).trans ?_
  · obtain h | h := hh <;> simp [h]
  · unfold State.excFault
    rw [State.kiosk_updKiosk, hk]
    dsimp only
    rw [he, hf]

theorem State.overlength_over {s : State} {k : Nat} (h : (s.kioskTask k).isSome = true ∧
      ((s.kiosk k).run = .run ∨ (s.kiosk k).run = .wait ∨ (s.kiosk k).run = .release) ∧ (s.kiosk k).halted = false)
    (hc : (s.kiosk k).start + 2048 ≤ s.cycle) : s.overlength k = s.kioskExc k 6 none := by
  obtain ⟨h1, h2, h3⟩ := h
  exact if_pos (by simp [h1, or_assoc, h2, h3, hc])

theorem State.overlength_not {s : State} {k : Nat} (h : ¬ ((s.kioskTask k).isSome = true ∧
      ((s.kiosk k).run = .run ∨ (s.kiosk k).run = .wait ∨ (s.kiosk k).run = .release) ∧ (s.kiosk k).halted = false) ∨
    s.cycle < (s.kiosk k).start + 2048) : s.overlength k = s := by
  refine if_neg fun hc => ?_
  simp only [Bool.and_eq_true, Bool.or_eq_true, beq_iff_eq, Bool.not_eq_true', decide_eq_true_eq, or_assoc] at hc
  obtain ⟨⟨⟨h1, h2⟩, h3⟩, h4⟩ := hc
  obtain h | h := h
  · exact h ⟨h1, h2, h3⟩
  · exact absurd h4 (Nat.not_le.mpr h)

/-- Settles O29. -/
theorem kioskExceptions : Obligations.KioskExceptions := by
  unfold Obligations.KioskExceptions
  refine ⟨fun i k w s hw => ⟨fun hi => ?_, fun hi hl => ?_⟩, fun k w s hi hb => congrArg done (State.reservedOp_bad hi hb),
    fun k w s h => congrArg done (State.reservedOp_legal h), fun k s h => congrArg done (State.fetchBad_not h),
    fun k s hr hh hf => congrArg done (State.fetchBad_outside hr hh hf),
    fun k s => ⟨fun h hc => congrArg done (State.overlength_over h hc), fun h => congrArg done (State.overlength_not h)⟩,
    fun k s => ?_, fun k s cause e addr hh he => State.kioskExc_faults cause addr hh he, fun k s cause addr hc ha hh hl => ?_⟩
  · obtain ⟨op, ho⟩ := exec_issueOp hw s
    exact ho.trans (congrArg done (State.issueOp_elsewhere op hw hi))
  · obtain ⟨op, ho⟩ := exec_issueOp hw s
    exact ho.trans (congrArg done (State.issueOp_illegal op hw hi hl))
  · obtain ⟨h1, h2, h3, h4⟩ := s.excRecord_set k 0 0 0 0
    exact ⟨_, rfl, h1, h2, h3, h4, rfl, rfl⟩
  · obtain ⟨h1, h2, h3, h4⟩ := s.recordExc_record k cause (s.kiosk k).pc addr
    intro t
    have ht : t = _ := State.kioskExc_held cause (some addr) hh hl
    rw [ht]
    obtain ⟨k1, k2, k3, -⟩ := s.recordExc_keeps k cause (s.kiosk k).pc (some addr)
    simp only [State.rg_updKiosk, h1, h2, h3, h4, State.kiosk_updKiosk, true_and, State.updKiosk_execs, State.updKiosk_ctxs,
      State.updKiosk_streams, k1, k2, k3, and_true]
    exact ⟨Nat.mod_eq_of_lt (by omega), by omega⟩

end Sys2Proof.Machine
end

section
/-!
SUPPORT and proof of O50: the debug unit's control of Kiosks, and JTAG (18 R471, R474, R475, R483).
-/

namespace Sys2Proof.Machine

/-! ### The debug unit (18 R474, R475) -/

/-- Below level 2 the debug unit does nothing. -/
theorem State.cond_dbg_low {s : State} (h : s.sec.level < 2) (f : State → State) : s.cond s.dbg2 f = s :=
  if_neg (by simp [State.dbg2, h])

theorem State.cond_dbg {s : State} (h : 2 ≤ s.sec.level) (f : State → State) : s.cond s.dbg2 f = f s :=
  if_pos (by simp [State.dbg2, h])

section
variable {s : State} {k : Nat}

theorem State.kioskHalt_eq (s : State) (k : Nat) : s.kioskHalt k = s.updKiosk k (fun x => if x.halt then x else
    { x with halt := true, haltAt := if x.run = .idle ∨ x.run = .run then s.cycle else x.haltAt }) := by
  refine State.updKiosk_congr ?_
  simp only [Bool.or_eq_true, beq_iff_eq]

theorem State.kioskUnhalt_running (h : (s.kiosk k).halt = false) : s.kioskUnhalt k = s := if_pos (by simp [h])

theorem State.kioskUnhalt_halted (h : (s.kiosk k).halt = true) (hh : (s.kiosk k).halted = true) (he : (s.kiosk k).held = none) :
    s.kioskUnhalt k = (s.kioskResumed k).updKiosk k (fun x => { x with halt := false }) := by
  refine (if_neg (by simp [h])).trans ?_
  rw [if_pos (by simp [hh, he])]

theorem State.kioskUnhalt_before (h : (s.kiosk k).halt = true) (hh : (s.kiosk k).halted = false ∨ (s.kiosk k).held ≠ none) :
    s.kioskUnhalt k = s.updKiosk k (fun x => { x with halt := false }) := by
  refine (if_neg (by simp [h])).trans ?_
  rw [if_neg]
  obtain hh | hh := hh <;> simp [hh]

/-- What one step of a Kiosk does, and where it stands then. -/
def State.stepOnce (s : State) (pc k : Nat) : State :=
  match s.fetchWord k with
  | none => s.kioskExc k 4 (some pc)
  | some w =>
    match kioskDecode ⟨k % 256, Nat.mod_lt _ (by decide)⟩ w with
    | some i => if kioskLegal i then s.kioskDo i else s.kioskExc k 1 none
    | none => s.kioskExc k 1 none

theorem State.kioskStep_may (h : (s.kiosk k).halt = true ∧ (s.kiosk k).held = none ∧ s.kioskRuns k = true) :
    s.kioskStep k = (((s.kioskResumed k).updKiosk k (fun x => { x with halt := false })).stepOnce (s.kiosk k).pc k).updKiosk k
      (fun y => { y with halt := true, haltAt := s.cycle }) := by
  obtain ⟨h1, h2, h3⟩ := h
  exact if_pos (by simp [h1, h2, h3])

theorem State.kioskStep_not (h : ¬ ((s.kiosk k).halt = true ∧ (s.kiosk k).held = none ∧ s.kioskRuns k = true)) : s.kioskStep k = s := by
  refine if_neg fun hc => h ?_
  simpa [and_assoc] using hc

theorem State.stepOnce_outside (h : s.fetchWord k = none) (pc : Nat) : s.stepOnce pc k = s.kioskExc k 4 (some pc) := by
  unfold State.stepOnce
  rw [h]

theorem State.stepOnce_word {w : Nat} (h : s.fetchWord k = some w) (pc : Nat) : s.stepOnce pc k =
    (kioskDecode ⟨k % 256, Nat.mod_lt _ (by decide)⟩ w).elim (s.kioskExc k 1 none)
      (fun i => if kioskLegal i then s.kioskDo i else s.kioskExc k 1 none) := by
  unfold State.stepOnce
  rw [h]
  dsimp only
  cases kioskDecode ⟨k % 256, _⟩ w <;> rfl

theorem State.excRelease_held {c : Nat} (h : (s.kiosk k).held = some c) :
    s.excRelease k = (s.updKiosk k (fun x => { x with held := none })).excFault k c := by
  unfold State.excRelease
  rw [h]

theorem State.excRelease_none (h : (s.kiosk k).held = none) : s.excRelease k = s := by
  unfold State.excRelease
  rw [h]
end

theorem State.viewWrite_halted {s : State} (hl : 2 ≤ s.sec.level) (h : (s.kiosk s.dbgKiosk).halted = true) (v : Nat) :
    s.viewWrite v = (s.updKiosk s.dbgKiosk (fun x => s.viewPut x v)).record 8 s.dbgKiosk s.defaultDom
      (leBytes 2 (s.fld .dbgKskViewSel 0 6 0) ++ leBytes 2 0 ++ leBytes 4 v) :=
  if_pos (by simp [State.dbg2, hl, h])

theorem State.viewWrite_not {s : State} (h : s.sec.level < 2 ∨ (s.kiosk s.dbgKiosk).halted = false) (v : Nat) : s.viewWrite v = s := by
  refine if_neg ?_
  obtain h | h := h <;> simp [State.dbg2, h]

/-! ### JTAG (18 R471, R483; log 60) -/

section
variable {s : State} (a v : Nat)

theorem State.jtag_write_off (h : 2 ≤ s.pwr.state ∨ s.sec.level < 3) : s.jtag true a v = s := by
  refine if_pos ?_
  obtain h | h := h
  · simp [Nat.not_lt.mpr h]
  · simp [h]

theorem State.jtag_read_off (h : 2 ≤ s.pwr.state ∨ s.sec.level = 0) : s.jtag false a v = s.emit (.jtag 0) := by
  refine if_pos ?_
  obtain h | h := h
  · simp [Nat.not_lt.mpr h]
  · simp [h]

theorem State.jtag_write (hp : s.pwr.state < 2) (hl : 3 ≤ s.sec.level) : s.jtag true a v =
    (regOff a).elim (if a % 4 = 0 then (s.hostWrite a (leBytes 4 v)).2 else s) (fun o => (s.regWriteAt .mgmt o v).2) := by
  refine (if_neg (by simp [hp, hl])).trans ?_
  cases regOff a <;> rfl

theorem State.jtag_read (hp : s.pwr.state < 2) (hl : 1 ≤ s.sec.level) : s.jtag false a v =
    (regOff a).elim (if a % 4 = 0 then (s.hostRead a 4).2.2.emit (.jtag (leNat (s.hostRead a 4).2.1)) else s.emit (.jtag 0))
      (fun o => (s.regRead1 .mgmt o).2.2.emit (.jtag (s.regRead1 .mgmt o).2.1)) := by
  refine (if_neg (by simp [hp, Nat.ne_of_gt hl])).trans ?_
  cases regOff a <;> rfl
end

/-- Settles O50. -/
theorem kioskDebug : Obligations.KioskDebug := by
  unfold Obligations.KioskDebug
  refine ⟨fun s v h => ?_, fun s h => ?_, fun s h => ⟨fun hx => ?_, fun hx hh he => ?_, fun hx hh => ?_⟩,
    fun s h => ⟨fun hm => ?_, fun hm hf => ?_, fun w i hm hf hc hl => ?_, fun w i hm hf hc hl => ?_, fun w hm hf hc => ?_⟩,
    fun s h => ⟨fun c hc => ?_, fun hc => ?_⟩, fun s v h => ⟨fun hh => ?_, fun hh => ?_⟩,
    fun a v s => ⟨fun h => ?_, fun h => ?_, fun o ho => ⟨fun hp hl => ?_, fun hp hl => ?_⟩,
      fun ho h4 => ⟨fun hp hl => ?_, fun hp hl => ?_⟩, fun ho h4 hp => ⟨fun hl => ?_, fun hl => ?_⟩⟩⟩
  · exact ⟨congrArg done (State.cond_dbg_low h _), congrArg done (State.cond_dbg_low h _), congrArg done (State.cond_dbg_low h _),
      congrArg done (State.cond_dbg_low h _), congrArg done (State.viewWrite_not (.inl h) _)⟩
  · exact congrArg done ((State.cond_dbg h _).trans (s.kioskHalt_eq _))
  · exact congrArg done ((State.cond_dbg h _).trans (State.kioskUnhalt_running hx))
  · exact congrArg done ((State.cond_dbg h _).trans (State.kioskUnhalt_halted hx hh he))
  · exact congrArg done ((State.cond_dbg h _).trans (State.kioskUnhalt_before hx hh))
  · exact congrArg done ((State.cond_dbg h _).trans (State.kioskStep_not hm))
  · refine congrArg done ((State.cond_dbg h _).trans ((State.kioskStep_may hm).trans ?_))
    rw [State.stepOnce_outside hf]
  · dsimp only at hc
    refine congrArg done ((State.cond_dbg h _).trans ((State.kioskStep_may hm).trans ?_))
    rw [State.stepOnce_word hf, hc, Option.elim, if_pos hl]
  · dsimp only at hc
    refine congrArg done ((State.cond_dbg h _).trans ((State.kioskStep_may hm).trans ?_))
    rw [State.stepOnce_word hf, hc, Option.elim, if_neg (by simp [hl])]
  · dsimp only at hc
    refine congrArg done ((State.cond_dbg h _).trans ((State.kioskStep_may hm).trans ?_))
    rw [State.stepOnce_word hf, hc, Option.elim]
  · exact congrArg done ((State.cond_dbg h _).trans (State.excRelease_held hc))
  · exact congrArg done ((State.cond_dbg h _).trans (State.excRelease_none hc))
  · exact congrArg done (State.viewWrite_halted h hh _)
  · exact congrArg done (State.viewWrite_not (.inr hh) _)
  · exact congrArg done (State.jtag_write_off _ _ h)
  · exact congrArg done (State.jtag_read_off _ _ h)
  · exact congrArg done ((State.jtag_write _ _ hp hl).trans (by rw [ho, Option.elim]))
  · exact congrArg done ((State.jtag_read _ _ hp hl).trans (by rw [ho, Option.elim]))
  · exact congrArg done ((State.jtag_write _ _ hp hl).trans (by rw [ho, Option.elim, if_pos h4]))
  · exact congrArg done ((State.jtag_read _ _ hp hl).trans (by rw [ho, Option.elim, if_pos h4]))
  · exact congrArg done ((State.jtag_write _ _ hp hl).trans (by rw [ho, Option.elim, if_neg h4]))
  · exact congrArg done ((State.jtag_read _ _ hp hl).trans (by rw [ho, Option.elim, if_neg h4]))

end Sys2Proof.Machine
end

section
/-!
SUPPORT and proof of O37: register and memory access by messages (15 R384, 18 R466, R471, R477).
-/

namespace Sys2Proof.Machine

/-! ### What the gate lets through (15 R384) -/

/-- A message that nothing keeps from its rule has the form and the fields that R384 asks for. -/
theorem State.accepts_fields {s : State} {i : Instr} {h : Hdr} (ha : s.accepts i h) : i.wf = true ∧ fieldsOk i = true := by
  obtain ⟨-, -, -, hg⟩ := ha
  rw [← Bool.and_eq_true]
  by_contra hf
  rw [Bool.not_eq_true] at hf
  simp only [State.gate, firstFail, hf] at hg
  split at hg <;> simp at hg

/-! ### Registers -/

theorem State.regReadRep_one (s : State) (n : Nat) {a : DWord} {o : Nat} (ho : regOff a.toNat = some o) :
    s.regReadRep n [a] = ⟨(s.regRead1 (.session n) o).1, leBytes 4 (s.regRead1 (.session n) o).2.1, (s.regRead1 (.session n) o).2.2, false⟩ := by
  simp [State.regReadRep, State.readRegs, ho]

theorem State.regWriteRep_one (s : State) (n : Nat) {a : DWord} (v : Word) {o : Nat} (ho : regOff a.toNat = some o) :
    s.regWriteRep n [(a, v)] = Rep.no (s.regWriteAt (.session n) o v.toNat).2 (s.regWriteAt (.session n) o v.toNat).1 := by
  simp [State.regWriteRep, State.writeRegs, ho]

/-! ### Ranges (18 R466) -/

/-- The parts of a range lie in it. -/
theorem hostParts_inside {a n : Nat} {p : Nat × Nat} (h : p ∈ hostParts a n) :
    a ≤ p.1 ∧ p.1 + p.2 ≤ a + n ∧ (0 < n → p.1 < a + n) := by
  obtain ⟨i, hi, rfl⟩ := List.mem_map.mp h
  rw [List.mem_range] at hi
  dsimp only
  omega

/-- Each byte of a range lies in a part. -/
theorem hostParts_covers {a n k : Nat} (h : k < n) : ∃ p ∈ hostParts a n, p.1 ≤ a + k ∧ a + k < p.1 + p.2 := by
  refine ⟨_, List.mem_map.mpr ⟨(a + k) / 64 - a / 64, List.mem_range.mpr ?_, rfl⟩, ?_⟩
  · omega
  · dsimp only
    omega

theorem hostParts_head {n : Nat} (a : Nat) (h : 0 < n) : ∃ m l, hostParts a n = (a, m) :: l := by
  obtain ⟨m, hm⟩ : ∃ m, (a + n + 63) / 64 - a / 64 = m + 1 := ⟨(a + n + 63) / 64 - a / 64 - 1, by omega⟩
  unfold hostParts
  rw [hm, List.range_succ_eq_map, List.map_cons, Nat.add_zero, Nat.max_eq_left (Nat.div_mul_le_self a 64)]
  exact ⟨_, _, rfl⟩

/-- A range that is allowed everywhere has no status. -/
theorem State.hostRange_ok {s : State} {a n : Nat} (h : ∀ p ∈ hostParts a n, s.hostAcc p.1 = 0) : s.hostRange a n = 0 := by
  have hf : ((hostParts a n).map (fun b => s.hostAcc b.1)).filter (fun x => x != 0) = [] := by
    rw [List.filter_eq_nil_iff]
    intro x hx
    obtain ⟨p, hp, rfl⟩ := List.mem_map.mp hx
    simp [h p hp]
  simp [State.hostRange, hf]

/-- A range that begins outside memory is UNMAPPED. -/
theorem State.hostRange_unmapped (s : State) {a n : Nat} (hz : zoneOf a = .none) (h : 0 < n) : s.hostRange a n = 8 := by
  obtain ⟨m, l, hl⟩ := hostParts_head a h
  have ha : s.hostAcc a = 8 := by simp [State.hostAcc, hz]
  simp [State.hostRange, hl, ha]

/-- LPDDR5X that the host may reach. -/
theorem State.hostRange_lpddr {s : State} {a n : Nat} (hn : 0 < n) (ht : a + n ≤ lpddrTop)
    (hm : ∀ k, k < n → s.hostMay (a + k) = true) : s.hostRange a n = 0 := by
  refine State.hostRange_ok fun p hp => ?_
  obtain ⟨h1, h2, h3⟩ := hostParts_inside hp
  have hz : zoneOf p.1 = .lpddr := if_pos (by omega)
  have hk := hm (p.1 - a) (by omega)
  rw [Nat.add_sub_cancel' h1] at hk
  simp [State.hostAcc, hz, hk]

/-! ### Reads -/

section
variable {s : State} {a n : Nat}

theorem State.hostRead_refused (h : s.hostRange a n ≠ 0) : s.hostRead a n = (s.hostRange a n, [], s) := if_pos h

theorem State.hostRead_lpddr (h : s.hostRange a n = 0) (ha : a < lpddrTop) (hb : s.badIn a n = []) :
    s.hostRead a n = (0, s.bytesAt a n, s) := by
  refine (if_neg (not_not.mpr h)).trans ((if_pos ha).trans ?_)
  rw [hb]
  rfl

theorem State.hostRead_bad (h : s.hostRange a n = 0) (ha : a < lpddrTop) {b : Nat} {bs : List Nat} (hb : s.badIn a n = b :: bs) :
    s.hostRead a n = (9, [], s.readFailed (b * 64) 8) := by
  refine (if_neg (not_not.mpr h)).trans ((if_pos ha).trans ?_)
  rw [hb]
  rfl

theorem State.hostRead_sram (h : s.hostRange a n = 0) (ha : lpddrTop ≤ a) : s.hostRead a n =
    if (s.hostParity (s.badWordsIn a n)).2 then (9, [], (s.hostParity (s.badWordsIn a n)).1)
    else (0, (s.hostParity (s.badWordsIn a n)).1.bytesAt a n, (s.hostParity (s.badWordsIn a n)).1) :=
  (if_neg (not_not.mpr h)).trans (if_neg (Nat.not_lt.mpr ha))

theorem State.bytesAt_lpddr (s : State) {a : Nat} (n : Nat) (ha : a < lpddrTop) : s.bytesAt a n = s.mem.readN a n := by
  have hz : zoneOf a = .lpddr := if_pos ha
  simp [State.bytesAt, hz]

theorem State.memReadRep_of {r : Nat × List Byte × State} (hn : n ≤ 262144) (hr : s.hostRead a n = r) :
    s.memReadRep a n = ⟨r.1, r.2.1, r.2.2, false⟩ := by
  refine (if_neg (Nat.not_lt.mpr hn)).trans ?_
  rw [hr]
end

/-! ### Writes -/

/-- What a host write of good LPDDR5X leaves: it is not refused, its bytes stand where they belong, and all else is kept. -/
structure HostStored (s : State) (ps : List (Nat × List Byte)) (r : Nat × State) : Prop where
  status : r.1 = 0
  good : r.2.memx.badBlocks = []
  cfg : r.2.cfg = s.cfg
  streams : r.2.streams = s.streams
  execs : r.2.execs = s.execs
  outside : ∀ x, (∀ p ∈ ps, ¬ (p.1 ≤ x ∧ x < p.1 + p.2.length)) → r.2.mem.read x = s.mem.read x
  inside : ∀ x v, (∀ p ∈ ps, p.1 ≤ x → x < p.1 + p.2.length → p.2.getD (x - p.1) 0#8 = v) →
    (∃ p ∈ ps, p.1 ≤ x ∧ x < p.1 + p.2.length) → r.2.mem.read x = v

theorem State.hostBlock_lpddr {s : State} {a : Nat} (bs : List Byte) (ha : a < lpddrTop) (hb : s.memx.badBlocks = []) :
    s.hostBlock a bs = (0, s.poke a bs) := by
  have hz : zoneOf a = .lpddr := if_pos ha
  simp [State.hostBlock, hz, State.partBad, State.badIn, hb]

theorem State.poke_keeps (s : State) (a : Nat) (bs : List Byte) : (s.poke a bs).cfg = s.cfg ∧ (s.poke a bs).streams = s.streams ∧
    (s.poke a bs).execs = s.execs ∧ (s.memx.badBlocks = [] → (s.poke a bs).memx.badBlocks = []) :=
  ⟨rfl, rfl, rfl, fun h => by simp [State.poke, h]⟩

theorem State.hostBlocks_lpddr (ps : List (Nat × List Byte)) : ∀ s : State, (∀ p ∈ ps, p.1 < lpddrTop) → s.memx.badBlocks = [] →
    HostStored s ps (State.hostBlocks ps (0, s)) := by
  induction ps with
  | nil => exact fun s _ hb => ⟨rfl, hb, rfl, rfl, rfl, fun _ _ => rfl, fun x v _ h => absurd h (by simp)⟩
  | cons p ps ih =>
    intro s hp hb
    have hstep : State.hostBlocks (p :: ps) (0, s) = State.hostBlocks ps (0, s.poke p.1 p.2) := by
      rw [State.hostBlocks]
      dsimp only
      rw [State.hostBlock_lpddr p.2 (hp p List.mem_cons_self) hb]
      rfl
    obtain ⟨k1, k2, k3, k4⟩ := s.poke_keeps p.1 p.2
    have hi := ih (s.poke p.1 p.2) (fun q hq => hp q (List.mem_cons_of_mem _ hq)) (k4 hb)
    rw [hstep]
    refine ⟨hi.status, hi.good, hi.cfg.trans k1, hi.streams.trans k2, hi.execs.trans k3, fun x hx => ?_, fun x v hv hc => ?_⟩
    · refine (hi.outside x fun q hq => hx q (List.mem_cons_of_mem _ hq)).trans (State.poke_read_out ?_)
      have := hx p List.mem_cons_self
      omega
    · by_cases hc' : ∃ q ∈ ps, q.1 ≤ x ∧ x < q.1 + q.2.length
      · exact hi.inside x v (fun q hq => hv q (List.mem_cons_of_mem _ hq)) hc'
      · rw [hi.outside x (fun q hq h => hc' ⟨q, hq, h⟩)]
        obtain ⟨q, hq, h1, h2⟩ := hc
        obtain rfl | hq := List.mem_cons.mp hq
        · have hr := State.poke_read_in (s := s) (a := q.1) (bs := q.2) (k := x - q.1) (by omega)
          rw [Nat.add_sub_cancel' h1] at hr
          exact hr.trans (hv q List.mem_cons_self h1 h2)
        · exact absurd ⟨q, hq, h1, h2⟩ hc'

/-- The bytes of a range, part by part. -/
def hostData (a : Nat) (d : List Byte) : List (Nat × List Byte) :=
  (hostParts a d.length).map (fun b => (b.1, (d.drop (b.1 - a)).take b.2))

theorem hostData_inside {a : Nat} {d : List Byte} {q : Nat × List Byte} (hq : q ∈ hostData a d) :
    a ≤ q.1 ∧ q.1 + q.2.length ≤ a + d.length ∧ (0 < d.length → q.1 < a + d.length) ∧
      ∀ k, k < q.2.length → q.2.getD k 0#8 = d.getD (q.1 - a + k) 0#8 := by
  obtain ⟨p, hp, rfl⟩ := List.mem_map.mp hq
  obtain ⟨h1, h2, h3⟩ := hostParts_inside hp
  refine ⟨h1, ?_, h3, fun k hk => ?_⟩
  · simp only [List.length_take, List.length_drop]
    omega
  · simp only [List.length_take, List.length_drop] at hk
    simp only [List.getD_eq_getElem?_getD]
    rw [List.getElem?_take_of_lt (by omega), List.getElem?_drop]

theorem hostData_covers {a k : Nat} {d : List Byte} (h : k < d.length) :
    ∃ q ∈ hostData a d, q.1 ≤ a + k ∧ a + k < q.1 + q.2.length := by
  obtain ⟨p, hp, h1, h2⟩ := hostParts_covers (a := a) h
  obtain ⟨h3, h4, -⟩ := hostParts_inside hp
  refine ⟨_, List.mem_map.mpr ⟨p, hp, rfl⟩, h1, ?_⟩
  simp only [List.length_take, List.length_drop]
  omega

/-- A write of good LPDDR5X stores its bytes, and no other. -/
theorem State.hostData_stored {s : State} {a : Nat} {d : List Byte} (hd : 0 < d.length) (ht : a + d.length ≤ lpddrTop)
    (hb : s.memx.badBlocks = []) : HostStored s [(a, d)] (State.hostBlocks (hostData a d) (0, s)) := by
  have h := State.hostBlocks_lpddr (hostData a d) s (fun q hq => by
    obtain ⟨-, -, h3, -⟩ := hostData_inside hq
    have := h3 hd
    omega) hb
  refine ⟨h.status, h.good, h.cfg, h.streams, h.execs, fun x hx => h.outside x fun q hq hc => ?_, fun x v hv hc => ?_⟩
  · obtain ⟨h1, h2, -, -⟩ := hostData_inside hq
    refine hx (a, d) List.mem_cons_self ?_
    dsimp only
    omega
  · obtain ⟨q, hq, h1, h2⟩ := hc
    obtain rfl := List.mem_singleton.mp hq
    dsimp only at h1 h2
    obtain ⟨k, rfl⟩ := Nat.exists_eq_add_of_le h1
    refine h.inside _ _ (fun q hq h3 h4 => ?_) (hostData_covers (by omega))
    obtain ⟨h5, -, -, h6⟩ := hostData_inside hq
    rw [h6 _ (by omega), show q.1 - a + (a + k - q.1) = k by omega]
    have := hv (a, d) List.mem_cons_self h1 h2
    rwa [Nat.add_sub_cancel_left] at this

/-- Without a ring the end of a message leaves memory. -/
theorem State.conclude_mem_of_noRing {s : State} (h : s.cfg.trec = none) (i : Instr) (hd : Hdr) (e st : Nat) (pay : List Byte) :
    (s.conclude i hd e st pay).mem = s.mem := by
  have hr (t : State) (ht : t.cfg.trec = none) : (t.recordMsg i hd.session st pay).2.mem = t.mem := by
    unfold State.recordMsg
    split
    · dsimp only
      rw [State.ringRecord_of_noRing]
      · split <;> simp
      · split <;> simp [ht]
    · rfl
  unfold State.conclude
  dsimp only
  rw [State.reply_mem, hr]
  · split <;> simp
  · split <;> simp [h]

theorem State.hostRange_woken (s : State) (c : Instr) (a n : Nat) : (s.woken c).hostRange a n = s.hostRange a n :=
  State.of_woken s c (f := fun t => t.hostRange a n) fun _ => rfl

theorem State.badIn_woken (s : State) (c : Instr) (a n : Nat) : (s.woken c).badIn a n = s.badIn a n :=
  State.of_woken s c (f := fun t => t.badIn a n) fun _ => rfl

theorem State.hostWrite_refused {s : State} {a : Nat} {d : List Byte} (h : s.hostRange a d.length ≠ 0) :
    s.hostWrite a d = (s.hostRange a d.length, s) := if_pos h

theorem State.hostWrite_allowed {s : State} {a : Nat} {d : List Byte} (h : s.hostRange a d.length = 0) :
    s.hostWrite a d = State.hostBlocks (hostData a d) (0, s) := if_neg (not_not.mpr h)

section
variable {h : Hdr} {a : DWord} {n : Word} {d : List Byte} {s : State}

theorem exec_memRead (ha : s.accepts (.memRead h a n) h) (hn : n.toNat ≤ 262144) {st : Nat} {pay : List Byte} {u : State}
    (hr : (s.woken (.memRead h a n)).hostRead a.toNat n.toNat = (st, pay, u)) :
    exec (.memRead h a n) s = answered (.memRead h a n) h s u st pay :=
  done_runMsg (f := fun t => t.memReadRep a.toNat n.toNat) ha (State.memReadRep_of hn hr)

theorem exec_memWrite (ha : s.accepts (.memWrite h a d) h) {st : Nat} {u : State}
    (hr : (s.woken (.memWrite h a d)).hostWrite a.toNat d = (st, u)) :
    exec (.memWrite h a d) s = answered (.memWrite h a d) h s u st [] :=
  done_runMsg (f := fun t => t.memWriteRep a.toNat d) ha (by rw [State.memWriteRep, hr]; rfl)

theorem State.memRead_pos (ha : s.accepts (.memRead h a n) h) : 0 < n.toNat := by
  obtain ⟨-, hf⟩ := State.accepts_fields ha
  have hn : n ≠ 0 := by simpa [fieldsOk] using hf
  exact Nat.pos_of_ne_zero fun h0 => hn (BitVec.eq_of_toNat_eq h0)

theorem State.memWrite_pos (ha : s.accepts (.memWrite h a d) h) : 0 < d.length := by
  obtain ⟨-, hf⟩ := State.accepts_fields ha
  exact List.length_pos_of_ne_nil (by simpa [fieldsOk] using hf)
end

/-- Settles O37. -/
theorem hostAccess : Obligations.HostAccess := by
  unfold Obligations.HostAccess
  refine ⟨⟨fun h as s ha => ?_, fun h es s ha => ?_, fun h a o s ha ho => ?_, fun h a v o s ha ho => ?_⟩,
    fun h a n s ha => ⟨fun hn => ?_, fun hn hr => ?_, fun hn hr hl => ⟨fun hb => ?_, fun b bs hb => ?_⟩,
      fun hn hr hl => ⟨fun hp => ?_, fun hp => ?_⟩⟩,
    fun h a n s ha ht hm hb hn => ?_, fun h a d s ha => ⟨fun hr => ?_, fun hr => ?_⟩, fun h a d s ha ht hm hb hc => ?_,
    fun h a n d s hz => ⟨fun ha hn => ?_, fun ha => ?_⟩⟩
  · exact done_runMsg (f := fun t => t.regReadRep h.session as) ha rfl
  · exact done_runMsg (f := fun t => t.regWriteRep h.session es) ha rfl
  · exact done_runMsg (f := fun t => t.regReadRep h.session [a]) ha (State.regReadRep_one _ _ ho)
  · exact done_runMsg (f := fun t => t.regWriteRep h.session [(a, v)]) ha (State.regWriteRep_one _ _ v ho)
  · exact done_runMsg (f := fun t => t.memReadRep a.toNat n.toNat) ha (if_pos hn)
  · exact exec_memRead ha hn (State.hostRead_refused hr)
  · exact exec_memRead ha hn (State.hostRead_lpddr hr hl ((s.badIn_woken _ _ _).trans hb))
  · exact exec_memRead ha hn (State.hostRead_bad hr hl ((s.badIn_woken _ _ _).trans hb))
  · exact exec_memRead ha hn ((State.hostRead_sram hr hl).trans (if_neg (by simp only [hp]; decide)))
  · exact exec_memRead ha hn ((State.hostRead_sram hr hl).trans (if_pos hp))
  · have h0 := State.memRead_pos ha
    have hlt : a.toNat < lpddrTop := by omega
    refine exec_memRead ha hn ((State.hostRead_lpddr ?_ hlt ((s.badIn_woken _ _ _).trans hb)).trans ?_)
    · exact (s.hostRange_woken _ _ _).trans (State.hostRange_lpddr h0 ht hm)
    · rw [State.bytesAt_lpddr _ _ hlt, State.woken_mem]
  · exact exec_memWrite ha (State.hostWrite_refused hr)
  · exact exec_memWrite ha (State.hostWrite_allowed hr)
  · have h0 := State.memWrite_pos ha
    have hr := (s.hostRange_woken (.memWrite h a d) _ _).trans (State.hostRange_lpddr h0 ht hm)
    have hd := State.hostData_stored (s := s.woken (.memWrite h a d)) h0 ht ((congrArg MemX.badBlocks (s.woken_memx _)).trans hb)
    refine ⟨_, exec_memWrite ha (State.hostWrite_allowed hr), fun k hk => ?_, fun b hb => ?_, ?_, ?_⟩
    · rw [finish_mem, State.conclude_mem_of_noRing ((congrArg Cfg.trec hd.cfg).trans (by simpa using hc))]
      exact hd.inside _ _ (fun p hp _ _ => by
        obtain rfl := List.mem_singleton.mp hp
        dsimp only
        rw [Nat.add_sub_cancel_left]) ⟨_, List.mem_cons_self, by dsimp only; omega, by dsimp only; omega⟩
    · rw [finish_mem, State.conclude_mem_of_noRing ((congrArg Cfg.trec hd.cfg).trans (by simpa using hc))]
      refine (hd.outside _ fun p hp hin => ?_).trans (congrArg (Memory.read · b) (s.woken_mem _))
      obtain rfl := List.mem_singleton.mp hp
      dsimp only at hin
      omega
    · rw [finish_streams, State.conclude_streams, hd.streams, State.woken_streams]
    · rw [finish_execs, State.conclude_execs, hd.execs, State.woken_execs]
  · refine exec_memRead ha hn ((State.hostRead_refused ?_).trans ?_) <;>
      rw [State.hostRange_unmapped _ hz (State.memRead_pos ha)]
    decide
  · refine exec_memWrite ha ((State.hostWrite_refused ?_).trans ?_) <;>
      rw [State.hostRange_unmapped _ hz (State.memWrite_pos ha)]
    decide

end Sys2Proof.Machine
end

section
/-!
SUPPORT and proof of O19: the end of a cancellation (09 R234, R238, 10 R277).
-/

namespace Sys2Proof.Machine

/-- A counter of a whole word goes up by one, and stays at its largest value (00 R5). -/
theorem State.rg_inc_same (s : State) (r : RegName) (i : Nat) : (s.inc r i).rg r i = min (s.rg r i % 2 ^ 32 + 1) 0xFFFFFFFF := by
  unfold State.inc State.cnt State.setFld State.fld
  rw [State.rg_setRg_same]
  unfold putField satAdd bitsOf
  simp only [Nat.pow_zero, Nat.div_one, Nat.mul_one]
  omega

/-! ### Turnstiles returned to the pool (09 R234, R238) -/

/-- A RESET Turnstile without its execution is as after POR. -/
theorem State.freeTst_eq (s : State) (n : Nat) :
    (let t := s.resetTst n; t.setTst n { t.tst n with bound := none }) = s.setTst n Tstl.reset := by
  have h : s.resetTst n = s.setTst n (s.tst n).cleared := by
    unfold State.resetTst State.putTst
    exact if_neg (by simp [Tstl.cleared])
  dsimp only
  rw [h, State.tst_setTst]
  unfold State.setTst
  dsimp only
  rw [Tab.set_set]
  rfl

/-- What the release of Turnstiles leaves. -/
structure TstsFreed (s : State) (l : List Nat) (t : State) : Prop where
  free : ∀ n ∈ l, t.tst n = Tstl.reset
  other : ∀ n, n ∉ l → t.tst n = s.tst n
  rest : ∃ x, t = { s with tstl := x }

theorem State.freeTsts_freed (l : List Nat) : ∀ s : State, TstsFreed s l (s.freeTsts l) := by
  induction l with
  | nil => exact fun s => ⟨fun n hn => absurd hn (List.not_mem_nil), fun _ _ => rfl, s.tstl, rfl⟩
  | cons m l ih =>
    intro s
    have hs : s.freeTsts (m :: l) = (s.setTst m Tstl.reset).freeTsts l := congrArg (State.freeTsts · l) (s.freeTst_eq m)
    obtain ⟨h1, h2, x, h3⟩ := ih (s.setTst m Tstl.reset)
    rw [hs]
    refine ⟨fun n hn => ?_, fun n hn => ?_, x, h3⟩
    · by_cases hl : n ∈ l
      · exact h1 n hl
      · rw [h2 n hl, (List.mem_cons.mp hn).resolve_right hl, State.tst_setTst]
    · rw [List.mem_cons, not_or] at hn
      rw [h2 n hn.2, State.tst_setTst_ne _ hn.1]

/-! ### The end of a cancellation -/

section
variable {s : State} {id : Nat}

theorem State.fetchDiscard_some {e : Exec} (he : s.exec? id = some e) (hc : e.cancelled = true) (hf : e.fetches ≠ 0) :
    s.fetchDiscard id = (s.updExec id (fun x => { x with fetches := x.fetches - 1 })).inc .schedCancelDiscCnt := by
  unfold State.fetchDiscard
  rw [he]
  exact if_pos (by simp [hc, hf])

theorem State.fetchDiscard_none (h : ∀ e, s.exec? id = some e → e.cancelled = false ∨ e.fetches = 0) : s.fetchDiscard id = s := by
  unfold State.fetchDiscard
  split
  · next e he =>
    refine if_neg ?_
    obtain h | h := h e he <;> simp [h]
  · rfl

theorem State.completeCancel_not (h : ∀ e, s.exec? id = some e → e.cancelled = false ∨ e.fetches ≠ 0 ∨ s.runningOf id ≠ []) :
    s.completeCancel id = s := by
  unfold State.completeCancel
  split
  · rfl
  · next e he =>
    refine if_neg ?_
    obtain h | h | h := h e he <;> simp [h]

theorem State.completeCancel_ends {e : Exec} (he : s.exec? id = some e) (hc : e.cancelled = true) (hf : e.fetches = 0)
    (hr : s.runningOf id = []) : s.completeCancel id = (s.removeExec id).inc .schedCancelCnt := by
  unfold State.completeCancel
  rw [he]
  exact if_pos (by simp [hc, hf, hr])

theorem State.removeExec_eq {e : Exec} (he : s.exec? id = some e) :
    s.removeExec id =
      { s.freeTsts e.bound with execs := (s.freeTsts e.bound).execs.filter (fun x => x.id != id),
                                parts := (s.freeTsts e.bound).parts.filter (fun x => x.exec != id),
                                units := (s.freeTsts e.bound).units.filter (fun u => u.exec != id) } := by
  unfold State.removeExec
  rw [he]

/-- A removed execution is found no more. -/
theorem State.exec?_removeExec {e : Exec} (he : s.exec? id = some e) : (s.removeExec id).exec? id = none := by
  rw [State.exec?_eq, State.removeExec_eq he, List.find?_eq_none]
  intro x hx
  obtain ⟨-, h⟩ := List.mem_filter.mp hx
  simpa using h
end

theorem State.dispatchResume_due {s : State} {p c : Nat} (hc : (s.pitch p).stopCycle = some c) (h : c + 4096 ≤ s.cycle) :
    s.dispatchResume p = (s.pitch p).resetMsg.elim (s.updPitch p (fun x => { x with stopCycle := none, resetMsg := none }))
      (fun m => (s.updPitch p (fun x => { x with stopCycle := none, resetMsg := none })).concludeLater m 0 []) := by
  unfold State.dispatchResume
  rw [hc]
  refine (if_pos h).trans ?_
  cases (s.pitch p).resetMsg <;> rfl

theorem State.dispatchResume_early {s : State} {p : Nat} (h : ∀ c, (s.pitch p).stopCycle = some c → s.cycle < c + 4096) :
    s.dispatchResume p = s := by
  unfold State.dispatchResume
  split
  · rfl
  · next c hc => exact if_neg (Nat.not_le.mpr (h c hc))

/-- Settles O19. -/
theorem cancellation : Obligations.Cancellation := by
  unfold Obligations.Cancellation
  refine ⟨fun id e s he hc hf => congrArg done (State.fetchDiscard_some he hc hf), fun id e s he hc hf hr => ?_,
    fun id s h => congrArg done (State.fetchDiscard_none h), fun id s h => congrArg done (State.completeCancel_not h),
    fun p s c hc h => ⟨fun hm => ?_, fun m hm => ?_⟩, fun p s h => congrArg done (State.dispatchResume_early h)⟩
  · obtain ⟨h1, h2, x, h3⟩ := State.freeTsts_freed e.bound s
    have ht := State.removeExec_eq he
    refine ⟨_, congrArg done (State.completeCancel_ends he hc hf hr), State.exec?_removeExec he, fun n hn => ?_, fun n hn => ?_, ?_, ?_, ?_⟩
    · exact (State.tst_of_tstl (congrArg State.tstl ht) n).trans (h1 n hn)
    · exact (State.tst_of_tstl (congrArg State.tstl ht) n).trans (h2 n hn)
    · rw [finish_mem, State.inc_mem, ht, h3]
    · rw [finish_streams, State.inc_streams, ht, h3]
    · refine ((s.removeExec id).rg_inc_same .schedCancelCnt 0).trans ?_
      rw [ht, h3]
      rfl
  · refine congrArg done ((State.dispatchResume_due hc h).trans ?_)
    rw [hm]
    rfl
  · refine congrArg done ((State.dispatchResume_due hc h).trans ?_)
    rw [hm]
    rfl

end Sys2Proof.Machine
end

section
/-!
SUPPORT and proof of O20: loads and unloads of images (09 R239 to R246).
-/

namespace Sys2Proof.Machine

section
variable {s t : State}
theorem State.ctx_of_ctxs (h : t.ctxs = s.ctxs) (c : Nat) : t.ctx c = s.ctx c := by
  unfold State.ctx
  rw [h]

theorem State.pitch_of_pitches (h : t.pitches = s.pitches) (p : Nat) : t.pitch p = s.pitch p := by
  unfold State.pitch
  rw [h]
end

/-! ### Loads (09 R239, R241) -/

/-- A load whose checks have run is answered at once. -/
theorem State.loadRep_cases (s : State) (p c a : Nat) : s.loadRep p c a =
    if s.loadCheck p c a = 0 then
      ⟨0, loadReply (s.imageAt a) (s.newModel p c a), ({ s with models := s.models ++ [s.newModel p c a] }).nextCopy p, false⟩
    else if s.loadCheck p c a = 0x309 then
      ⟨s.loadCheck p c a, [], (s.failedRead a (s.imageAt a).length 5).refuseLoad p (s.loadCheck p c a), false⟩
    else ⟨s.loadCheck p c a, [], s.refuseLoad p (s.loadCheck p c a), false⟩ := by
  unfold State.loadRep
  dsimp only
  by_cases h0 : s.loadCheck p c a = 0
  · rw [if_pos h0, if_neg (by rw [h0]; decide), if_neg (not_not.mpr h0)]
    rfl
  · rw [if_neg h0]
    by_cases h9 : s.loadCheck p c a = 0x309
    · rw [if_pos h9, if_pos h9]
      rfl
    · rw [if_neg h9, if_neg h9, if_pos h0]
      rfl

theorem State.loadRep_now (s : State) (p c a : Nat) : s.loadRep p c a =
    ⟨(s.loadRep p c a).st, (s.loadRep p c a).pay, (s.loadRep p c a).s, false⟩ := by
  rw [State.loadRep_cases]
  split
  · rfl
  · split <;> rfl

/-- A load that waits for its context (09 R239). -/
def State.loadWaits (s t : State) (msg : Instr) (p c a : Nat) : State :=
  { t with loads := t.loads ++ [⟨⟨msg, s.epoch⟩, p, c, a⟩] }

section
variable {s : State} (msg : Instr) {p c : Nat} (a : Nat)

theorem State.graphLoadRep_noPitch (h : ¬ (p < 16 ∧ (s.pitch p).built = true)) :
    s.graphLoadRep msg p c a = .no (s.refuseLoad p 0x405) 0x405 := by
  refine if_pos ?_
  rw [not_and_or] at h
  simpa using h

section
variable (hp : p < 16) (hb : (s.pitch p).built = true)
include hp hb

theorem State.graphLoadRep_noCtx (h : 1024 ≤ c ∨ (s.ctx c).state = .free ∨ (s.ctx c).pitch ≠ p ∨ (s.ctx c).state = .faulted) :
    s.graphLoadRep msg p c a = .no (s.refuseLoad p 0x407) 0x407 := by
  refine (if_neg (by simp [hp, hb])).trans (if_pos ?_)
  simp only [State.ctxKnown, Bool.not_and, Bool.or_eq_true, Bool.not_eq_true', decide_eq_false_iff_not, Nat.not_lt, bne_eq_false_iff_eq,
    bne_iff_ne, beq_iff_eq]
  tauto

variable (hc : c < 1024) (hx : (s.ctx c).pitch = p)
include hc hx

/-- The context of a load is known, its own Pitch's and not FAULTED. -/
theorem State.graphLoadRep_known (hf : (s.ctx c).state ≠ .free) (hn : (s.ctx c).state ≠ .faulted) : s.graphLoadRep msg p c a =
    if (s.ctx c).state = .resident ∨ (s.ctx c).state = .arriving then s.loadRep p c a
    else if (s.ctx c).be then .wait (s.loadWaits (s.wakeCtx c) msg p c a)
    else (s.admitCtx c).elim (.no (s.refuseLoad p 0x408) 0x408)
      (fun t => if (t.ctx c).state = .arriving then t.loadRep p c a else .wait (s.loadWaits t msg p c a)) := by
  refine (if_neg (by simp [hp, hb])).trans ((if_neg ?_).trans ?_)
  · simp [State.ctxKnown, hc, hx, hf, hn]
  · cases s.admitCtx c <;> rfl
end
end

/-! ### Copies and unloads (09 R244, R246) -/

theorem State.graphCopyDone_of {s : State} {p : Nat} {m : Model}
    (hm : find1 s.models (fun x => x.pitch == p && x.stage == .copying) = some m) : s.graphCopyDone p =
    if s.badIn (m.addr + imgWgtOff (s.image m)) (m.residentBytes (s.image m)) = [] then
      ((s.each (s.quarters p) (fun s q => s.copyTiles m q)).updModel p m.id (fun x => { x with stage := .copied })).nextCopy p
    else (s.failedRead (m.addr + imgWgtOff (s.image m)) (m.residentBytes (s.image m)) 5).abandonLoad p m.id := by
  unfold State.graphCopyDone
  rw [hm]
  exact if_congr List.isEmpty_iff rfl rfl

theorem State.graphCopyDone_none {s : State} {p : Nat} (hm : find1 s.models (fun x => x.pitch == p && x.stage == .copying) = none) :
    s.graphCopyDone p = s := by
  unfold State.graphCopyDone
  rw [hm]

theorem State.removeModel_keeps (s : State) (p id : Nat) : (s.removeModel p id).streams = s.streams ∧
    (s.removeModel p id).execs = s.execs ∧ (s.removeModel p id).ctxs = s.ctxs ∧
    (s.removeModel p id).models = s.models.filter (fun m => !(m.pitch == p && m.id == id)) := by
  unfold State.removeModel
  exact ⟨State.event_streams .., State.event_execs .., State.event_ctxs .., State.event_models ..⟩

theorem State.model_removeModel (s : State) (p id : Nat) : (s.removeModel p id).model p id = none := by
  rw [State.model, (s.removeModel_keeps p id).2.2.2, find1_eq_find?, List.find?_eq_none]
  intro x hx
  simpa [imp_iff_not_or] using (List.mem_filter.mp hx).2

theorem State.unloadDone_ends {s : State} {p id : Nat} {m : Model} (hm : s.model p id = some m) (hu : m.unload = true)
    (hs : m.stage = .copied ∨ m.stage = .usable) (he : ∀ e ∈ s.execs, e.pitch = p → e.model ≠ id) :
    s.unloadDone p id = s.removeModel p id := by
  unfold State.unloadDone
  rw [hm]
  refine if_pos ?_
  have ha : s.execs.all (fun e => !(e.pitch == p && e.model == id)) = true := by
    rw [List.all_eq_true]
    intro e hmem
    simpa [imp_iff_not_or] using he e hmem
  obtain hs | hs := hs <;> simp only [hu, hs, ha] <;> rfl

theorem State.unloadDone_not {s : State} {p id : Nat} (h : ∀ m, s.model p id = some m → m.unload = false ∨ m.stage = .queued ∨
    m.stage = .copying ∨ ∃ e ∈ s.execs, e.pitch = p ∧ e.model = id) : s.unloadDone p id = s := by
  unfold State.unloadDone
  split
  · rfl
  · next m hm =>
    refine if_neg fun hc => ?_
    simp only [Bool.and_eq_true, bne_iff_ne, List.all_eq_true, Bool.not_eq_true', Bool.and_eq_false_iff, beq_eq_false_iff_ne] at hc
    obtain ⟨⟨⟨h1, h2⟩, h3⟩, h4⟩ := hc
    obtain h | h | h | ⟨e, he, hp, hi⟩ := h m hm
    · exact Bool.false_ne_true (h.symm.trans h1)
    · exact h2 h
    · exact h3 h
    · exact (h4 e he).elim (fun k => k hp) (fun k => k hi)

/-- Settles O20. -/
theorem graphLoads : Obligations.GraphLoads := by
  unfold Obligations.GraphLoads
  refine ⟨⟨fun h p c a s ha hp hb hc hst hx => ?_, fun h p c a s ha hp hb hc hst hx => ?_, fun h p c a s ha hp hb hx => ?_,
    fun h p c a s ha hp => ?_⟩, fun p s m hm hb => ?_, fun p s m hm => ?_, fun p s hm => ?_, fun h p id s ha => ?_,
    fun p id s m hm hu hs he => ?_, fun p id s hm => congrArg done (State.unloadDone_not hm)⟩
  · intro i w m st
    have hctx : w.ctx c.toNat = s.ctx c.toNat := State.ctx_of_ctxs (s.woken_ctxs i) _
    have hpit : w.pitch p.toNat = s.pitch p.toNat := State.pitch_of_pitches (s.woken_pitches i) _
    have hr : w.graphLoadRep i p.toNat c.toNat a.toNat = w.loadRep p.toNat c.toNat a.toNat := by
      rw [State.graphLoadRep_known i a.toNat hp (by rw [hpit, hb]) hc (by rw [hctx, hx]), if_pos (by rw [hctx]; exact hst)]
      · rw [hctx]
        obtain h | h := hst <;> simp [h]
      · rw [hctx]
        obtain h | h := hst <;> simp [h]
    have he (st' : Nat) (pay : List Byte) (u : State) (hrep : w.loadRep p.toNat c.toNat a.toNat = ⟨st', pay, u, false⟩) :
        exec i s = answered i h s u st' pay :=
      done_runMsg (f := fun t => t.graphLoadRep i p.toNat c.toNat a.toNat) ha (hr.trans hrep)
    have hcase := w.loadRep_cases p.toNat c.toNat a.toNat
    split
    · next h0 => exact he _ _ _ (hcase.trans (if_pos h0))
    · next h0 =>
      split
      · next h9 => exact he _ _ _ (hcase.trans ((if_neg h0).trans (if_pos h9)))
      · next h9 => exact he _ _ _ (hcase.trans ((if_neg h0).trans (if_neg h9)))
  · intro i w wait
    have hctx : w.ctx c.toNat = s.ctx c.toNat := State.ctx_of_ctxs (s.woken_ctxs i) _
    have hpit : w.pitch p.toNat = s.pitch p.toNat := State.pitch_of_pitches (s.woken_pitches i) _
    have hr : w.graphLoadRep i p.toNat c.toNat a.toNat = _ :=
      (State.graphLoadRep_known i a.toNat hp (by rw [hpit, hb]) hc (by rw [hctx, hx])
        (by rw [hctx]; obtain h | h := hst <;> simp [h]) (by rw [hctx]; obtain h | h := hst <;> simp [h])).trans
      (if_neg (by rw [hctx]; obtain h | h := hst <;> simp [h]))
    refine ⟨fun hbe => ?_, fun hbe hadm => ?_, fun t hbe hadm => ⟨fun har => ?_, fun har => ?_⟩⟩
    · exact done_runMsg_later (f := fun t => t.graphLoadRep i p.toNat c.toNat a.toNat) (st := 0) (p := []) ha (hr.trans (if_pos (by rw [hctx, hbe])))
    · refine done_runMsg (f := fun t => t.graphLoadRep i p.toNat c.toNat a.toNat) ha (hr.trans ((if_neg (by simp [hctx, hbe])).trans ?_))
      rw [hadm]
      rfl
    · refine done_runMsg_later (f := fun t => t.graphLoadRep i p.toNat c.toNat a.toNat) (st := 0) (p := []) ha (hr.trans ((if_neg (by simp [hctx, hbe])).trans ?_))
      rw [hadm]
      exact if_neg har
    · refine done_runMsg (f := fun t => t.graphLoadRep i p.toNat c.toNat a.toNat) ha (hr.trans ((if_neg (by simp [hctx, hbe])).trans ?_))
      rw [hadm]
      exact (if_pos har).trans (t.loadRep_now _ _ _)
  · intro i
    have hctx : (s.woken i).ctx c.toNat = s.ctx c.toNat := State.ctx_of_ctxs (s.woken_ctxs i) _
    have hpit : (s.woken i).pitch p.toNat = s.pitch p.toNat := State.pitch_of_pitches (s.woken_pitches i) _
    exact done_runMsg (f := fun t => t.graphLoadRep i p.toNat c.toNat a.toNat) ha
      (State.graphLoadRep_noCtx i a.toNat hp (by rw [hpit, hb]) (by rw [hctx]; exact hx))
  · intro i
    have hpit : (s.woken i).pitch p.toNat = s.pitch p.toNat := State.pitch_of_pitches (s.woken_pitches i) _
    exact done_runMsg (f := fun t => t.graphLoadRep i p.toNat c.toNat a.toNat) ha
      (State.graphLoadRep_noPitch i a.toNat (by rw [hpit]; exact hp))
  · exact congrArg done ((State.graphCopyDone_of hm).trans (if_pos hb))
  · intro at_ n hb
    exact congrArg done ((State.graphCopyDone_of hm).trans (if_neg hb))
  · exact congrArg done (State.graphCopyDone_none hm)
  · intro c
    have hpit : (s.woken c).pitch p.toNat = s.pitch p.toNat := State.pitch_of_pitches (s.woken_pitches c) _
    have hmod : (s.woken c).model p.toNat id.toNat = s.model p.toNat id.toNat :=
      State.of_woken s c (f := fun t => t.model p.toNat id.toNat) fun _ => rfl
    have huse : (s.woken c).modelUsers p.toNat id.toNat = s.modelUsers p.toNat id.toNat :=
      State.of_woken s c (f := fun t => t.modelUsers p.toNat id.toNat) fun _ => rfl
    have he (st : Nat) (u : State) (hrep : (s.woken c).unloadRep p.toNat id.toNat = ⟨st, [], u, false⟩) :
        exec c s = answered c h s u st [] := done_runMsg (f := fun t => t.unloadRep p.toNat id.toNat) ha hrep
    refine ⟨fun hb hm hu => he _ _ ?_, fun hb => he _ _ ?_, fun hb hm => he _ _ ?_, fun hb hm hu => he _ _ ?_⟩
    · simp [State.unloadRep, firstFail, hpit, hmod, huse, hb, hm, hu, Rep.ok]
    · simp [State.unloadRep, firstFail, hpit, hb, Rep.no]
    · simp [State.unloadRep, firstFail, hpit, hmod, hb, hm, Rep.no]
    · simp [State.unloadRep, firstFail, hpit, hmod, huse, hb, hm, hu, Rep.no]
  · obtain ⟨h1, h2, h3, -⟩ := s.removeModel_keeps p id.toNat
    exact ⟨_, congrArg done (State.unloadDone_ends hm hu hs he), s.model_removeModel _ _, h1, h2, h3⟩

end Sys2Proof.Machine
end

section
/-!
SUPPORT and proof of O21: Pitches are built and dissolved (10 R247 to R250, 13 R325).
-/

namespace Sys2Proof.Machine

/-! ### What ending a channel leaves alone -/

/-- Pitches, contexts, streams and executions stay. -/
def State.SchedFrame (s t : State) : Prop := t.pitches = s.pitches ∧ t.ctxs = s.ctxs ∧ t.streams = s.streams ∧ t.execs = s.execs

theorem State.SchedFrame.rfl {s : State} : s.SchedFrame s := ⟨Eq.refl _, Eq.refl _, Eq.refl _, Eq.refl _⟩

theorem State.SchedFrame.trans {s t u : State} (h : s.SchedFrame t) (k : t.SchedFrame u) : s.SchedFrame u := by
  obtain ⟨h1, h2, h3, h4⟩ := h
  obtain ⟨k1, k2, k3, k4⟩ := k
  exact ⟨k1.trans h1, k2.trans h2, k3.trans h3, k4.trans h4⟩

theorem State.schedFrame_each {α : Type} {f : State → α → State} (h : ∀ (s : State) x, s.SchedFrame (f s x)) (l : List α) (s : State) :
    s.SchedFrame (s.each l f) :=
  State.each_inv (P := s.SchedFrame) l (fun t x _ ht => ht.trans (h t x)) s .rfl

theorem State.schedFrame_withdraw (s : State) (n : Nat) : s.SchedFrame (s.withdraw n) := by
  unfold State.withdraw
  dsimp only
  split
  · exact .rfl
  · split <;> exact .rfl

theorem State.schedFrame_poke (s : State) (a : Nat) (bs : List Byte) : s.SchedFrame (s.poke a bs) := .rfl

theorem State.schedFrame_event (s : State) (c n d a b : Nat) : s.SchedFrame (s.event c n d a b) :=
  ⟨State.event_pitches .., State.event_ctxs .., State.event_streams .., State.event_execs ..⟩

theorem State.schedFrame_record (s : State) (k u d : Nat) (b : List Byte) : s.SchedFrame (s.record k u d b) :=
  ⟨State.record_pitches .., State.record_ctxs .., State.record_streams .., State.record_execs ..⟩

theorem State.schedFrame_readFailed (s : State) (a c : Nat) : s.SchedFrame (s.readFailed a c) :=
  ⟨State.readFailed_pitches .., State.readFailed_ctxs .., State.readFailed_streams .., State.readFailed_execs ..⟩

theorem State.schedFrame_setRg (s : State) (r : RegName) (i v j : Nat) : s.SchedFrame (s.setRg r i v j) := .rfl

theorem State.schedFrame_inc (s : State) (r : RegName) (i : Nat) : s.SchedFrame (s.inc r i) := s.schedFrame_setRg ..

theorem State.schedFrame_flag (s : State) (r : RegName) (i n : Nat) : s.SchedFrame (s.flag r i n) := s.schedFrame_setRg ..

theorem State.schedFrame_wprot (s : State) (q : Nat) : s.SchedFrame (s.wprot q) := (s.schedFrame_inc ..).trans (State.schedFrame_flag ..)

theorem State.schedFrame_statusWrite (s : State) (n : Nat) (d : Desc) (cause len : Nat) : s.SchedFrame (s.statusWrite n d cause len) := by
  unfold State.statusWrite
  extract_lets c a s0 s1
  have h0 : s.SchedFrame s0 := by
    unfold s0 State.chanBytes
    split <;> exact .rfl
  refine h0.trans ?_
  clear_value s0
  split
  · split
    · unfold State.chanDrop
      dsimp only
      split
      · exact (State.schedFrame_flag (s0.updChan n _) ..).trans (State.schedFrame_wprot _ _)
      · exact State.schedFrame_flag (s0.updChan n _) ..
    · exact .rfl
  · have h1 : s0.SchedFrame s1 := (s0.schedFrame_inc ..).trans (State.schedFrame_flag ..)
    split
    · exact h1
    · exact h1.trans (State.schedFrame_event ..)

theorem State.schedFrame_endChan (s : State) (n cause : Nat) : s.SchedFrame (s.endChan n cause) := by
  unfold State.endChan
  extract_lets c s1
  have h1 : s.SchedFrame s1 := by
    unfold s1
    split
    · split
      · exact .rfl
      · split
        · exact State.schedFrame_statusWrite ..
        · unfold State.cond
          split
          · exact State.schedFrame_readFailed ..
          · exact .rfl
    · exact .rfl
  exact (h1.trans (State.schedFrame_withdraw s1 n)).trans .rfl

theorem State.schedFrame_movrDis (s : State) (n : Nat) : s.SchedFrame (s.movrDis n) := by
  unfold State.movrDis
  split
  · exact .rfl
  · have ha : s.SchedFrame (s.movrAbort n) := by
      unfold State.movrAbort
      dsimp only
      split
      · exact .rfl
      · exact State.schedFrame_endChan ..
    exact (ha.trans (State.schedFrame_withdraw _ n)).trans .rfl

theorem State.schedFrame_freeChans (s : State) (p : Nat) : s.SchedFrame (s.freeChans p) :=
  State.schedFrame_each (f := fun t n => (t.movrDis n).setRg .movrOwner n 0x10)
    (fun t n => (t.schedFrame_movrDis n).trans (State.schedFrame_setRg ..)) _ s

theorem State.schedFrame_clearQuarters (s : State) (qs : List Nat) : s.SchedFrame (s.clearQuarters qs) :=
  (State.schedFrame_each (f := fun t q => t.wipe (qBase q) 0x1000000) (fun _ _ => .rfl) qs s).trans .rfl

/-! ### Building and dissolving (10 R247 to R250) -/

@[simp] theorem State.pitch_updPitch (s : State) (p : Nat) (f : Pitch → Pitch) : (s.updPitch p f).pitch p = f (s.pitch p) :=
  Tab.getD_modify_same ..

theorem State.pitch_updPitch_ne (s : State) {p q : Nat} (h : q ≠ p) (f : Pitch → Pitch) : (s.updPitch p f).pitch q = s.pitch q :=
  Tab.getD_modify_ne _ h.symm ..

theorem State.buildCheck_woken (s : State) (c : Instr) (b : BuildParams) : buildCheck (s.woken c) b = buildCheck s b :=
  State.of_woken s c (f := fun t => buildCheck t b) fun _ => rfl

/-- What starting a build leaves. -/
structure BuildStarts (s : State) (b : BuildParams) (t : State) : Prop where
  building : (t.pitch b.pitch.toNat).building = true
  built : (t.pitch b.pitch.toNat).built = false
  domain : (t.pitch b.pitch.toNat).domain = b.domain.toNat
  qmask : (t.pitch b.pitch.toNat).qmask = b.qmask.toNat
  epoch : (t.pitch b.pitch.toNat).epoch = s.epoch
  other : ∀ p, p ≠ b.pitch.toNat → t.pitch p = s.pitch p
  streams : t.streams = s.streams
  ctxs : t.ctxs = s.ctxs

/-- The Pitch that a build starts. -/
def State.buildPitch (s : State) (b : BuildParams) : Pitch :=
  { Pitch.blank with building := true, domain := b.domain.toNat, qmask := b.qmask.toNat, shares := b.mode == 1#8,
                     waitMode := b.acct == 1#8, teardown := b.fault == 1#8, chunkCur := s.fld .schedPreCfg b.pitch.toNat 6 4,
                     epoch := s.epoch }

theorem State.schedFrame_startBuild (s : State) (b : BuildParams) :
    ((s.clearQuarters (bitsTo 16 b.qmask.toNat)).updPitch b.pitch.toNat (fun _ => s.buildPitch b)).SchedFrame (s.startBuild b) :=
  ((State.schedFrame_setRg ..).trans (State.schedFrame_setRg ..)).trans (State.schedFrame_setRg ..)

theorem State.startBuild_starts (s : State) (b : BuildParams) : BuildStarts s b (s.startBuild b) := by
  obtain ⟨h1, h2, h3, -⟩ := s.schedFrame_clearQuarters (bitsTo 16 b.qmask.toNat)
  obtain ⟨k1, k2, k3, -⟩ := s.schedFrame_startBuild b
  have hp : (s.startBuild b).pitch b.pitch.toNat = s.buildPitch b :=
    (State.pitch_of_pitches k1 _).trans (State.pitch_updPitch ..)
  refine ⟨by rw [hp]; rfl, by rw [hp]; rfl, by rw [hp]; rfl, by rw [hp]; rfl, by rw [hp]; rfl, fun q hq => ?_, k3.trans h3, k2.trans h2⟩
  exact (State.pitch_of_pitches k1 q).trans ((State.pitch_updPitch_ne _ hq _).trans (State.pitch_of_pitches h1 q))

theorem State.buildDone_builds {s : State} {p : Nat} (h : (s.pitch p).building = true) : s.buildDone p =
    ((s.updPitch p (fun x => { x with building := false, built := true })).record 5 p (s.pitchDom p)
      (leBytes 4 (s.pitch p).epoch ++ leBytes 4 0)).event 0x0504 p (s.pitchDom p) := if_pos h

theorem State.buildDone_not {s : State} {p : Nat} (h : (s.pitch p).building = false) : s.buildDone p = s := if_neg (by simp [h])

/-- A Pitch without contexts is gone; others stay. -/
theorem State.dissolveRep_free {s : State} {p : Nat} (hp : p < 16) (hb : (s.pitch p).built = true)
    (hc : s.ctxOf p (fun c => c.state != .free) = []) :
    ∃ t, s.dissolveRep p = ⟨0, [], t, false⟩ ∧ t.pitch p = Pitch.blank ∧ (∀ r, r ≠ p → t.pitch r = s.pitch r) ∧ t.streams = s.streams ∧
      t.ctxs = s.ctxs := by
  have hst : firstFail [(decide (p < 16) && (s.pitch p).built, 0x405), ((s.ctxOf p (fun c => c.state != .free)).isEmpty, 0x404)] = 0 := by
    simp [firstFail, hp, hb, hc]
  have hf : s.SchedFrame ((s.freeChans p).clearQuarters (s.quarters p)) := (s.schedFrame_freeChans p).trans (State.schedFrame_clearQuarters ..)
  obtain ⟨h1, h2, h3, -⟩ := hf
  let u := ((s.freeChans p).clearQuarters (s.quarters p)).updPitch p (fun _ => Pitch.blank)
  have hu : u.SchedFrame ((u.epochRecord p (s.pitchDom p) 0).event 0x0505 p (s.pitchDom p)) :=
    (State.schedFrame_record ..).trans (State.schedFrame_event ..)
  obtain ⟨k1, k2, k3, -⟩ := hu
  refine ⟨_, if_neg (by rw [hst]; decide), ?_, fun r hr => ?_, k3.trans h3, k2.trans h2⟩
  · exact (State.pitch_of_pitches k1 p).trans (State.pitch_updPitch ..)
  · exact (State.pitch_of_pitches k1 r).trans ((State.pitch_updPitch_ne _ hr _).trans (State.pitch_of_pitches h1 r))

theorem State.dissolveRep_refused {s : State} {p st : Nat} (h0 : st ≠ 0)
    (h : firstFail [(decide (p < 16) && (s.pitch p).built, 0x405), ((s.ctxOf p (fun c => c.state != .free)).isEmpty, 0x404)] = st) :
    s.dissolveRep p = .no s st := by
  unfold State.dissolveRep
  dsimp only
  rw [h, if_pos h0]

/-- Settles O21. -/
theorem pitchesAreBuilt : Obligations.PitchesAreBuilt := by
  unfold Obligations.PitchesAreBuilt
  refine ⟨fun h b s ha hc => ?_, fun h b s ha => ?_, fun p s h => congrArg done (State.buildDone_not h), fun h p s ha hp => ?_,
    fun p s h => congrArg done (State.buildDone_builds h), fun h p s ha hp hb hc => ?_, fun h p s ha hp hb hc => ?_⟩
  · have hw := (s.buildCheck_woken (.pitchBuild h b) b).trans hc
    obtain ⟨h1, h2, h3, h4, h5, h6, h7, h8⟩ := (s.woken (.pitchBuild h b)).startBuild_starts b
    have hr : (s.woken (.pitchBuild h b)).buildRep b = ⟨0, [], (s.woken (.pitchBuild h b)).startBuild b, false⟩ :=
      if_neg (not_not.mpr hw)
    have hpit (t : State) (p : Nat) : (finish (t.conclude (.pitchBuild h b) h s.epoch 0 [])).pitch p = t.pitch p :=
      State.pitch_of_pitches ((finish_pitches _).trans (State.conclude_pitches ..)) p
    refine ⟨_, done_runMsg (f := fun t => t.buildRep b) ha hr, ?_⟩
    simp only [hpit, h1, h2, h3, h4, finish_streams, finish_ctxs, State.conclude_streams, State.conclude_ctxs, h7, h8, State.woken_streams,
      State.woken_ctxs, true_and, and_true]
    exact ⟨h5.trans (State.of_woken s _ (f := State.epoch) fun _ => rfl),
      fun p hp => (h6 p hp).trans (State.pitch_of_pitches (s.woken_pitches _) p)⟩
  · intro w hc
    exact done_runMsg (f := fun t => t.buildRep b) ha (if_pos hc)
  · have hpit := State.pitch_of_pitches (s.woken_pitches (.pitchDissolve h p)) p.toNat
    refine done_runMsg (f := fun t => t.dissolveRep p.toNat) ha (State.dissolveRep_refused (by decide) ?_)
    rw [hpit]
    rw [not_and_or] at hp
    have hb : (decide (p.toNat < 16) && (s.pitch p.toNat).built) = false := by simpa [imp_iff_not_or] using hp
    simp [firstFail, hb]
  · have hpit := State.pitch_of_pitches (s.woken_pitches (.pitchDissolve h p))
    have hctx : (s.woken (.pitchDissolve h p)).ctxOf p.toNat (fun c => c.state != .free) = [] :=
      (State.of_woken s _ (f := fun t => t.ctxOf p.toNat (fun c => c.state != .free)) fun _ => rfl).trans hc
    obtain ⟨t, hr, h1, h2, h3, h4⟩ := State.dissolveRep_free hp (by rw [hpit, hb]) hctx
    refine ⟨_, done_runMsg (f := fun t => t.dissolveRep p.toNat) ha hr, ?_⟩
    have hpt (q : Nat) : (finish (t.conclude (.pitchDissolve h p) h s.epoch 0 [])).pitch q = t.pitch q :=
      State.pitch_of_pitches ((finish_pitches _).trans (State.conclude_pitches ..)) q
    simp only [hpt, h1, finish_streams, finish_ctxs, State.conclude_streams, State.conclude_ctxs, h3, h4, State.woken_streams,
      State.woken_ctxs, true_and, and_true]
    exact fun r hr => (h2 r hr).trans (hpit r)
  · have hpit := State.pitch_of_pitches (s.woken_pitches (.pitchDissolve h p)) p.toNat
    have hctx : (s.woken (.pitchDissolve h p)).ctxOf p.toNat (fun c => c.state != .free) ≠ [] := by
      rw [State.of_woken s _ (f := fun t => t.ctxOf p.toNat (fun c => c.state != .free)) fun _ => rfl]
      exact hc
    refine done_runMsg (f := fun t => t.dissolveRep p.toNat) ha (State.dissolveRep_refused (by decide) ?_)
    simp [firstFail, hpit, hp, hb, hctx]

end Sys2Proof.Machine
end

section
/-!
SUPPORT and proof of O22: job contexts and their residency (10 R252 to R265).
-/

namespace Sys2Proof.Machine

/-! ### What loads and copies leave alone -/

theorem State.schedFrame_nextCopy (s : State) (p : Nat) : s.SchedFrame (s.nextCopy p) := by
  unfold State.nextCopy
  split
  · exact .rfl
  · dsimp only
    split <;> exact .rfl

theorem State.schedFrame_refuseLoad (s : State) (p st : Nat) : s.SchedFrame (s.refuseLoad p st) :=
  ((s.schedFrame_inc ..).trans (State.schedFrame_flag ..)).trans (State.schedFrame_event ..)

theorem State.schedFrame_failedRead (s : State) (a n c : Nat) : s.SchedFrame (s.failedRead a n c) := by
  unfold State.failedRead
  split
  · exact State.schedFrame_readFailed ..
  · exact .rfl

theorem State.schedFrame_conclude (s : State) (i : Instr) (h : Hdr) (e st : Nat) (pay : List Byte) :
    s.SchedFrame (s.conclude i h e st pay) :=
  ⟨State.conclude_pitches .., State.conclude_ctxs .., State.conclude_streams .., State.conclude_execs ..⟩

theorem State.schedFrame_concludeLater (s : State) (m : PendMsg) (st : Nat) (pay : List Byte) : s.SchedFrame (s.concludeLater m st pay) := by
  unfold State.concludeLater
  split
  · exact State.schedFrame_conclude ..
  · exact .rfl

theorem State.schedFrame_loadRep (s : State) (p c a : Nat) : s.SchedFrame (s.loadRep p c a).s := by
  rw [State.loadRep_cases]
  split
  · exact .trans (t := { s with models := s.models ++ [s.newModel p c a] }) .rfl (State.schedFrame_nextCopy ..)
  · split
    · exact (s.schedFrame_failedRead ..).trans (State.schedFrame_refuseLoad ..)
    · exact State.schedFrame_refuseLoad ..

theorem State.schedFrame_runLoads (s : State) (c : Nat) : s.SchedFrame (s.runLoads c) :=
  .trans (t := { s with loads := s.loads.filter (fun l => l.ctx != c) }) .rfl
    (State.schedFrame_each (f := fun s (l : LoadReq) => (s.loadRep l.pitch l.ctx l.addr).s.concludeLater l.msg (s.loadRep l.pitch l.ctx l.addr).st
        (s.loadRep l.pitch l.ctx l.addr).pay)
      (fun t _ => (t.schedFrame_loadRep ..).trans (State.schedFrame_concludeLater ..)) _ _)

theorem State.schedFrame_abandonLoad (s : State) (p id : Nat) : s.SchedFrame (s.abandonLoad p id) :=
  .trans (t := { s with models := s.models.filter (fun x => !(x.pitch == p && x.id == id)) }) .rfl
    ((State.schedFrame_refuseLoad ..).trans (State.schedFrame_nextCopy ..))

theorem State.schedFrame_move (s : State) (a b n : Nat) : s.SchedFrame (s.move a b n) := .rfl

theorem State.schedFrame_copyTiles (s : State) (m : Model) (q : Nat) : s.SchedFrame (s.copyTiles m q) :=
  State.schedFrame_each (fun _ _ => State.schedFrame_move ..) _ s

theorem State.schedFrame_copyBack (s : State) (m : Model) : s.SchedFrame (s.copyBack m) := by
  unfold State.copyBack
  dsimp only
  split
  · exact (State.schedFrame_each (f := fun s q => s.copyTiles m q) (fun t q => t.schedFrame_copyTiles m q) _ s).trans .rfl
  · exact (s.schedFrame_failedRead ..).trans (State.schedFrame_abandonLoad ..)

theorem State.schedFrame_move_rb (s : State) (a b n w k : Nat) : s.SchedFrame ((s.move a b n).rbBytes w k) :=
  .trans (t := s.move a b n) .rfl ((State.schedFrame_setRg ..).trans (State.schedFrame_setRg ..))

/-! ### Grants (10 R260) -/

@[simp] theorem State.ctx_updCtx (s : State) (c : Nat) (f : Ctx → Ctx) : (s.updCtx c f).ctx c = f (s.ctx c) := Tab.getD_modify_same ..

theorem State.ctx_updCtx_ne (s : State) {c d : Nat} (h : d ≠ c) (f : Ctx → Ctx) : (s.updCtx c f).ctx d = s.ctx d :=
  Tab.getD_modify_ne _ h.symm ..

/-- A context that is granted its shares. -/
def Ctx.granted (y : Ctx) (w k : Nat) : Ctx :=
  { y with state := .arriving, wBase := w, kBase := k, granting := none, runnable := false, waitF := 0, restored := !y.everSpilled }

theorem State.schedFrame_grant (s : State) (c w k : Nat) : (s.updCtx c (fun y => y.granted w k)).SchedFrame (s.grant c w k) := by
  unfold State.grant
  extract_lets x s1 back ms s2
  have h2 : (s.updCtx c (fun y => y.granted w k)).SchedFrame s2 :=
    .trans (t := { s1 with models := ms }) .rfl (State.schedFrame_nextCopy ..)
  split
  · exact h2
  · exact h2.trans (State.schedFrame_runLoads ..)

/-- A context that waits for no shares is left alone by the grants of others. -/
theorem State.ctx_tryGrant {s : State} {c : Nat} (h : (s.ctx c).granting = none) (d : Nat) : (s.tryGrant d).ctx c = s.ctx c := by
  unfold State.tryGrant
  split
  · rfl
  · next r hr =>
    have hd : c ≠ d := by
      rintro rfl
      rw [h] at hr
      cases hr
    dsimp only
    split
    · exact (State.ctx_of_ctxs (s.schedFrame_grant d r.1 r.2).2.1 c).trans (State.ctx_updCtx_ne _ hd _)
    · rfl

theorem State.ctx_tryGrants {s : State} {c : Nat} (h : (s.ctx c).granting = none) (p : Nat) : (s.tryGrants p).ctx c = s.ctx c := by
  refine State.each_inv (P := fun t => t.ctx c = s.ctx c) (f := State.tryGrant) _ (fun t d _ ht => ?_) s rfl
  rw [State.ctx_tryGrant (by rw [ht]; exact h), ht]

/-- With no context waiting for shares, none is granted. -/
theorem State.tryGrants_none {s : State} (h : ∀ d, (s.ctx d).granting = none) (p : Nat) : s.tryGrants p = s := by
  refine State.each_inv (P := fun t => t = s) (f := State.tryGrant) _ (fun t d _ ht => ?_) s rfl
  rw [ht, State.tryGrant, h d]

/-- Shares that fit are granted at once. -/
theorem State.makeRoom_fits {s : State} {c w k : Nat} (h : s.fits c [] = some (w, k)) : s.makeRoom c = some (s.grant c w k) := by
  have he (l : List Nat) : s.evictFor c [] l = some [] := by
    cases l <;> simp [State.evictFor, h]
  unfold State.makeRoom
  rw [he]
  dsimp only
  rw [h]
  rfl

/-! ### Messages about contexts (10 R252, R259, R260) -/

theorem ctxCheck_woken (s : State) (i : Instr) (c : CtxParams) : ctxCheck (s.woken i) c = ctxCheck s c :=
  State.of_woken s i (f := fun t => ctxCheck t c) fun _ => rfl

section
variable {s : State} {c : Nat}

theorem State.ctxKnown_iff : s.ctxKnown c = true ↔ c < 1024 ∧ (s.ctx c).state ≠ .free := by simp [State.ctxKnown]

theorem State.ctxAdmitRep_unknown (h : s.ctxKnown c = false) : s.ctxAdmitRep c = .no s 0x407 := by
  simp [State.ctxAdmitRep, firstFail, h]

theorem State.ctxAdmitRep_be (h : s.ctxKnown c = true) (hb : (s.ctx c).be = true) : s.ctxAdmitRep c = .no s 0x409 := by
  simp [State.ctxAdmitRep, firstFail, h, hb]

theorem State.ctxAdmitRep_state (h : s.ctxKnown c = true) (hb : (s.ctx c).be = false) (hs : (s.ctx c).state ≠ .registered) :
    s.ctxAdmitRep c = .no s 0x406 := by
  simp [State.ctxAdmitRep, firstFail, h, hb, hs]

theorem State.ctxAdmitRep_admits (h : s.ctxKnown c = true) (hb : (s.ctx c).be = false) (hs : (s.ctx c).state = .registered) :
    s.ctxAdmitRep c = (s.admitCtx c).elim (.no s 0x408) (fun t => .ok t) := by
  have hf : firstFail [(s.ctxKnown c, 0x407), (!(s.ctx c).be, 0x409), ((s.ctx c).state == .registered, 0x406)] = 0 := by
    simp [firstFail, h, hb, hs]
  refine (if_neg (by rw [hf]; decide)).trans ?_
  cases s.admitCtx c <;> rfl

theorem State.admitCtx_promised (h : (s.ctx c).granting ≠ none) : s.admitCtx c = some s :=
  if_pos (Option.isSome_iff_ne_none.mpr h)

theorem State.admitCtx_room (h : (s.ctx c).granting = none) : s.admitCtx c = s.makeRoom c := if_neg (by simp [h])

/-- A torn down context is FREE, whoever is granted what it held. -/
theorem State.ctxTeardownRep_known (h : s.ctxKnown c = true) :
    ∃ t, s.ctxTeardownRep c = ⟨0, [], t, false⟩ ∧ (t.ctx c).state = .free := by
  refine ⟨_, if_neg (by simp [h]), ?_⟩
  have ht : ∃ x, (s.teardown c).ctx c = { Ctx.blank with acct := x } := by
    unfold State.teardown
    dsimp only
    exact ⟨_, (State.ctx_of_ctxs (State.schedFrame_nextCopy ..).2.1 c).trans (State.ctx_updCtx ..)⟩
  obtain ⟨x, hx⟩ := ht
  have hev : ((s.teardown c).event 0x050B c (s.pitchDom (s.ctx c).pitch)).ctx c = { Ctx.blank with acct := x } :=
    (State.ctx_of_ctxs (State.schedFrame_event ..).2.1 c).trans hx
  have hg := State.ctx_tryGrants (c := c) (by rw [hev]; rfl) (s.ctx c).pitch
  rw [hg, hev]
  rfl

theorem State.ctxTeardownRep_unknown (h : s.ctxKnown c = false) : s.ctxTeardownRep c = .no s 0x407 := if_pos (by simp [h])
end

/-! ### Spills and restores (10 R257, R265) -/

/-- The share of a context copied out to its spill area, or back. -/
def State.copyShare (s : State) (c : Nat) (back : Bool) : State :=
  s.each (s.quarters (s.ctx c).pitch).zipIdx (fun t q =>
    (t.move (if back then t.spillAt c q.2 else t.shareBase c q.1) (if back then t.shareBase c q.1 else t.spillAt c q.2)
      ((s.ctx c).kPages * 65536)).rbBytes (q.1 / 4) ((s.ctx c).kPages * 65536))

theorem State.schedFrame_copyShare (s : State) (c : Nat) (back : Bool) : s.SchedFrame (s.copyShare c back) :=
  State.schedFrame_each (fun _ _ => State.schedFrame_move_rb ..) _ s

section
variable {s : State} {c : Nat}

/-- Where the share of a leaving context has words with bad parity. -/
def State.badShare (s : State) (c : Nat) : List Nat :=
  (s.quarters (s.ctx c).pitch).flatMap (fun q => s.badWordsIn (s.shareBase c q) ((s.ctx c).kPages * 65536))

theorem State.ctxSpillDone_leaving (h : (s.ctx c).state = .leaving)
    (he : ∀ e ∈ s.execs, e.ctx = c → e.released = false ∧ e.cancelled = false) : s.ctxSpillDone c =
      if s.badShare c = [] then
        ((((s.copyShare c false).updCtx c (fun x => { x with state := .registered, everSpilled := true })).event 0x0508 c
          (s.pitchDom (s.ctx c).pitch)).tryGrants (s.ctx c).pitch)
      else
        let s2 := (((s.copyShare c false).flag .memcEvt 0 2).cnt .memcParFaultCnt 0 31 0 (s.badShare c).length).updCtx c
          (fun x => { x with state := .faulted, fault := 3 })
        (s2.each (s2.ctxStreams c) (fun s i => s.faultStream i 3 true)).ctxFaultEvent c 3 (s.ctx c).pitch 0 := by
  have ha : s.execs.all (fun e => e.ctx != c || (!e.released && !e.cancelled)) = true := by
    rw [List.all_eq_true]
    intro e hm
    simpa [imp_iff_not_or] using he e hm
  exact (if_pos (by simp [h, ha])).trans (if_congr List.isEmpty_iff rfl rfl)

theorem State.ctxSpillDone_not (h : (s.ctx c).state ≠ .leaving ∨ (∃ e ∈ s.execs, e.ctx = c ∧ (e.released = true ∨ e.cancelled = true))) :
    s.ctxSpillDone c = s := by
  refine if_neg fun hc => ?_
  simp only [Bool.and_eq_true, decide_eq_true_eq, List.all_eq_true, Bool.or_eq_true, bne_iff_ne, Bool.not_eq_true'] at hc
  obtain ⟨h1, h2⟩ := hc
  obtain h | ⟨e, he, hx, hr⟩ := h
  · exact h h1
  · obtain h3 | ⟨h4, h5⟩ := h2 e he
    · exact h3 hx
    · simp [h4, h5] at hr

/-- The models of a context that are copied in again. -/
def State.backModels (s : State) (c : Nat) : List Model :=
  (s.pitchModels (s.ctx c).pitch).filter (fun m => m.ctx == c && !m.first && m.stage == .queued)

theorem State.ctxRestoreDone_arriving (h : (s.ctx c).state = .arriving) (hr : (s.ctx c).restored = false) : s.ctxRestoreDone c =
    if s.badIn (s.ctx c).spill ((s.ctx c).kPages * 65536 * (s.quarters (s.ctx c).pitch).length) = [] then
      ((s.copyShare c true).updCtx c (fun x => { x with restored := true })).each (s.backModels c) State.copyBack
    else (s.failedRead (s.ctx c).spill ((s.ctx c).kPages * 65536 * (s.quarters (s.ctx c).pitch).length) 2).restoreFail c := by
  have hm : (s.copyShare c true).models = s.models := State.each_keeps (fun t => t.models) _ (by intros; rfl) _ s
  have hb : ((s.copyShare c true).pitchModels (s.ctx c).pitch).filter (fun m => m.ctx == c && !m.first && m.stage == .queued) =
      s.backModels c := by
    unfold State.backModels State.pitchModels
    rw [hm]
  refine (if_pos (by simp [h, hr])).trans (if_congr List.isEmpty_iff ?_ rfl)
  exact congrArg (fun l => State.each _ l State.copyBack) hb

theorem State.ctxRestoreDone_not (h : (s.ctx c).state ≠ .arriving ∨ (s.ctx c).restored = true) : s.ctxRestoreDone c = s := by
  refine if_neg ?_
  obtain h | h := h <;> simp [h]
end

/-- Settles O22. -/
theorem contextMessages : Obligations.ContextMessages := by
  unfold Obligations.ContextMessages
  refine ⟨⟨fun h c s ha hc => ?_, fun h c s ha => ?_, fun h c s ha hc => ?_, fun h c s w k ha hc hs hb hg hf hl => ?_,
    fun h c s ha hc hs => ?_, fun h c s hc => ⟨fun ha => ?_, fun ha => ?_⟩⟩, fun c s hs he => ?_,
    fun c s h => congrArg done (State.ctxSpillDone_not h), fun c s hs hr => ?_, fun c s h => congrArg done (State.ctxRestoreDone_not h)⟩
  · exact done_runMsg (f := fun t => t.ctxRegisterRep c) ha (if_neg (not_not.mpr ((ctxCheck_woken s _ c).trans hc)))
  · intro w hc
    exact done_runMsg (f := fun t => t.ctxRegisterRep c) ha (if_pos hc)
  · intro i w x
    have hx : w.ctx c.toNat = x := State.ctx_of_ctxs (s.woken_ctxs i) _
    have hk (hf : x.state ≠ .free) : w.ctxKnown c.toNat = true := State.ctxKnown_iff.mpr ⟨hc, by rw [hx]; exact hf⟩
    have he (st : Nat) (u : State) (hr : w.ctxAdmitRep c.toNat = ⟨st, [], u, false⟩) : exec i s = answered i h s u st [] :=
      done_runMsg (f := fun t => t.ctxAdmitRep c.toNat) ha hr
    have hadm (hs : x.state = .registered) (hb : x.be = false) : w.ctxAdmitRep c.toNat = _ :=
      State.ctxAdmitRep_admits (hk (by simp [hs])) (by rw [hx, hb]) (by rw [hx, hs])
    refine ⟨fun hf hb => he _ _ (State.ctxAdmitRep_be (hk hf) (by rw [hx, hb])),
      fun hf hb hs => he _ _ (State.ctxAdmitRep_state (hk hf) (by rw [hx, hb]) (by rw [hx]; exact hs)),
      fun hs hb hg => he _ _ ((hadm hs hb).trans ?_), fun hs hb hg hm => he _ _ ((hadm hs hb).trans ?_),
      fun t hs hb hg hm => he _ _ ((hadm hs hb).trans ?_)⟩
    · rw [State.admitCtx_promised (by rw [hx]; exact hg)]
      rfl
    · rw [State.admitCtx_room (by rw [hx, hg]), hm]
      rfl
    · rw [State.admitCtx_room (by rw [hx, hg]), hm]
      rfl
  · have hx (d : Nat) : (s.woken (.ctxAdmit h c)).ctx d = s.ctx d := State.ctx_of_ctxs (s.woken_ctxs _) _
    have hf' : (s.woken (.ctxAdmit h c)).fits c.toNat [] = some (w, k) :=
      (State.of_woken s _ (f := fun t => t.fits c.toNat []) fun _ => rfl).trans hf
    have hr : (s.woken (.ctxAdmit h c)).ctxAdmitRep c.toNat = ⟨0, [], (s.woken (.ctxAdmit h c)).grant c.toNat w k, false⟩ := by
      rw [State.ctxAdmitRep_admits (State.ctxKnown_iff.mpr ⟨hc, by rw [hx, hs]; decide⟩) (by rw [hx, hb]) (by rw [hx, hs]),
        State.admitCtx_room (by rw [hx, hg]), State.makeRoom_fits hf']
      rfl
    obtain ⟨-, g2, g3, -⟩ := (s.woken (.ctxAdmit h c)).schedFrame_grant c.toNat w k
    have ht (t : State) (d : Nat) : (finish (t.conclude (.ctxAdmit h c) h s.epoch 0 [])).ctx d = t.ctx d :=
      State.ctx_of_ctxs ((finish_ctxs _).trans (State.conclude_ctxs ..)) d
    have hc' := (State.ctx_of_ctxs g2 c.toNat).trans (State.ctx_updCtx ..)
    refine ⟨_, done_runMsg (f := fun t => t.ctxAdmitRep c.toNat) ha hr, ?_⟩
    simp only [ht, hc', finish_streams, State.conclude_streams, g3]
    exact ⟨rfl, rfl, rfl, fun d hd => (State.ctx_of_ctxs g2 d).trans ((State.ctx_updCtx_ne _ hd _).trans (hx d)), State.woken_streams ..⟩
  · have hx : (s.woken (.ctxTeardown h c)).ctx c.toNat = s.ctx c.toNat := State.ctx_of_ctxs (s.woken_ctxs _) _
    obtain ⟨t, hr, ht⟩ := State.ctxTeardownRep_known (s := s.woken (.ctxTeardown h c)) (State.ctxKnown_iff.mpr ⟨hc, by rw [hx]; exact hs⟩)
    refine ⟨_, done_runMsg (f := fun t => t.ctxTeardownRep c.toNat) ha hr, ?_⟩
    rw [State.ctx_of_ctxs ((finish_ctxs _).trans (State.conclude_ctxs ..)), ht]
  · refine done_runMsg (f := fun t => t.ctxAdmitRep c.toNat) ha (State.ctxAdmitRep_unknown ?_)
    rw [← Bool.not_eq_true, State.ctxKnown_iff, State.ctx_of_ctxs (s.woken_ctxs _)]
    exact hc
  · refine done_runMsg (f := fun t => t.ctxTeardownRep c.toNat) ha (State.ctxTeardownRep_unknown ?_)
    rw [← Bool.not_eq_true, State.ctxKnown_iff, State.ctx_of_ctxs (s.woken_ctxs _)]
    exact hc
  · intro x n qs bad s1
    have hd := State.ctxSpillDone_leaving hs he
    refine ⟨fun hbad => ?_, fun hbad => congrArg done (hd.trans (if_neg hbad))⟩
    have hd := hd.trans (if_pos hbad)
    refine ⟨congrArg done hd, fun hg => ?_⟩
    let u := ((s.copyShare c false).updCtx c (fun x => { x with state := .registered, everSpilled := true })).event 0x0508 c (s.pitchDom x.pitch)
    obtain ⟨-, k2, k3, k4⟩ := s.schedFrame_copyShare c false
    have hu : ((s.copyShare c false).updCtx c (fun x => { x with state := .registered, everSpilled := true })).SchedFrame u :=
      State.schedFrame_event ..
    obtain ⟨-, u2, u3, u4⟩ := hu
    have hc : u.ctx c = { s.ctx c with state := .registered, everSpilled := true } :=
      (State.ctx_of_ctxs u2 c).trans ((State.ctx_updCtx ..).trans (by rw [State.ctx_of_ctxs k2]))
    have ho (d : Nat) (h : d ≠ c) : u.ctx d = s.ctx d :=
      (State.ctx_of_ctxs u2 d).trans ((State.ctx_updCtx_ne _ h _).trans (State.ctx_of_ctxs k2 d))
    have hnone (d : Nat) : (u.ctx d).granting = none := by
      by_cases h : d = c
      · rw [h, hc]
        exact hg c
      · rw [ho d h]
        exact hg d
    refine ⟨_, congrArg done (hd.trans (State.tryGrants_none hnone _)), ?_⟩
    have hf (d : Nat) : (finish u).ctx d = u.ctx d := rfl
    rw [hf, hc]
    exact ⟨rfl, rfl, fun d hdc => ho d fun h => hdc (Fin.ext h), (finish_streams _).trans (u3.trans k3), (finish_execs _).trans (u4.trans k4)⟩
  · intro x n qs
    have hd := State.ctxRestoreDone_arriving hs hr
    refine ⟨fun hbad => ?_, fun hbad => congrArg done (hd.trans (if_neg hbad))⟩
    intro s1 back
    have hd := hd.trans (if_pos hbad)
    refine ⟨congrArg done hd, _, congrArg done hd, ?_⟩
    obtain ⟨-, k2, k3, k4⟩ := s.schedFrame_copyShare c true
    have hb := State.schedFrame_each (fun t m => t.schedFrame_copyBack m) (s.backModels c)
      ((s.copyShare c true).updCtx c (fun x => { x with restored := true }))
    obtain ⟨-, b2, b3, b4⟩ := hb
    have hc := (State.ctx_of_ctxs ((finish_ctxs _).trans b2) c).trans (State.ctx_updCtx ..)
    rw [hc, State.ctx_of_ctxs k2]
    refine ⟨rfl, hs, fun d hdc => ?_, (finish_streams _).trans (b3.trans k3), (finish_execs _).trans (b4.trans k4)⟩
    exact (State.ctx_of_ctxs ((finish_ctxs _).trans b2) d).trans ((State.ctx_updCtx_ne _ (fun h => hdc (Fin.ext h)) _).trans
      (State.ctx_of_ctxs k2 d))

end Sys2Proof.Machine
end

section
/-!
SUPPORT and proof of O31: block reads, the patrol and parity re-fetches (12 R310 to R320).
-/

namespace Sys2Proof.Machine

/-! ### Block reads (12 R312 to R314) -/

theorem firstGood_first {a : Nat} {d : List Byte} {c : BitVec 16} (hd : d.length = 64) (hc : blockCheck a d = c.toNat)
    (rest : List (List Byte × BitVec 16)) : firstGood a ((d, c) :: rest) = some 0 := by
  simp [firstGood, hd, hc, List.zipIdx_cons]

/-- How a block read ends: at once, by a re-read, or with all four reads failed. -/
def readEnd (good : Option Nat) (n : Nat) (ok retried failed : State) : State :=
  match good with
  | some 0 => ok
  | some (_ + 1) => retried
  | none => if 4 ≤ n then failed else ok

theorem readEnd_zero (n : Nat) (a b c : State) : readEnd (some 0) n a b c = a := rfl

theorem readEnd_succ (g n : Nat) (a b c : State) : readEnd (some (g + 1)) n a b c = b := rfl

theorem readEnd_none (n : Nat) (a b c : State) : readEnd none n a b c = if 4 ≤ n then c else a := rfl

theorem State.blockRead_eq (s : State) (a : Nat) (rq : MemReq) (reads : List (List Byte × BitVec 16)) : s.blockRead a rq reads =
    readEnd (firstGood a reads) reads.length s (s.retried a) ((s.readFailed a (reqCode rq)).charge a rq) := by
  unfold State.blockRead
  cases firstGood a reads with
  | none => rfl
  | some n => cases n <;> rfl

/-- An event changes the counter and the flag of lost events only. -/
theorem State.sameRegs_event_lost (s : State) (c u d a b : Nat) :
    s.sameRegs (s.event c u d a b) [RegName.hostKtpLossCnt.off 0, RegName.hostEvt.off 0] := by
  unfold State.event State.eventIf
  dsimp only
  split
  · exact State.sameRegs_of_eq _ rfl
  · exact State.sameRegs_trans (State.sameRegs_trans (State.sameRegs_of_eq _ rfl) (State.sameRegs_cnt _ (by simp)))
      (State.sameRegs_flag _ (by simp))

/-- What the latch of a failed read holds (12 R313). -/
theorem State.readFailed_latch (s : State) (addr code : Nat) :
    (s.readFailed addr code).rg .memcFailAddrLo = addr / 64 * 64 % 2 ^ 32 ∧
      (s.readFailed addr code).rg .memcFailAddrHi =
        (addr / 64 * 64 / 2 ^ 32 % 65536 + chanOf addr * 2 ^ 16 + code * 2 ^ 24) % 2 ^ 32 ∧
      addr / 64 ∈ (s.readFailed addr code).memx.badBlocks := by
  unfold State.readFailed
  extract_lets b c s1 s2 old s3
  have hlo : s2.rg .memcFailAddrLo = addr / 64 * 64 % 2 ^ 32 := by
    unfold s2
    rw [State.rg_setRg_ne _ (by decide)]
    exact State.rg_setRg_same ..
  have hhi : s2.rg .memcFailAddrHi = (addr / 64 * 64 / 2 ^ 32 % 65536 + chanOf addr * 2 ^ 16 + code * 2 ^ 24) % 2 ^ 32 :=
    State.rg_setRg_same ..
  have h3 : s3.regs = s2.regs := by
    unfold s3
    split <;> rfl
  have hm : addr / 64 ∈ s3.memx.badBlocks := by
    unfold s3
    split
    · next hc => exact List.contains_iff_mem.mp hc
    · exact List.mem_append_right _ List.mem_cons_self
  clear_value s2 s3
  have hs : s2.sameRegs ((s3.flag .memcEvt 0 0).event 0x0601 c 0 (b * 64) code)
      [RegName.memcEvt.off 0, RegName.hostKtpLossCnt.off 0, RegName.hostEvt.off 0] := by
    have hf := s3.sameRegs_flag (l := [RegName.memcEvt.off 0, RegName.hostKtpLossCnt.off 0, RegName.hostEvt.off 0]) (r := .memcEvt)
      (i := 0) (b := 0) (by simp)
    have he := (s3.flag .memcEvt 0 0).sameRegs_event_lost 0x0601 c 0 (b * 64) code
    exact State.sameRegs_trans (State.sameRegs_trans (State.sameRegs_of_eq _ h3) hf) (State.sameRegs_mono he (by simp))
  refine ⟨(State.sameRegs_rg hs (by decide)).trans hlo, (State.sameRegs_rg hs (by decide)).trans hhi, ?_⟩
  rw [State.event_memx, State.flag_memx]
  exact hm

theorem chanOf_lt (a : Nat) : chanOf a < 64 := Nat.mod_lt _ (by decide)

/-! ### The patrol (12 R316) -/

/-- Whether a read is the patrol's next. -/
def State.patrolTurn (s : State) (a : Nat) : Prop :=
  s.bit .memcScrubCfg 0 0 = true ∧ a / 64 = s.memx.patrol ∧ (s.memx.patrol = 0 → s.passDue = true)

/-- The patrol once it has read its block. -/
def State.patrolled (s : State) : State :=
  let last := decide (0x3E00000000 / 64 ≤ s.memx.patrol + 1)
  { s with memx := { s.memx with
      patrol := if last then 0 else s.memx.patrol + 1, scrubbing := !last,
      passAt := if s.memx.patrol = 0 then some s.uptime else s.memx.passAt,
      passHours := if s.memx.patrol = 0 then s.fld .memcScrubCfg 0 15 8 else s.memx.passHours } }

theorem State.scrubRead_turn {s : State} {a : Nat} (h : s.patrolTurn a) (reads : List (List Byte × BitVec 16)) :
    s.scrubRead a reads = readEnd (firstGood a reads) reads.length s.patrolled (s.patrolled.retried a)
      ((s.patrolled.readFailed a 6).inc .memcScrubFail) := by
  obtain ⟨h1, h2, h3⟩ := h
  unfold State.scrubRead
  extract_lets first old u nx last old' s1
  have hs1 : s1 = s.patrolled := by
    unfold s1 old' last nx u old first State.patrolled
    rw [h2]
    by_cases hp : s.memx.patrol = 0
    · simp [hp, lpddrTop]
    · simp [hp, lpddrTop]
  rw [hs1]
  refine (if_neg ?_).trans ?_
  · unfold first
    by_cases hp : s.memx.patrol = 0
    · simp [h1, h2, hp, h3 hp]
    · simp [h1, h2, hp]
  · cases firstGood a reads with
    | none => rfl
    | some n => cases n <;> rfl

theorem State.scrubRead_not {s : State} {a : Nat} (h : ¬ s.patrolTurn a) (reads : List (List Byte × BitVec 16)) :
    s.scrubRead a reads = s := by
  refine if_pos ?_
  by_contra hc
  refine h ?_
  simp only [Bool.or_eq_true, Bool.not_eq_true', bne_iff_ne, Bool.and_eq_true, beq_iff_eq, not_or, not_and, Bool.not_eq_false, ne_eq,
    not_not] at hc
  obtain ⟨⟨h1, h2⟩, h3⟩ := hc
  exact ⟨h1, h2, h3⟩

/-! ### Parity re-fetches (12 R320) -/

/-- The re-fetches that wait for the bank block of an address. -/
def refetchOf (q a : Nat) (r : Refetch) : Bool := r.quarter == q && r.addr / 64 == a / 64

/-- A re-fetch under way: its traffic is counted, and none waits for the block any more. -/
def State.refetched (s : State) (q a : Nat) : State :=
  let s1 : State := { s with memx := { s.memx with refetch := s.memx.refetch.filter (fun r => !refetchOf q a r) } }
  ((s.memx.refetch.filter (refetchOf q a)).head?.map (fun r => s1.rbLate (q / 4) r.deadline)).getD s1 |>.rbBytes (q / 4) 64

theorem State.refetched_keeps (s : State) (q a : Nat) :
    (s.refetched q a).memx.refetch = s.memx.refetch.filter (fun r => !refetchOf q a r) ∧ (s.refetched q a).mem = s.mem ∧
      (s.refetched q a).streams = s.streams ∧ (s.refetched q a).execs = s.execs := by
  unfold State.refetched
  extract_lets s1
  cases (s.memx.refetch.filter (refetchOf q a)).head? with
  | none => exact ⟨rfl, rfl, rfl, rfl⟩
  | some r =>
    dsimp only [Option.map, Option.getD]
    unfold State.rbLate
    split
    · split <;> exact ⟨rfl, rfl, rfl, rfl⟩
    · exact ⟨rfl, rfl, rfl, rfl⟩

section
variable {s : State} {q a : Nat}

theorem State.refetchDone_none (h : s.memx.refetch.any (refetchOf q a) = false) : s.refetchDone q a = s :=
  if_pos (by simpa [refetchOf] using h)

theorem State.refetchDone_image {src : Nat} (h : s.memx.refetch.any (refetchOf q a) = true) (hs : s.imageByte q (a / 64 * 64) = some src) :
    s.refetchDone q a = if s.badIn src 64 = [] then (s.refetched q a).move src (a / 64 * 64) 64
      else ((s.refetched q a).failedRead src 64 4).each ((s.memx.refetch.filter (refetchOf q a)).filterMap (fun r => r.exec))
        (fun s e => s.faultExec e 1) := by
  have hn : ¬ (!s.memx.refetch.any (refetchOf q a)) = true := by simp [h]
  refine (if_neg hn).trans ?_
  dsimp only
  rw [hs]
  exact if_congr List.isEmpty_iff rfl rfl

/-- A block that no image holds is stored as it is. -/
theorem State.refetchDone_noImage (h : s.memx.refetch.any (refetchOf q a) = true) (hs : s.imageByte q (a / 64 * 64) = none) :
    ∃ u : State, s.refetchDone q a = u.poke (a / 64 * 64) (u.mem.readN (a / 64 * 64) 64) ∧
      u.memx.refetch = s.memx.refetch.filter (fun r => !refetchOf q a r) ∧ u.mem = s.mem ∧ u.streams = s.streams := by
  have hn : ¬ (!s.memx.refetch.any (refetchOf q a)) = true := by simp [h]
  refine ⟨{ s with memx := { s.memx with refetch := s.memx.refetch.filter (fun r => !refetchOf q a r) } }, (if_neg hn).trans ?_, rfl, rfl, rfl⟩
  dsimp only
  rw [hs] <;> rfl
end

/-- Storing what is read changes no byte. -/
theorem State.poke_readN (s : State) (a n x : Nat) : (s.poke a (s.mem.readN a n)).mem.read x = s.mem.read x := by
  by_cases h : x < a ∨ a + n ≤ x
  · exact State.poke_read_out (by rwa [Memory.readN_length])
  · obtain ⟨k, rfl⟩ : ∃ k, x = a + k := ⟨x - a, by omega⟩
    have hk : k < n := by omega
    rw [State.poke_read_in (by rwa [Memory.readN_length]), Memory.readN_eq]
    simp [List.getD_eq_getElem?_getD, hk]

theorem Retries.due_iff (r : Retries) (w : Nat) : r.due w = true ↔ w ≠ 0 ∧ w < r.count ∧ r.warned ≠ r.sec + 1 := by
  simp [Retries.due, and_assoc]

/-- Settles O31. -/
theorem blockReads : Obligations.BlockReads := by
  unfold Obligations.BlockReads
  refine ⟨⟨fun a rq d c rest s hd hc => ?_, fun a rq reads s => ⟨fun h => ?_, fun n h => ?_, fun h hl => ?_, fun h hl => ?_⟩,
    fun a reads s h hl => ?_⟩, fun a reads s => ?_, fun s => ?_, fun q a s => ?_⟩
  · exact congrArg done ((s.blockRead_eq ..).trans (by rw [firstGood_first hd hc, readEnd_zero]))
  · exact congrArg done ((s.blockRead_eq ..).trans (by rw [h, readEnd_zero]))
  · exact congrArg done ((s.blockRead_eq ..).trans (by rw [h, readEnd_succ]; rfl))
  · exact congrArg done ((s.blockRead_eq ..).trans (by rw [h, readEnd_none, if_pos hl]))
  · exact congrArg done ((s.blockRead_eq ..).trans (by rw [h, readEnd_none, if_neg (Nat.not_le.mpr hl)]))
  · obtain ⟨h1, h2, h3⟩ := s.readFailed_latch a.toNat 8
    have hr : s.blockRead a.toNat .host reads = s.readFailed a.toNat 8 :=
      (s.blockRead_eq ..).trans (by rw [h, readEnd_none, if_pos hl]; rfl)
    have hc := chanOf_lt a.toNat
    refine ⟨_, congrArg done hr, h3, h1, h2.trans (Nat.mod_eq_of_lt (by omega)), ?_, ?_, ?_⟩
    · rw [finish_mem, State.readFailed_mem]
    · rw [finish_streams, State.readFailed_streams]
    · rw [finish_execs, State.readFailed_execs]
  · intro turn last u
    refine ⟨fun ht h => ?_, fun n ht h => ?_, fun ht h hl => ?_, fun ht h hl => ?_, fun ht => congrArg done (State.scrubRead_not ht _)⟩
    · exact congrArg done ((State.scrubRead_turn ht _).trans (by rw [h, readEnd_zero]; rfl))
    · exact congrArg done ((State.scrubRead_turn ht _).trans (by rw [h, readEnd_succ]; rfl))
    · exact congrArg done ((State.scrubRead_turn ht _).trans (by rw [h, readEnd_none, if_pos hl]; rfl))
    · exact congrArg done ((State.scrubRead_turn ht _).trans (by rw [h, readEnd_none, if_neg (Nat.not_le.mpr hl)]; rfl))
  · intro w r due u
    exact ⟨fun h => congrArg done (if_pos ((Retries.due_iff r w).mpr h)), fun h => congrArg done (if_neg fun hd => h ((Retries.due_iff r w).mp hd))⟩
  · intro b mine rest
    refine ⟨fun src h hs hb => ?_, fun src h hs hb => ?_, fun h hs => ?_, fun h => congrArg done (State.refetchDone_none h)⟩
    · obtain ⟨k1, k2, k3, -⟩ := s.refetched_keeps q a.toNat
      obtain ⟨m1, m2⟩ := (s.refetched q a.toNat).move_read src b 64
      rw [k2] at m1 m2
      exact ⟨_, congrArg done ((State.refetchDone_image h hs).trans (if_pos hb)), k1, m1, m2, k3⟩
    · obtain ⟨k1, k2, k3, k4⟩ := s.refetched_keeps q a.toNat
      exact ⟨s.refetched q a.toNat, congrArg done ((State.refetchDone_image h hs).trans (if_neg hb)), k1, k2, k3, k4⟩
    · obtain ⟨u, hu, k1, k2, k3⟩ := State.refetchDone_noImage h hs
      exact ⟨_, congrArg done hu, k1, fun x => (u.poke_readN b 64 x).trans (by rw [k2]), k3⟩

end Sys2Proof.Machine
end

section
/-!
SUPPORT and proof of O32: the commands of a mover channel (13 R332, R340, R345, R347, R348).
-/

namespace Sys2Proof.Machine

/-! ### One channel of a mover -/

theorem State.chan_of_chans {s t : State} (h : t.chans = s.chans) (m : Nat) : t.chan m = s.chan m := by
  rw [State.chan, State.chan, h]

@[simp] theorem State.chan_updChan (s : State) (n : Nat) (f : Chan → Chan) : (s.updChan n f).chan n = f (s.chan n) :=
  Tab.getD_modify_same ..

theorem State.chan_updChan_ne (s : State) {n m : Nat} (h : m ≠ n) (f : Chan → Chan) : (s.updChan n f).chan m = s.chan m :=
  Tab.getD_modify_ne _ h.symm ..

theorem State.withdraw_chans (s : State) (n : Nat) :
    (s.withdraw n).chans = (s.updChan n (fun x => { x with request := false })).chans := by
  unfold State.withdraw
  dsimp only
  split
  · exact rfl
  · split <;> exact rfl

theorem State.chan_withdraw_ne (s : State) {n m : Nat} (h : m ≠ n) : (s.withdraw n).chan m = s.chan m :=
  (State.chan_of_chans (s.withdraw_chans n) m).trans (s.chan_updChan_ne h _)

theorem State.chan_chanDrop_ne (s : State) {n m : Nat} (h : m ≠ n) (a : Nat) : (s.chanDrop n a).chan m = s.chan m := by
  refine Eq.trans ?_ (s.chan_updChan_ne h fun c => { c with wprot := true })
  unfold State.chanDrop
  dsimp only
  split <;> exact State.chan_of_chans (by simp [State.wprot]) m

theorem State.chan_statusWrite_ne (s : State) {n m : Nat} (h : m ≠ n) (d : Desc) (cause len : Nat) :
    (s.statusWrite n d cause len).chan m = s.chan m := by
  unfold State.statusWrite
  extract_lets c a s0 s1
  have h0 : s0.chan m = s.chan m := by
    unfold s0 State.chanBytes
    split <;> exact rfl
  rw [← h0]
  clear_value s0
  split
  · split
    · exact s0.chan_chanDrop_ne h a
    · exact rfl
  · split <;> exact State.chan_of_chans (by simp [s1]) m

/-- The channel that ends is IDLE at its head, and no other channel moves (13 R348). -/
theorem State.endChan_chans (s : State) (n cause : Nat) :
    ((s.endChan n cause).chan n).state = .idle ∧ ((s.endChan n cause).chan n).trigs = [] ∧
      ((s.endChan n cause).chan n).cur = s.chanHead n ∧ ((s.endChan n cause).chan n).desc = none ∧
      ∀ m, m ≠ n → (s.endChan n cause).chan m = s.chan m := by
  unfold State.endChan
  extract_lets c s1
  refine ⟨?_, ?_, ?_, ?_, fun m hm => ?_⟩
  iterate 4 rw [State.chan_updChan]
  rw [State.chan_updChan_ne _ hm, State.chan_withdraw_ne _ hm]
  unfold s1
  split
  · split
    · rfl
    · split
      · exact s.chan_statusWrite_ne hm ..
      · unfold State.cond
        split
        · exact State.chan_of_chans (State.readFailed_chans ..) m
        · rfl
  · rfl

theorem State.endChan_mem_of_noDesc (s : State) {n : Nat} (cause : Nat) (h : (s.chan n).desc = none) :
    (s.endChan n cause).mem = s.mem := by
  have e : s.endChan n cause = (s.withdraw n).updChan n (fun c =>
      { c with state := .idle, back := .idle, trigs := [], cur := s.chanHead n, desc := none, pos := 0, wprot := false,
               gen := none, trigTime := none, burst := false, held := [] }) := by
    unfold State.endChan
    simp only [h]
  rw [e]
  exact State.withdraw_mem ..

/-! ### O32: the commands of a channel -/

theorem State.movrEn_off {s : State} {n : Nat} (h : (s.chan n).state = .off) : s.movrEn n = if s.enOk n then
    ((s.setFld .movrChCtl n 0 0 1).updChan n (fun c =>
      { Chan.reset with state := .idle, cur := s.chanHead n, enTime := s.uptime, cause := c.cause, kind := c.kind, dir := c.dir,
                        err := c.err })).raiseFor n
  else s.flag .movrChEvt n 3 := if_neg (not_not.2 h)

theorem State.movrAbort_active {s : State} {n : Nat} (h : (s.chan n).state ≠ .off) :
    s.movrAbort n = if (s.chan n).state = .idle then s else s.endChan n 2 := by
  unfold State.movrAbort
  simp [h]

theorem State.movrDis_active {s : State} {n : Nat} (h : (s.chan n).state ≠ .off) :
    s.movrDis n = (((if (s.chan n).state = .idle then s else s.endChan n 2).withdraw n).setFld .movrChCtl n 0 0 0).updChan n
      (fun c => { c with state := .off }) := by
  rw [← State.movrAbort_active h]
  exact if_neg h

theorem State.movrStart_eq (s : State) (n : Nat) (rq : Requester) : s.movrStart n rq =
    if ((s.chan n).state = .idle ∨ (s.chan n).state = .empty) ∧ s.startOk n rq = true then
      s.updChan n (fun c => c.start (s.startGen rq)) else s := by
  unfold State.movrStart
  simp

theorem State.movrPaused_eq (s : State) (n : Nat) : s.movrPaused n =
    if s.chanPause n = true ∧ (s.chan n).state ∈ [.run, .waitTrig, .waitPreq] ∧ (s.chan n).burst = false ∧ (s.chan n).held = [] then
      s.updChan n (fun c => { c with state := .paused, back := c.state }) else s := by
  unfold State.movrPaused
  simp [and_assoc, or_assoc]

theorem State.movrUnpause_trigger {s : State} {n : Nat} {t : Option Nat × Nat} {ts : List (Option Nat × Nat)}
    (hb : (if (s.chan n).state = .paused then (s.chan n).back else (s.chan n).state) = .waitTrig) (ht : (s.chan n).trigs = t :: ts) :
    s.movrUnpause n = ((s.setFld .movrChCtl n 1 1 0).updChan n (fun c =>
      { c with trigs := ts, gen := t.1, trigTime := some t.2 })).goChan n := by
  unfold State.movrUnpause
  simp only [hb, ht]

theorem State.movrUnpause_eq {s : State} {n : Nat}
    (h : (if (s.chan n).state = .paused then (s.chan n).back else (s.chan n).state) ≠ .waitTrig ∨ (s.chan n).trigs = []) :
    s.movrUnpause n = if (s.chan n).state = .paused then
      (if (s.chan n).back = .waitTrig then (s.setFld .movrChCtl n 1 1 0).updChan n (fun c => { c with state := .waitTrig })
       else ((s.setFld .movrChCtl n 1 1 0).updChan n (fun c => { c with state := .run })).goChan n)
    else s.setFld .movrChCtl n 1 1 0 := by
  unfold State.movrUnpause
  dsimp only
  split
  · next hb ht => simp_all
  · split
    · next hp =>
      rw [if_pos hp] at *
      split <;> simp_all
    · rfl

/-- Settles O32: one equation for each command, and what the end of a channel leaves alone. -/
theorem moverControl : Obligations.MoverControl := by
  unfold Obligations.MoverControl
  refine ⟨fun n s => ⟨fun h e => ?_, fun h e => ?_, fun h => ?_⟩, fun n s => ⟨fun h => ?_, fun h => ?_⟩,
    fun n s rq => ⟨fun h => ?_, fun h => ?_⟩, fun n s => rfl, fun n s => ⟨fun h => ?_, fun h => ?_⟩,
    fun n s => ⟨fun t ts hb ht => ?_, fun hp hb ht => ?_, fun hp hb => ?_, fun hp h => ?_⟩,
    fun n s => ⟨fun h => ?_, fun h => ?_⟩, fun n s => ⟨fun h h' => ?_, fun h => ?_⟩⟩
  · exact congrArg done ((State.movrEn_off h).trans (if_pos e))
  · exact congrArg done ((State.movrEn_off h).trans (if_neg (by simp [e])))
  · exact congrArg done (if_pos h)
  · exact congrArg done (State.movrDis_active h)
  · exact congrArg done (if_pos h)
  · exact congrArg done ((s.movrStart_eq n rq).trans (if_pos h))
  · exact congrArg done ((s.movrStart_eq n rq).trans (if_neg h))
  · exact congrArg done ((s.movrPaused_eq n).trans (if_pos h))
  · exact congrArg done ((s.movrPaused_eq n).trans (if_neg h))
  · exact congrArg done (State.movrUnpause_trigger hb ht)
  · exact congrArg done ((State.movrUnpause_eq (.inr ht)).trans ((if_pos hp).trans (if_pos hb)))
  · exact congrArg done ((State.movrUnpause_eq (.inl (by rwa [if_pos hp]))).trans ((if_pos hp).trans (if_neg hb)))
  · exact congrArg done ((State.movrUnpause_eq (by rwa [if_neg hp])).trans (if_neg hp))
  · exact congrArg done (if_pos h)
  · exact congrArg done (if_neg h)
  · obtain ⟨h1, h2, h3, h4, h5⟩ := s.endChan_chans n 2
    obtain ⟨-, -, k1, k2⟩ := s.schedFrame_endChan n 2
    exact ⟨_, congrArg done ((State.movrAbort_active h).trans (if_neg h')), h1, h2, h3, h4, h5, k1, k2,
      fun hd => (finish_mem _).trans (s.endChan_mem_of_noDesc 2 hd)⟩
  · refine congrArg done (if_pos ?_)
    simpa using h

end Sys2Proof.Machine
end

section
/-!
SUPPORT and proof of O33: descriptors, moves, completion and timers of a mover channel (13 R328 to R346).
-/

namespace Sys2Proof.Machine

/-! ### What the Roundabout's counters leave alone -/

theorem State.get_rbBytes_ne (s : State) {w o : Nat} (hw : w < 4) (ho : o < 0xA0040 ∨ 0xA0080 ≤ o) (k : Nat) :
    Tab.get? (s.rbBytes w k).regs o = Tab.get? s.regs o := by
  have h0 : RegName.memcRbBytesLo.off w = 0xA0044 + w * 0x10 + 0 * 0 := rfl
  have h1 : RegName.memcRbBytesHi.off w = 0xA0048 + w * 0x10 + 0 * 0 := rfl
  exact (State.get_setRg_ne _ _ _ _ _ _ (by omega)).trans (State.get_setRg_ne _ _ _ _ _ _ (by omega))

theorem State.get_rbLate_ne (s : State) {w o : Nat} (hw : w < 4) (ho : o < 0xA0040 ∨ 0xA0080 ≤ o) (d : Option Nat) :
    Tab.get? (s.rbLate w d).regs o = Tab.get? s.regs o := by
  have h0 : RegName.memcRbLateCnt.off w = 0xA0040 + w * 0x10 + 0 * 0 := rfl
  unfold State.rbLate
  split
  · split
    · exact State.get_setRg_ne _ _ _ _ _ _ (by omega)
    · rfl
  · rfl

/-- Registers of a channel lie outside the Roundabout's counters. -/
theorem movrChCtl_off_lt {n : Nat} (hn : n < 256) : RegName.movrChCtl.off n < 0xA0040 := by
  have h : RegName.movrChCtl.off n = 0x61000 + n * 0x80 + 0 * 0 := rfl
  omega

theorem movrOwner_off_lt {n : Nat} (hn : n < 256) : RegName.movrOwner.off n < 0xA0040 := by
  have h : RegName.movrOwner.off n = 0x60400 + n * 4 + 0 * 0 := rfl
  omega

theorem qtrRegion_off_ge (q : Nat) : 0xA0080 ≤ RegName.qtrRegion.off q := by
  have h : RegName.qtrRegion.off q = 0x100000 + q * 0x10000 + 0 * 0 := rfl
  omega

/-- What a channel may reach stays the same (13 R326): the Pitches, the policy, the channel's owner and the weight regions. -/
structure State.SameReach (n : Nat) (s t : State) : Prop where
  pitches : t.pitches = s.pitches
  sec : t.sec = s.sec
  memx : t.memx = s.memx
  owner : t.rg .movrOwner n = s.rg .movrOwner n
  region : ∀ q, t.rg .qtrRegion q = s.rg .qtrRegion q

theorem State.SameReach.moverAcc {n : Nat} {s t : State} (h : s.SameReach n t) (a : Nat) (wr : Bool) :
    t.moverAcc n a wr = s.moverAcc n a wr := by
  obtain ⟨hp, hs, -, ho, hr⟩ := h
  have ei : t.isolate = s.isolate := by rw [State.isolate, State.isolate, hs]
  have er : t.rangesAt a = s.rangesAt a := by rw [State.rangesAt, State.rangesAt, hs]
  have eo : t.chanOwner n = s.chanOwner n := by rw [State.chanOwner, State.chanOwner, State.bit, State.bit, State.fld, State.fld, ho]
  have em (p : Nat) : t.pitchMay p a = s.pitchMay p a := by rw [State.pitchMay, State.pitchMay, ei, er]
  have eh : t.hostMay a = s.hostMay a := by rw [State.hostMay, State.hostMay, ei, er, hs]
  have eq (q : Nat) : t.quarterPitch q = s.quarterPitch q := by rw [State.quarterPitch, State.quarterPitch, hp]
  have ep (q : Nat) : t.powered q = s.powered q := by rw [State.powered, State.powered, eq]
  have ew (q off : Nat) : t.inWeight q off = s.inWeight q off := by
    rw [State.inWeight, State.inWeight, State.weightPages, State.weightPages, State.fld, State.fld, hr]
  unfold State.moverAcc
  simp only [eo, em, eh, ep, eq, ew, hs]

theorem State.SameReach.writeHalt {n : Nat} {s t : State} (h : s.SameReach n t) (a len kind : Nat) :
    t.writeHalt n a len kind = s.writeHalt n a len kind := by
  simp only [State.writeHalt, h.moverAcc, State.partBad, State.partWord, State.badIn, State.badWordsIn, h.memx]

/-! ### Requests and triggers on a channel -/

theorem State.chan_asked {s t : State} {m : Nat} (e : t.chan m = s.chan m) (n : Nat) (dry : Option Nat) :
    (t.updChan n (fun c => c.asked dry)).chan m = s.chan m ∨
      ∃ dry', (t.updChan n (fun c => c.asked dry)).chan m = (s.chan m).asked dry' := by
  by_cases h : m = n
  · subst h
    exact .inr ⟨dry, by rw [State.chan_updChan, e]⟩
  · exact .inl ((State.chan_updChan_ne _ h _).trans e)

theorem State.raiseTx_chan (s : State) (p m : Nat) : (s.raiseTx p).chan m = s.chan m ∨ ∃ dry, (s.raiseTx p).chan m = (s.chan m).asked dry := by
  unfold State.raiseTx
  split
  · exact .inl rfl
  · next k _ =>
    dsimp only
    split
    · exact State.chan_asked rfl k _
    · exact .inl rfl

theorem State.raiseRx_chan (s : State) (p m : Nat) : (s.raiseRx p).chan m = s.chan m ∨ ∃ dry, (s.raiseRx p).chan m = (s.chan m).asked dry := by
  unfold State.raiseRx
  split
  · exact .inl rfl
  · next k _ =>
    dsimp only
    split
    · exact State.chan_asked rfl k _
    · exact .inl rfl

theorem State.raiseFree_chan (s : State) (n m : Nat) : (s.raiseFree n).chan m = s.chan m ∨ ∃ dry, (s.raiseFree n).chan m = (s.chan m).asked dry := by
  unfold State.raiseFree
  dsimp only
  split
  · exact State.chan_asked rfl n none
  · exact .inl rfl

/-- A request raised leaves a channel as it is, or asks it (13 R339). -/
theorem State.raiseFor_chan (s : State) (n m : Nat) : (s.raiseFor n).chan m = s.chan m ∨ ∃ dry, (s.raiseFor n).chan m = (s.chan m).asked dry := by
  unfold State.raiseFor
  dsimp only
  split
  · exact s.raiseTx_chan _ m
  · split
    · exact s.raiseRx_chan _ m
    · split
      · exact s.raiseFree_chan n m
      · exact .inl rfl

theorem State.goChan_noPreq {s : State} {n : Nat} {d : Desc} (h : (s.chan n).desc = some d) (hp : d.preq = false) :
    s.goChan n = s.updChan n (fun c => { c with state := .run }) := by
  unfold State.goChan
  simp [h, hp]

/-- A descriptor that goes on runs, or waits for a request (13 R332). -/
theorem State.goChan_chan {s : State} {n : Nat} {d : Desc} (h : (s.chan n).desc = some d) :
    (((s.goChan n).chan n).state = .run ∨ ((s.goChan n).chan n).state = .waitPreq) ∧ ((s.goChan n).chan n).desc = some d ∧
      ((s.goChan n).chan n).pos = (s.chan n).pos := by
  unfold State.goChan
  simp only [h]
  split
  · split
    · simp [*]
    · next hr =>
      rcases State.raiseFor_chan (s.updChan n (fun c => { c with state := if c.request then .run else .waitPreq })) n n with e | ⟨dry, e⟩ <;>
        rw [e] <;> simp [h, hr, Chan.asked]
  · simp [h]

theorem State.autoStart_eq_self {s : State} {n : Nat} (h : s.bit .movrChCtl n 2 = false) : s.autoStart n = s := by
  unfold State.autoStart
  dsimp only
  split
  · rfl
  · simp [h]

/-! ### The fetch of a descriptor -/

theorem State.descFetch_eq (s : State) (n : Nat) : s.descFetch n =
    if (s.chan n).state = .run ∧ (s.chan n).desc = none ∧ s.chanPause n = false then
      (s.readHalt n (s.chan n).cur 32 1).elim
        (let d := s.readDesc (s.chan n).cur
         let u := s.chanBytes n (s.chan n).cur
         if d.status.testBit 31 = false then (u.updChan n (fun c => { c with state := .empty })).autoStart n
         else if d.ok (s.chanPeriph n) then u.takeDesc n d
         else (u.updChan n (fun c => { c with desc := some d, pos := 0 })).haltChan n ⟨5, 1, false, (s.chan n).cur⟩)
        (fun h => s.badAccess n h)
    else s := by
  unfold State.descFetch
  simp only [Bool.and_eq_true, beq_iff_eq, Option.isNone_iff_eq_none, Bool.not_eq_true', and_assoc]
  cases s.readHalt n (s.chan n).cur 32 1 <;> rfl

/-- What a channel holds of a descriptor that it has just taken. -/
def Chan.take (c : Chan) (d : Desc) : Chan :=
  { c with desc := some d, pos := 0, list := if d.list = 1 then d.src else d.dst, lpos := 0, wprot := false, burst := false, held := [] }

theorem State.takeDesc_noTrig {d : Desc} (h : d.waitTrig = false) (s : State) (n : Nat) :
    s.takeDesc n d = (s.updChan n (fun c => c.take d)).goChan n := if_neg (by simp [h])

theorem State.takeDesc_waits {s : State} {n : Nat} {d : Desc} (h : d.waitTrig = true) (ht : (s.chan n).trigs = []) :
    s.takeDesc n d = (s.updChan n (fun c => c.take d)).updChan n (fun c => { c with state := .waitTrig }) := by
  unfold State.takeDesc
  simp only [h, ht, if_true]
  rfl

theorem State.takeDesc_trig {s : State} {n : Nat} {d : Desc} {g : Option Nat × Nat} {ts : List (Option Nat × Nat)}
    (h : d.waitTrig = true) (ht : (s.chan n).trigs = g :: ts) :
    s.takeDesc n d = ((s.updChan n (fun c => c.take d)).updChan n
      (fun c => { c with trigs := ts, gen := g.1, trigTime := some g.2 })).goChan n := by
  unfold State.takeDesc
  simp only [h, ht, if_true]
  rfl

theorem State.chan_chanBytes (s : State) (n a m : Nat) : (s.chanBytes n a).chan m = s.chan m := by
  unfold State.chanBytes
  split <;> rfl

theorem State.chanBytes_streams (s : State) (n a : Nat) : (s.chanBytes n a).streams = s.streams := by
  unfold State.chanBytes
  split <;> rfl

theorem State.bit_chanBytes (s : State) {n : Nat} (hn : n < 256) (a b : Nat) :
    (s.chanBytes n a).bit .movrChCtl n b = s.bit .movrChCtl n b := by
  unfold State.chanBytes
  split
  · exact congrArg (Nat.testBit · b) (State.rg_of_get (s.get_rbBytes_ne (by omega) (.inl (movrChCtl_off_lt hn)) 64))
  · rfl

/-- The clause of the descriptor fetch. -/
theorem State.descFetch_clause (n : ChanNo) (s : State) (hr : (s.chan n).state = .run) (hd : (s.chan n).desc = none)
    (hp : s.chanPause n = false) :
     (∀ h, s.readHalt n (s.chan n).cur 32 1 = some h → exec (.movrDescFetch n) s = .next (finish (s.badAccess n h))) ∧
     (s.readHalt n (s.chan n).cur 32 1 = none →
       let d := s.readDesc (s.chan n).cur
       let u := if (s.chan n).cur < lpddrTop then s.rbBytes (n / 64) 64 else s
       (d.status.testBit 31 = false →
         exec (.movrDescFetch n) s = .next (finish ((u.updChan n (fun c => { c with state := .empty })).autoStart n)) ∧
         (s.bit .movrChCtl n 2 = false →
           exec (.movrDescFetch n) s = .next (finish (u.updChan n (fun c => { c with state := .empty }))))) ∧
       (d.status.testBit 31 = true → d.ok (s.chanPeriph n) = false → exec (.movrDescFetch n) s = .next (finish
         ((u.updChan n (fun c => { c with desc := some d, pos := 0 })).haltChan n ⟨5, 1, false, (s.chan n).cur⟩))) ∧
       (d.status.testBit 31 = true → d.ok (s.chanPeriph n) = true → exec (.movrDescFetch n) s = .next (finish (u.takeDesc n d)))) := by
  have he := s.descFetch_eq n
  rw [if_pos ⟨hr, hd, hp⟩] at he
  refine ⟨fun h hh => congrArg done (he.trans (by rw [hh]; rfl)), fun hh => ?_⟩
  rw [hh, Option.elim] at he
  refine ⟨fun ho => ?_, fun ho hk => congrArg done (he.trans ?_), fun ho hk => congrArg done (he.trans ?_)⟩
  · have he' := he.trans (if_pos ho)
    refine ⟨congrArg done he', fun hb => congrArg done (he'.trans (State.autoStart_eq_self ?_))⟩
    exact (s.bit_chanBytes n.isLt (s.chan n).cur 2).trans hb
  · exact (if_neg (by simp [ho])).trans (if_neg (by simp [hk]))
  · exact (if_neg (by simp [ho])).trans (if_pos hk)

/-- The four ends of a descriptor that is taken. -/
theorem State.takeDesc_clause (s : State) (n : Nat) (d : Desc) :
    (d.waitTrig = false → d.preq = false →
      ((s.takeDesc n d).chan n).state = .run ∧ ((s.takeDesc n d).chan n).desc = some d ∧ ((s.takeDesc n d).chan n).pos = 0 ∧
        ∀ m, m ≠ n → (s.takeDesc n d).chan m = s.chan m) ∧
    (d.waitTrig = true → (s.chan n).trigs = [] →
      ((s.takeDesc n d).chan n).state = .waitTrig ∧ ((s.takeDesc n d).chan n).desc = some d ∧ ((s.takeDesc n d).chan n).pos = 0 ∧
        ∀ m, m ≠ n → (s.takeDesc n d).chan m = s.chan m) ∧
    (∀ g ts, d.waitTrig = true → (s.chan n).trigs = g :: ts → d.preq = false →
      ((s.takeDesc n d).chan n).state = .run ∧ ((s.takeDesc n d).chan n).desc = some d ∧ ((s.takeDesc n d).chan n).pos = 0 ∧
        ((s.takeDesc n d).chan n).trigs = ts ∧ ((s.takeDesc n d).chan n).gen = g.1 ∧ ((s.takeDesc n d).chan n).trigTime = some g.2 ∧
        ∀ m, m ≠ n → (s.takeDesc n d).chan m = s.chan m) ∧
    (d.waitTrig = false ∨ (s.chan n).trigs ≠ [] →
      (((s.takeDesc n d).chan n).state = .run ∨ ((s.takeDesc n d).chan n).state = .waitPreq) ∧
        ((s.takeDesc n d).chan n).desc = some d ∧ ((s.takeDesc n d).chan n).pos = 0) := by
  have ht : ((s.updChan n (fun c => c.take d)).chan n).desc = some d := by rw [State.chan_updChan]; rfl
  have hg (g : Option Nat × Nat) (ts : List (Option Nat × Nat)) : (((s.updChan n (fun c => c.take d)).updChan n
      (fun c => { c with trigs := ts, gen := g.1, trigTime := some g.2 })).chan n).desc = some d := by
    rw [State.chan_updChan, State.chan_updChan]; rfl
  refine ⟨fun hw hp => ?_, fun hw h0 => ?_, fun g ts hw h0 hp => ?_, fun h => ?_⟩
  · rw [State.takeDesc_noTrig hw, State.goChan_noPreq ht hp]
    exact ⟨by simp, by simp [Chan.take], by simp [Chan.take], fun m hm => by
      rw [State.chan_updChan_ne _ hm, State.chan_updChan_ne _ hm]⟩
  · rw [State.takeDesc_waits hw h0]
    exact ⟨by simp, by simp [Chan.take], by simp [Chan.take], fun m hm => by
      rw [State.chan_updChan_ne _ hm, State.chan_updChan_ne _ hm]⟩
  · rw [State.takeDesc_trig hw h0, State.goChan_noPreq (hg g ts) hp]
    exact ⟨by simp, by simp [Chan.take], by simp [Chan.take], by simp, by simp, by simp, fun m hm => by
      rw [State.chan_updChan_ne _ hm, State.chan_updChan_ne _ hm, State.chan_updChan_ne _ hm]⟩
  · by_cases hw : d.waitTrig = true
    · obtain ⟨g, ts, h0⟩ := List.exists_cons_of_ne_nil (h.resolve_left (by simp [hw]))
      rw [State.takeDesc_trig hw h0]
      obtain ⟨h1, h2, h3⟩ := State.goChan_chan (hg g ts)
      exact ⟨h1, h2, h3.trans (by simp [Chan.take])⟩
    · rw [State.takeDesc_noTrig (by simpa using hw)]
      obtain ⟨h1, h2, h3⟩ := State.goChan_chan ht
      exact ⟨h1, h2, h3.trans (by simp [Chan.take])⟩

/-! ### The data of a linear move -/

theorem State.readData_of {s : State} {n : Nat} {d : Desc} (h : (s.chan n).desc = some d) : s.readData n =
    if (s.chan n).state = .waitPreq ∧ 17 ≤ s.chanPeriph n ∧ s.chanPause n = false then s.raiseFree n
    else if (s.chan n).state = .run ∧ (s.chan n).pos < d.len ∧ (s.chanPause n = false ∨ (s.chan n).burst = true ∨ (s.chan n).held ≠ []) ∧
        (d.preq = false ∨ (s.chan n).request = true ∨ (s.chan n).burst = true) then
      (s.cond (d.preq && !(s.chan n).burst)
        (fun s => s.updChan n (fun c => { c with request := false, burst := true, late := false }))).movePiece n d
    else s := by
  unfold State.readData
  simp only [h]
  simp [and_assoc, or_assoc]

theorem State.readData_none {s : State} {n : Nat} (h : (s.chan n).desc = none) : s.readData n = s := by
  unfold State.readData
  simp only [h]

/-- The source bytes of a linear move, in order. -/
def State.linBytes (s : State) (a k : Nat) : List Byte := (List.range k).map (fun j => s.byteOf (a + j))

theorem State.linBytes_succ (s : State) (a k : Nat) : s.linBytes a (k + 1) = s.byteOf a :: s.linBytes (a + 1) k := by
  simp [State.linBytes, List.range_succ_eq_map, Nat.add_assoc, Nat.add_comm 1]

theorem State.linBytes_getD (s : State) (a : Nat) {k j : Nat} (h : j < k) : (s.linBytes a k).getD j 0#8 = s.byteOf (a + j) := by
  simp [State.linBytes, List.getD_eq_getElem?_getD, h]

@[simp] theorem State.linBytes_length (s : State) (a k : Nat) : (s.linBytes a k).length = k := by simp [State.linBytes]

/-- A linear descriptor of memory, without swap. -/
def Desc.linear (d : Desc) : Prop := d.list = 0 ∧ d.swap = 0 ∧ d.preq = false

theorem State.srcByte_linear {d : Desc} (h : d.linear) {s : State} {n off : Nat}
    (hh : s.readHalt n ((d.src + off) / 64 * 64) 64 0 = none) (r : Nat) (f : Fetched) :
    s.srcByte n d r off f = .ok { f.touch (d.src + off) with bytes := f.bytes ++ [s.byteOf (d.src + off)] } := by
  obtain ⟨hl, -, hp⟩ := h
  simp [State.srcByte, hl, hp, State.readAt, hh]

theorem State.srcUnits_linear {d : Desc} (h : d.linear) {s : State} {n : Nat} (r k off : Nat) (f : Fetched)
    (hh : ∀ j, j < k → s.readHalt n ((d.src + off + j) / 64 * 64) 64 0 = none) :
    (s.srcUnits n d r k off f).2 = none ∧ (s.srcUnits n d r k off f).1.bytes = f.bytes ++ s.linBytes (d.src + off) k := by
  have hu : d.unit = 1 := by simp [Desc.unit, h.2.1]
  induction k generalizing off f with
  | zero => exact ⟨rfl, (List.append_nil _).symm⟩
  | succ k ih =>
    have h0 := State.srcByte_linear h (hh 0 (by omega)) r { f with bytes := [] }
    have hs : swapUnit d.swap [s.byteOf (d.src + off)] = [s.byteOf (d.src + off)] := by rw [h.2.1]; rfl
    simp only [State.srcUnits, hu, State.srcBytes, h0, List.nil_append, hs]
    have hj (j : Nat) (h : j < k) : s.readHalt n ((d.src + (off + 1) + j) / 64 * 64) 64 0 = none := by
      have e : d.src + (off + 1) + j = d.src + off + (j + 1) := by omega
      exact e ▸ hh (j + 1) (by omega)
    refine ⟨(ih (off + 1) _ hj).1, ((ih (off + 1) _ hj).2).trans ?_⟩
    rw [State.linBytes_succ, List.append_assoc, Nat.add_assoc]
    rfl

theorem State.rbLate_frame (s : State) (w : Nat) (d : Option Nat) : s.rbLate w d = { s with regs := (s.rbLate w d).regs } := by
  unfold State.rbLate
  split
  · split <;> rfl
  · rfl

/-- The reads of a linear move move the Roundabout's counters, and note their lateness. -/
theorem State.readsIssued_linear (s : State) {n : Nat} (hn : n < 256) {d : Desc} (h : d.linear) (bl : List Nat) :
    s.readsIssued n d bl = s ∨ ∃ R late, s.readsIssued n d bl = State.updChan { s with regs := R } n (fun c => { c with late := late }) ∧
      ∀ o, o < 0xA0040 ∨ 0xA0080 ≤ o → Tab.get? R o = Tab.get? s.regs o := by
  obtain ⟨-, -, hp⟩ := h
  unfold State.readsIssued
  split
  · exact .inl rfl
  · simp only [hp, Bool.false_and, Bool.false_eq_true, if_false]
    exact .inr ⟨_, _, congrArg (fun t => State.updChan t n _) (State.rbLate_frame _ _ _),
      fun o ho => (State.get_rbLate_ne _ (by omega) ho _).trans (s.get_rbBytes_ne (by omega) ho _)⟩

theorem State.readInto_eq (s : State) (n : Nat) {d : Desc} (h : d.linear) (f : Fetched) :
    s.readInto n d f = (s.readsIssued n d f.blocks).updChan n (fun c => { c with held := c.held ++ f.bytes }) := by
  obtain ⟨hl, -, hp⟩ := h
  simp [State.readInto, hl, hp]

theorem State.sameReach_readInto (s : State) {n : Nat} (hn : n < 256) {d : Desc} (h : d.linear) (f : Fetched) :
    s.SameReach n (s.readInto n d f) := by
  rw [s.readInto_eq n h f]
  rcases s.readsIssued_linear hn h f.blocks with e | ⟨R, late, e, hr⟩ <;> rw [e]
  · exact ⟨rfl, rfl, rfl, rfl, fun _ => rfl⟩
  · exact ⟨rfl, rfl, rfl, State.rg_of_get (hr _ (.inl (movrOwner_off_lt hn))),
      fun q => State.rg_of_get (hr _ (.inr (qtrRegion_off_ge q)))⟩

/-- The reads of a linear move are in the mover buffer, and change no memory. -/
theorem State.readInto_linear (s : State) {n : Nat} (hn : n < 256) {d : Desc} (h : d.linear) (f : Fetched) :
    ((s.readInto n d f).chan n).held = (s.chan n).held ++ f.bytes ∧ ((s.readInto n d f).chan n).pos = (s.chan n).pos ∧
      ((s.readInto n d f).chan n).state = (s.chan n).state ∧ (s.readInto n d f).mem = s.mem ∧
      (s.readInto n d f).streams = s.streams := by
  rw [s.readInto_eq n h f, State.chan_updChan]
  rcases s.readsIssued_linear hn h f.blocks with e | ⟨R, late, e, -⟩ <;> rw [e]
  · exact ⟨rfl, rfl, rfl, rfl, rfl⟩
  · rw [State.chan_updChan]
    exact ⟨rfl, rfl, rfl, rfl, rfl⟩

theorem State.writeHeld_linear {s : State} {n : Nat} {d : Desc} (h : d.linear) {dst k : Nat} {x : Nat × Bool × Nat} (hk : 0 < k)
    (hl : (((s.chan n).held.take k)).length = k)
    (hw : s.writeHalt n dst k 0 = none) (ha : s.moverAcc n dst true = .ok) :
    s.writeHeld n d (some dst, x) k = .ok (((s.poke dst ((s.chan n).held.take k)).chanBytes n dst).updChan n
      (fun c => { c with pos := (s.chan n).pos + k, held := (s.chan n).held.drop k })) := by
  obtain ⟨hl, -, -⟩ := h
  have h2 : d.list ≠ 2 := by omega
  unfold State.writeHeld State.dstPut
  simp [*, Nat.ne_of_gt hk, State.cond]

theorem State.burstEnd_linear {d : Desc} (h : d.linear) (s : State) (n : Nat) : s.burstEnd n d = s := by
  obtain ⟨-, -, hp⟩ := h
  simp [State.burstEnd, hp]

/-- One piece of a linear move of memory (13 R335). -/
theorem State.movePiece_linear {s : State} {n : Nat} (hn : n < 256) {d : Desc} (h : d.linear) (hpos : (s.chan n).pos < d.len)
    (hheld : (s.chan n).held = []) (hpause : s.chanPause n = false) {k : Nat}
    (hk : k = min (64 - (d.dst + (s.chan n).pos) % 64) (d.len - (s.chan n).pos))
    (hr : ∀ j, j < k → s.readHalt n ((d.src + (s.chan n).pos + j) / 64 * 64) 64 0 = none)
    (hw : s.writeHalt n (d.dst + (s.chan n).pos) k 0 = none) (ha : s.moverAcc n (d.dst + (s.chan n).pos) true = .ok) :
    ((s.movePiece n d).chan n).pos = (s.chan n).pos + k ∧ ((s.movePiece n d).chan n).state = (s.chan n).state ∧
      (s.movePiece n d).mem = s.mem.write (d.dst + (s.chan n).pos) (s.linBytes (d.src + (s.chan n).pos) k) ∧
      (s.movePiece n d).streams = s.streams := by
  have hd : s.dstSpan n d = .ok (some (d.dst + (s.chan n).pos), 0, false, 64 - (d.dst + (s.chan n).pos) % 64) := by
    simp [State.dstSpan, h.1, h.2.2]
  have hl : s.pieceLen n d (64 - (d.dst + (s.chan n).pos) % 64) = k := by simp [State.pieceLen, h.2.2, hk]
  have hu : d.unit = 1 := by simp [Desc.unit, h.2.1]
  obtain ⟨hf, hb⟩ := State.srcUnits_linear h (s := s) (n := n) (s.chan n).pos k (s.chan n).pos
    ⟨[], [], ((s.chan n).list, (s.chan n).lpos)⟩ hr
  unfold State.movePiece
  simp only [hd, hl, hu, hheld, hpause, h.2.2, List.length_nil, Nat.add_zero, Nat.sub_zero, Nat.add_sub_cancel, Nat.div_one,
    Bool.not_false, Bool.and_true, Bool.false_eq_true, if_false]
  generalize s.srcUnits n d (s.chan n).pos k (s.chan n).pos ⟨[], [], ((s.chan n).list, (s.chan n).lpos)⟩ = f at hf hb ⊢
  rw [List.nil_append] at hb
  obtain ⟨i1, i2, i3, i4, i5⟩ := s.readInto_linear hn h f.1
  have hreach := s.sameReach_readInto hn h f.1
  rw [hheld, List.nil_append, hb] at i1
  have hlen := s.linBytes_length (d.src + (s.chan n).pos) k
  have htake : (((s.readInto n d f.1).chan n).held.take k) = s.linBytes (d.src + (s.chan n).pos) k := by
    rw [i1, List.take_of_length_le (by omega)]
  have hwr := State.writeHeld_linear h (dst := d.dst + (s.chan n).pos) (x := (0, false, 64 - (d.dst + (s.chan n).pos) % 64))
    (by omega : 0 < k) (htake.symm ▸ hlen) ((hreach.writeHalt ..).trans hw) ((hreach.moverAcc ..).trans ha)
  rw [i1, hlen, Nat.min_self, hwr, hf]
  rw [i1] at htake
  simp only [State.burstEnd_linear h, State.chan_updChan, State.chan_chanBytes, i2, i1, htake]
  refine ⟨trivial, i3, (State.chanBytes_mem ..).trans ((State.poke_mem ..).trans (by rw [i4])), ?_⟩
  exact (State.chanBytes_streams _ _ _).trans i5

/-! ### The completion of a descriptor -/

/-- The STATUS write of a completion, with the PASS after it. -/
def State.donePass (s : State) (n : Nat) (d : Desc) : State × Bool :=
  if d.pass then (s.statusWrite n d 0 d.len).chanPass n else (s.statusWrite n d 0 d.len, false)

/-- The rest of a completion: the channels it triggers, its event and count, and the next descriptor. -/
def State.doneOn (s : State) (n : Nat) (d : Desc) : State :=
  let s2 := (s.donePass n d).1.chainTriggers n (s.chan n).gen
  let s3 := if d.evt then s2.event 0x0701 n (s.chanDom n) else s2
  let s4 := s3.inc .movrChDoneCnt n
  if d.next.testBit 0 then
    (s4.updChan n (fun x => { x with state := .idle, cur := s.chanHead n, desc := none, pos := 0, gen := none,
                                      trigTime := none })).autoStart n
  else s4.updChan n (fun x => { x with cur := d.next, desc := none, pos := 0, trigTime := none })

theorem State.descDone_of {s : State} {n : Nat} {d : Desc} (hr : (s.chan n).state = .run) (hd : (s.chan n).desc = some d)
    (hp : (s.chan n).pos = d.len) : s.descDone n =
      (s.statusHalt n ((s.chan n).cur + 0x1C)).elim
        ((if (s.donePass n d).2 then (s.chan n).gen else none).elim (s.doneOn n d) (fun e => (s.doneOn n d).execFault e 0x11))
        (fun h => s.badAccess n h) := by
  unfold State.descDone
  simp only [hd, hr, hp, State.statusFails, beq_self_eq_true, Bool.and_self, if_true]
  rcases Option.eq_none_or_eq_some (s.statusHalt n ((s.chan n).cur + 0x1C)) with e | ⟨h, e⟩
  · refine (if_neg (by simp [e])).trans (Eq.trans ?_ (congrArg (Option.elim · _ _) e).symm)
    rcases Bool.eq_false_or_eq_true (s.donePass n d).2 with hp | hp <;>
      rcases Option.eq_none_or_eq_some (s.chan n).gen with hg | ⟨g, hg⟩ <;>
      · rw [hp]
        unfold State.donePass at hp
        unfold State.doneOn State.donePass
        simp only [hp, hg, Option.elim, if_true, Bool.false_eq_true, if_false]
  · refine (if_pos (by simp [e])).trans (Eq.trans ?_ (congrArg (Option.elim · _ _) e).symm)
    simp only [e, Option.toList, Option.elim]
    rfl

theorem State.descDone_else {s : State} {n : Nat}
    (h : (s.chan n).state ≠ .run ∨ ∀ d, (s.chan n).desc = some d → (s.chan n).pos ≠ d.len) : s.descDone n = s := by
  unfold State.descDone
  dsimp only
  split
  · rfl
  · next d hd =>
    refine if_neg ?_
    simpa [imp_iff_not_or] using h.imp_right (fun k => k d hd)

theorem State.autoStart_chan (s : State) (n : Nat) (hd : (s.chan n).desc = none) (hp : (s.chan n).pos = 0) :
    ((s.autoStart n).chan n).cur = (s.chan n).cur ∧ ((s.autoStart n).chan n).desc = none ∧ ((s.autoStart n).chan n).pos = 0 := by
  unfold State.autoStart
  dsimp only
  split
  · exact ⟨rfl, hd, hp⟩
  · split
    · rw [State.chan_updChan]
      exact ⟨rfl, rfl, rfl⟩
    · exact ⟨rfl, hd, hp⟩

theorem State.doneOn_chan (s : State) (n : Nat) (d : Desc) :
    ((s.doneOn n d).chan n).cur = (if d.next.testBit 0 then s.chanHead n else d.next) ∧ ((s.doneOn n d).chan n).desc = none ∧
      ((s.doneOn n d).chan n).pos = 0 := by
  unfold State.doneOn
  extract_lets s2 s3 s4
  split
  · obtain ⟨h1, h2, h3⟩ := State.autoStart_chan (s4.updChan n (fun x => { x with
        state := .idle, cur := s.chanHead n, desc := none, pos := 0, gen := none, trigTime := none })) n
      (by rw [State.chan_updChan]) (by rw [State.chan_updChan])
    exact ⟨h1.trans (by rw [State.chan_updChan]), h2, h3⟩
  · rw [State.chan_updChan]
    exact ⟨rfl, rfl, rfl⟩

theorem State.doneOn_mem (s : State) (n : Nat) (d : Desc) : (s.doneOn n d).mem = (s.statusWrite n d 0 d.len).mem := by
  have h : (s.donePass n d).1.mem = (s.statusWrite n d 0 d.len).mem := by
    unfold State.donePass
    split
    · exact State.chanPass_mem ..
    · rfl
  unfold State.doneOn
  extract_lets s2 s3 s4
  have h2 : s2.mem = (s.statusWrite n d 0 d.len).mem := (State.chainTriggers_mem ..).trans h
  have h3 : s3.mem = (s.statusWrite n d 0 d.len).mem := by
    unfold s3
    split
    · exact (State.event_mem ..).trans h2
    · exact h2
  split
  · exact (State.autoStart_mem ..).trans h3
  · exact h3

theorem State.sameReach_chanBytes (s : State) {n : Nat} (hn : n < 256) (a : Nat) : s.SameReach n (s.chanBytes n a) := by
  unfold State.chanBytes
  split
  · exact ⟨rfl, rfl, rfl, State.rg_of_get (s.get_rbBytes_ne (by omega) (.inl (movrOwner_off_lt hn)) 64),
      fun q => State.rg_of_get (s.get_rbBytes_ne (by omega) (.inr (qtrRegion_off_ge q)) 64)⟩
  · exact ⟨rfl, rfl, rfl, rfl, fun _ => rfl⟩

/-- A STATUS write that does not fail replaces the word if it is as it was fetched, where the channel may write it (13 R343). -/
theorem State.statusWrite_mem {s : State} {n : Nat} (hn : n < 256) (hh : s.statusHalt n ((s.chan n).cur + 0x1C) = none)
    (d : Desc) (cause len : Nat) : (s.statusWrite n d cause len).mem =
      if s.mem.leN ((s.chan n).cur + 0x1C) 4 = d.status ∧ s.moverAcc n ((s.chan n).cur + 0x1C) true = .ok then
        s.mem.write ((s.chan n).cur + 0x1C) (leBytes 4 (statusWord d cause len (s.chan n).wprot)) else s.mem := by
  have hacc : s.moverAcc n ((s.chan n).cur + 0x1C) true = .drop ∨ s.moverAcc n ((s.chan n).cur + 0x1C) true = .ok := by
    unfold State.statusHalt State.writeHalt at hh
    cases e : s.moverAcc n ((s.chan n).cur + 0x1C) true <;> simp_all
  unfold State.statusWrite
  simp only [State.chanBytes_mem, (s.sameReach_chanBytes hn _).moverAcc]
  by_cases hs : s.mem.leN ((s.chan n).cur + 0x1C) 4 = d.status
  · rcases hacc with e | e
    · simp [hs, e, State.chanDrop_mem]
    · simp [hs, e, State.poke_mem]
  · simp only [hs, if_false, false_and]
    split
    · exact State.chanBytes_mem ..
    · exact (State.event_mem ..).trans (State.chanBytes_mem ..)

/-- Registers that a STATUS write leaves alone. -/
def besideStatus (n o : Nat) : Prop :=
  o < 0xA0040 ∧ o ≠ 0x60008 ∧ o ≠ RegName.movrChEvt.off n ∧ o ∉ reportOffs

theorem State.get_chanBytes (s : State) {n o : Nat} (hn : n < 256) (ho : o < 0xA0040) (a : Nat) :
    Tab.get? (s.chanBytes n a).regs o = Tab.get? s.regs o := by
  unfold State.chanBytes
  split
  · exact s.get_rbBytes_ne (by omega) (.inl ho) 64
  · rfl

theorem State.get_chanDrop (s : State) {n o : Nat} (ho : besideStatus n o) (a : Nat) :
    Tab.get? (s.chanDrop n a).regs o = Tab.get? s.regs o := by
  obtain ⟨h1, -, h3, -⟩ := ho
  have hf : Tab.get? ((s.updChan n (fun c => { c with wprot := true })).flag .movrChEvt n 2).regs o = Tab.get? s.regs o :=
    State.get_flag_ne _ _ _ _ _ (Ne.symm h3)
  unfold State.chanDrop
  dsimp only
  split
  · next q _ _ =>
    have e1 : RegName.qtrWprotCnt.off q = 0x100040 + q * 0x10000 + 0 * 0 := rfl
    have e2 : RegName.qtrEvt.off q = 0x100044 + q * 0x10000 + 0 * 0 := rfl
    exact (State.get_flag_ne _ _ _ _ _ (by omega)).trans ((State.get_inc_ne _ _ _ _ (by omega)).trans hf)
  · exact hf

theorem State.get_statusWrite (s : State) {n o : Nat} (hn : n < 256) (ho : besideStatus n o) (d : Desc) (cause len : Nat) :
    Tab.get? (s.statusWrite n d cause len).regs o = Tab.get? s.regs o := by
  obtain ⟨h1, h2, h3, h4⟩ := ho
  unfold State.statusWrite
  extract_lets c a s0 s1
  refine Eq.trans ?_ (s.get_chanBytes hn h1 a)
  split
  · split
    · exact s0.get_chanDrop ⟨h1, h2, h3, h4⟩ a
    · rfl
  · have hs1 : Tab.get? s1.regs o = Tab.get? s0.regs o :=
      (State.get_flag_ne _ _ _ _ _ (Ne.symm h3)).trans (State.get_inc_ne _ _ _ _ (by
        have e : RegName.movrRaceCnt.off 0 = 0x60008 := rfl
        omega))
    split
    · exact hs1
    · exact (State.sameRegs_event _ _ _ _ _ _ o h4).trans hs1

theorem reportOffs_ge {o : Nat} (h : o ∈ reportOffs) : 0x80000 ≤ o := by
  have hall : ∀ x ∈ reportOffs, 0x80000 ≤ x := by decide
  exact hall o h

theorem besideStatus_movrOwner {n : Nat} (hn : n < 256) : besideStatus n (RegName.movrOwner.off n) := by
  have h : RegName.movrOwner.off n = 0x60400 + n * 4 + 0 * 0 := rfl
  have k : RegName.movrChEvt.off n = 0x6101C + n * 0x80 + 0 * 0 := rfl
  exact ⟨by omega, by omega, by omega, fun c => by have := reportOffs_ge c; omega⟩

theorem besideStatus_movrChTstl {n : Nat} (hn : n < 256) : besideStatus n (RegName.movrChTstl.off n) := by
  have h : RegName.movrChTstl.off n = 0x61014 + n * 0x80 + 0 * 0 := rfl
  have k : RegName.movrChEvt.off n = 0x6101C + n * 0x80 + 0 * 0 := rfl
  exact ⟨by omega, by omega, by omega, fun c => by have := reportOffs_ge c; omega⟩

theorem besideStatus_schedTstlPool {n p : Nat} (hn : n < 256) (hp : p < 16) : besideStatus n (RegName.schedTstlPool.off p) := by
  have h : RegName.schedTstlPool.off p = 0x30600 + p * 4 + 0 * 0 := rfl
  have k : RegName.movrChEvt.off n = 0x6101C + n * 0x80 + 0 * 0 := rfl
  exact ⟨by omega, by omega, by omega, fun c => by have := reportOffs_ge c; omega⟩

theorem State.chanOwner_lt {s : State} {n p : Nat} (h : s.chanOwner n = some p) : p < 16 := by
  unfold State.chanOwner at h
  split at h
  · cases h
  · cases h
    exact Nat.mod_lt _ (by decide)

/-- A PASS at the end of a descriptor is out of the pool when its Turnstile is (09 R235). -/
theorem State.donePass_out (s : State) {n : Nat} (hn : n < 256) (d : Desc) : (s.donePass n d).2 = true ↔
    d.pass = true ∧ ∃ p, s.chanOwner n = some p ∧ s.inPool p (s.fld .movrChTstl n 13 0) = false := by
  have howner : (s.statusWrite n d 0 d.len).rg .movrOwner n = s.rg .movrOwner n :=
    State.rg_of_get (s.get_statusWrite hn (besideStatus_movrOwner hn) d 0 d.len)
  have htst : (s.statusWrite n d 0 d.len).rg .movrChTstl n = s.rg .movrChTstl n :=
    State.rg_of_get (s.get_statusWrite hn (besideStatus_movrChTstl hn) d 0 d.len)
  have ho : (s.statusWrite n d 0 d.len).chanOwner n = s.chanOwner n := by
    rw [State.chanOwner, State.chanOwner, State.bit, State.bit, State.fld, State.fld, howner]
  have ht : (s.statusWrite n d 0 d.len).fld .movrChTstl n 13 0 = s.fld .movrChTstl n 13 0 := by rw [State.fld, State.fld, htst]
  unfold State.donePass State.chanPass
  simp only [ho, ht]
  cases e : s.chanOwner n with
  | none =>
    by_cases hp : d.pass = true <;> simp [hp]
  | some p =>
    have hpool : (s.statusWrite n d 0 d.len).rg .schedTstlPool p = s.rg .schedTstlPool p :=
      State.rg_of_get (s.get_statusWrite hn (besideStatus_schedTstlPool hn (State.chanOwner_lt e)) d 0 d.len)
    have hin (t : Nat) : (s.statusWrite n d 0 d.len).inPool p t = s.inPool p t := by
      rw [State.inPool, State.inPool, State.poolBase, State.poolBase, State.poolSize, State.poolSize, State.fld, State.fld, State.fld,
        State.fld, hpool]
    simp only [hin]
    by_cases hp : d.pass = true <;> by_cases hi : s.inPool p (s.fld .movrChTstl n 13 0) = true <;> simp [hp, hi]

/-! ### The timer of a channel -/

theorem State.updChan_updChan (s : State) (n : Nat) (f g : Chan → Chan) :
    (s.updChan n f).updChan n g = s.updChan n (fun x => g (f x)) := by
  simp [State.updChan, Tab.modify, Tab.set_set]

/-- A due timer of an IDLE channel without AUTO leaves its trigger pending. -/
theorem State.trigger_idle {s : State} {n : Nat} (hi : (s.chan n).state = .idle) (hl : (s.chan n).trigs.length < 15)
    (hb : s.bit .movrChCtl n 2 = false) : (s.updChan n (fun c => { c with timerK := c.timerK + 1 })).trigger n none =
      s.updChan n (fun c => { c with timerK := c.timerK + 1, trigs := c.trigs ++ [(none, s.uptime)] }) := by
  unfold State.trigger
  simp only [State.chan_updChan, hi, Nat.ne_of_lt hl, reduceCtorEq, if_false, false_and]
  refine (State.autoStart_eq_self ?_).trans ?_
  · exact hb
  · exact State.updChan_updChan ..

/-- Settles O33: the fetch, the data, the completion and the timer of a channel, each by the lemma that says what it does. -/
theorem moverDescriptors : Obligations.MoverDescriptors := by
  unfold Obligations.MoverDescriptors
  refine ⟨⟨fun n s hr hd hp => ?_, fun n s h => ?_⟩, ⟨fun n s d => ?_, fun n s h => ?_, fun n s d hr hd hpos hheld hl hsw hpq hpause => ?_⟩,
    ⟨fun n s d hr hd hpos => ?_, fun n s h => ?_⟩, fun n s => ?_⟩
  · obtain ⟨h1, h2⟩ := State.descFetch_clause n s hr hd hp
    refine ⟨h1, fun hh => ?_⟩
    obtain ⟨h3, h4, h5⟩ := h2 hh
    refine ⟨h3, h4, fun ho hk => ?_⟩
    have he := h5 ho hk
    have hc (m : Nat) : (if (s.chan n).cur < lpddrTop then s.rbBytes (n / 64) 64 else s).chan m = s.chan m :=
      s.chan_chanBytes n (s.chan n).cur m
    have hm : ((if (s.chan n).cur < lpddrTop then s.rbBytes (n / 64) 64 else s).takeDesc n (s.readDesc (s.chan n).cur)).mem = s.mem :=
      (State.takeDesc_mem ..).trans (s.chanBytes_mem n (s.chan n).cur)
    generalize (if (s.chan n).cur < lpddrTop then s.rbBytes (n / 64) 64 else s) = u at he hc hm
    obtain ⟨k1, k2, k3, k4⟩ := u.takeDesc_clause n (s.readDesc (s.chan n).cur)
    rw [hc] at k2 k3 k4
    refine ⟨fun a b => ?_, fun a b => ?_, fun g ts a b c => ?_, fun a b => ?_⟩
    · obtain ⟨a1, a2, a3, a4⟩ := k1 a b
      exact ⟨_, he, a1, a2, a3, fun m hm => (a4 m hm).trans (hc m), hm⟩
    · obtain ⟨a1, a2, a3, a4⟩ := k2 a b
      exact ⟨_, he, a1, a2, a3, fun m hm => (a4 m hm).trans (hc m), hm⟩
    · obtain ⟨a1, a2, a3, a4, a5, a6, a7⟩ := k3 g ts a b c
      exact ⟨_, he, a1, a2, a3, a4, a5, a6, fun m hm => (a7 m hm).trans (hc m), hm⟩
    · obtain ⟨a1, a2, a3⟩ := k4 b
      exact ⟨_, he, a1, a2, a3, hm⟩
  · exact congrArg done ((s.descFetch_eq n).trans (if_neg (by simpa [imp_iff_not_or] using h)))
  · intro c goes asks hd
    have he := State.readData_of hd
    have hask (hg : goes) : ¬ asks := fun ha => ChState.noConfusion (hg.1.symm.trans ha.1)
    refine ⟨fun hg hb => ?_, fun hg hb hc => ?_, fun ha => ?_, fun hg ha => ?_⟩
    · refine congrArg done (he.trans ((if_neg (hask hg)).trans ((if_pos hg).trans (congrArg (fun u => State.movePiece u n d) (if_neg ?_)))))
      simpa [imp_iff_not_or] using hb
    · refine congrArg done (he.trans ((if_neg (hask hg)).trans ((if_pos hg).trans (congrArg (fun u => State.movePiece u n d) (if_pos ?_)))))
      simpa [hb] using hc
    · exact congrArg done (he.trans (if_pos ha))
    · exact congrArg done (he.trans ((if_neg ha).trans (if_neg hg)))
  · exact congrArg done (State.readData_none h)
  · intro src dst k hrd hw ha
    have hlin : d.linear := ⟨hl, hsw, hpq⟩
    have he := (State.readData_of hd).trans ((if_neg (by simp [hr])).trans ((if_pos ⟨hr, hpos, .inl hpause, .inl hpq⟩).trans
      (congrArg (fun u => State.movePiece u n d) (if_neg (by simp [hpq])))))
    obtain ⟨h1, h2, h3, h4⟩ := State.movePiece_linear n.isLt hlin hpos hheld hpause rfl hrd hw ha
    have hlen := s.linBytes_length src k
    refine ⟨_, congrArg done he, h1, h2.trans hr, fun j hj => ?_, fun a hout => ?_, h4⟩
    · exact (congrArg (fun m => Memory.read m (dst + j)) h3).trans
        ((Memory.read_write_in (hlen.symm ▸ hj)).trans (s.linBytes_getD src hj))
    · exact (congrArg (fun m => Memory.read m a) h3).trans (Memory.read_write_out (hlen.symm ▸ hout))
  · intro at_ t0
    have he := State.descDone_of hr hd hpos
    refine ⟨fun h hh => congrArg done (he.trans (by rw [hh]; rfl)), fun hh hnot => ?_, fun e p hh hp hg ho hi => ?_⟩
    · rw [hh, Option.elim] at he
      obtain ⟨h1, h2, h3⟩ := s.doneOn_chan n d
      have hne : (if (s.donePass n d).2 then (s.chan n).gen else none) = none := by
        split
        · next hps =>
          obtain ⟨hp, ho⟩ := (s.donePass_out n.isLt d).1 hps
          exact Option.not_isSome_iff_eq_none.1 fun hg => hnot ⟨hp, hg, ho⟩
        · rfl
      rw [hne] at he
      exact ⟨_, congrArg done he, h1, h2, h3, (State.doneOn_mem ..).trans (State.statusWrite_mem n.isLt hh d 0 d.len)⟩
    · rw [hh, Option.elim, if_pos ((s.donePass_out n.isLt d).2 ⟨hp, p, ho, hi⟩), hg] at he
      obtain ⟨h1, h2, -⟩ := s.doneOn_chan n d
      exact ⟨_, congrArg done he, h1, h2⟩
  · exact congrArg done (State.descDone_else h)
  · intro due
    have hdue (h : due) : s.movrTimer n = (s.updChan n (fun c => { c with timerK := c.timerK + 1 })).trigger n none := by
      obtain ⟨h1, h2, h3⟩ := h
      exact if_pos (by simp [h1, h2, h3])
    refine ⟨fun h => congrArg done (hdue h), fun h hi hlen hb => congrArg done ((hdue h).trans ?_), fun h => congrArg done (if_neg ?_)⟩
    · exact State.trigger_idle hi hlen hb
    · simpa [due, and_assoc] using h

end Sys2Proof.Machine
end

section
/-!
SUPPORT and proof of O34 and O35: control, errors and frames of an audio port (14 R351 to R368, 17 R427, 19 R503).
-/

namespace Sys2Proof.Machine

theorem Fin.ofNat_val_port (p : PortNo) : Fin.ofNat 8 p.val = p := Fin.ext (Nat.mod_eq_of_lt p.isLt)

theorem State.portEn_off {s : State} {p : Nat} (h : s.bit .portCfg p 0 = false) : s.portEn p =
    if s.portEnOk p then
      ((s.setFld .portCfg p 0 0 1).updPort p (fun x => { x with fifo := [], primed := false, repeated := false, good := 0 })).raiseTx p
    else s.flag .portEvt p 5 := if_neg (by simp [h])

theorem State.portDis_on {s : State} {p : PortNo} (h : s.bit .portCfg p 0 = true) : s.portDis p =
    ((s.withdrawPort p).setFld .portCfg p 0 0 0).emit (.port p ⟨if s.portClk p = 2 then [] else s.pinsOn p, [], []⟩) := by
  have hf : (s.pinsOn p).filter (fun _ => s.portClk p != 2) = if s.portClk p = 2 then [] else s.pinsOn p := by
    split <;> simp [*]
  refine (if_pos h).trans ?_
  rw [Fin.ofNat_val_port, hf]

theorem State.portRate_on {s : State} {p : Nat} (h : s.bit .portCfg p 0 = true) (hd : s.portPdiv p ≠ 0) (rate : Nat) : s.portRate p rate =
    if 100 * rate < 98 * (16 * s.baseRate (s.portDom p) / s.portPdiv p) ∨ 102 * (16 * s.baseRate (s.portDom p) / s.portPdiv p) < 100 * rate
    then (s.updPort p (fun x => { x with rateErr := true })).event 0x0803 p (s.portDom p) 2 rate
    else s.updPort p (fun x => { x with rateErr := false }) := by
  refine (if_pos (by simp [h, hd])).trans ?_
  dsimp only
  generalize 16 * s.baseRate (s.portDom p) / s.portPdiv p = nom
  by_cases hout : 100 * rate < 98 * nom ∨ 102 * nom < 100 * rate
  · have hn : (decide (100 * rate < 98 * nom) || decide (102 * nom < 100 * rate)) = true := by simpa using hout
    rw [if_pos hout]
    simp only [hn, if_true]
  · have hn : (decide (100 * rate < 98 * nom) || decide (102 * nom < 100 * rate)) = false := by simpa using hout
    rw [if_neg hout]
    simp only [hn, Bool.false_eq_true, if_false]

/-- Settles O34. -/
theorem portControl : Obligations.PortControl := by
  unfold Obligations.PortControl
  refine ⟨fun p s h => ⟨fun k => ?_, fun k => ?_, ?_, ?_⟩, fun p s h => ⟨?_, ?_, ?_⟩, fun p s => ?_, fun p s => ⟨fun h k => ?_, fun h => ?_⟩,
    fun p rate s => ?_, fun p pin s => ⟨fun h => ?_, fun h => ?_⟩, fun p s => rfl, fun s => rfl⟩
  · exact congrArg done ((State.portEn_off h).trans (if_pos k))
  · exact congrArg done ((State.portEn_off h).trans (if_neg (by simp [k])))
  · exact congrArg done (if_neg (by simp [h]))
  · exact congrArg done (if_neg (by simp [h]))
  · exact congrArg done (if_pos h)
  · exact congrArg done (State.portDis_on h)
  · exact congrArg done (if_pos h)
  · intro had
    refine ⟨fun h => congrArg done (if_pos ?_), fun h => congrArg done (if_neg ?_)⟩
    · obtain ⟨h1, h2, h3⟩ := h
      simp [h1, h2, h3]
    · simpa [had, and_assoc] using h
  · exact congrArg done (if_pos (by simp [h, k]))
  · refine congrArg done (if_neg ?_)
    rcases h with h | h <;> simp [h]
  · intro nom
    refine ⟨fun h hd => ⟨fun hin => ?_, fun hout => ?_⟩, fun h => congrArg done (if_neg ?_)⟩
    · exact congrArg done ((State.portRate_on h hd rate).trans (if_neg (by omega)))
    · exact congrArg done ((State.portRate_on h hd rate).trans (if_pos hout))
    · rcases h with h | h <;> simp [h]
  · exact congrArg done (if_pos h)
  · exact congrArg done (if_neg (by simp [h]))

/-! ### Frames (14 R358 to R367) -/

@[simp] theorem State.port_updPort (s : State) (p : Nat) (f : Port → Port) : (s.updPort p f).port p = f (s.port p) :=
  Tab.getD_modify_same ..

theorem State.updPort_updPort (s : State) (p : Nat) (f g : Port → Port) :
    (s.updPort p f).updPort p g = s.updPort p (fun x => g (f x)) := by
  simp [State.updPort, Tab.modify, Tab.set_set]

theorem State.portFrame_on {s : State} {p : PortNo} (h : s.bit .portCfg p 0 = true) (lead : Bool) : s.portFrame p lead =
    let s0 := if (s.port p).restart then s.restartNow p else s
    if (s0.port p).noclk = true ∧ s.portClk p ≠ 0 then s0
    else
      let r := s0.frameEntry p lead
      let m := r.1.moverWords p
      let dead := s.portClk p == 0 && !s.hbOk (s.portDom p) (s.tick (s.portDom p))
      let ws := s.frameWords p (if dead then [] else r.2) m.2
      (if s.portSilent p then m.1 else m.1.emit (.port p (m.1.portOut p ws))).raiseTx p := by
  refine (if_neg (by simp [h])).trans ?_
  rw [Fin.ofNat_val_port]
  simp only [Bool.and_eq_true, bne_iff_ne]

theorem State.portFrame_off {s : State} {p : PortNo} (h : s.bit .portCfg p 0 = false) (lead : Bool) :
    s.portFrame p lead = (Tab.get? s.dev.bootPorts p).elim s (fun f => s.emit (.port p f)) := by
  refine (if_pos (by simp [h])).trans ?_
  rw [Fin.ofNat_val_port]
  cases Tab.get? s.dev.bootPorts p <;> rfl

theorem State.port_of_ports {s t : State} (h : t.ports = s.ports) (p : Nat) : t.port p = s.port p := by
  rw [State.port, State.port, h]

theorem State.each_updChan_ports (s : State) (l : List Nat) (f : Chan → Chan) : (s.each l (fun s n => s.updChan n f)).ports = s.ports :=
  State.each_keeps (·.ports) (fun s n => s.updChan n f) (by intros; rfl) l s

theorem State.port_withdrawPort_noclk (s : State) (p : Nat) : ((s.withdrawPort p).port p).noclk = (s.port p).noclk := by
  unfold State.withdrawPort
  extract_lets hit on
  refine (congrArg Port.noclk (State.port_updPort ..)).trans ?_
  change (State.port (s.each hit _) p).noclk = _
  rw [State.port_of_ports (s.each_updChan_ports hit _) p]

/-- A restart leaves the clock of a port as it is. -/
theorem State.port_restartNow_noclk (s : State) (p : Nat) : ((s.restartNow p).port p).noclk = (s.port p).noclk := by
  unfold State.restartNow
  rw [State.port_updPort]
  exact s.port_withdrawPort_noclk p

/-- What sending the oldest entry leaves of a primed port (14 R359). -/
def Port.sent (x : Port) : Port :=
  { x with primed := true, repeated := false, fifo := x.fifo.drop 1, lastEntry := x.fifo.headD [] }

theorem State.frameEntry_primed {s : State} {p : Nat} (hl : s.portLive p = true) (hc : s.portClk p ≠ 0) (hf : s.portFollow p = false)
    (hp : (s.port p).primed = true) (hn : 8 ≤ (s.port p).fifo.length) (lead : Bool) :
    s.frameEntry p lead = (s.updPort p Port.sent, (s.port p).fifo.headD []) := by
  obtain ⟨a, l, hh⟩ := List.exists_cons_of_length_pos (by omega : 0 < (s.port p).fifo.length)
  have h8 : ¬ (s.port p).fifo.length < 8 := Nat.not_lt.2 hn
  unfold State.frameEntry
  simp only [hl, hc, hf, hp, h8, Bool.not_true, Bool.false_eq_true, if_false, Bool.false_and, decide_false, Bool.or_false,
    State.updPort_updPort]
  rw [hh]
  rfl

theorem State.rxFrame_on {s : State} {p n : Nat} {l : List Nat} (h : s.bit .portCfg p 0 = true) : s.rxFrame p n l =
    let ws := (s.rxSlots p).map (fun k => (l.getD k 0 % 2 ^ s.slotBits p) * 2 ^ (32 - s.slotBits p))
    let room := 1024 - (s.port p).rx.length
    let u := s.updPort p (fun x => { x with good := x.good + 1 })
    if s.portClk p = 2 ∧ n ≠ s.portSlots p * s.slotBits p then
      ((s.inc .portFrameErrCnt p).flag .portEvt p 3).updPort p (fun x => { x with good := 0 })
    else if (s.port p).noclk then u
    else if ws.length ≤ room then (u.updPort p (fun x => { x with rx := x.rx ++ ws })).raiseRx p
    else if s.portHold p then u.xrun p false
    else (((u.updPort p (fun x => { x with rx := x.rx ++ ws.take room,
                                           rxSlotLost := true,
                                           rxRot := (x.rxRot + (ws.length - room)) % max 1 ws.length })).slotLostEvt p (s.port p).rxSlotLost).xrun p false).raiseRx p := by
  refine (if_neg (by simp [h])).trans ?_
  simp only [Bool.and_eq_true, bne_iff_ne, beq_iff_eq]

theorem State.port_raiseTx (s : State) (p : Nat) : ∃ k, (s.raiseTx p).port p = { s.port p with txReq := k } := by
  unfold State.raiseTx
  split
  · exact ⟨_, rfl⟩
  · next n _ =>
    dsimp only
    split
    · exact ⟨s.chanBurst n, State.port_updPort s p fun x => { x with txReq := s.chanBurst n }⟩
    · exact ⟨_, rfl⟩

theorem State.raiseTx_out (s : State) (p : Nat) : (s.raiseTx p).out = s.out := by
  unfold State.raiseTx
  split
  · rfl
  · dsimp only
    split <;> rfl

theorem State.raiseTx_streams (s : State) (p : Nat) : (s.raiseTx p).streams = s.streams := by
  unfold State.raiseTx
  split
  · rfl
  · dsimp only
    split <;> rfl

theorem mem_out_finish {s : State} {o : Out} (h : o ∈ s.out) : o ∈ (finish s).out := List.mem_append_right _ h

theorem State.moverWords_none {s : State} {p : Nat} (h : s.slotsWith p 2 = []) : s.moverWords p = (s, []) :=
  if_pos (by rw [h]; rfl)

/-- Settles O35. -/
theorem portFrames : Obligations.PortFrames := by
  unfold Obligations.PortFrames
  refine ⟨⟨fun p s h hc => ?_, fun p s h hn hc => ?_, fun p s h => ⟨fun hb => ?_, fun f hb => ?_⟩,
    fun p s h hr hn hc hf hl hp h8 hm hq => ?_⟩, fun p n ws s => ?_⟩
  · intro s0 r m dead ws
    have hno : ¬ ((s0.port p).noclk = true ∧ s.portClk p ≠ 0) := by
      rintro ⟨h1, h2⟩
      have hk : (s0.port p).noclk = (s.port p).noclk := by
        unfold s0
        split
        · exact s.port_restartNow_noclk p
        · rfl
      rcases hc with hc | hc
      · exact Bool.false_ne_true (hc.symm.trans (hk.symm.trans h1))
      · exact h2 hc
    have he := (State.portFrame_on h (s.leaderRepeats p)).trans (if_neg hno)
    exact ⟨fun hq => congrArg done (he.trans (congrArg (fun t => State.raiseTx t p) (if_neg (by simp [hq])))),
      fun hq => congrArg done (he.trans (congrArg (fun t => State.raiseTx t p) (if_pos hq)))⟩
  · refine congrArg done ((State.portFrame_on h (s.leaderRepeats p)).trans (if_pos ⟨?_, hc⟩))
    split
    · exact (s.port_restartNow_noclk p).trans hn
    · exact hn
  · exact congrArg done ((State.portFrame_off h _).trans (by rw [hb]; rfl))
  · exact congrArg done ((State.portFrame_off h _).trans (by rw [hb]; rfl))
  · have he := State.portFrame_on h (s.leaderRepeats p)
    have hs0 : (if (s.port p).restart = true then s.restartNow p else s) = s := if_neg (by simp [hr])
    rw [hs0] at he
    replace he := he.trans (if_neg (fun c => Bool.false_ne_true (hn.symm.trans c.1)))
    rw [State.frameEntry_primed hl hc hf hp h8] at he
    have hw : (s.updPort p Port.sent).slotsWith p 2 = [] := hm
    have hdead : (s.portClk p == 0 && !s.hbOk (s.portDom p) (s.tick (s.portDom p))) = false := by simp [hc]
    have hport : (s.updPort p Port.sent).port p = (s.port p).sent := State.port_updPort ..
    have hpins : (s.updPort p Port.sent).pinsOn p = s.pinsOn p := by
      unfold State.pinsOn
      rw [hport]
      rfl
    have hout (ws : List Nat) : (s.updPort p Port.sent).portOut p ws = s.portOut p ws :=
      (congrArg (fun l => PortFrame.mk l _ _) hpins).trans rfl
    simp only [State.moverWords_none hw, hq, hdead, hout, Bool.false_eq_true, if_false] at he
    obtain ⟨k, hk⟩ := ((s.updPort p Port.sent).emit (.port p (s.portOut p (s.frameWords p ((s.port p).fifo.headD []) [])))).port_raiseTx p
    refine ⟨_, congrArg done he, ?_, ?_, mem_out_finish ?_, (State.raiseTx_mem ..).trans rfl, State.raiseTx_streams ..⟩
    · exact (congrArg Port.fifo hk).trans (congrArg Port.fifo hport)
    · exact (congrArg Port.lastEntry hk).trans (congrArg Port.lastEntry hport)
    · rw [State.raiseTx_out]
      exact List.mem_cons_self
  · intro bad got room u
    have hlen : got.length = (s.rxSlots p).length := List.length_map ..
    refine ⟨fun h => ?_, fun h hb => ?_, fun h hb hn => ?_, fun h hb hn => ⟨fun hr => ?_, fun hr hh => ?_, fun hr hh => ?_⟩⟩
    · exact congrArg done (if_pos (by simp [h]))
    all_goals have he := State.rxFrame_on (p := p) (n := n) (l := ws.map (fun w => w.toNat)) h
    · exact congrArg done (he.trans (if_pos hb))
    · exact congrArg done (he.trans ((if_neg hb).trans (if_pos hn)))
    all_goals replace he := he.trans ((if_neg hb).trans (if_neg (by simp [hn])))
    · refine congrArg done (he.trans ((if_pos (hlen.trans_le hr)).trans ?_))
      rw [State.updPort_updPort]
    · exact congrArg done (he.trans ((if_neg (Nat.not_le.2 (hlen.symm ▸ hr))).trans (if_pos hh)))
    · exact congrArg done (he.trans ((if_neg (Nat.not_le.2 (hlen.symm ▸ hr))).trans (if_neg (by simp [hh]))))

end Sys2Proof.Machine
end

section
/-!
SUPPORT and proof of O38: Ethernet frames, link state and addresses (15 R372 to R375, 19 R504).
-/

namespace Sys2Proof.Machine

/-! ### Ethernet frames and addresses (15 R372 to R375) -/

/-- A port receives while it is in use, and ETH1 not in P2 to P4 (18 R476). -/
def State.ethOn (s : State) (p : Nat) : Prop := s.bit .hostPortCfg p 0 = true ∧ (p = 0 ∨ s.pwr.state < 2)

/-- The tags a port accepts: none, or its own one. -/
def State.ownTag (s : State) (p : Nat) (f : EthFrame) : Prop :=
  f.tags = [] ∨ (s.bit .hostPortCfg p 2 = true ∧ ∃ v, f.tags = [v] ∧ v.toNat = s.fld .hostPortCfg p 15 4)

theorem State.ethOn_iff (s : State) (p : Nat) :
    (!s.bit .hostPortCfg p 0 || (p != 0 && decide (2 ≤ s.pwr.state))) = false ↔ s.ethOn p := by
  unfold State.ethOn
  generalize s.bit .hostPortCfg p 0 = b
  cases b <;> simp
  by_cases hp : p = 0 <;> simp [hp]

theorem State.frameRx_off {s : State} {p : Nat} (h : ¬ s.ethOn p) (f : EthFrame) : s.frameRx p f = s :=
  if_pos (Bool.not_eq_false _ ▸ fun e => h ((s.ethOn_iff p).1 e))

theorem State.frameRx_badFcs {s : State} {p : Nat} (h : s.ethOn p) {f : EthFrame} (hf : f.fcsOk = false) :
    s.frameRx p f = s.cnt .hostPortErrCnt p 31 16 1 :=
  (if_neg (Bool.eq_false_iff.1 ((s.ethOn_iff p).2 h))).trans (if_pos (by simp [hf]))

theorem State.frameRx_goodFcs {s : State} {p : Nat} (h : s.ethOn p) {f : EthFrame} (hf : f.fcsOk = true) [Decidable (s.ownTag p f)] :
    s.frameRx p f = if f.len ≤ 9216 ∧ f.pause = false ∧ s.ownTag p f then s else s.cnt .hostPortErrCnt p 15 0 1 := by
  refine (if_neg (Bool.eq_false_iff.1 ((s.ethOn_iff p).2 h))).trans ((if_neg (by simp [hf])).trans ?_)
  rcases e : f.tags with _ | ⟨v, _ | ⟨w, l⟩⟩ <;> simp [State.ownTag, e, and_assoc]

theorem State.own4_iff (s : State) (p a : Nat) : s.own4 p a = true ↔ a ≠ 0 ∧ a = s.rg .hostIpv4 p := by
  simp [State.own4, State.ipv4]

theorem State.own6_iff (s : State) (p a : Nat) : s.own6 p a = true ↔ a = s.linkLocal p ∨ (a ≠ 0 ∧ a = s.ipv6 p) := by
  simp [State.own6]

theorem State.answer_own {s : State} {p : Nat} {own : Bool} (h : s.serves p = true) (ho : own = true) (m : NetMsg) :
    s.answer p own m = s.emit (.net m) := if_pos (by simp [h, ho])

theorem State.answer_other {s : State} {p : Nat} {own : Bool} (h : ¬ (s.serves p = true ∧ own = true)) (m : NetMsg) :
    s.answer p own m = s := if_neg (by simpa using h)

open Classical in
/-- Settles O38. -/
theorem ethernetFrames : Obligations.EthernetFrames := by
  unfold Obligations.EthernetFrames
  refine ⟨fun p f s => ?_, fun p up lanes s => ⟨fun h => congrArg done (if_pos h), fun h => congrArg done (if_neg h)⟩, fun p s => rfl,
    fun p a src d s => ?_, fun p a src d s => ?_⟩
  · intro on tagged
    refine ⟨fun h hf => congrArg done (State.frameRx_badFcs h hf), fun h hf hb => ?_, fun h hf hl hp ht => ?_, fun h => ?_⟩
    · refine congrArg done ((State.frameRx_goodFcs h hf).trans (if_neg ?_))
      rintro ⟨hl, hp, ht⟩
      rcases hb with hb | hb | hb
      · omega
      · exact Bool.false_ne_true (hp.symm.trans hb)
      · exact hb ht
    · exact congrArg done ((State.frameRx_goodFcs h hf).trans (if_pos ⟨hl, hp, ht⟩))
    · refine congrArg done (State.frameRx_off (fun k => h ?_) f)
      exact k
  · intro own
    have hi := s.own4_iff p a.toNat
    refine ⟨fun ⟨hs, ho⟩ => ?_, fun hn => ?_⟩
    · exact ⟨congrArg done (State.answer_own hs (hi.2 ho) _), congrArg done (State.answer_own hs (hi.2 ho) _)⟩
    · have hn' : ¬ (s.serves p = true ∧ s.own4 p a.toNat = true) := fun ⟨hs, ho⟩ => hn ⟨hs, hi.1 ho⟩
      exact ⟨congrArg done (State.answer_other hn' _), congrArg done (State.answer_other hn' _)⟩
  · intro own
    have hi := s.own6_iff p a.toNat
    refine ⟨fun ⟨hs, ho⟩ => ?_, fun hn => ?_⟩
    · exact ⟨congrArg done (State.answer_own hs (hi.2 ho) _), congrArg done (State.answer_own hs (hi.2 ho) _)⟩
    · have hn' : ¬ (s.serves p = true ∧ s.own6 p a.toNat = true) := fun ⟨hs, ho⟩ => hn ⟨hs, hi.1 ho⟩
      exact ⟨congrArg done (State.answer_other hn' _), congrArg done (State.answer_other hn' _)⟩

end Sys2Proof.Machine
end

section
/-!
SUPPORT and proof of O39: datagrams of KTP (15 R376 to R380).
-/

namespace Sys2Proof.Machine

/-! ### Datagrams (15 R376 to R380) -/

/-- A word counter raised by `n` saturates (00 R7). -/
theorem State.rg_cnt_word (s : State) (r : RegName) (i n : Nat) :
    (s.cnt r i 31 0 n).rg r i = min (s.rg r i % 2 ^ 32 + n) 0xFFFFFFFF := by
  unfold State.cnt State.setFld State.fld
  rw [State.rg_setRg_same]
  unfold putField satAdd bitsOf
  simp only [Nat.pow_zero, Nat.div_one, Nat.mul_one]
  omega

/-- A SESSION_OPEN as a datagram. -/
def Dgram.opens (d : Dgram) : Prop := d.typ = 1 ∧ d.flags.testBit 1 = false

/-- A datagram that its form and its session let in, and none that opens a session (15 R379). -/
def State.dgramOf (s : State) (src : Peer) (data : List Byte) (d : Dgram) (x : Session) : State :=
  if dgramOk x.maxPayload data then
    if d.flags.testBit 1 then (s.dgramWake src d).ackDgram x d else ((s.dgramWake src d).ackDgram x d).sequenced x src d
  else s.badDgram

theorem State.dgramRx_in {s : State} {src : Peer} {dst udp : Nat} (h : s.forKtp src dst udp = true) (hq : s.pwr.ingress < 1024)
    (data : List Byte) : s.dgramRx src dst udp data =
    if (readDgram data).typ == 1 && !(readDgram data).flags.testBit 1 then
      if dgramOk 8192 data then (s.dgramWake src (readDgram data)).openDgram src (readDgram data) else s.badDgram
    else (s.sess (readDgram data).session).elim s.badDgram (s.dgramOf src data (readDgram data)) := by
  unfold State.dgramRx
  rw [h, if_neg (Nat.not_le.2 hq)]
  generalize readDgram data = d
  dsimp only
  rw [if_neg (by decide)]
  rcases Bool.eq_false_or_eq_true (d.typ == 1 && !d.flags.testBit 1) with hop | hop
  · simp only [hop, if_true]
  · rcases Option.eq_none_or_eq_some (s.sess d.session) with hx | ⟨x, hx⟩
    · simp only [hop, hx, Bool.false_eq_true, if_false, Option.elim]
    · simp only [hop, hx, Bool.false_eq_true, if_false, Option.elim, State.dgramOf]
      cases dgramOk x.maxPayload data <;> rfl

theorem Dgram.opens_iff (d : Dgram) : (d.typ == 1 && !d.flags.testBit 1) = true ↔ d.opens := by
  simp [Dgram.opens]

theorem State.sess_of_sessions {s t : State} (h : t.sessions = s.sessions) (n : Nat) : t.sess n = s.sess n := by
  rw [State.sess, State.sess, h]

theorem State.sess_updWhere (s : State) (p : Session → Bool) {f : Session → Session} (hf : ∀ x, (f x).num = x.num) (n : Nat)
    (h : s.sess n = none) : State.sess { s with sessions := updWhere p f s.sessions } n = none := by
  unfold State.sess at h ⊢
  rw [find1_eq_find?, List.find?_eq_none] at h ⊢
  intro y hy
  obtain ⟨x, hx, rfl⟩ := List.mem_map.1 hy
  have hx' := h x hx
  split
  · rw [hf]
    exact hx'
  · exact hx'

theorem State.sess_eventIf_none (s : State) (p : Session → Bool) (c u d a b n : Nat) (h : s.sess n = none) :
    (s.eventIf p c u d a b).sess n = none := by
  unfold State.eventIf
  extract_lets e hit lost s1
  have h1 : s1.sess n = none := s.sess_updWhere hit (fun x => by unfold Session.pushEv; split <;> rfl) n h
  split
  · exact h1
  · exact h1

theorem State.sess_loseSess (s : State) (n : Nat) : (s.loseSess n).sess n = none := by
  refine State.sess_eventIf_none _ _ _ _ _ _ _ n ?_
  refine (State.sess_of_sessions (s := s.dropSess n) (by simp) n).trans ?_
  unfold State.dropSess State.sess
  rw [find1_eq_find?, List.find?_eq_none]
  intro x hx
  simpa using (List.mem_filter.1 hx).2

theorem State.dropSess_streams (s : State) (n : Nat) : (s.dropSess n).streams = s.streams := rfl

theorem State.loseSess_streams (s : State) (n : Nat) : (s.loseSess n).streams = s.streams := by
  simp [State.loseSess, State.dropSess_streams]

theorem State.retx_of {s : State} {n : Nat} {x : Session} (h : s.sess n = some x) : s.retx n =
    if x.unacked = [] ∨ s.uptime < x.timerAt + x.rto * 1000 then s
    else if s.fld .hostKtpCfg 0 19 16 ≤ x.expiries + 1 then s.loseSess n
    else
      let ds := x.unacked.map (fun d => { x.stamp d with flags := (x.stamp d).flags ||| 8 })
      let s1 := s.updSess n (fun x =>
        { x with unacked := ds, expiries := x.expiries + 1, rto := max x.rto (min (2 * x.rto) rtoMax), ackOwed := false,
                 timerAt := s.uptime })
      let s2 := s1.cnt .hostKtpRetxCnt 0 31 0 ds.length
      { s2 with out := (ds.map (fun d => Out.ktp x.peer d)).reverse ++ s2.out } := by
  unfold State.retx
  rw [h]
  exact if_congr (by simp) rfl rfl

/-- Settles O39: the branches of a received datagram, the two timers of a session and its idle end, each by its own equation. -/
theorem ktpDatagrams : Obligations.KtpDatagrams := by
  unfold Obligations.KtpDatagrams
  refine ⟨fun src dst udp data s => ?_, fun x src d s h => ?_, fun n s => ?_, fun n s x hx hu ht => ⟨fun he => ?_, fun he => ?_⟩,
    fun n s h => ?_, fun n s => ⟨fun x hx ht => ?_, fun h => ?_⟩, fun n s => ⟨s.sess_loseSess n, State.loseSess_mem .., s.loseSess_streams n⟩⟩
  · intro d opens does
    refine ⟨fun h => congrArg done (if_pos (by simp [h])), fun h hq => congrArg done ((if_neg (by simp [h])).trans (if_pos hq)),
      fun h hq => ?_⟩
    have he := State.dgramRx_in h hq data
    have hop : (d.typ == 1 && !d.flags.testBit 1) = true ↔ opens := d.opens_iff
    refine ⟨fun ho hk => ?_, fun ho hk => ?_, fun ho hx => ?_, fun x ho hx => ?_⟩
    · exact congrArg done (he.trans ((if_pos (hop.2 ho)).trans (if_pos hk)))
    · exact congrArg done (he.trans ((if_pos (hop.2 ho)).trans (if_neg (by simp [hk]))))
    · exact congrArg done (he.trans ((if_neg fun e => ho (hop.1 e)).trans (congrArg (Option.elim · _ _) hx)))
    · have he' : s.dgramRx src dst.toNat udp.toNat data = s.dgramOf src data d x :=
        he.trans ((if_neg fun e => ho (hop.1 e)).trans (congrArg (Option.elim · _ _) hx))
      intro w k
      refine ⟨fun hk => congrArg done (he'.trans (if_neg (by simp [hk]))), fun hk hf => ?_, fun hk hf => ?_⟩
      · exact congrArg done (he'.trans ((if_pos hk).trans (if_pos hf)))
      · have hs : s.dgramRx src dst.toNat udp.toNat data = w.sequenced x src d :=
          he'.trans ((if_pos hk).trans (if_neg (by simp [hf])))
        refine ⟨fun h0 => ?_, fun h1 h2 => ?_, fun h1 => ?_, fun h1 h2 => ?_⟩
        · exact congrArg done (hs.trans (if_pos h0))
        · exact congrArg done (hs.trans ((if_neg (Nat.ne_of_gt h1)).trans (if_pos h2)))
        · exact congrArg done (hs.trans ((if_neg (by omega)).trans ((if_neg (by omega)).trans (if_pos h1))))
        · exact congrArg done (hs.trans ((if_neg (by omega)).trans ((if_neg (by omega)).trans (if_neg (by omega)))))
  · simp [State.acceptDgram, h]
  · intro due
    refine ⟨fun ⟨x, hx, ho, ht⟩ => congrArg done ?_, fun h => congrArg done ?_⟩
    · unfold State.ackDelay
      rw [hx]
      exact if_pos (by simp [ho, ht])
    · unfold State.ackDelay
      rcases Option.eq_none_or_eq_some (s.sess n) with hx | ⟨x, hx⟩ <;> rw [hx]
      refine if_neg fun k => h ⟨x, hx, ?_⟩
      simpa using k
  · have he := (State.retx_of hx).trans ((if_neg (by simp [hu, ht])).trans (if_neg (by omega)))
    refine ⟨_, congrArg done he, ?_, fun d hd => mem_out_finish ?_, rfl, rfl⟩
    · exact (State.rg_cnt_word ..).trans (by rw [List.length_map]; rfl)
    · refine List.mem_append_left _ (List.mem_reverse.2 ?_)
      rw [List.map_map]
      exact List.mem_map_of_mem hd
  · exact congrArg done ((State.retx_of hx).trans ((if_neg (by simp [hu, ht])).trans (if_pos he)))
  · rcases Option.eq_none_or_eq_some (s.sess n) with hx | ⟨x, hx⟩
    · refine congrArg done ?_
      unfold State.retx
      rw [hx]
    · exact congrArg done ((State.retx_of hx).trans (if_pos (h x hx)))
  · refine congrArg done ?_
    unfold State.sessIdle
    rw [hx]
    exact if_pos ht
  · refine congrArg done ?_
    unfold State.sessIdle
    rcases Option.eq_none_or_eq_some (s.sess n) with hx | ⟨x, hx⟩ <;> rw [hx]
    exact if_neg (Nat.not_le.2 (h x hx))

end Sys2Proof.Machine
end

section
/-!
SUPPORT and proof of O40: opening, closing and the simple requests of a session (15 R374, R378, R383, R384, 18 R478).
-/

namespace Sys2Proof.Machine

/-! ### Messages before their own rule (15 R383, R384, 18 R478) -/

/-- Every message but SESSION_CLOSE is a rule of its own inside the frame that all messages share. -/
theorem exec_message {i : Instr} {h : Hdr} (hm : msgHdr i = some h) (hn : i ≠ .sessionClose h) (s : State) :
    ∃ f, exec i s = done (runMsg i f s) := by
  unfold msgHdr at hm
  split at hm
  case h_1 =>
    cases hm
    exact absurd rfl hn
  case h_46 => cases hm
  all_goals exact ⟨_, rfl⟩

theorem runMsg_closed {s : State} {i : Instr} {h : Hdr} (hm : msgHdr i = some h) (ho : s.open h.session = false) (f : State → Rep) :
    runMsg i f s = s := by
  unfold runMsg
  simp only [hm, ho, Bool.not_false, if_true]

theorem State.wake_wakeMsgs (s : State) (c : Nat) : (s.wake c).pwr.wakeMsgs = s.pwr.wakeMsgs := by
  unfold State.wake
  split
  · rfl
  · split <;> rfl

theorem runMsg_waits {s : State} {i : Instr} {h : Hdr} (hm : msgHdr i = some h) (ho : s.open h.session = true)
    (hw : s.mustWake i = true) (f : State → Rep) :
    runMsg i f s = { s.wake 2 with pwr := { (s.wake 2).pwr with wakeMsgs := s.pwr.wakeMsgs ++ [i] } } := by
  unfold runMsg
  simp only [hm, ho, hw, Bool.not_true, Bool.false_eq_true, if_false, if_true, State.wake_wakeMsgs]

theorem runMsg_refused {s : State} {i : Instr} {h : Hdr} (hm : msgHdr i = some h) (ho : s.open h.session = true)
    (hw : s.mustWake i = false) (hg : s.gate i ≠ 0) (f : State → Rep) : runMsg i f s =
      (if s.gate i = 0x801 then (s.woken i).flag .trecEvt 0 1 else s.woken i).reply i h none (s.gate i) s.epoch [] := by
  have he : runMsg i f s = (s.woken i).process i h f := by
    unfold runMsg
    simp only [hm, ho, hw, Bool.not_true, Bool.false_eq_true, if_false]
    rfl
  rw [he]
  unfold State.process
  simp only [State.gate_woken, State.epoch_woken, hg, ne_eq, not_false_eq_true, if_true]

/-- A SESSION_CLOSE that is refused or finds no session closes none. -/
theorem State.closeSess_stays {s : State} {h : Hdr} (hn : s.open h.session = false ∨ s.gate (.sessionClose h) ≠ 0) :
    ∃ f, s.closeSess h = runMsg (.sessionClose h) f s := by
  refine ⟨fun s => .ok s, if_neg ?_⟩
  rcases hn with hn | hn <;> simp [hn]

theorem State.closeSess_accepted {s : State} {h : Hdr} (ha : s.accepts (.sessionClose h) h) : s.closeSess h =
    ((s.woken (.sessionClose h)).conclude (.sessionClose h) h s.epoch 0 []).dropSess h.session := by
  have hr : runMsg (.sessionClose h) (fun s => .ok s) s = (s.woken (.sessionClose h)).conclude (.sessionClose h) h s.epoch 0 [] :=
    runMsg_accepts ha _
  obtain ⟨-, ho, -, hg⟩ := ha
  unfold State.closeSess
  dsimp only
  rw [hr, ho, hg]
  rfl

/-! ### SESSION_OPEN (15 R378) -/

theorem State.openSess_served {s : State} {i : Instr} {src : Peer} (hs : s.serves src.port = true) (tag epoch mask mp : Nat) :
    s.openSess i src tag epoch mask mp =
      if s.gate i ≠ 0 then s.sessReply src 0 (s.gate i) tag []
      else if epoch ≠ 0 ∧ epoch ≠ s.epoch then s.sessReply src 0 4 tag []
      else (s.reopened src tag).elim
        (if 16 ≤ s.sessions.length then (s.recordMsg i 0 0x07 []).2.sessReply src 0 0x07 tag []
         else
          let x := s.newSess src tag mask mp
          let s1 := { s with sessions := s.sessions ++ [x], nextSession := nextSess s.nextSession }
          (s1.recordMsg i x.num 0 s.openPayload).2.sessReply src x.num 0 tag s.openPayload)
        (fun x => s.sessReply src x.num 0 tag s.openPayload) := by
  have hserv : (!s.serves src.port.val) = false := by simp [hs]
  unfold State.openSess
  by_cases hg : s.gate i = 0
  · by_cases he : epoch = 0 ∨ epoch = s.epoch
    · have hf : firstFail [(s.gate i == 0, s.gate i), (epoch == 0 || epoch == s.epoch, 0x04)] = 0 := by simp [firstFail, hg, he]
      rw [if_neg (not_not.2 hg), if_neg (not_and_or.2 (by simpa using he)), hf]
      simp only [hserv, Bool.false_eq_true, if_false, ne_eq, not_true_eq_false]
      rcases Option.eq_none_or_eq_some (s.reopened src tag) with hr | ⟨x, hr⟩ <;> simp only [hr, Option.elim]
    · have hf : firstFail [(s.gate i == 0, s.gate i), (epoch == 0 || epoch == s.epoch, 0x04)] = 4 := by simp [firstFail, hg, he]
      rw [if_neg (not_not.2 hg), if_pos (not_or.1 he), hf]
      simp only [hserv, Bool.false_eq_true, if_false]
      rfl
  · have hf : firstFail [(s.gate i == 0, s.gate i), (epoch == 0 || epoch == s.epoch, 0x04)] = s.gate i := by simp [firstFail, hg]
    rw [if_pos hg, hf]
    simp only [hserv, Bool.false_eq_true, if_false]
    exact if_pos hg

/-- An accepted message whose rule answers a record of the state alone. -/
theorem done_record {s : State} {i : Instr} {h : Hdr} (ha : s.accepts i h) (pay : State → List Byte)
    (hp : pay (s.woken i) = pay s) : done (runMsg i (fun t => .ok t (pay t)) s) = answered i h s (s.woken i) 0 (pay s) :=
  done_runMsg ha (by rw [hp]; rfl)

theorem State.statusPay_woken (s : State) (i : Instr) : (s.woken i).statusPay = s.statusPay := by
  simp [State.statusPay]

/-- Settles O40. -/
theorem sessions : Obligations.Sessions := by
  unfold Obligations.Sessions
  refine ⟨fun src tag epoch mask mp s => ?_, fun h s ha => ?_, fun h s => ⟨fun ha => ?_, fun ha => ?_, fun ha => ?_, fun ha => ?_, fun ha => ?_⟩,
    fun i h s hm => ⟨fun ho => ?_, fun ho hw => ?_, fun ho hw hg => ?_⟩⟩
  · intro i ok
    have hz : epoch.toNat = 0 ↔ epoch = 0 := by
      rw [← BitVec.toNat_inj]
      rfl
    have he (hs : s.serves src.port = true) := State.openSess_served (i := i) hs tag.toNat epoch.toNat mask.toNat mp.toNat
    have hok (hs : s.serves src.port = true) (h : ok) := (he hs).trans ((if_neg (not_not.2 h.1)).trans
      (if_neg (by rw [← or_iff_not_and_not, hz]; exact h.2)))
    refine ⟨fun hs => congrArg done (if_pos (by simp [hs])), fun hs hg => congrArg done ((he hs).trans (if_pos hg)),
      fun hs hg h0 h1 => congrArg done ((he hs).trans ((if_neg (not_not.2 hg)).trans (if_pos ⟨fun e => h0 (hz.1 e), h1⟩))),
      fun x hs h hr => congrArg done ((hok hs h).trans (congrArg (Option.elim · _ _) hr)), fun hs h hr => ⟨fun hn => ?_, fun hn => ?_⟩⟩
    · intro x u
      exact congrArg done ((hok hs h).trans ((congrArg (Option.elim · _ _) hr).trans (if_neg (Nat.not_le.2 hn))))
    · exact congrArg done ((hok hs h).trans ((congrArg (Option.elim · _ _) hr).trans (if_pos hn)))
  · exact congrArg done (State.closeSess_accepted ha)
  · exact done_record ha State.pingPay (State.of_woken s _ fun _ => rfl)
  · exact done_record ha State.statusPay (s.statusPay_woken _)
  · exact done_record ha State.identityPay (State.of_woken s _ fun _ => rfl)
  · exact done_record ha State.configRead (State.of_woken s _ fun _ => rfl)
  · exact done_record ha (fun t => t.trec.header) (by rw [State.woken_trec])
  · by_cases hn : i = .sessionClose h
    · subst hn
      obtain ⟨f, hf⟩ := State.closeSess_stays (.inl ho)
      exact congrArg done (hf.trans (runMsg_closed hm ho f))
    · obtain ⟨f, hf⟩ := exec_message hm hn s
      exact hf.trans (congrArg done (runMsg_closed hm ho f))
  · by_cases hn : i = .sessionClose h
    · subst hn
      have hnw : noWake (.sessionClose h) = true := rfl
      exact absurd hw (by simp [State.mustWake, hnw])
    · obtain ⟨f, hf⟩ := exec_message hm hn s
      exact hf.trans (congrArg done (runMsg_waits hm ho hw f))
  · by_cases hn : i = .sessionClose h
    · subst hn
      obtain ⟨f, hf⟩ := State.closeSess_stays (.inr hg)
      exact congrArg done (hf.trans (runMsg_refused hm ho hw hg f))
    · obtain ⟨f, hf⟩ := exec_message hm hn s
      exact hf.trans (congrArg done (runMsg_refused hm ho hw hg f))

end Sys2Proof.Machine
end

section
/-!
SUPPORT and proof of O41: host return of samples (15 R386, 12 R319).
-/

namespace Sys2Proof.Machine

/-! ### Host return (15 R386) -/

/-- A buffer that leaves is empty, and starts at the sample after it. -/
theorem State.sendHostBuf_sent {s : State} {i : Nat} (h : (s.stream i).del.hostBuf ≠ []) :
    ((s.sendHostBuf i).stream i).del.hostBuf = [] ∧
      ((s.sendHostBuf i).stream i).del.hostFirst = (s.stream i).del.hostFirst + (s.stream i).del.hostBuf.length ∧
      ((s.sendHostBuf i).stream i).del.flush = false ∧ ((s.sendHostBuf i).stream i).dir = (s.stream i).dir ∧
      ∀ j, j ≠ i → (s.sendHostBuf i).stream j = s.stream j := by
  have hn : (s.stream i).del.hostBuf.length ≠ 0 := fun e => h (List.length_eq_zero_iff.1 e)
  unfold State.sendHostBuf
  simp only [hn, if_false, State.stream_updStream]
  have hs (n t st g e : Nat) (p : List Byte) (j : Nat) : (s.sendMsg n t st g e p).stream j = s.stream j :=
    State.stream_of_streams (State.sendMsg_streams ..) j
  simp only [hs]
  exact ⟨trivial, trivial, trivial, trivial, fun j hj => (State.stream_updStream_ne _ hj _).trans (hs ..)⟩

theorem State.sendHostBuf_empty {s : State} {i : Nat} (h : (s.stream i).del.hostBuf = []) : s.sendHostBuf i = s :=
  if_pos (by rw [h]; rfl)

theorem State.hostReturn_eq (s : State) (i : Nat) : s.hostReturn i =
    if (s.stream i).isOpen = true ∧ ((s.stream i).dir.dest = 0x100 ∨ s.replay.active = true) ∧ s.winRoom (s.dataSess (s.stream i)) = true ∧
      ((s.stream i).del.flush = true ∨ (s.stream i).dir.state = .ended ∨ s.retBatch ≤ (s.stream i).del.hostBuf.length)
    then s.sendHostBuf i else s := by
  unfold State.hostReturn
  exact if_congr (by simp [and_assoc, or_assoc]) rfl rfl

theorem State.hostPut_room {s : State} {i : Nat} (h : (s.stream i).del.hostBuf.length < 4096) (v : Nat) : s.hostPut i v =
    if s.replay.active then s
    else s.updStream i (fun x => { x with del := { x.del with hostBuf := x.del.hostBuf ++ [v] } }) := by
  unfold State.hostPut
  split
  · rfl
  · exact if_pos h

/-- Whether a BE stream's next sample may be taken: its buffer has room and its domain issues ticks. -/
def State.beTakes (s : State) (x : Stream) : Prop :=
  x.isOpen = true ∧ x.dir.be = true ∧ x.dir.dest = 0x100 ∧ x.dir.state ≠ .paused ∧ x.dir.state ≠ .faulted ∧ x.isClosing = false ∧
    (∀ e, x.life.exportP = some e → e.move = true → e.capAt = none) ∧ (s.td x.dir.domain).ticking = true ∧
    x.del.hostBuf.length < 4096

theorem State.beTake_not {s : State} {i : Nat} (h : ¬ s.beTakes (s.stream i)) : s.beTake i = s := by
  refine if_neg fun hg => h ?_
  unfold State.beTakes
  generalize (s.stream i).life.exportP = o at hg ⊢
  cases o with
  | none => simpa [and_assoc] using hg
  | some e => cases hm : e.move <;> simpa [and_assoc, hm] using hg

theorem State.beTake_empty {s : State} {i : Nat} (h : (s.stream i).del.queue = []) : s.beTake i = s := by
  unfold State.beTake
  simp only [h, ite_self]

theorem State.beTake_next {s : State} {i v : Nat} {q : List Nat} (h : s.beTakes (s.stream i)) (hq : (s.stream i).del.queue = v :: q) :
    s.beTake i = if (s.stream i).del.bad then s.bufParity i
      else (s.updStream i (fun x => { x with del := { x.del with queue := q, taking := true, takes := x.del.takes + 1 } })).hostPut i v := by
  refine (if_pos ?_).trans (by simp only [hq])
  unfold State.beTakes at h
  generalize (s.stream i).life.exportP = o at h ⊢
  cases o with
  | none => simpa [and_assoc] using h
  | some e => cases hm : e.move <;> simpa [and_assoc, hm] using h

/-- A stream whose oldest sample is taken for its host. -/
theorem State.beTaken_stream {s : State} {i : Nat} (h : (s.stream i).del.hostBuf.length < 4096) (v : Nat) (q : List Nat) :
    let t := (s.updStream i (fun x => { x with del := { x.del with queue := q, taking := true, takes := x.del.takes + 1 } })).hostPut i v
    (t.stream i).del.queue = q ∧
      (t.stream i).del.hostBuf = (if s.replay.active then (s.stream i).del.hostBuf else (s.stream i).del.hostBuf ++ [v]) ∧
      (t.stream i).del.takes = (s.stream i).del.takes + 1 ∧ (t.stream i).dir = (s.stream i).dir ∧
      (∀ j, j ≠ i → t.stream j = s.stream j) ∧ t.mem = s.mem := by
  intro t
  unfold t
  rw [State.hostPut_room (by rw [State.stream_updStream]; exact h)]
  by_cases hr : s.replay.active = true
  · rw [if_pos (show (s.updStream i _).replay.active = true from hr), if_pos hr]
    simp only [State.stream_updStream]
    exact ⟨trivial, trivial, trivial, trivial, fun j hj => State.stream_updStream_ne _ hj _, rfl⟩
  · rw [if_neg (show ¬ (s.updStream i _).replay.active = true from hr), if_neg hr]
    simp only [State.stream_updStream]
    exact ⟨trivial, trivial, trivial, trivial,
      fun j hj => (State.stream_updStream_ne _ hj _).trans (State.stream_updStream_ne _ hj _), rfl⟩

/-- Settles O41. -/
theorem hostReturn : Obligations.HostReturn := by
  unfold Obligations.HostReturn
  refine ⟨fun i s => ?_, fun i s => ?_⟩
  · intro x goes
    have he := s.hostReturn_eq i
    refine ⟨fun hg hb => ?_, fun h => congrArg done ?_⟩
    · obtain ⟨h1, h2, h3, h4, h5⟩ := State.sendHostBuf_sent hb
      exact ⟨_, congrArg done (he.trans (if_pos hg)), h1, h2, h3, h4, fun j hj => h5 j (fun e => hj (Fin.ext e)),
        State.sendHostBuf_mem ..⟩
    · by_cases hg : goes
      · exact he.trans ((if_pos hg).trans (State.sendHostBuf_empty (h.resolve_left (not_not.2 hg))))
      · exact he.trans (if_neg hg)
  · intro x takes
    refine ⟨fun v q ht hq hb => ?_, fun ht hq hb => ?_, fun h => congrArg done ?_⟩
    · have hroom : x.del.hostBuf.length < 4096 := by
        obtain ⟨-, -, -, -, -, -, -, -, h⟩ := ht
        exact h
      obtain ⟨h1, h2, h3, h4, h5, h6⟩ := State.beTaken_stream hroom v q
      exact ⟨_, congrArg done ((State.beTake_next ht hq).trans (if_neg (Bool.eq_false_iff.1 hb))), h1, h2, h3, h4,
        fun j hj => h5 j (fun e => hj (Fin.ext e)), h6⟩
    · obtain ⟨v, q, hq⟩ := List.exists_cons_of_ne_nil hq
      exact congrArg done ((State.beTake_next ht hq).trans (if_pos hb))
    · rcases h with h | h
      · exact State.beTake_not h
      · exact State.beTake_empty h

end Sys2Proof.Machine
end

section
/-!
SUPPORT and proof of O42: the PTP servo and RTP streams (15 R391 to R395).
-/

namespace Sys2Proof.Machine

/-! ### The PTP servo (15 R391, R392, R395) -/

theorem State.ptpFollowUp_of {s : State} {p q : Nat} {t2 : Int} (ho : s.ptpOn p = true) (hq : (s.ptpI p).pendSync = some (q, t2)) (seq : Nat)
    (t1 : Int) : s.ptpFollowUp p seq t1 = if q = seq then s.ptpMeasure p t1 t2 else s := by
  unfold State.ptpFollowUp
  simp only [ho, hq]

theorem State.ptpFollowUp_none {s : State} {p : Nat} (h : s.ptpOn p = false ∨ (s.ptpI p).pendSync = none) (seq : Nat) (t1 : Int) :
    s.ptpFollowUp p seq t1 = s := by
  unfold State.ptpFollowUp
  rcases h with h | h
  · simp only [h]
  · cases s.ptpOn p <;> simp only [h]

@[simp] theorem State.ptpI_updPtp (s : State) (p : Nat) (f : Ptp → Ptp) : (s.updPtp p f).ptpI p = f (s.ptpI p) :=
  Tab.getD_modify_same ..

theorem State.ptpI_of_ptp {s t : State} (h : t.ptp = s.ptp) (p : Nat) : t.ptpI p = s.ptpI p := by
  rw [State.ptpI, State.ptpI, h]

/-- The servo and the registers but for what events count and flag in. -/
def State.PtpFrame (s t : State) : Prop := t.ptp = s.ptp ∧ s.sameRegs t reportOffs

theorem State.PtpFrame.trans {s t u : State} (h : s.PtpFrame t) (k : t.PtpFrame u) : s.PtpFrame u := by
  obtain ⟨h1, h2⟩ := h
  obtain ⟨k1, k2⟩ := k
  exact ⟨k1.trans h1, State.sameRegs_trans h2 k2⟩

theorem State.ptpFrame_event (s : State) (c u d a b : Nat) : s.PtpFrame (s.event c u d a b) :=
  ⟨State.event_ptp .., s.sameRegs_event c u d a b⟩

theorem State.ptpFrame_rfl (s : State) : s.PtpFrame s := ⟨rfl, State.sameRegs_rfl _ _⟩

/-- A servo that locks changes no servo but its own, and no register but those of events. -/
theorem State.ptpLock_frame {s : State} {p : Nat} (h : (s.ptpI p).locked = false) :
    (s.updPtp p (fun x => { x with locked := true, tracked := true, underRun := 0, overRun := 0 })).PtpFrame (s.ptpLock p true) := by
  unfold State.ptpLock
  rw [if_neg (by simp [h])]
  extract_lets s1 s2 s3
  have e1 : s1 = s.updPtp p (fun x => { x with locked := true, tracked := true, underRun := 0, overRun := 0 }) := by
    unfold s1
    simp only [Bool.or_true]
  have h2 : s1.PtpFrame s2 := by
    unfold s2
    generalize (if s.bit .tickTimeStat 0 1 then 1 else 0) = k
    split
    · exact s1.ptpFrame_event ..
    · exact s1.ptpFrame_rfl
  rw [← e1]
  refine h2.trans (State.each_inv (P := s3.PtpFrame) _ (fun t r _ ht => ht.trans ?_) s3 s3.ptpFrame_rfl)
  exact State.PtpFrame.trans ⟨rfl, State.sameRegs_of_eq _ rfl⟩ (State.ptpFrame_event ..)

theorem hostPtpOffset_quiet : ∀ p : EthNo, RegName.hostPtpOffset.off p.val ∉ reportOffs := by decide

theorem State.ptpMeasure_small {s : State} {p : EthNo} {t1 t2 : Int} (hs : (t2 - t1 - (s.ptpI p).pathDelay).natAbs < 1000)
    (hl : (s.ptpI p).locked = false) :
    (s.ptpMeasure p t1 t2).rg .hostPtpOffset p = ((t2 - t1 - (s.ptpI p).pathDelay) % 2 ^ 32).toNat ∧
      ((s.ptpMeasure p t1 t2).ptpI p).locked = decide (16 ≤ (s.ptpI p).underRun + 1) := by
  unfold State.ptpMeasure
  extract_lets x off u o goal step phc s0 s1
  have hu : u = (s.ptpI p).underRun + 1 := if_pos hs
  have hx : x.locked = false := hl
  have h1 : (s1.ptpI p).locked = false := by
    unfold s1
    rw [State.ptpI_updPtp]
    exact hl
  have hsat : sat32 off = (off % 2 ^ 32).toNat := by
    unfold sat32
    have : off.natAbs < 1000 := hs
    omega
  have hr1 : s1.rg .hostPtpOffset p = (off % 2 ^ 32).toNat := by
    have e : s1.rg .hostPtpOffset p = sat32 off % 2 ^ 32 := State.rg_setRg_same ..
    rw [e, hsat]
    omega
  have hoff := hostPtpOffset_quiet p
  rw [hx, Bool.not_false, Bool.true_and, Bool.false_and]
  split
  · next h16 =>
    obtain ⟨f1, f2⟩ := State.ptpLock_frame h1
    have h16' : 16 ≤ u := by simpa using h16
    refine ⟨(State.sameRegs_rg f2 hoff).trans hr1, ?_⟩
    rw [State.ptpI_of_ptp f1, State.ptpI_updPtp, ← hu]
    exact (decide_eq_true h16').symm
  · next h16 =>
    have h16' : ¬ 16 ≤ u := by simpa using h16
    rw [if_neg Bool.false_ne_true, ← hu]
    exact ⟨hr1, h1.trans (decide_eq_false h16').symm⟩

/-! ### RTP (15 R393, R395) -/

theorem State.rtpAdvance_direct {s : State} {r : Nat} (h : s.rtpDirect r = true) : s.rtpAdvance r = s := if_pos h

/-- Settles O42. -/
theorem ptpAndRtp : Obligations.PtpAndRtp := by
  unfold Obligations.PtpAndRtp
  refine ⟨fun p seq t1 t2 ppm s => ⟨fun ho => ⟨?_, ?_, fun hq => ?_, fun hq => ?_⟩, fun ho two => ⟨?_, ?_⟩⟩,
    fun p ppm s h => if_pos h, fun p t1 t2 s hs hl => State.ptpMeasure_small hs hl,
    fun p seq t3 t4 s => ⟨fun ho => ⟨?_, fun hq => ?_, fun hq => ?_, ?_⟩, fun ho => ⟨?_, ?_, ?_⟩⟩, fun p clock better s => ?_,
    fun r s => ⟨fun ho => ?_, fun ho hl => ?_, fun ho hl => ?_⟩, fun r s => ?_⟩
  · exact congrArg done ((if_neg (by simp [ho])).trans (if_pos rfl))
  · exact congrArg done ((if_neg (by simp [ho])).trans (if_neg Bool.false_ne_true))
  · exact congrArg done ((State.ptpFollowUp_of ho hq _ _).trans (if_pos rfl))
  · rcases Option.eq_none_or_eq_some (s.ptpI p).pendSync with hp | ⟨⟨q, t⟩, hp⟩
    · exact congrArg done (State.ptpFollowUp_none (.inr hp) _ _)
    · exact congrArg done ((State.ptpFollowUp_of ho hp _ _).trans (if_neg fun (e : q = seq.toNat) => hq t (e ▸ hp)))
  · exact congrArg done (if_pos (by simp [ho]))
  · exact congrArg done (State.ptpFollowUp_none (.inl ho) _ _)
  · exact congrArg done (if_pos ho)
  · exact congrArg done (if_pos (by simp [ho, hq]))
  · exact congrArg done (if_neg (by simp [hq]))
  · exact congrArg done (if_pos ho)
  · exact congrArg done (if_neg (by simp [ho]))
  · exact congrArg done (if_neg (by simp [ho]))
  · exact congrArg done (if_neg (by simp [ho]))
  · intro taken
    have hi : (s.bit .hostPtpCfg p 0 && (better || (s.ptpI p).master.isNone) && (s.ptpI p).master != some clock.toNat) = true ↔ taken := by
      simp [taken, and_assoc]
    exact ⟨fun h => congrArg done (if_pos (hi.2 h)), fun h => congrArg done (if_neg fun e => h (hi.1 e))⟩
  · exact congrArg done (if_pos ho)
  · exact congrArg done ((if_neg (by simp [ho])).trans (if_pos hl))
  · exact congrArg done ((if_neg (by simp [ho])).trans (if_neg (by simp [hl])))
  · intro u x n d ts ws v may
    have hmay : (s.replay.active || s.silenced d) = true ↔ ¬ may := by
      simp [may, imp_iff_not_or]
    refine ⟨fun ho => congrArg done (if_neg (by simp [ho])), fun ho hn => congrArg done ((if_pos ho).trans (if_neg (Nat.not_le.2 hn))),
      fun ho hn hm => congrArg done ((if_pos ho).trans ((if_pos hn).trans (if_neg fun e => hmay.1 e hm))),
      fun ho hn hm => congrArg done ((if_pos ho).trans ((if_pos hn).trans (if_pos (hmay.2 hm)))), fun hd => State.rtpAdvance_direct hd⟩

end Sys2Proof.Machine
end

section
/-!
SUPPORT and proof of O43: image uploads and firmware from the twin (17 R436 to R439).
-/

namespace Sys2Proof.Machine

/-! ### Uploads (17 R436 to R438) -/

/-- The bytes an upload has before a chunk. -/
def State.uploaded (s : State) (off : Nat) : List Byte := if off = 0 then [] else ((s.dev.upload.map (fun u => u.data)).getD [])

theorem State.uploadChunk_eq (s : State) (m : PendMsg) (sess kind off total : Nat) (d : List Byte) :
    s.uploadChunk m sess kind off total d =
      if s.chunkStatus sess kind off total d.length ≠ 0 then
        (s.chunkStatus sess kind off total d.length, false, { s with dev := { s.dev with upload := none, upd := 0 } })
      else
        let u : Upload := { session := sess, kind := kind, total := total, data := s.uploaded off ++ d }
        let v := s.storeChunk u off d
        if u.data.length < total then (0, false, v) else ((v.imageWhole m u).1, (v.imageWhole m u).1 == 0, (v.imageWhole m u).2) := by
  unfold State.uploadChunk State.uploaded
  cases s.dev.upload with
  | none => simp
  | some u => rfl

theorem State.imageWhole_bad {s : State} {u : Upload} {b : Nat} (h : s.gatherBad u = some b) (m : PendMsg) : s.imageWhole m u =
    (0x503, ((State.readFailed { s with dev := { s.dev with upload := none, upd := 0 } } (b * 64) (reqCode .mgmt)).deviceFault 0x22 (b * 64))) := by
  unfold State.imageWhole
  simp only [h]

theorem State.imageWhole_read {s : State} {u : Upload} (h : s.gatherBad u = none) (m : PendMsg) : s.imageWhole m u =
    if s.imageStatus u.kind (s.gathered u) ≠ 0 then
      (s.imageStatus u.kind (s.gathered u), { s with dev := { s.dev with upload := none, upd := 0 } })
    else (0, { s with dev := { s.dev with upload := none, upd := 2, program := some (m, { u with data := s.gathered u }) } }) := by
  unfold State.imageWhole
  simp only [h]

theorem State.uploadRep_now {s t : State} {i : Instr} {h : Hdr} {kind off total st : Nat} {d : List Byte}
    (hr : s.uploadChunk ⟨i, s.epoch⟩ h.session kind off total d = (st, false, t)) :
    s.uploadRep i h kind off total d = .no t st := by
  unfold State.uploadRep
  rw [hr]
  rfl

theorem State.uploadRep_later {s t : State} {i : Instr} {h : Hdr} {kind off total st : Nat} {d : List Byte}
    (hr : s.uploadChunk ⟨i, s.epoch⟩ h.session kind off total d = (st, true, t)) :
    s.uploadRep i h kind off total d = .wait t := by
  unfold State.uploadRep
  rw [hr]
  rfl

theorem State.programDone_of {s : State} {m : PendMsg} {u : Upload} (h : s.dev.program = some (m, u)) (ok : Bool) : s.programDone ok =
    let good := ok && s.flash.present
    let v : State := { s with dev := { s.dev with program := none, upd := if good && s.dev.stage == 2 then 3 else 0 } }
    let x := (v.setPart u.kind (if good then u.data else [])).concludeLater m (if good then 0 else 0x506) []
    if good = true ∧ x.dev.stage = 0 ∧ x.clearsHold u.kind = true then { x with dev := { x.dev with hold := 0, starting := true } } else x := by
  unfold State.programDone
  simp only [h]
  exact if_congr (by simp [and_assoc]) rfl rfl

/-! ### The fetch from the twin (17 R439) -/

theorem State.imageReq_eq (s : State) (src off : Nat) : s.imageReq src off =
    if s.dev.stage = 2 ∧ s.twinIs src = true ∧ off < s.flash.firmware.length then
      s.twinLinks.head?.elim s fun n => (s.sendOn n src 2 9 0
        (leBytes 4 off ++ leBytes 4 s.flash.firmware.length ++ (s.flash.firmware.drop off).take imageChunk)).2
    else s := by
  unfold State.imageReq
  refine if_congr (by simp [and_assoc]) ?_ rfl
  cases s.twinLinks.head? <;> rfl

theorem State.imageData_fetching {s : State} (h : s.fetching = true) (off total : Nat) (d : List Byte) : s.imageData off total d =
    let r := s.uploadChunk ⟨.imageFetchRetry, 0⟩ 0 0 off total d
    if r.1 = 0 ∧ r.2.1 = false then r.2.2.sendImageReq else r.2.2 := by
  refine (if_neg (by simp [h])).trans ?_
  exact if_congr (by simp) rfl rfl

/-- The first chunk of a fetch goes into the erased partition. -/
theorem State.uploadChunk_first {s : State} (h : s.fetching = true) (hu : s.dev.upload = none) {total : Nat} {d : List Byte}
    (hd : d.length < total) (ht : total ≤ partSize 0) (m : PendMsg) : s.uploadChunk m 0 0 0 total d =
      (0, false, State.setPart { s with dev := { s.dev with upload := some { session := 0, kind := 0, total := total, data := d }, upd := 1 } } 0 d) := by
  have hst : s.dev.stage = 0 := by
    unfold State.fetching at h
    simp only [Bool.and_eq_true, beq_iff_eq] at h
    obtain ⟨⟨⟨h0, -⟩, -⟩, -⟩ := h
    exact h0
  have hc : s.chunkStatus 0 0 0 total d.length = 0 := by
    unfold State.chunkStatus
    simp only [hu, hst]
    simp [firstFail, ht, Nat.le_of_lt hd]
  rw [State.uploadChunk_eq, if_neg (not_not.2 hc)]
  simp only [State.uploaded, if_true, List.nil_append, hd]
  unfold State.storeChunk
  rw [if_neg (by rw [hst]; decide)]

/-- Settles O43. -/
theorem imageUploads : Obligations.ImageUploads := by
  unfold Obligations.ImageUploads
  refine ⟨fun h kind off total d s ha => ?_, fun u off d s => ⟨fun hs a hup => ?_, fun hs => if_neg hs⟩,
    fun ok s => ⟨fun hp => ?_, fun m u hp => ?_⟩, fun s => ?_, fun src off s => ?_, fun off total d s => ?_⟩
  · intro c w st old u v e img
    have hold : old = w.uploaded off.toNat := by
      have hz : off = 0 ↔ off.toNat = 0 := by
        rw [← BitVec.toNat_inj]
        rfl
      have hdev : w.dev = s.dev := State.woken_dev ..
      unfold State.uploaded
      rw [hdev]
      exact if_congr hz rfl rfl
    have hst : w.chunkStatus h.session kind.toNat off.toNat total.toNat d.length = st :=
      State.of_woken s c (f := fun t => t.chunkStatus h.session kind.toNat off.toNat total.toNat d.length) fun _ => rfl
    have hr := w.uploadChunk_eq ⟨c, w.epoch⟩ h.session kind.toNat off.toNat total.toNat d
    rw [hst, ← hold] at hr
    have hnow {n : Nat} {t : State} (e : w.uploadChunk ⟨c, w.epoch⟩ h.session kind.toNat off.toNat total.toNat d = (n, false, t)) :
        exec c s = answered c h s t n [] :=
      done_runMsg (f := fun t => t.uploadRep c h kind.toNat off.toNat total.toNat d) ha (State.uploadRep_now e)
    refine ⟨fun h0 => ?_, fun h0 hl => hnow (hr.trans ((if_neg (not_not.2 h0)).trans (if_pos hl))), fun h0 hl => ?_⟩
    · have e := hr.trans (if_pos h0)
      rw [State.woken_dev] at e
      exact hnow e
    · replace hr := hr.trans ((if_neg (not_not.2 h0)).trans (if_neg (Nat.not_lt.2 hl)))
      refine ⟨fun b hb => ?_, fun hb hi => ?_, fun hb hi => ?_⟩
      · rw [State.imageWhole_bad hb] at hr
        exact hnow hr
      · have hw := (State.imageWhole_read hb ⟨c, w.epoch⟩).trans (if_pos hi)
        rw [hw] at hr
        exact hnow (hr.trans (congrArg (fun b => (_, b, _)) (beq_eq_false_iff_ne.2 hi)))
      · intro p
        have hw := (State.imageWhole_read hb ⟨c, w.epoch⟩).trans (if_neg (not_not.2 hi))
        rw [hw] at hr
        have hlater := done_runMsg_later (f := fun t => t.uploadRep c h kind.toNat off.toNat total.toNat d) (st := 0) (p := []) ha
          (State.uploadRep_later (hr.trans rfl))
        rw [State.epoch_woken] at hlater
        exact hlater
  · refine (if_pos hs).trans ?_
    simp only [hup]
  · refine congrArg done ?_
    unfold State.programDone
    simp only [hp]
  · intro good v x on
    have he := State.programDone_of hp ok
    exact ⟨fun h => congrArg done (he.trans (if_neg h)), fun h => congrArg done (he.trans (if_pos h))⟩
  · intro due off t
    have hg : (s.fetching && decide (s.dev.fetchAt + 60000000000 ≤ s.uptime)) = true ↔ due := by simp [due]
    have hreq : s.sendImageReq = s.twinLinks.head?.elim t fun n => (t.sendOn n s.twinId 0 8 0 (leBytes 4 off ++ leBytes 4 0)).2 := by
      unfold State.sendImageReq
      cases s.twinLinks.head? <;> rfl
    refine ⟨fun n h hn => congrArg done ((if_pos (hg.2 h)).trans (hreq.trans (congrArg (Option.elim · _ _) hn))),
      fun h hn => congrArg done ((if_pos (hg.2 h)).trans (hreq.trans (congrArg (Option.elim · _ _) hn))),
      fun h => congrArg done (if_neg fun e => h (hg.1 e))⟩
  · intro asked
    have he := s.imageReq_eq src.toNat off.toNat
    refine ⟨fun n h hn => congrArg done (he.trans ((if_pos h).trans (congrArg (Option.elim · _ _) hn))), fun h => congrArg done ?_⟩
    by_cases hk : asked
    · exact he.trans ((if_pos hk).trans (congrArg (Option.elim · _ _) (h.resolve_left (not_not.2 hk))))
    · exact he.trans (if_neg hk)
  · intro r
    have he (h : s.fetching = true) := State.imageData_fetching h off.toNat total.toNat d
    refine ⟨fun h => congrArg done (if_pos (by simp [h])), fun h h0 h1 => congrArg done ((he h).trans (if_pos ⟨h0, h1⟩)),
      fun h h0 => congrArg done ((he h).trans (if_neg ?_)), fun h hu h0 hl hp => ?_⟩
    · rintro ⟨k0, k1⟩
      rcases h0 with h0 | h0
      · exact h0 k0
      · exact Bool.false_ne_true (k1.symm.trans h0)
    · intro u
      subst h0
      have hc := State.uploadChunk_first h hu hl hp ⟨.imageFetchRetry, 0⟩
      have hd := he h
      rw [show (0 : Word).toNat = 0 from rfl, hc] at hd
      exact congrArg done (hd.trans (if_pos ⟨rfl, rfl⟩))

end Sys2Proof.Machine
end

section
/-!
SUPPORT and proof of O44: which events cause a device-wide reset (17 R450 to R456, 21 R513 to R521).
-/

namespace Sys2Proof.Machine

/-! ### Resets (17 R450 to R456, 21 R513 to R521) -/

theorem State.goodRise_eq (s : State) : s.goodRise =
    if s.dev.pwrGood = false ∧ s.dev.supplies = true ∧ s.dev.trip = false then
      State.deviceReset { s with dev := { s.dev with pwrGood := true } } .por
    else s := by
  unfold State.goodRise
  exact if_congr (by simp [and_assoc]) rfl rfl

/-- A built Pitch is reset under a message, which answers the one before it (17 R452). -/
theorem State.resetPitchRep_built {s : State} {p : Nat} (h : p < 16 ∧ (s.pitch p).built = true) (m : PendMsg) : s.resetPitchRep m p =
    .wait ((((s.pitch p).resetMsg.elim s (fun o => s.concludeLater o 0 [])).resetPitch p 0 0 []).updPitch p
      (fun x => { x with resetMsg := some m })) := by
  refine (if_pos h).trans ?_
  cases (s.pitch p).resetMsg <;> rfl

/-- Settles O44. -/
theorem resetCauses : Obligations.ResetCauses := by
  unfold Obligations.ResetCauses
  refine ⟨fun h s ha => done_runMsg ha rfl, fun s => rfl, fun s => ?_, fun s => ?_, fun s => ⟨fun hp => ?_, fun hp => ?_⟩,
    fun s => rfl, fun s => rfl, fun s => rfl, fun s => rfl, fun s => ?_, fun s => rfl, fun s => ?_, fun h p s ha => ?_⟩
  · intro due
    have hi : (s.dev.mgmtReset.any (fun t => decide (t + 10000000 ≤ s.uptime)) && s.runs) = true ↔ due := by
      rw [Bool.and_eq_true, Option.any_eq_true, and_comm]
      simp only [decide_eq_true_iff]
      exact Iff.rfl
    exact ⟨fun h => congrArg done (if_pos (hi.2 h)), fun h => congrArg done (if_neg fun e => h (hi.1 e))⟩
  · intro due
    have hi : (s.dev.wdogArmed && s.runs) = true ↔ due := by
      rw [Bool.and_eq_true, and_comm]
      exact Iff.rfl
    exact ⟨fun h => congrArg done (if_pos (hi.2 h)), fun h => congrArg done (if_neg fun e => h (hi.1 e))⟩
  · exact congrArg done (if_pos hp)
  · exact congrArg done (if_neg (Bool.eq_false_iff.1 hp))
  · intro may
    exact ⟨fun h => congrArg done (s.goodRise_eq.trans (if_pos h)), fun h => congrArg done (s.goodRise_eq.trans (if_neg h))⟩
  · intro t
    have he := t.goodRise_eq
    refine ⟨fun ht hp hs => congrArg done ((if_pos ht).trans (he.trans (if_pos ⟨hp, hs, rfl⟩))),
      fun ht h => congrArg done ((if_pos ht).trans (he.trans (if_neg ?_))), fun ht => congrArg done (if_neg (Bool.eq_false_iff.1 ht))⟩
    rintro ⟨hp, hs, -⟩
    rcases h with h | h
    · exact Bool.false_ne_true (hp.symm.trans h)
    · exact Bool.false_ne_true (h.symm.trans hs)
  · intro c x own
    have hx : (s.woken c).pitch p.toNat = x := State.woken_pitch ..
    have hb (h : p.toNat < 16 ∧ x.built = true) := State.resetPitchRep_built (s := s.woken c) (hx.symm ▸ h) ⟨c, (s.woken c).epoch⟩
    have hlater {t : State} (e : (s.woken c).resetPitchRep ⟨c, (s.woken c).epoch⟩ p.toNat = .wait t) : exec c s = .next (finish t) :=
      done_runMsg_later (f := fun t => t.resetPitchRep ⟨c, t.epoch⟩ p.toNat) ha e
    rw [hx, State.epoch_woken] at hb
    rw [State.epoch_woken] at hlater
    refine ⟨fun h1 h2 h3 => ?_, fun o h1 h2 h3 => ?_, fun hn => ?_⟩
    · exact hlater ((hb ⟨h1, h2⟩).trans (by rw [h3]; rfl))
    · exact hlater ((hb ⟨h1, h2⟩).trans (by rw [h3]; rfl))
    · exact done_runMsg (f := fun t => t.resetPitchRep ⟨c, t.epoch⟩ p.toNat) ha (if_neg (hx.symm ▸ hn))

end Sys2Proof.Machine
end

section
/-!
SUPPORT and proof of O47: staging, commits and rolls (17 R445 to R449).
-/

namespace Sys2Proof.Machine

/-! ### Staging, commits and rolls (17 R445 to R449) -/

theorem State.stageRep_ok {s : State} {d : List Byte} (h : stageStatus s.cfg.stagedBytes (parseRecs (d.length + 1) d) = 0) :
    s.stageRep d =
      let n := s.cfg.stagedBytes + (((parseRecs (d.length + 1) d).getD []).map recSize).sum
      .ok { s with cfg := { s.cfg with staged := s.cfg.staged ++ (parseRecs (d.length + 1) d).getD [], stagedBytes := n } } (leBytes 4 n) :=
  if_neg (not_not.2 h)

theorem State.stageRep_refused {s : State} {d : List Byte} (h : stageStatus s.cfg.stagedBytes (parseRecs (d.length + 1) d) ≠ 0) :
    s.stageRep d = .no s (stageStatus s.cfg.stagedBytes (parseRecs (d.length + 1) d)) := if_pos h

theorem State.commitRep_empty {s : State} (h : s.cfg.staged = []) : s.commitRep = .no s 0x50B := if_pos (by rw [h]; rfl)

theorem State.commitRep_rolling {s : State} (h : s.cfg.staged ≠ []) (hr : s.cfg.rolling = true) : s.commitRep = .no s 0x50C :=
  (if_neg (by simpa using h)).trans (if_pos hr)

theorem State.commitRep_taken {s : State} {g : Cfg} {u : Nat} (hg : s.cfg = g) (hu : s.uptime = u) (h : g.staged ≠ [])
    (hr : g.rolling = false) : s.commitRep =
    let e := nextEpoch g.epoch
    let c : Commit := { recs := g.staged.zipIdx.map (fun p => (p.2, p.1)), epoch := e, since := u }
    .ok { s with cfg := { g with staged := [], stagedBytes := 0, commit := some c, rolling := true, rollEpoch := e } } (leBytes 4 e) := by
  subst hg hu
  exact (if_neg (by simpa using h)).trans (if_neg (Bool.eq_false_iff.1 hr))

theorem State.applyAll_nil (s : State) : s.applyAll [] = s := rfl

theorem Cfg.toApply_empty {c : Cfg} (h : c.toApply = []) : { c with toApply := [] } = c := by rw [← h]

/-- With nothing waiting, no class has anything to apply. -/
theorem State.applyClass_none {s : State} (h : s.cfg.toApply = []) (k : RecClass) : s.applyClass k = s := by
  have hl : s.recsOf k = [] := by rw [State.recsOf, h, List.filter_nil]
  unfold State.applyClass
  rw [hl, State.applyAll_nil, h, List.filter_nil, Cfg.toApply_empty h]

theorem State.nextRoll_none {s : State} (h : s.cfg.toApply = []) (hp : s.builtPitches.filter (fun p => (s.pitch p).roll) = []) :
    s.nextRoll = { s with cfg := { s.cfg with rolling := s.cfg.commit.isSome, drainFrom := none } } := by
  unfold State.nextRoll State.orphanRecs
  rw [State.applyClass_none h]
  simp only [hp, List.head?_nil]

/-- A commit is not due while a domain ticks, or before its time. -/
theorem not_commitDue_iff (a b : Bool) (c : Option Commit) (n u : Nat) :
    (a || b || !c.any (fun k => decide (k.since + n ≤ u))) = true ↔
      ¬ (a = false ∧ b = false ∧ ∃ k, c = some k ∧ k.since + n ≤ u) := by
  cases c <;> cases a <;> cases b <;> simp

theorem State.commitTimer_eq (s : State) : s.commitTimer =
    if s.td0.ticking = false ∧ s.td1.ticking = false ∧ ∃ k, s.cfg.commit = some k ∧ k.since + 1000000 ≤ s.uptime then s.commitApply 0
    else s := by
  have hi := not_commitDue_iff s.td0.ticking s.td1.ticking s.cfg.commit 1000000 s.uptime
  unfold State.commitTimer
  by_cases h : s.td0.ticking = false ∧ s.td1.ticking = false ∧ ∃ k, s.cfg.commit = some k ∧ k.since + 1000000 ≤ s.uptime
  · rw [if_pos h, if_neg fun e => hi.1 e h]
  · rw [if_neg h, if_pos (hi.2 h)]

theorem State.epochRecord_cfg (s : State) (u d e : Nat) : (s.epochRecord u d e).cfg = s.cfg := by
  unfold State.epochRecord
  exact State.record_cfg ..

theorem State.builtPitches_of {s t : State} (h : t.pitches = s.pitches) : t.builtPitches = s.builtPitches := by
  rw [State.builtPitches, State.builtPitches, h]

/-- A commit of no records on a device without Pitches leaves its records and its epoch before the next roll begins. -/
theorem State.commitApply_noRecs {s : State} {k : Commit} (hk : s.cfg.commit = some k) (hr : k.recs = []) (hb : s.builtPitches = [])
    (dom : Nat) : ∃ t : State, s.commitApply dom = t.nextRoll.rollsIdle ∧ t.builtPitches = [] ∧
      t.cfg = { s.cfg with commit := none, toApply := [], epoch := k.epoch } := by
  unfold State.commitApply
  split
  · next h =>
    rw [hk] at h
    cases h
  · next c h =>
    rw [hk] at h
    cases h
    extract_lets c0 s1 s2 ps s3 c3 s4 s5 still
    have e1 : s1.cfg = { s.cfg with commit := none, toApply := [] } := by rw [← hr]
    have t1 : s1.cfg.toApply = [] := by rw [e1]
    have e2 : s2 = s1 := State.applyClass_none t1 .device
    have eps : ps = [] := by
      unfold ps
      rw [e2, show s1.builtPitches = [] from hb]
      rfl
    have e3 : s3 = s1 := by
      unfold s3
      rw [eps, e2]
      rfl
    have e4 : s4.cfg = { s.cfg with commit := none, toApply := [], epoch := k.epoch } := by
      change { s3.cfg with epoch := k.epoch } = _
      rw [e3, e1]
    have e5 : s5.cfg = { s.cfg with commit := none, toApply := [], epoch := k.epoch } :=
      (State.event_cfg ..).trans ((State.epochRecord_cfg ..).trans e4)
    have hp : s5.pitches = s4.pitches := (State.event_pitches ..).trans (State.record_pitches ..)
    have hp4 : s4.pitches = s.pitches := by
      change s3.pitches = s.pitches
      rw [e3]
    have t5 : s5.cfg.toApply = [] := by rw [e5]
    refine ⟨s5, ?_, (State.builtPitches_of (hp.trans hp4)).trans hb, e5⟩
    rw [State.each_inv (P := fun t => t = s5) still (fun t d _ ht => by rw [ht]; exact State.applyClass_none t5 _) s5 rfl]

/-- With nothing to apply and no Pitch that could roll, rolling is over. -/
theorem State.rollsIdle_bare {t : State} (ha : t.cfg.toApply = []) (hb : t.builtPitches = []) (hc : t.cfg.commit = none) :
    t.nextRoll.rollsIdle = { t with cfg := { t.cfg with rolling := false, drainFrom := none } } := by
  rw [State.nextRoll_none ha (by rw [hb]; rfl), hc]
  unfold State.rollsIdle State.rollFix
  rw [if_neg (by simp)]
  change State.each _ t.builtPitches _ = _
  rw [hb]
  rfl

theorem State.rollIdle_ticks {s : State} {p : Nat} (h : (s.td (s.pitchDom p)).ticking = true ∨ s.cfg.commit.isSome = true) :
    s.rollIdle p = s := if_pos (by simpa using h)

theorem State.rollEnd_eq (s : State) (p : Nat) : s.rollEnd p = if s.draining p = true ∧ s.pitchQuiet p = true then
    ((s.applyClass (.pitch p)).adopt p (s.cycle - s.cfg.drainFrom.getD s.cycle)).nextRoll else s := by
  unfold State.rollEnd
  exact if_congr (Bool.and_eq_true_iff ..) rfl rfl

/-- A Pitch that adopts has the epoch of its roll, and rolls no longer. -/
theorem State.adopt_frame (s : State) (p d : Nat) : (s.adopt p d).cfg = s.cfg ∧ (s.adopt p d).streams = s.streams ∧
    (s.adopt p d).execs = s.execs ∧
    ∀ q, (s.adopt p d).pitch q = (s.updPitch p (fun x => { x with epoch := s.cfg.rollEpoch, roll := false })).pitch q := by
  refine ⟨?_, ?_, ?_, fun q => State.pitch_of_pitches ?_ q⟩
  · exact (State.event_cfg ..).trans (State.record_cfg ..)
  · exact (State.event_streams ..).trans (State.record_streams ..)
  · exact (State.event_execs ..).trans (State.record_execs ..)
  · exact (State.event_pitches ..).trans (State.record_pitches ..)

/-- Settles O47, from what staging, a commit, its timer and the end of a roll each do. -/
theorem configuration : Obligations.Configuration := by
  unfold Obligations.Configuration
  refine ⟨fun h d s ha => ?_, fun h s ha => ?_, fun s => ?_, fun p s => ?_⟩
  · intro c l n
    have hcfg : (s.woken c).cfg = s.cfg := State.woken_cfg ..
    refine ⟨fun h0 => ?_, fun st hst h0 => ?_⟩
    · have hr := State.stageRep_ok (s := s.woken c) (d := d) (by rw [hcfg]; exact h0)
      rw [hcfg] at hr
      exact done_runMsg (f := fun t => t.stageRep d) ha hr
    · have hr := State.stageRep_refused (s := s.woken c) (d := d) (by rw [hcfg]; exact h0 ▸ hst)
      rw [hcfg] at hr
      exact h0 ▸ done_runMsg (f := fun t => t.stageRep d) ha hr
  · intro c
    have hcfg : (s.woken c).cfg = s.cfg := State.woken_cfg ..
    refine ⟨fun h0 => ?_, fun h0 hr => ?_, fun h0 hr => ?_⟩
    · exact done_runMsg (f := State.commitRep) ha (State.commitRep_empty (by rw [hcfg]; exact h0))
    · exact done_runMsg (f := State.commitRep) ha (State.commitRep_rolling (by rw [hcfg]; exact h0) (by rw [hcfg]; exact hr))
    · intro e k
      exact done_runMsg (f := State.commitRep) ha (State.commitRep_taken hcfg (State.woken_uptime ..) h0 hr)
  · intro due
    have he := s.commitTimer_eq
    refine ⟨fun h => congrArg done (he.trans (if_pos h)), fun h => congrArg done (he.trans (if_neg h)), fun k h hk hr hb => ?_⟩
    obtain ⟨t, ht, htb, htc⟩ := State.commitApply_noRecs hk hr hb 0
    have hrun := (he.trans (if_pos h)).trans (ht.trans (State.rollsIdle_bare (by rw [htc]) htb (by rw [htc])))
    exact ⟨_, congrArg done hrun, congrArg Cfg.epoch htc, congrArg Cfg.commit htc, rfl⟩
  · intro ticks drained d
    have he := s.rollEnd_eq p
    have hd (h : ticks) : s.drainDone p = s.rollEnd p := congrArg (fun t => State.rollEnd t p) (State.rollIdle_ticks h)
    refine ⟨fun ht h => congrArg done ((hd ht).trans (he.trans (if_pos h))), fun ht h => congrArg done ((hd ht).trans (he.trans (if_neg h))),
      fun ht => rfl, fun hro hco hn hdf hb hrp htk hq ha hothers => ?_⟩
    have hdr : s.draining p = true := by simp [State.draining, hdf, hn]
    obtain ⟨a1, a2, a3, a4⟩ := s.adopt_frame p (s.cycle - s.cfg.drainFrom.getD s.cycle)
    have hrun := (hd (.inl htk)).trans (he.trans (if_pos ⟨hdr, hq⟩))
    rw [State.applyClass_none ha, State.nextRoll_none (by rw [a1]; exact ha) ?_] at hrun
    · refine ⟨_, congrArg done hrun, ?_, ?_, ?_, a2, a3⟩
      · exact (congrArg Pitch.epoch (a4 p)).trans (by rw [State.pitch_updPitch])
      · exact (congrArg Pitch.roll (a4 p)).trans (by rw [State.pitch_updPitch])
      · change (State.cfg _).commit.isSome = false
        rw [a1, hco]
        rfl
    · refine List.filter_eq_nil_iff.2 fun q _ => ?_
      rw [a4]
      by_cases hqp : q = p.val
      · subst hqp
        rw [State.pitch_updPitch]
        exact Bool.false_ne_true
      · rw [State.pitch_updPitch_ne _ hqp, hothers q hqp]
        exact Bool.false_ne_true

end Sys2Proof.Machine
end

section
/-!
SUPPORT: what the shared operations leave of the device, the flash and security.
-/

namespace Sys2Proof.Machine

/-! ### What ending a context's work leaves alone -/

/-- The device's own state, the flash and what security keeps stay: a lemma `f_kern` says so of `f`. -/
@[simp] abbrev State.KernFrame (s t : State) : Prop := t.dev = s.dev ∧ t.flash = s.flash ∧ t.sec = s.sec

theorem State.KernFrame.trans {s t u : State} (h : s.KernFrame t) (k : t.KernFrame u) : s.KernFrame u := by
  obtain ⟨h1, h2, h3⟩ := h
  obtain ⟨k1, k2, k3⟩ := k
  exact ⟨k1.trans h1, k2.trans h2, k3.trans h3⟩

@[simp] theorem State.dev_ite (c : Prop) [Decidable c] (a b : State) : (if c then a else b).dev = if c then a.dev else b.dev :=
  apply_ite State.dev c a b

@[simp] theorem State.flash_ite (c : Prop) [Decidable c] (a b : State) : (if c then a else b).flash = if c then a.flash else b.flash :=
  apply_ite State.flash c a b

@[simp] theorem State.sec_ite (c : Prop) [Decidable c] (a b : State) : (if c then a else b).sec = if c then a.sec else b.sec :=
  apply_ite State.sec c a b

@[simp] theorem State.cond_kern {f : State → State} (h : ∀ t : State, t.KernFrame (f t)) (s : State) (b : Bool) :
    s.KernFrame (s.cond b f) := by
  cases b
  · exact ⟨rfl, rfl, rfl⟩
  · exact h s

@[simp] theorem State.foldl_kern {α : Type} {f : State → α → State} (h : ∀ (t : State) x, t.KernFrame (f t x)) (s : State) (l : List α) :
    s.KernFrame (l.foldl f s) :=
  State.each_inv (P := s.KernFrame) l (fun t x _ ht => ht.trans (h t x)) s ⟨rfl, rfl, rfl⟩

@[simp] theorem State.each_kern {α : Type} {f : State → α → State} (h : ∀ (t : State) x, t.KernFrame (f t x)) (s : State) (l : List α) :
    s.KernFrame (s.each l f) := State.foldl_kern h s l

@[simp] theorem State.updChan_kern (s : State) (n : Nat) (f : Chan → Chan) : s.KernFrame (s.updChan n f) := ⟨rfl, rfl, rfl⟩

@[simp] theorem State.updPort_kern (s : State) (n : Nat) (f : Port → Port) : s.KernFrame (s.updPort n f) := ⟨rfl, rfl, rfl⟩

@[simp] theorem State.updExec_kern (s : State) (n : Nat) (f : Exec → Exec) : s.KernFrame (s.updExec n f) := ⟨rfl, rfl, rfl⟩

@[simp] theorem State.updKiosk_kern (s : State) (n : Nat) (f : Kiosk → Kiosk) : s.KernFrame (s.updKiosk n f) := ⟨rfl, rfl, rfl⟩

@[simp] theorem State.setRefcnt_kern (s : State) (v n : Nat) :
    s.KernFrame (s.setRefcnt v n) := by
  simp [State.setRefcnt]

@[simp] theorem State.dropRef_kern (s : State) (v : Nat) :
    s.KernFrame (s.dropRef v) := by
  simp [State.dropRef]

@[simp] theorem State.updModel_kern (s : State) (p id : Nat) (f : Model → Model) : s.KernFrame (s.updModel p id f) := ⟨rfl, rfl, rfl⟩

@[simp] theorem State.leaveFrame_kern (s : State) (i : Nat) : s.KernFrame (s.leaveFrame i) := ⟨rfl, rfl, rfl⟩

@[simp] theorem State.updBatch_kern (s : State) (b : Nat) (f : Batch → Batch) : s.KernFrame (s.updBatch b f) := ⟨rfl, rfl, rfl⟩

@[simp] theorem State.dropBatches_kern (s : State) : s.KernFrame (s.dropBatches) := ⟨rfl, rfl, rfl⟩

@[simp] theorem State.leaveBatch_kern (s : State) (i : Nat) : s.KernFrame (s.leaveBatch i) := ⟨rfl, rfl, rfl⟩

@[simp] theorem State.freeSlot_kern (s : State) (q n k : Nat) : s.KernFrame (s.freeSlot q n k) := by
  unfold State.freeSlot
  split <;> simp

@[simp] theorem State.releaseSlot_kern (s : State) (i : Nat) : s.KernFrame (s.releaseSlot i) := by
  simp [State.releaseSlot]

@[simp] theorem State.wprot_kern (s : State) (q : Nat) : s.KernFrame (s.wprot q) := ⟨rfl, rfl, rfl⟩

@[simp] theorem State.rbBytes_kern (s : State) (w n : Nat) : s.KernFrame (s.rbBytes w n) := ⟨rfl, rfl, rfl⟩

@[simp] theorem State.chanDrop_kern (s : State) (n a : Nat) : s.KernFrame (s.chanDrop n a) := by
  unfold State.chanDrop
  split <;> simp

@[simp] theorem State.chanBytes_kern (s : State) (n a : Nat) : s.KernFrame (s.chanBytes n a) := by
  simp [State.chanBytes]

@[simp] theorem State.statusWrite_kern (s0 : State) (n : Nat) (d : Desc) (cause len : Nat) :
    s0.KernFrame (s0.statusWrite n d cause len) := by
  simp [State.statusWrite]

@[simp] theorem State.withdraw_kern (s : State) (n : Nat) : s.KernFrame (s.withdraw n) := by
  simp [State.withdraw]

@[simp] theorem State.raiseTx_kern (s : State) (p : Nat) : s.KernFrame (s.raiseTx p) := by
  unfold State.raiseTx
  split <;> simp

@[simp] theorem State.raiseRx_kern (s : State) (p : Nat) : s.KernFrame (s.raiseRx p) := by
  unfold State.raiseRx
  split <;> simp

@[simp] theorem State.raiseFree_kern (s : State) (n : Nat) : s.KernFrame (s.raiseFree n) := by
  simp [State.raiseFree]

@[simp] theorem State.raiseFor_kern (s : State) (n : Nat) : s.KernFrame (s.raiseFor n) := by
  simp [State.raiseFor]

@[simp] theorem State.goChan_kern (s : State) (n : Nat) : s.KernFrame (s.goChan n) := by
  unfold State.goChan
  split <;> simp

@[simp] theorem State.endChan_kern (s : State) (n cause : Nat) :
    s.KernFrame (s.endChan n cause) := by
  simp only [State.endChan]
  split
  · split
    · simp
    · split <;> simp
  · simp

@[simp] theorem State.cancelGen_kern (s : State) (e : Nat) :
    s.KernFrame (s.cancelGen e) := by
  simp [State.cancelGen]

@[simp] theorem State.autoStart_kern (s : State) (n : Nat) : s.KernFrame (s.autoStart n) := by
  unfold State.autoStart
  dsimp only
  split <;> simp

@[simp] theorem State.trigger_kern (s : State) (n : Nat) (gen : Option Nat) : s.KernFrame (s.trigger n gen) := by
  simp [State.trigger]

@[simp] theorem State.triggerAll_kern (s : State) (src : Nat) (p : Nat → Bool) (gen : Option Nat) :
    s.KernFrame (s.triggerAll src p gen) := by
  simp [State.triggerAll]

@[simp] theorem State.setTst_kern (s : State) (n : Nat) (t : Tstl) : s.KernFrame (s.setTst n t) := ⟨rfl, rfl, rfl⟩

@[simp] theorem State.putTst_kern (s : State) (n : Nat) (t : Tstl) : s.KernFrame (s.putTst n t) := by
  simp [State.putTst]

@[simp] theorem State.resetTst_kern (s : State) (n : Nat) : s.KernFrame (s.resetTst n) := by
  simp [State.resetTst]

@[simp] theorem State.freeTsts_kern (s : State) (l : List Nat) : s.KernFrame (s.freeTsts l) := by
  simp [State.freeTsts]

@[simp] theorem State.removeExec_kern (s : State) (id : Nat) : s.KernFrame (s.removeExec id) := by
  unfold State.removeExec
  split <;> simp

@[simp] theorem State.deadRows_kern (s : State) (i : Nat) : s.KernFrame (s.deadRows i) := by
  simp [State.deadRows]

@[simp] theorem State.unflight_kern (s : State) (e : Exec) : s.KernFrame (s.unflight e) := by
  simp [State.unflight]

@[simp] theorem State.newExec_kern (s : State) (k : Sub) (m : Model) (q : Nat) (be : Bool) (rows : List Row) (deadline : Nat) :
    s.KernFrame (s.newExec k m q be rows deadline) := ⟨rfl, rfl, rfl⟩

@[simp] theorem State.recut_kern (s : State) (e : Exec) : s.KernFrame (s.recut e) := by
  unfold State.recut
  split
  · exact ⟨rfl, rfl, rfl⟩
  · refine State.each_kern (fun t i => ?_) _ _
    refine State.each_kern (fun u c => ?_) _ _
    exact ⟨rfl, rfl, rfl⟩

@[simp] theorem State.cutOff_kern (s : State) (id : Nat) : s.KernFrame (s.cutOff id) := by
  unfold State.cutOff
  split
  · exact ⟨rfl, rfl, rfl⟩
  · simp

@[simp] theorem State.cancelExec_kern (s : State) (id : Nat) :
    s.KernFrame (s.cancelExec id) := by
  unfold State.cancelExec
  split <;> simp

@[simp] theorem State.completeCancel_kern (s : State) (id : Nat) : s.KernFrame (s.completeCancel id) := by
  unfold State.completeCancel
  split <;> simp

@[simp] theorem State.killExec_kern (s : State) (id : Nat) :
    s.KernFrame (s.killExec id) := by
  simp [State.killExec]

@[simp] theorem State.dropSwaps_kern (s : State) (i : Nat) : s.KernFrame (s.dropSwaps i) := by
  refine State.foldl_kern (fun t o => ?_) s _
  cases o <;> simp

@[simp] theorem State.cancelExport_kern (s : State) (i : Nat) (lost : Bool) : s.KernFrame (s.cancelExport i lost) := by
  unfold State.cancelExport
  dsimp only
  split <;> simp

@[simp] theorem State.groupTidy_kern (s : State) (g : Option Nat) : s.KernFrame (s.groupTidy g) := by
  unfold State.groupTidy
  split <;> simp

@[simp] theorem State.finishClose_kern (s : State) (i : Nat) (quiet : Bool) :
    s.KernFrame (s.finishClose i quiet) := by
  simp [State.finishClose]

@[simp] theorem State.dropTarget_kern (s : State) (i : Nat) : s.KernFrame (s.dropTarget i) := by
  refine State.foldl_kern (fun t o => ?_) s _
  cases o <;> simp

@[simp] theorem State.closeNow_kern (s : State) (i : Nat) (quiet : Bool) :
    s.KernFrame (s.closeNow i quiet) := by
  simp [State.closeNow]

@[simp] theorem State.faultRecord_kern (s : State) (subject dom code cls idx : Nat) :
    s.KernFrame (s.faultRecord subject dom code cls idx) := by
  simp [State.faultRecord]

@[simp] theorem State.memberLost_kern (s : State) (i code : Nat) : s.KernFrame (s.memberLost i code) := by
  unfold State.memberLost
  dsimp only
  split <;> simp

@[simp] theorem State.faultStream_kern (s : State) (i code : Nat) (quiet : Bool) :
    s.KernFrame (s.faultStream i code quiet) := by
  simp [State.faultStream]

@[simp] theorem State.removeModel_kern (s : State) (p id : Nat) : s.KernFrame (s.removeModel p id) := by
  simp [State.removeModel]

@[simp] theorem State.refuseLoad_kern (s : State) (p st : Nat) : s.KernFrame (s.refuseLoad p st) := by
  simp [State.refuseLoad]

@[simp] theorem State.concludeLater_kern (s : State) (m : PendMsg) (st : Nat) (pay : List Byte) :
    s.KernFrame (s.concludeLater m st pay) := by
  unfold State.concludeLater
  split <;> simp

@[simp] theorem State.dropLoads_kern (s : State) (c : Nat) :
    s.KernFrame (s.dropLoads c) := by
  simp [State.dropLoads]

@[simp] theorem State.nextCopy_kern (s : State) (p : Nat) : s.KernFrame (s.nextCopy p) := by
  unfold State.nextCopy
  dsimp only
  (repeat' split) <;> simp

@[simp] theorem State.teardown_kern (s : State) (c : Nat) : s.KernFrame (s.teardown c) := by
  simp [State.teardown]

@[simp] theorem State.resetPitch_kern (s : State) (p code arg : Nat) (bad : List Nat) :
    s.KernFrame (s.resetPitch p code arg bad) := by
  simp [State.resetPitch]

@[simp] theorem State.ctxFaultEvent_kern (s : State) (c code p torn : Nat) :
    s.KernFrame (s.ctxFaultEvent c code p torn) := by
  simp [State.ctxFaultEvent]

@[simp] theorem State.contextFault_kern (s : State) (c code : Nat) : s.KernFrame (s.contextFault c code) := by
  unfold State.contextFault
  extract_lets x p us col s1 same isK ks s2 s3 gone s4 r1 r2
  split
  · exact ⟨rfl, rfl, rfl⟩
  · split
    · have w1 : s.KernFrame s1 := State.each_kern (fun t id => by simp) _ _
      have w3 : s2.KernFrame s3 := State.each_kern (fun t id => by simp) _ _
      have w4 : s3.KernFrame s4 := State.each_kern (fun t id => by simp) _ _
      exact ((w1.trans w3).trans w4).trans (by simp)
    · have wr : s.KernFrame r1 := State.resetPitch_kern ..
      split
      · exact (wr.trans (State.foldl_kern (fun t i => by simp) r2 _)).trans (State.ctxFaultEvent_kern ..)
      · exact wr

@[simp] theorem State.execFault_kern (s : State) (id code : Nat) :
    s.KernFrame (s.execFault id code) := by
  unfold State.execFault
  split <;> simp

end Sys2Proof.Machine
end

section
/-!
SUPPORT and proof of O48: attestation, policies and debug levels (18 R460 to R475).
-/

namespace Sys2Proof.Machine

/-! ### Attestation, policies and debug levels (18 R460 to R475) -/

theorem State.excFault_kern (s : State) (k c : Nat) : s.KernFrame (s.excFault k c) := by
  unfold State.excFault
  split
  · exact State.execFault_kern ..
  · exact ⟨rfl, rfl, rfl⟩

theorem State.excRelease_kern (s : State) (k : Nat) : s.KernFrame (s.excRelease k) := by
  unfold State.excRelease
  split
  · exact State.KernFrame.trans (t := s.updKiosk k (fun x => { x with held := none })) ⟨rfl, rfl, rfl⟩ (State.excFault_kern ..)
  · exact ⟨rfl, rfl, rfl⟩

theorem State.releaseExcs_kern (s : State) : s.KernFrame s.releaseExcs :=
  State.each_kern (fun t k => t.excRelease_kern k) s _

/-- No exception is held: none proceeds. -/
theorem State.releaseExcs_none {s : State} (h : ∀ k, (s.kiosk k).held = none) : s.releaseExcs = s :=
  State.each_inv (P := fun t => t = s) _ (fun t k _ ht => by rw [ht, State.excRelease_none (h k)]) s rfl

/-- What a change of level leaves of security, and that it leaves the device and the flash. -/
theorem State.levelTo_kern (s : State) (l k : Nat) : (s.levelTo l k).dev = s.dev ∧ (s.levelTo l k).flash = s.flash ∧
    (s.levelTo l k).sec = { s.sec with level := l, maxSeen := if s.sec.level = l then s.sec.maxSeen else max s.sec.maxSeen l } := by
  unfold State.levelTo
  extract_lets old x s1
  split
  · next h => exact ⟨rfl, rfl, by rw [← h]⟩
  · next h =>
    obtain ⟨h1, h2, h3⟩ : s1.KernFrame (s1.cond (decide (l < 2)) State.releaseExcs) := State.cond_kern State.releaseExcs_kern ..
    exact ⟨h1.trans (State.event_dev ..), h2.trans (State.event_flash ..), h3.trans (State.event_sec ..)⟩

/-- Where no exception is held a change of level leaves streams and executions. -/
theorem State.levelTo_work {s : State} (h : ∀ k, (s.kiosk k).held = none) (l k : Nat) :
    (s.levelTo l k).streams = s.streams ∧ (s.levelTo l k).execs = s.execs := by
  unfold State.levelTo
  extract_lets old x s1
  split
  · exact ⟨rfl, rfl⟩
  · have hk : s1.kiosks = s.kiosks := State.event_kiosks ..
    have hn : s1.releaseExcs = s1 := State.releaseExcs_none fun k => by
      rw [State.kiosk, hk]
      exact h k
    have hc : s1.cond (decide (l < 2)) State.releaseExcs = s1 := by
      unfold State.cond
      split
      · exact hn
      · rfl
    rw [hc]
    exact ⟨State.event_streams .., State.event_execs ..⟩

theorem State.attestRep_free {s : State} (h : s.sec.signer = none) (hid : s.sec.idOk = true) (i : Instr) (n : Nat) (k : List Byte) :
    s.attestRep i n k = .wait { s with sec := { s.sec with signer := some ⟨⟨i, s.epoch⟩, s.report k⟩ } } :=
  (if_neg (by simp [h])).trans (if_neg (by simp [hid]))

theorem State.attestRep_noId {s : State} (h : s.sec.signer = none) (hid : s.sec.idOk = false) (i : Instr) (n : Nat) (k : List Byte) :
    s.attestRep i n k = .no s 0x608 := (if_neg (by simp [h])).trans (if_pos (by simp [hid]))

theorem State.attestRep_busy {s : State} (h : s.sec.signer.isSome = true) (i : Instr) (n : Nat) (k : List Byte) :
    s.attestRep i n k = .no (s.signerBusy n) 0x607 := if_pos h

theorem State.signerBusy_new {s : State} {n : Nat} (h : n ∉ s.sec.refused) :
    s.signerBusy n = { s with sec := { s.sec with refused := s.sec.refused ++ [n] } } := if_neg (by simpa using h)

theorem State.signerBusy_known {s : State} {n : Nat} (h : n ∈ s.sec.refused) : s.signerBusy n = s := if_pos (by simpa using h)

theorem State.signDone_some {s : State} {j : SignJob} (h : s.sec.signer = some j) :
    s.signDone = (s.concludeLater j.msg 0 (withSigs j.report)).signerFree := by
  unfold State.signDone
  simp only [h]

theorem State.signDone_none {s : State} (h : s.sec.signer = none) : s.signDone = s := by
  unfold State.signDone
  simp only [h]

theorem State.debugRep_range {s : State} {n l : Nat} (h : 3 < l) (ts : List (List Byte)) :
    s.debugRep n l ts = .no (s.inc .secRefCnt) 0x60A := if_pos h

theorem State.debugRep_lower {s : State} {n l : Nat} (h : l ≤ 3) (hl : l ≤ s.sec.level) (ts : List (List Byte)) :
    s.debugRep n l ts = .ok ((s.levelTo l 0).levelRecord l) := (if_neg (Nat.not_lt.2 h)).trans (if_pos hl)

theorem State.debugRep_free {s : State} {n l : Nat} (h : l ≤ 3) (hl : s.sec.level < l) (hf : l ≤ s.freeLevel) (ts : List (List Byte)) :
    s.debugRep n l ts = .ok ((s.levelTo l 0).levelRecord l).newChallenge :=
  (if_neg (Nat.not_lt.2 h)).trans ((if_neg (Nat.not_le.2 hl)).trans (if_pos hf))

/-- The status of the tokens for a debug level. -/
def State.levelStatus (s : State) (l : Nat) (ts : List (List Byte)) : Nat :=
  firstFail (s.tokenRows ⟨1, fitTo 48 s.sec.challenge, s.flash.ctr2⟩ l ts)

theorem State.debugRep_tokens {s : State} {n l : Nat} (h : l ≤ 3) (hl : s.sec.level < l) (hf : s.freeLevel < l) (ts : List (List Byte)) :
    s.debugRep n l ts = if s.levelStatus l ts ≠ 0 then .no (s.authRefused n (s.levelStatus l ts) 0x82) (s.levelStatus l ts)
      else .ok (((s.levelTo l (countTokens (ts.filter (fun t => decide (l ≤ leAt t 6 1))))).levelRecord l).newChallenge) :=
  (if_neg (Nat.not_lt.2 h)).trans ((if_neg (Nat.not_le.2 hl)).trans (if_neg (Nat.not_le.2 hf)))

/-- Without a token the policy's count is missed. -/
theorem State.levelStatus_noTokens {s : State} (h : s.sec.lifecycle ≠ 0) (hp : 1 ≤ s.policyByte 9) (l : Nat) :
    s.levelStatus l [] = 0x604 := by
  have hc : (s.sec.lifecycle == 0 || decide (s.policyByte 9 ≤ countTokens [])) ≠ true := by
    have h0 : countTokens [] = 0 := rfl
    rw [h0]
    simp only [ne_eq, Bool.or_eq_true, beq_iff_eq, decide_eq_true_eq, not_or]
    exact ⟨h, by omega⟩
  simp only [State.levelStatus, State.tokenRows, firstFail, List.all_nil, List.filter_nil, if_true]
  exact if_neg hc

/-- Only a busy signer gives the status of one. -/
theorem State.policyStatus_busy (s : State) (b : List Byte) (ts : List (List Byte)) :
    s.policyStatus b ts = 0x607 ↔ s.sec.signer.isSome = true := by
  simp only [State.policyStatus, State.tokenRows, List.cons_append, List.nil_append, firstFail]
  cases s.sec.signer with
  | none =>
    simp only [Option.isNone_none, if_true, Option.isSome_none, Bool.false_eq_true, iff_false]
    (repeat' split) <;> decide
  | some j => simp

/-- What a policy that comes into force leaves. -/
theorem State.policyInForce_sec (s : State) (b : List Byte) :
    (s.policyInForce b).sec.lifecycle = leAt b 8 1 ∧ (s.policyInForce b).sec.policy = some b ∧
      (s.policyInForce b).flash.ctr2 = s.flash.ctr2 + 1 ∧
      (s.policyInForce b).dev.mgmtReset = (if leAt b 8 1 = 3 then some (s.dev.mgmtReset.getD s.uptime) else s.dev.mgmtReset) := by
  unfold State.policyInForce
  extract_lets life x sec s1 s2 s3 y z s4
  have hc : s2.flash.ctr2 = s.flash.ctr2 + 1 := by
    change (s.flash.putPolicy (withSigs b)).ctr2 = _
    unfold Flash.putPolicy
    split <;> rfl
  have hd : s2.dev = s.dev := rfl
  have hl : s2.sec.lifecycle = life ∧ s2.sec.policy = some b := ⟨rfl, rfl⟩
  have hu : s2.uptime = s.uptime := rfl
  clear_value s2
  have h4 : s4.sec.lifecycle = life ∧ s4.sec.policy = some b ∧ s4.flash.ctr2 = s.flash.ctr2 + 1 ∧
      s4.dev.mgmtReset = (if life = 3 then some (s.dev.mgmtReset.getD s.uptime) else s.dev.mgmtReset) := by
    by_cases h3 : life = 3
    · have e3 : s3 = s2 := if_neg (by simp [h3])
      have e4 : s4 = _ := if_pos h3
      rw [if_pos h3, e4]
      clear_value s3
      subst e3
      exact ⟨hl.1, hl.2, hc, by rw [← hd, ← hu]; rfl⟩
    · have e4 : s4 = s3 := if_neg h3
      rw [if_neg h3, e4]
      unfold s3
      split
      · obtain ⟨k1, k2, k3⟩ := s2.levelTo_kern 0 0
        obtain ⟨r1, r2, r3⟩ : (s2.levelTo 0 0).KernFrame ((s2.levelTo 0 0).levelRecord 0) :=
          ⟨State.record_dev .., State.record_flash .., State.record_sec ..⟩
        rw [r1, r2, r3, k1, k2, k3]
        exact ⟨hl.1, hl.2, hc, by rw [hd]⟩
      · exact ⟨hl.1, hl.2, hc, by rw [hd]⟩
  rw [State.event_sec, State.event_flash, State.event_dev]
  exact h4

/-- Where no exception is held a policy leaves streams and executions. -/
theorem State.policyInForce_work {s : State} (h : ∀ k, (s.kiosk k).held = none) (b : List Byte) :
    (s.policyInForce b).streams = s.streams ∧ (s.policyInForce b).execs = s.execs := by
  unfold State.policyInForce
  extract_lets life x sec s1 s2 s3 y z s4
  have h2 (k : Nat) : (s2.kiosk k).held = none := h k
  have h3 : s3.streams = s.streams ∧ s3.execs = s.execs := by
    unfold s3
    split
    · obtain ⟨k1, k2⟩ := State.levelTo_work h2 0 0
      exact ⟨(State.record_streams ..).trans k1, (State.record_execs ..).trans k2⟩
    · exact ⟨rfl, rfl⟩
  have h4 : s4.streams = s3.streams ∧ s4.execs = s3.execs := by
    unfold s4
    split <;> exact ⟨rfl, rfl⟩
  obtain ⟨k1, k2⟩ := h3
  obtain ⟨r1, r2⟩ := h4
  exact ⟨(State.event_streams ..).trans (r1.trans k1), (State.event_execs ..).trans (r2.trans k2)⟩

theorem State.policyRep_busy {s : State} {b : List Byte} {ts : List (List Byte)} (h : s.policyStatus b ts = 0x607) (n : Nat) :
    s.policyRep n b ts = .no ((s.signerBusy n).authRefused n 0x607 0x80) 0x607 := by
  unfold State.policyRep
  dsimp only
  rw [if_pos h, h]

theorem State.policyRep_refused {s : State} {b : List Byte} {ts : List (List Byte)} {st : Nat} (h : s.policyStatus b ts = st) (h0 : st ≠ 0)
    (hb : st ≠ 0x607) (n : Nat) : s.policyRep n b ts = .no (s.authRefused n st 0x80) st := by
  unfold State.policyRep
  dsimp only
  rw [h, if_neg hb, if_pos h0]

theorem State.policyRep_passes {s : State} {b : List Byte} {ts : List (List Byte)} (h : s.policyStatus b ts = 0) (n : Nat) :
    s.policyRep n b ts = if s.flash.present && s.flash.counterAuth then .ok (s.policyInForce b) else .no s 0x609 := by
  unfold State.policyRep
  dsimp only
  rw [h, if_neg (by decide), if_neg (not_not.2 rfl)]

/-- Settles O48, from what each check of an attestation, a policy and a level answers. -/
theorem security : Obligations.Security := by
  unfold Obligations.Security
  refine ⟨fun h k s ha => ?_, fun s => ⟨fun h0 => congrArg done (State.signDone_none h0), fun j hj => congrArg done (State.signDone_some hj)⟩,
    fun s => rfl, fun h b ts s ha => ?_, fun h l ts s ha => ?_⟩
  · intro c w
    have hsec : w.sec = s.sec := State.woken_sec ..
    have he : w.epoch = s.epoch := State.of_woken s c (f := State.epoch) fun _ => rfl
    refine ⟨fun h0 hid => ?_, fun h0 hid => ?_, fun hb hn => ?_, fun hb hm => ?_⟩
    · have hr := State.attestRep_free (s := w) (hsec ▸ h0) (hsec ▸ hid) c h.session k
      rw [hsec, he] at hr
      exact done_runMsg_later (f := fun t => t.attestRep c h.session k) ha hr
    · exact done_runMsg (f := fun t => t.attestRep c h.session k) ha (State.attestRep_noId (s := w) (hsec ▸ h0) (hsec ▸ hid) ..)
    · have hr := State.attestRep_busy (s := w) (hsec ▸ hb) c h.session k
      rw [State.signerBusy_new (s := w) (hsec ▸ hn), hsec] at hr
      exact done_runMsg (f := fun t => t.attestRep c h.session k) ha hr
    · have hr := State.attestRep_busy (s := w) (hsec ▸ hb) c h.session k
      rw [State.signerBusy_known (s := w) (hsec ▸ hm)] at hr
      exact done_runMsg (f := fun t => t.attestRep c h.session k) ha hr
  · intro c w st told
    have hsec : w.sec = s.sec := State.woken_sec ..
    have hflash : w.flash = s.flash := State.woken_flash ..
    have hst : w.policyStatus b ts = st := State.of_woken s c (f := fun t => t.policyStatus b ts) fun _ => rfl
    have hbusy : st = 0x607 ↔ s.sec.signer.isSome = true := s.policyStatus_busy b ts
    have hr {u : State} {x : Nat} (e : w.policyRep h.session b ts = ⟨x, [], u, false⟩) : exec c s = answered c h s u x [] :=
      done_runMsg (f := fun t => t.policyRep h.session b ts) ha e
    refine ⟨hbusy, fun h0 hor => ?_, fun hb hn => ?_, fun h0 hno => ?_, fun h0 hp hc => ?_⟩
    · by_cases hb : st = 0x607
      · have hm : h.session ∈ w.sec.refused := by
          rw [hsec]
          exact hor.resolve_left (not_not.2 hb)
        have e := State.policyRep_busy (hst.trans hb) h.session
        rw [State.signerBusy_known hm] at e
        have ht : told w = w.authRefused h.session 0x607 0x80 := congrArg (fun x => w.authRefused h.session x 0x80) hb
        rw [ht, hb]
        exact hr e
      · exact hr (State.policyRep_refused hst h0 hb _)
    · have e := State.policyRep_busy (hst.trans hb) h.session
      rw [State.signerBusy_new (s := w) (hsec ▸ hn), hsec] at e
      have ht (u : State) : told u = u.authRefused h.session 0x607 0x80 := congrArg (fun x => u.authRefused h.session x 0x80) hb
      rw [ht, hb]
      exact hr e
    · refine hr ((State.policyRep_passes (hst.trans h0) _).trans (if_neg ?_))
      rw [hflash]
      rcases hno with e | e <;> simp [e]
    · have e := hr ((State.policyRep_passes (hst.trans h0) h.session).trans (if_pos (by rw [hflash, hp, hc]; rfl)))
      obtain ⟨k1, k2, k3, k4⟩ := w.policyInForce_sec b
      have hdev : w.dev = s.dev := State.woken_dev ..
      have hup : w.uptime = s.uptime := State.woken_uptime ..
      refine ⟨e, _, e, ?_⟩
      simp only [finish_sec, finish_flash, finish_dev, finish_streams, finish_execs, State.conclude_sec, State.conclude_flash,
        State.conclude_dev, State.conclude_streams, State.conclude_execs, k1, k2, k3, k4, hflash, hdev, hup, true_and]
      intro hk
      obtain ⟨w1, w2⟩ := State.policyInForce_work (s := w) (fun k => by rw [State.kiosk, State.woken_kiosks]; exact hk k) b
      exact ⟨w1.trans (State.woken_streams ..), w2.trans (State.woken_execs ..)⟩
  · intro c w n st
    have hsec : w.sec = s.sec := State.woken_sec ..
    have hfree : w.freeLevel = s.freeLevel := State.of_woken s c (f := State.freeLevel) fun _ => rfl
    have hst : w.levelStatus n ts = st := State.of_woken s c (f := fun t => t.levelStatus n ts) fun _ => rfl
    have hr {u : State} {x : Nat} (e : w.debugRep h.session n ts = ⟨x, [], u, false⟩) : exec c s = answered c h s u x [] :=
      done_runMsg (f := fun t => t.debugRep h.session l.toNat ts) ha e
    have hlow (h3 : n ≤ 3) (hl : n ≤ s.sec.level) := hr (State.debugRep_lower h3 (hsec ▸ hl) ts)
    have hup (h3 : n ≤ 3) (hl : s.sec.level < n) (hf : n ≤ s.freeLevel) := hr (State.debugRep_free h3 (hsec ▸ hl) (hfree ▸ hf) ts)
    have htok (h3 : n ≤ 3) (hl : s.sec.level < n) (hf : s.freeLevel < n) :=
      State.debugRep_tokens (s := w) (n := h.session) h3 (hsec ▸ hl) (hfree ▸ hf) ts
    have hno (h3 : n ≤ 3) (hl : s.sec.level < n) (hf : s.freeLevel < n) {x : Nat} (hx : st = x) (h0 : x ≠ 0) :
        exec c s = answered c h s (w.authRefused h.session x 0x82) x [] :=
      hr ((htok h3 hl hf).trans (by rw [hst, hx, if_pos h0]; rfl))
    refine ⟨fun h3 => hr (State.debugRep_range h3 ts), hlow, hup, fun h3 hl hf h0 => hno h3 hl hf rfl h0,
      fun h3 hl hf h0 => hr ((htok h3 hl hf).trans (if_neg (not_not.2 (hst.trans h0)))), fun h3 hor hk => ?_, fun h3 hl hf hts hlc hp => ?_⟩
    · have hkw (k : Nat) : (w.kiosk k).held = none := by
        rw [State.kiosk, State.woken_kiosks]
        exact hk k
      obtain ⟨-, -, k3⟩ := w.levelTo_kern n 0
      obtain ⟨w1, w2⟩ := State.levelTo_work hkw n 0
      have r3 : ((w.levelTo n 0).levelRecord n).sec = _ := (State.record_sec ..).trans k3
      have r1 := (State.record_streams (w.levelTo n 0) 8 n (w.levelTo n 0).defaultDom (leBytes 8 0)).trans (w1.trans (State.woken_streams ..))
      have r2 := (State.record_execs (w.levelTo n 0) 8 n (w.levelTo n 0).defaultDom (leBytes 8 0)).trans (w2.trans (State.woken_execs ..))
      rw [hsec] at r3
      by_cases hl : n ≤ s.sec.level
      · refine ⟨_, hlow h3 hl, ?_⟩
        simp only [finish_sec, finish_streams, finish_execs, State.conclude_sec, State.conclude_streams, State.conclude_execs, r3]
        exact ⟨trivial, trivial, trivial, r1, r2⟩
      · refine ⟨_, hup h3 (Nat.lt_of_not_le hl) (hor.resolve_left hl), ?_⟩
        simp only [finish_sec, finish_streams, finish_execs, State.conclude_sec, State.conclude_streams, State.conclude_execs,
          State.newChallenge, r3]
        exact ⟨trivial, trivial, trivial, r1, r2⟩
    · refine hno h3 hl hf ?_ (by decide)
      subst hts
      exact State.levelStatus_noTokens hlc hp n

end Sys2Proof.Machine
end

section
/-!
SUPPORT and proof of O49: power states and the power cap (18 R476 to R482).
-/

namespace Sys2Proof.Machine

/-! ### Power states and the power cap (18 R476 to R482) -/

/-- Whether a Pitch is built or being built. -/
def State.pitchBusy (s : State) : Bool := s.pitches.any (fun e => e.2.built || e.2.building)

theorem State.noPitch_eq (s : State) : s.pitches.all (fun e => !e.2.built && !e.2.building) = !s.pitchBusy := by
  unfold State.pitchBusy
  rw [List.not_any_eq_all_not]
  exact congrArg (fun f => s.pitches.all f) (funext fun e => (Bool.not_or ..).symm)

theorem State.powerRefusal_1 (s : State) : s.powerRefusal 1 = if s.p1Ok = true then 0 else 0x60B := by
  simp [State.powerRefusal, firstFail]

theorem State.powerRefusal_2 (s : State) : s.powerRefusal 2 = if s.p1Ok = true then 0 else 0x60B := by
  simp [State.powerRefusal, firstFail]

theorem State.powerRefusal_3 (s : State) : s.powerRefusal 3 =
    if s.p1Ok = true then (if s.pitchBusy = true then 0x60C else 0) else 0x60B := by
  simp [State.powerRefusal, firstFail, State.noPitch_eq]
  cases s.pitchBusy <;> rfl

theorem State.powerReq_refused {s : State} {k r : Nat} (h : s.powerRefusal k = r) (h0 : r ≠ 0) :
    s.powerReq k = (r, ({ s with pwr := { s.pwr with refuse := r } }).flag .pwrEvt 0 0) := by
  unfold State.powerReq
  dsimp only
  rw [h, if_pos h0]

theorem State.powerReq_P1 {s : State} (h : s.powerRefusal 1 = 0) :
    s.powerReq 1 = (0, if s.pwr.state = 0 then s.powerTo 1 0 else s) := by
  unfold State.powerReq
  dsimp only
  rw [h, if_neg (not_not.2 rfl), if_pos rfl]

theorem State.powerReq_lower {s : State} {k : Nat} (h : s.powerRefusal k = 0) (hk : k ≠ 1) :
    s.powerReq k = if s.pwr.state = 0 then (0, { s with pwr := { s.pwr with target := some k } }) else (0, s) := by
  unfold State.powerReq
  dsimp only
  rw [h, if_neg (not_not.2 rfl), if_neg hk]

theorem State.powerTo_streams (s : State) (k w : Nat) : (s.powerTo k w).streams = s.streams :=
  (State.event_streams ..).trans (State.record_streams ..)
theorem State.powerTo_ctxs (s : State) (k w : Nat) : (s.powerTo k w).ctxs = s.ctxs :=
  (State.event_ctxs ..).trans (State.record_ctxs ..)
theorem State.powerTo_td0 (s : State) (k w : Nat) : (s.powerTo k w).td0 = s.td0 := (State.event_td0 ..).trans (State.record_td0 ..)
theorem State.powerTo_td1 (s : State) (k w : Nat) : (s.powerTo k w).td1 = s.td1 := (State.event_td1 ..).trans (State.record_td1 ..)
theorem State.powerTo_pwr (s : State) (k w : Nat) : (s.powerTo k w).pwr =
    { s.pwr with state := k, target := none, waking := false, entered := s.uptime,
                 wakePend := if k = 0 then none else s.pwr.wakePend, wake := if k = 0 then w else s.pwr.wake } :=
  (State.event_pwr ..).trans (State.record_pwr ..)

/-- A cause is not heard in P0 off the way down, or once another is pending. -/
def Pwr.deaf (p : Pwr) : Prop := p.waking = true ∨ p.wakePend.isSome = true ∨ (p.state = 0 ∧ p.target = none)

theorem State.wake_deaf {s : State} (h : s.pwr.deaf) (c : Nat) : s.wake c = s := by
  unfold State.wake
  split
  · rfl
  · next hn =>
    refine if_pos ?_
    rcases h with h | h | ⟨h, k⟩
    · simp [h] at hn
    · simp [h] at hn
    · simp [h, k]

theorem State.wake_heard {s : State} (h : ¬ s.pwr.deaf) (c : Nat) :
    s.wake c = { s with pwr := { s.pwr with wakePend := some c, waking := decide (s.pwr.state ≠ 0) } } := by
  obtain ⟨h1, h2⟩ := not_or.1 h
  obtain ⟨h2, h3⟩ := not_or.1 h2
  refine (if_neg ?_).trans (if_neg ?_)
  · simpa only [Bool.or_eq_true, not_or] using ⟨h1, h2⟩
  · simpa using h3

theorem State.timerWake_eq (s : State) : s.timerWake =
    if s.bit .pwrCtl 0 8 = true ∧ s.pwr.state ≠ 0 ∧ s.pwr.entered + s.rg .pwrWakeTimer * 1000000 ≤ s.uptime then s.wake 3 else s := by
  unfold State.timerWake
  exact if_congr (by simp [and_assoc]) rfl rfl

theorem State.wakeDone_eq (s : State) : s.wakeDone = if s.pwr.state ≠ 0 ∧ s.pwr.waking = true then
    ({ s.powerBack with pwr := { s.powerBack.pwr with wakeMsgs := [], ingress := 0 } }).each s.pwr.wakeMsgs State.runInstr else s := by
  unfold State.wakeDone
  exact if_congr (by simp) rfl rfl

/-- The state a domain-free wake leaves. -/
theorem State.powerBack_noDoms {s : State} (h : s.pwr.stoppedDoms = []) : s.powerBack =
    { s.powerTo 0 (s.pwr.wakePend.getD 0) with pwr := { (s.powerTo 0 (s.pwr.wakePend.getD 0)).pwr with stoppedDoms := [] } } := by
  unfold State.powerBack
  rw [h]
  rfl

theorem State.powerEntry_stays {s : State} (h : s.pwr.target = none ∨ s.td0.ticking = true ∨ s.td1.ticking = true) : s.powerEntry = s := by
  unfold State.powerEntry
  split
  · rfl
  · next k hk =>
    refine if_pos ?_
    rcases h with h | h | h
    · rw [h] at hk
      cases hk
    · rw [h]
      rfl
    · rw [h, Bool.or_true]

/-- The state in which the domains that acquired have stopped. -/
def State.stopAcquiring (s : State) : State :=
  let u := s.each s.acquiring (fun s d => s.updTd d (fun t => { t with mon := .stopped }))
  { u with pwr := { u.pwr with stoppedDoms := u.pwr.stoppedDoms ++ s.acquiring } }

/-- A lower state is entered. -/
def State.enterPower (s : State) (k : Nat) : State :=
  let x := (if s.hasTwin then s.twinEnd else s).powerTo k 0
  { x with pwr := { x.pwr with waking := x.pwr.wakePend.isSome } }

theorem State.powerEntry_enters {s : State} {k : Nat} (hk : s.pwr.target = some k)
    (h : ¬ (s.pwr.target = none ∨ s.td0.ticking = true ∨ s.td1.ticking = true)) : s.powerEntry = s.stopAcquiring.enterPower k := by
  obtain ⟨-, h⟩ := not_or.1 h
  obtain ⟨h0, h1⟩ := not_or.1 h
  unfold State.powerEntry
  split
  · next e =>
    rw [e] at hk
    cases hk
  · next j e =>
    rw [e] at hk
    cases hk
    exact if_neg (by simp [h0, h1])

theorem TickDom.not_ticking {t : TickDom} (h : t.mon ∈ [Mon.off, Mon.stopped]) : t.ticking = false := by
  rw [List.mem_pair] at h
  unfold TickDom.ticking
  rcases h with h | h <;> rw [h]

theorem State.acquiring_none {s : State} (h0 : s.td0.mon ∈ [Mon.off, Mon.stopped]) (h1 : s.td1.mon ∈ [Mon.off, Mon.stopped]) :
    s.acquiring = [] := by
  rw [List.mem_pair] at h0 h1
  have e (d : Nat) : ((s.td d).mon == .acquire) = false := by
    unfold State.td
    rcases h0 with h0 | h0 <;> rcases h1 with h1 | h1 <;> split <;> simp [h0, h1]
  exact List.filter_eq_nil_iff.2 fun d _ => by simp [e d]

theorem State.powerMeasured_low {s : State} (h : s.pwr.state ≠ 0) (dw : Nat) : s.powerMeasured dw = s.setRg .pwrMeas 0 (min dw 65535) := by
  unfold State.powerMeasured
  exact if_pos h

theorem State.powerMeasured_over {s : State} {dw : Nat} (h : s.pwr.state = 0) (hc : s.fld .pwrCap 0 9 0 * 10 < dw) : s.powerMeasured dw =
    if s.pwr.step < s.clockFloor then (s.setRg .pwrMeas 0 (min dw 65535)).clockStep (s.pwr.step + 1)
    else (s.setRg .pwrMeas 0 (min dw 65535)).capOver dw := by
  unfold State.powerMeasured
  exact (if_neg (not_not.2 h)).trans (if_pos hc)

/-- The calm measurements in a row with this one. -/
def State.calmAfter (s : State) (dw : Nat) : Nat := if dw * 100 ≤ 95 * (s.fld .pwrCap 0 9 0 * 10) then s.pwr.calm + 1 else 0

theorem State.powerMeasured_within {s : State} {dw : Nat} (h : s.pwr.state = 0) (hc : dw ≤ s.fld .pwrCap 0 9 0 * 10) :
    s.powerMeasured dw =
      let u := s.setRg .pwrMeas 0 (min dw 65535)
      let v : State := { u with pwr := { u.pwr with calm := s.calmAfter dw, atFloor := false } }
      if 50 ≤ s.calmAfter dw ∧ s.capShed = false ∧ 0 < s.pwr.step then v.clockStep (s.pwr.step - 1) else v := by
  unfold State.powerMeasured
  refine ((if_neg (not_not.2 h)).trans (if_neg (Nat.not_lt.2 hc))).trans ?_
  exact if_congr (by simp [State.calmAfter, and_assoc]) rfl rfl

theorem State.capOver_calm {s : State} (h : s.capShed = false) (dw : Nat) : s.capOver dw =
    { s with pwr := { s.pwr with atFloor := true, calm := 0, cap0 := s.pwr.cap0.note, cap1 := s.pwr.cap1.note } } := by
  unfold State.capOver
  rw [h]
  rfl

/-- A flag set in a 32-bit register reads 1. -/
theorem State.bit_flag_same (s : State) (r : RegName) (i : Nat) {b : Nat} (h : b < 32) : (s.flag r i b).bit r i b = true := by
  have e : (s.flag r i b).rg r i = (s.rg r i ||| 2 ^ b) % 2 ^ 32 := State.rg_setRg_same ..
  unfold State.bit
  rw [e, Nat.testBit_mod_two_pow, Nat.testBit_or, Nat.testBit_two_pow_self]
  simp [h]

/-- The state in which a missed cap is noted. -/
def State.capMissed (s : State) : State :=
  let s1 : State := { s with pwr := { s.pwr with atFloor := true, calm := 0, cap0 := s.pwr.cap0.note, cap1 := s.pwr.cap1.note } }
  ({ s1 with pwr := { s1.pwr with capMiss := true } }).flag .pwrEvt 0 1

theorem State.capOver_shed {s : State} (h : s.capShed = true) (dw : Nat) : s.capOver dw =
    if s.pwr.capSec = s.second + 1 then s.capMissed
    else ({ s.capMissed with pwr := { s.capMissed.pwr with capSec := s.second + 1 } }).event 0x0B06 0 0 (dw / 10) (1600 - 50 * s.pwr.step) := by
  unfold State.capOver
  rw [h]
  rfl

/-- What a measurement at the floor leaves. -/
theorem State.capOver_pwr (s : State) (dw : Nat) : (s.capOver dw).pwr.atFloor = true ∧ (s.capOver dw).pwr.calm = 0 ∧
    (s.capOver dw).pwr.cap0.seen = true ∧ (s.capOver dw).pwr.cap1.seen = true ∧ (s.capOver dw).pwr.step = s.pwr.step ∧
    (s.capOver dw).streams = s.streams ∧ (s.capShed = true → (s.capOver dw).pwr.capMiss = true ∧ (s.capOver dw).bit .pwrEvt 0 1 = true) := by
  by_cases h : s.capShed = false
  · rw [State.capOver_calm h]
    exact ⟨rfl, rfl, rfl, rfl, rfl, rfl, fun e => absurd (h.symm.trans e) (by decide)⟩
  · have hs := Bool.eq_true_of_not_eq_false h
    have hb : s.capMissed.bit .pwrEvt 0 1 = true := State.bit_flag_same _ _ _ (by decide)
    rw [State.capOver_shed hs]
    split
    · exact ⟨rfl, rfl, rfl, rfl, rfl, rfl, fun _ => ⟨rfl, hb⟩⟩
    · rw [State.event_pwr, State.event_streams]
      refine ⟨rfl, rfl, rfl, rfl, rfl, rfl, fun _ => ⟨rfl, ?_⟩⟩
      have hr := State.sameRegs_rg (r := .pwrEvt) (i := 0) (j := 0)
        (State.sameRegs_event_lost { s.capMissed with pwr := { s.capMissed.pwr with capSec := s.second + 1 } } 0x0B06 0 0 (dw / 10)
          (1600 - 50 * s.pwr.step)) (by decide)
      rw [State.bit, hr]
      exact hb

/-- Settles O49, from what each power request, wake and measurement does in each state. -/
theorem powerStates : Obligations.PowerStates := by
  unfold Obligations.PowerStates
  refine ⟨fun s hok => ?_, fun s hok => ?_, fun s => ?_, fun s => ?_, fun s => ?_, fun dw s => ?_, fun dw s => ?_⟩
  · intro busy
    have r1 : s.powerRefusal 1 = 0 := s.powerRefusal_1.trans (if_pos hok)
    have r2 : s.powerRefusal 2 = 0 := s.powerRefusal_2.trans (if_pos hok)
    have r3 (h : busy = false) : s.powerRefusal 3 = 0 :=
      s.powerRefusal_3.trans ((if_pos hok).trans (if_neg (Bool.eq_false_iff.1 h)))
    have b3 (h : busy = true) : s.powerRefusal 3 = 0x60C := s.powerRefusal_3.trans ((if_pos hok).trans (if_pos h))
    have q1 := congrArg (fun p : Nat × State => p.2) (State.powerReq_P1 r1)
    have q2 := State.powerReq_lower r2 (by decide)
    have q3 (h : busy = false) := State.powerReq_lower (r3 h) (by decide)
    refine ⟨fun h => ⟨congrArg done (q1.trans (if_pos h)), ?_, fun hb => ?_⟩, fun h => ⟨congrArg done (q1.trans (if_neg h)), ?_, fun hb => ?_⟩,
      fun hb => congrArg (fun p : Nat × State => done p.2) (State.powerReq_refused (b3 hb) (by decide))⟩
    · exact congrArg (fun p : Nat × State => done p.2) (q2.trans (if_pos h))
    · exact congrArg (fun p : Nat × State => done p.2) ((q3 hb).trans (if_pos h))
    · exact congrArg (fun p : Nat × State => done p.2) (q2.trans (if_neg h))
    · exact congrArg (fun p : Nat × State => done p.2) ((q3 hb).trans (if_neg h))
  · have hn : ¬ s.p1Ok = true := Bool.eq_false_iff.1 hok
    have hr {k : Nat} (e : s.powerRefusal k = 0x60B) := congrArg (fun p : Nat × State => done p.2) (State.powerReq_refused e (by decide))
    exact ⟨hr (s.powerRefusal_1.trans (if_neg hn)), hr (s.powerRefusal_2.trans (if_neg hn)), hr (s.powerRefusal_3.trans (if_neg hn))⟩
  · intro stays ds u v
    refine ⟨fun h => congrArg done (State.powerEntry_stays h), fun k hk h => congrArg done (State.powerEntry_enters hk h),
      fun k hk h0 h1 ht => ?_⟩
    have hn : ¬ (s.pwr.target = none ∨ s.td0.ticking = true ∨ s.td1.ticking = true) := by
      rw [hk, TickDom.not_ticking h0, TickDom.not_ticking h1]
      simp
    have hv : s.stopAcquiring = { s with pwr := { s.pwr with stoppedDoms := s.pwr.stoppedDoms ++ [] } } := by
      unfold State.stopAcquiring
      rw [State.acquiring_none h0 h1]
      rfl
    have ht' : s.stopAcquiring.hasTwin = false := by
      rw [hv]
      exact ht
    refine ⟨_, congrArg done (State.powerEntry_enters hk hn), ?_⟩
    unfold State.enterPower
    rw [ht', if_neg Bool.false_ne_true, hv]
    simp only [finish_pwr, finish_td0, finish_td1, finish_streams, finish_ctxs, State.powerTo_pwr, State.powerTo_td0, State.powerTo_td1,
      State.powerTo_streams, State.powerTo_ctxs, and_self]
  · intro deaf woke due
    have ht := s.timerWake_eq
    refine ⟨fun h => congrArg done (State.wake_deaf h 1), fun h => congrArg done (State.wake_heard h 1), fun h => ?_, fun h hd => ?_⟩
    · refine congrArg done (ht.trans ?_)
      split
      · next hd => exact State.wake_deaf (h.resolve_right (not_not.2 hd)) 3
      · rfl
    · exact congrArg done (ht.trans ((if_pos hd).trans (State.wake_heard h 3)))
  · intro wakes t
    have he := s.wakeDone_eq
    refine ⟨fun h => congrArg done (he.trans (if_pos h)), fun h => congrArg done (he.trans (if_neg h)), fun k h hm hp hd => ?_⟩
    have hrun := he.trans (if_pos h)
    rw [hm, State.powerBack_noDoms hd, hp] at hrun
    refine ⟨_, congrArg done hrun, ?_⟩
    simp only [State.each, List.foldl_nil, finish_pwr, finish_td0, finish_td1, finish_streams, State.powerTo_pwr, State.powerTo_td0,
      State.powerTo_td1, State.powerTo_streams, Option.getD_some, and_self, if_true]
  · intro cap u calm v back stepTo
    refine ⟨fun h => congrArg done (State.powerMeasured_low h dw), fun h hc hs => ?_, fun h hc hs => ?_, fun h hc hb => ?_, fun h hc hb => ?_⟩
    · exact congrArg done ((State.powerMeasured_over h hc).trans (if_pos hs))
    · exact congrArg done ((State.powerMeasured_over h hc).trans (if_neg (Nat.not_lt.2 hs)))
    · exact congrArg done ((State.powerMeasured_within h hc).trans (if_pos hb))
    · exact congrArg done ((State.powerMeasured_within h hc).trans (if_neg hb))
  · intro t
    obtain ⟨h1, h2, h3, h4, h5, h6, h7⟩ := s.capOver_pwr dw
    refine ⟨h1, h2, h3, h4, h5, h6, h7, fun h => ?_⟩
    have ht : t = _ := State.capOver_calm h dw
    rw [ht]
    exact ⟨rfl, rfl⟩

end Sys2Proof.Machine
end

section
/-!
SUPPORT and proof of O51: the states of a chip link (16 R403, R404).
-/

namespace Sys2Proof.Machine

/-! ### Links (16 R397 to R410) -/

@[simp] theorem State.link_updLink (s : State) (n : Nat) (f : Link → Link) : (s.updLink n f).link n = f (s.link n) :=
  Tab.getD_modify_same ..

theorem State.link_updLink_ne (s : State) {n m : Nat} (h : m ≠ n) (f : Link → Link) : (s.updLink n f).link m = s.link m :=
  Tab.getD_modify_ne _ h.symm ..

theorem State.link_of_links {s t : State} (h : t.links = s.links) (n : Nat) : t.link n = s.link n := by rw [State.link, State.link, h]

theorem LinkNo.ofNat_val (n : LinkNo) : (⟨n.val % 64, Nat.mod_lt _ (by decide)⟩ : LinkNo) = n := Fin.ext (Nat.mod_eq_of_lt n.isLt)

theorem State.emitFlit_link (s : State) (n : LinkNo) (f : Flit) : s.emitFlit n f = s.emit (.flit n f.bytes) := by
  rw [State.emitFlit, LinkNo.ofNat_val]

theorem State.emitTrain_link (s : State) (n : LinkNo) (f : Flit) : s.emitTrain n f = s.emit (.train n f.bytes) := by
  rw [State.emitTrain, LinkNo.ofNat_val]

theorem State.cond_linksRun (s : State) (f : State → State) : s.cond s.linksRun f = if s.pwr.state < 2 then f s else s := by
  rw [State.cond, State.linksRun]
  exact if_congr (by simp) rfl rfl

theorem State.linkFor_cond (s : State) (n k : Nat) (f : State → State) :
    s.cond (s.linkFor n k) f = if (s.link n).since + k ≤ s.uptime then f s else s := by
  rw [State.cond, State.linkFor]
  exact if_congr (by simp) rfl rfl

/-- Flits sent on a link add to the output, and change nothing else. -/
theorem State.each_emitFlit (n : LinkNo) (g : Flit → Flit) (l : List Flit) (s : State) :
    s.each l (fun s f => s.emitFlit n (g f)) = { s with out := (l.map (fun f => Out.flit n (g f).bytes)).reverse ++ s.out } := by
  induction l generalizing s with
  | nil => rfl
  | cons f l ih =>
    refine (ih (s.emitFlit n (g f))).trans ?_
    rw [State.emitFlit_link, List.map_cons, List.reverse_cons, List.append_assoc]
    rfl

theorem State.retrain_eq (s : State) (n k : Nat) :
    (if ((s.link n).state = .down || (s.link n).state = .loopback) && s.linkFor n k then s.linkTo n .seek else s) =
      if ((s.link n).state = .down ∨ (s.link n).state = .loopback) ∧ (s.link n).since + k ≤ s.uptime then s.linkTo n .seek else s := by
  rw [State.linkFor]
  exact if_congr (by simp) rfl rfl

theorem State.trainSend_eq (s : State) (n : LinkNo) : s.trainSend n =
    if (s.link n).state = .exchange ∧ ∀ t, (s.link n).trainAt = some t → t + 1000 ≤ s.uptime then
      (s.updLink n (fun l => { l with trainAt := some s.uptime })).emit (.train n
        ({ idleFlit (s.link n).rxNext with src := s.ownId, typ := 1, payload := s.trainPayload n } : Flit).bytes)
    else s := by
  unfold State.trainSend
  rw [State.emitTrain_link]
  refine if_congr ?_ rfl rfl
  cases (s.link n).trainAt <;> simp

theorem State.flitRx_up {s : State} {n : Nat} (h : (s.link n).state = .up) (b : List Byte) :
    s.flitRx n b = (parseFlit b).elim (s.crcFail n) (s.upFlit n) := by
  unfold State.flitRx
  simp only [h]
  cases parseFlit b <;> rfl

theorem State.flitRx_exchange {s : State} {n : Nat} (h : (s.link n).state = .exchange) (b : List Byte) :
    s.flitRx n b = (parseFlit b).elim (s.crcFail n) (fun f => if f.typ = 1 then s.trainRx n f.payload else s) := by
  unfold State.flitRx
  simp only [h]
  cases parseFlit b <;> rfl

theorem State.flitRx_else {s : State} {n : Nat} (hu : (s.link n).state ≠ .up) (he : (s.link n).state ≠ .exchange) (b : List Byte) :
    s.flitRx n b = s := by
  unfold State.flitRx
  split
  · next h => exact absurd h hu
  · next h => exact absurd h he
  · rfl

theorem State.trainRx_own {s : State} {n : Nat} {p : List Byte}
    (h : s.idValid = true ∧ (byteAt p 3).testBit 1 = true ∧ numAt p 0 2 = s.ownId) :
    s.trainRx n p = (s.linkTo n .loopback).event 0x0D03 3 0 n := if_pos (by simpa [and_assoc] using h)

/-- The state in which a link has noted the peer's training data. -/
def State.trained (s : State) (n : Nat) (p : List Byte) : State := s.updLink n (fun l => { l with seen := true, train := p })

theorem State.trainRx_other {s : State} {n : Nat} {p : List Byte}
    (h : ¬ (s.idValid = true ∧ (byteAt p 3).testBit 1 = true ∧ numAt p 0 2 = s.ownId)) : s.trainRx n p =
    if (byteAt p 3).testBit 0 = true then
      let w := (s.trained n p).linkUp n (numAt p 0 2) (byteAt p 2 % 64)
      if w.fetching then w.sendImageReq else w
    else s.trained n p := if_neg (by simpa [and_assoc] using h)

/-- What a link that comes up leaves. -/
theorem State.linkUp_link (s : State) (n : LinkNo) (pid plink : Nat) : ((s.linkUp n pid plink).link n).state = .up ∧
    ((s.linkUp n pid plink).link n).peerId = pid ∧ ((s.linkUp n pid plink).link n).rxNext = 0 ∧
    ((s.linkUp n pid plink).link n).train = (s.link n).train ∧ (∀ m, m ≠ n.val → (s.linkUp n pid plink).link m = s.link m) ∧
    (s.linkUp n pid plink).mem = s.mem ∧ (s.linkUp n pid plink).dev = s.dev := by
  unfold State.linkUp
  extract_lets fs s1
  have ho := State.each_emitFlit n (fun f => f) fs s1
  rw [ho]
  have hl (m : Nat) : (({ s1 with out := (fs.map (fun f => Out.flit n f.bytes)).reverse ++ s1.out } : State).event 0x0A01 n).link m = s1.link m := State.link_of_links (State.event_links ..) m
  have hn : s1.link n = _ := State.link_updLink ..
  rw [hl, hn]
  exact ⟨rfl, rfl, rfl, rfl, fun m hm => (hl m).trans (State.link_updLink_ne _ hm _), State.event_mem .., State.event_dev ..⟩

/-- Settles O51, from what each event of a link does in each of its states. -/
theorem linkStates : Obligations.LinkStates := by
  unfold Obligations.LinkStates
  refine ⟨fun n s => ?_, fun n s => ?_, fun n b s => ?_, fun n b s => ⟨fun h => ?_, fun hp he => ⟨fun hb => ?_, fun f hb ht => ?_, fun f hb ht => ?_⟩⟩⟩
  · exact ⟨fun h => congrArg done (if_pos h), fun h => congrArg done (if_neg h)⟩
  · exact ⟨fun h => congrArg done (if_pos h), fun h => congrArg done (if_neg h)⟩
  · intro l late trains
    have hs := State.linkFor_cond s n 5000000 (fun s => s.linkStep n.val .seek (fun l => { l with crossed := !l.crossed, since := s.uptime }))
    have htr := (s.cond_linksRun (fun s => s.trainSend n.val)).trans (congrArg (fun x => if s.pwr.state < 2 then x else s) (s.trainSend_eq n))
    refine ⟨fun h => congrArg done (if_pos h), fun h => congrArg done (if_neg h), fun h h5 => ?_, fun h => ?_,
      fun h => congrArg done (if_pos h), fun h => congrArg done (if_neg h), fun ⟨h1, h2, h3⟩ => ?_, fun h => ?_,
      fun h => congrArg done (if_pos h), fun h => congrArg done (if_neg h), fun h h6 => ?_, fun h => ?_⟩
    · exact congrArg done (hs.trans ((if_pos h5).trans (if_pos h)))
    · refine congrArg done (hs.trans ?_)
      split
      · next h5 => exact if_neg (h.resolve_right (not_not.2 h5))
      · rfl
    · exact congrArg done (htr.trans ((if_pos h1).trans (if_pos ⟨h2, h3⟩)))
    · refine congrArg done (htr.trans ?_)
      split
      · next h1 => exact if_neg fun h2 => h ⟨h1, h2⟩
      · rfl
    · exact congrArg done ((s.retrain_eq n 1000000).trans (if_pos ⟨h, h6⟩))
    · exact congrArg done ((s.retrain_eq n 1000000).trans (if_neg (not_and_or.2 h)))
  · refine congrArg done ((s.cond_linksRun (fun s => s.flitRx n.val b)).trans ?_)
    split
    · next hp =>
      obtain ⟨hu, he⟩ := h.resolve_left (Nat.not_le.2 hp)
      exact State.flitRx_else hu he b
    · rfl
  · have hx := (s.cond_linksRun (fun s => s.flitRx n.val b)).trans ((if_pos hp).trans (State.flitRx_exchange he b))
    rw [hb] at hx
    exact congrArg done (hx.trans (if_neg (by rw [he]; decide)))
  · have hx := (s.cond_linksRun (fun s => s.flitRx n.val b)).trans ((if_pos hp).trans (State.flitRx_exchange he b))
    rw [hb] at hx
    exact congrArg done (hx.trans (if_neg ht))
  · intro id own u w
    have hx := (s.cond_linksRun (fun s => s.flitRx n.val b)).trans ((if_pos hp).trans (State.flitRx_exchange he b))
    rw [hb] at hx
    have hx := hx.trans (if_pos ht)
    refine ⟨fun ho => congrArg done (hx.trans (State.trainRx_own ho)), fun ho h0 => ?_, fun ho h0 => ?_, fun ho h0 hst => ?_⟩
    · exact congrArg done (hx.trans ((State.trainRx_other ho).trans (if_neg (by rw [h0]; decide))))
    · exact congrArg done (hx.trans ((State.trainRx_other ho).trans (if_pos h0)))
    · obtain ⟨k1, k2, k3, k4, k5, k6, k7⟩ := u.linkUp_link n id (byteAt f.payload 2 % 64)
      have hf : w.fetching = false := by
        unfold State.fetching
        rw [show w.dev = s.dev from k7, hst]
        rfl
      have hw : exec (.linkFlitRx n b) s = .next (finish w) := by
        refine congrArg done (hx.trans ((State.trainRx_other ho).trans ((if_pos h0).trans ?_)))
        exact if_neg (Bool.eq_false_iff.1 hf)
      have hl (m : Nat) : (finish w).link m = w.link m := State.link_of_links (finish_links w) m
      refine ⟨_, hw, ?_⟩
      simp only [hl, finish_mem]
      exact ⟨k1, k2, k3, k4.trans (congrArg Link.train (State.link_updLink ..)),
        fun m hm => (k5 m hm).trans (State.link_updLink_ne _ hm _), k6⟩

end Sys2Proof.Machine
end

section
/-!
SUPPORT and proof of O52: flits sent and received on a link (16 R399 to R402, R406 to R410).
-/

namespace Sys2Proof.Machine

/-! ### Flits on an UP link (16 R399 to R402, R406 to R410) -/

/-- Updates that agree on the link they meet are the same update. -/
theorem State.updLink_congr (s : State) (n : Nat) {f g : Link → Link} (h : f (s.link n) = g (s.link n)) : s.updLink n f = s.updLink n g := by
  unfold State.updLink Tab.modify
  rw [show f (Tab.getD s.links n Link.reset) = g (Tab.getD s.links n Link.reset) from h]

theorem State.updLink_updLink (s : State) (n : Nat) (f g : Link → Link) : (s.updLink n f).updLink n g = s.updLink n (fun l => g (f l)) := by
  unfold State.updLink Tab.modify
  rw [Tab.getD_set_same, Tab.set_set]

theorem State.crcFail_up {s : State} {n : Nat} (h : (s.link n).state = .up) :
    s.crcFail n = (s.cnt .linkChErrCnt n 15 0 1).updLink n Link.discard := if_pos h

theorem State.upFlit_idle {s : State} {n : Nat} {f : Flit} (h : f.typ = 0) : s.upFlit n f = s.ackRx n f.ack := by
  unfold State.upFlit
  simp only [h]

theorem State.upFlit_train {s : State} {n : Nat} {f : Flit} (h : f.typ = 1) : s.upFlit n f = s.linkDown n := by
  unfold State.upFlit
  simp only [h]

theorem State.upFlit_nak {s : State} {n : Nat} {f : Flit} (h : f.typ = 2) : s.upFlit n f =
    if ((s.ackRx n f.ack).link n).unacked.isEmpty then s.ackRx n f.ack else (s.ackRx n f.ack).resend n := by
  unfold State.upFlit
  simp only [h]

theorem State.upFlit_seq {s : State} {n : Nat} {f : Flit} (h : f.typ = 3 ∨ f.typ = 4) : s.upFlit n f = s.seqFlit n f := by
  unfold State.upFlit
  rcases h with h | h <;> simp only [h]

/-- The state in which the flit expected next has come, before its acknowledgement. -/
def State.expected (s : State) (n : Nat) : State :=
  s.updLink n (fun l => { l with rxNext := (l.rxNext + 1) % 4096, nakSent := false, nakOwed := false })

theorem State.seqFlit_next {s : State} {n : Nat} {f : Flit} (h : f.seq = (s.link n).rxNext) : s.seqFlit n f =
    if f.typ = 3 then ((s.expected n).ackRx n f.ack).tickRx n f.payload else ((s.expected n).ackRx n f.ack).msgFlit n f :=
  if_neg (not_not.2 h)

theorem State.seqFlit_other {s : State} {n : Nat} {f : Flit} (h : f.seq ≠ (s.link n).rxNext) : s.seqFlit n f = s.updLink n Link.discard :=
  if_pos h

theorem State.ackRx_nothing {s : State} {n : Nat} (h : (s.link n).unacked = []) (ack : Nat) : s.ackRx n ack = s := by
  refine if_pos ?_
  unfold Link.passed
  rw [h]

/-- An acknowledgement that passes the only flit, a tick marker. -/
theorem State.ackRx_one {s : State} {n ack : Nat} {g : Flit} (h : (s.link n).unacked = [g]) (ha : ack = g.seq + 1)
    (ht : g.typ = 3) : s.ackRx n ack = s.updLink n (fun l => { l with unacked := [], resends := 0, ackAt := s.uptime }) := by
  have hk : (s.link n).passed ack = 1 := by
    have e : (ack + 4096 - g.seq) % 4096 = 1 := by omega
    unfold Link.passed
    rw [h]
    simp [e]
  have hgone : ((s.link n).unacked.take 1).filter (fun f => f.typ == 4 && f.isLast && f.src == s.ownId) = [] := by
    simp [h, ht]
  unfold State.ackRx
  dsimp only
  rw [hk, if_neg (by decide), hgone]
  refine (State.updLink_congr s n ?_)
  simp [h]

/-- The first flit of a message for the device itself is kept, until the last comes. -/
theorem State.localFlit_first {s : State} {n : Nat} {f : Flit} (hf : f.isFirst = true) (hl : f.isLast = false) (ha : (s.link n).asm = []) :
    s.localFlit n f = s.updLink n (fun l => { l with asm := [⟨f.src, f.msgId, f.cls, f.payload⟩] }) := by
  unfold State.localFlit
  simp only [ha, hf, hl, find1, List.filter_nil, List.head?_nil, Option.isSome_none, if_true, Bool.false_eq_true, if_false]
  rw [State.updLink_updLink]
  refine State.updLink_congr s n ?_
  simp [ha]

theorem State.msgFlit_own {s : State} (h : s.idValid = true) {n : Nat} {f : Flit} (hd : f.dst = s.ownId) : s.msgFlit n f = s.localFlit n f :=
  (if_neg (by rw [h]; decide)).trans (if_pos hd)

/-- The state in which the first flit of a message for the device itself is kept. -/
def State.assembling (s : State) (n : Nat) (f : Flit) : State :=
  (s.expected n).updLink n (fun l => { l with asm := [⟨f.src, f.msgId, f.cls, f.payload⟩] })

theorem State.assembling_link (s : State) (n : Nat) (f : Flit) :
    ((s.assembling n f).link n).asm = [⟨f.src, f.msgId, f.cls, f.payload⟩] ∧
      ((s.assembling n f).link n).rxNext = ((s.link n).rxNext + 1) % 4096 ∧ ∀ m, m ≠ n → (s.assembling n f).link m = s.link m := by
  unfold State.assembling State.expected
  rw [State.link_updLink, State.link_updLink]
  exact ⟨rfl, rfl, fun m hm => (State.link_updLink_ne _ hm _).trans (State.link_updLink_ne _ hm _)⟩

theorem State.upFlit_first {s : State} {n : Nat} {f : Flit} (ht : f.typ = 4) (hs : f.seq = (s.link n).rxNext) (ha : (s.link n).unacked = [])
    (hv : s.idValid = true) (hd : f.dst = s.ownId) (hf : f.isFirst = true) (hl : f.isLast = false) (hasm : (s.link n).asm = []) :
    s.upFlit n f = s.assembling n f := by
  have he : (s.expected n).link n = _ := State.link_updLink ..
  rw [State.upFlit_seq (.inr ht), State.seqFlit_next hs, if_neg (by rw [ht]; decide), State.ackRx_nothing (by rw [he]; exact ha),
    State.msgFlit_own (s := s.expected n) hv hd]
  exact State.localFlit_first hf hl (by rw [he]; exact hasm)

theorem Link.pick_nil {l : Link} (h : l.queue = []) (c : Nat) : l.pick c = none := by
  unfold Link.pick
  rw [h]
  rfl

theorem Link.next_nil {l : Link} (h : l.queue = []) : l.next = none := by
  unfold Link.next
  simp [h, Link.pick_nil h]

theorem Link.next_tick {l : Link} {q : LQueued} (h : l.queue = [q]) (ht : q.flit.typ = 3) : l.next = some q := by
  unfold Link.next
  simp [h, ht]

theorem State.flitBoundary_down {s : State} {n : Nat} (h : (s.link n).state ≠ .up) : s.flitBoundary n = s := if_pos h

theorem State.flitBoundary_nak {s : State} {n : LinkNo} (h : (s.link n).state = .up) (hn : (s.link n).nakOwed = true) :
    s.flitBoundary n = (s.updLink n (fun l => { l with nakOwed := false })).emit
      (.flit n ({ idleFlit (s.link n).rxNext with typ := 2 } : Flit).bytes) :=
  ((if_neg (not_not.2 h)).trans (if_pos hn)).trans (State.emitFlit_link ..)

theorem State.flitBoundary_idle {s : State} {n : LinkNo} (h : (s.link n).state = .up) (hn : (s.link n).nakOwed = false)
    (hq : 512 ≤ (s.link n).unacked.length ∨ (s.link n).next = none) :
    s.flitBoundary n = s.emit (.flit n (idleFlit (s.link n).rxNext).bytes) := by
  rw [← State.emitFlit_link]
  refine ((if_neg (not_not.2 h)).trans (if_neg (Bool.eq_false_iff.1 hn))).trans ?_
  split
  · rfl
  · next h5 =>
    rw [hq.resolve_left h5]

theorem State.flitBoundary_flit {s : State} {n : LinkNo} {q : LQueued} (h : (s.link n).state = .up) (hn : (s.link n).nakOwed = false)
    (h5 : (s.link n).unacked.length < 512) (hq : (s.link n).next = some q) :
    s.flitBoundary n = (s.updLink n (fun _ => ((s.link n).takeFlit q s.uptime).2)).emit
      (.flit n ((s.link n).takeFlit q s.uptime).1.bytes) := by
  rw [← State.emitFlit_link]
  refine ((if_neg (not_not.2 h)).trans (if_neg (Bool.eq_false_iff.1 hn))).trans ((if_neg (Nat.not_le.2 h5)).trans ?_)
  rw [hq]

theorem State.ackTimeout_eq (s : State) (n k : Nat) :
    (if (s.link n).state = .up && !(s.link n).unacked.isEmpty && decide ((s.link n).ackAt + k ≤ s.uptime) then s.resend n else s) =
      if (s.link n).state = .up ∧ (s.link n).unacked ≠ [] ∧ (s.link n).ackAt + k ≤ s.uptime then s.resend n else s :=
  if_congr (by simp [and_assoc]) rfl rfl

/-- The state in which every unacknowledged flit of a link has been sent again. -/
def State.resent (s : State) (n : Nat) : State :=
  ((s.each (s.link n).unacked (fun t f => t.emitFlit n { f with ack := (s.link n).rxNext })).cnt .linkChErrCnt n 27 16
    (s.link n).unacked.length).updLink n (fun l =>
      { l with resends := l.resends + 1, retries := l.retries.add s.second (s.link n).unacked.length, ackAt := s.uptime })

theorem State.resend_again {s : State} {n : Nat} (h : (s.link n).resends < 31) : s.resend n = s.resent n := if_neg (by omega)

theorem State.resend_last {s : State} {n : Nat} (h : 31 ≤ (s.link n).resends) : s.resend n = (s.resent n).linkDown n := if_pos (by omega)

/-- What sending again leaves of the link, and what it sends. -/
theorem State.resent_link (s : State) (n : LinkNo) : ((s.resent n).link n).state = (s.link n).state ∧
    ((s.resent n).link n).unacked = (s.link n).unacked ∧ ((s.resent n).link n).resends = (s.link n).resends + 1 ∧
    (∀ f ∈ (s.link n).unacked, Out.flit n ({ f with ack := (s.link n).rxNext } : Flit).bytes ∈ (s.resent n).out) ∧
    (s.resent n).mem = s.mem := by
  unfold State.resent
  rw [State.each_emitFlit n (fun f => { f with ack := (s.link n).rxNext }), State.link_updLink]
  exact ⟨rfl, rfl, rfl, fun f hf => List.mem_append_left _ (List.mem_reverse.2 (List.mem_map_of_mem hf)), rfl⟩

/-- Settles O52, from what each kind of flit, timer and boundary does on a link that is UP. -/
theorem linkFlits : Obligations.LinkFlits := by
  unfold Obligations.LinkFlits
  refine ⟨fun n b s hp hu hb => ?_, fun n b s f hp hu hb => ?_, fun n s => ?_, fun n s => ?_, fun n s => ?_, fun s => ?_⟩
  · have hx := (s.cond_linksRun (fun s => s.flitRx n.val b)).trans ((if_pos hp).trans (State.flitRx_up hu b))
    rw [hb] at hx
    exact congrArg done (hx.trans (State.crcFail_up hu))
  · intro got a due
    have hx := (s.cond_linksRun (fun s => s.flitRx n.val b)).trans ((if_pos hp).trans (State.flitRx_up hu b))
    rw [hb] at hx
    have hr {u : State} (h : s.upFlit n f = u) : got = .next (finish u) := congrArg done (hx.trans h)
    have hseq (ht : f.typ = 3 ∨ f.typ = 4) (hs : f.seq = (s.link n).rxNext) := (State.upFlit_seq ht).trans (State.seqFlit_next hs)
    refine ⟨fun ht => hr (State.upFlit_idle ht), fun ht => hr (State.upFlit_train ht), fun ht ha => ?_, fun ht ha => ?_, fun ht hs => ?_,
      fun ht hs => ?_, fun ht hs => ?_, fun ht ha => ?_, fun ht g ha hg hk hgt => ?_, fun ht hs ha hv hd hf hl hasm => ?_⟩
    · exact hr ((State.upFlit_nak ht).trans (if_pos (List.isEmpty_iff.2 ha)))
    · exact hr ((State.upFlit_nak ht).trans (if_neg (by rw [List.isEmpty_iff]; exact ha)))
    · exact hr ((hseq (.inl ht) hs).trans (if_pos ht))
    · exact hr ((hseq (.inr ht) hs).trans (if_neg (by rw [ht]; decide)))
    · exact hr ((State.upFlit_seq ht).trans (State.seqFlit_other hs))
    · exact hr ((State.upFlit_idle ht).trans (State.ackRx_nothing ha _))
    · exact hr ((State.upFlit_idle ht).trans (State.ackRx_one ha hk hgt))
    · have he := State.upFlit_first ht hs ha hv hd hf hl hasm
      obtain ⟨k1, k2, k3⟩ := s.assembling_link n f
      have hl' (m : Nat) : (finish (s.assembling n f)).link m = (s.assembling n f).link m := State.link_of_links (finish_links _) m
      refine ⟨_, hr he, ?_⟩
      simp only [hl', finish_mem]
      exact ⟨k1, k2, k3, rfl⟩
  · intro l runs idles
    have hx := s.cond_linksRun (fun s => s.flitBoundary n.val)
    have hr {u : State} (h : runs) (e : s.flitBoundary n = u) : exec (.flitBoundary n) s = .next (finish u) :=
      congrArg done (hx.trans ((if_pos h.1).trans e))
    refine ⟨fun h => ?_, fun h hn => hr h (State.flitBoundary_nak h.2 hn), fun h hn hq => hr h (State.flitBoundary_idle h.2 hn ?_),
      fun q h hn h5 hq => hr h (State.flitBoundary_flit h.2 hn h5 hq), fun q h hn hq ht h5 => ?_⟩
    · refine congrArg done (hx.trans ?_)
      split
      · next hp => exact State.flitBoundary_down fun hu => h ⟨hp, hu⟩
      · rfl
    · rcases hq with hq | hq | hq
      · exact .inr (Link.next_nil hq)
      · exact .inl hq
      · exact .inr hq
    · let u : State := (s.updLink n (fun _ => (l.takeFlit q s.uptime).2)).emit (.flit n (l.takeFlit q s.uptime).1.bytes)
      have hl : (finish u).link n = (l.takeFlit q s.uptime).2 :=
        (State.link_of_links (finish_links u) n).trans (State.link_updLink s n (fun _ => (l.takeFlit q s.uptime).2))
      refine ⟨_, hr h (State.flitBoundary_flit h.2 hn h5 (Link.next_tick hq ht)), ?_⟩
      rw [hl]
      refine ⟨rfl, ?_, rfl, mem_out_finish (List.mem_cons_self ..)⟩
      change l.queue.erase q = []
      rw [hq, List.erase_cons_head]
  · intro l late k u v
    have hx := s.ackTimeout_eq n.val 20000
    refine ⟨fun h => congrArg done (hx.trans (if_neg h)), fun h hs => congrArg done (hx.trans ((if_pos h).trans (State.resend_again hs))),
      fun h hs => congrArg done (hx.trans ((if_pos h).trans (State.resend_last hs))), fun h hs => ?_⟩
    obtain ⟨k1, k2, k3, k4, k5⟩ := s.resent_link n
    have hl : (finish (s.resent n)).link n = (s.resent n).link n := State.link_of_links (finish_links _) n
    refine ⟨_, congrArg done (hx.trans ((if_pos h).trans (State.resend_again hs))), ?_⟩
    rw [hl]
    exact ⟨k1.trans h.1, k2, k3, fun f hf => mem_out_finish (k4 f hf), k5⟩
  · intro r w due u
    exact ⟨fun h => congrArg done (if_pos ((Retries.due_iff r w).2 h)), fun h => congrArg done (if_neg fun hd => h ((Retries.due_iff r w).1 hd))⟩
  · intro b ok
    exact ⟨fun h => congrArg done (if_pos h), fun h => congrArg done (if_neg h)⟩

end Sys2Proof.Machine
end

section
/-!
SUPPORT and proof of O53: attaching a twin, forwarded records, checkpoints and heartbeats (16 R414 to R419, R425).
-/

namespace Sys2Proof.Machine

/-! ### The twin: attach, records, checkpoints, heartbeats (16 R414 to R419, R425) -/

/-- What a module must be for a link to attach its twin. -/
def State.mayAttach (s : State) (n : Nat) : Prop :=
  s.bit .linkTwinCfg 0 31 = true ∧ s.dev.stage = 2 ∧ (s.twin.state = .attaching ∨ s.twin.state = .refused) ∧
    (s.link n).state = .up ∧ s.bit .linkChCfg n 3 = true

theorem State.mayAttach_iff (s : State) (n : Nat) : (!(s.bit .linkTwinCfg 0 31 && s.dev.stage == 2 &&
    (s.twin.state == .attaching || s.twin.state == .refused) && (s.link n).state == .up && s.bit .linkChCfg n 3)) = true ↔ ¬ s.mayAttach n := by
  rw [Bool.not_eq_true', ← Bool.not_eq_true]
  exact not_congr (by simp [State.mayAttach, and_assoc])

theorem State.twinAttach_not {s : State} {n : Nat} (h : ¬ s.mayAttach n) : s.twinAttach n = s := if_pos ((s.mayAttach_iff n).2 h)

theorem State.twinAttach_may {s : State} {n : Nat} (h : s.mayAttach n) : s.twinAttach n =
    if s.attachRefusal n ≠ 0 then
      let s1 : State := { s with twin := { s.twin with state := .refused, refuse := s.attachRefusal n } }
      if numAt (s.link n).train 0 2 = s.twinId then s1 else s1.event 0x0D03 4 0 n (s.link n).peerId
    else if s.standby && !s.mirrorLocked then s
    else (({ s with twin := { s.twin with state := .attached, refuse := 0 } }).event 0x0A04 s.twinId).twinRecord :=
  if_neg fun e => (s.mayAttach_iff n).1 e h

/-- Another module than the twin is refused by the first check. -/
theorem State.attachRefusal_other {s : State} {n : Nat} (h : numAt (s.link n).train 0 2 ≠ s.twinId) : s.attachRefusal n = 0x704 := by
  unfold State.attachRefusal
  dsimp only
  rw [show (numAt (s.link n).train 0 2 == s.twinId) = false from beq_eq_false_iff_ne.2 h]
  rfl

/-- The state in which a new checkpoint has begun in the receiving half. -/
def State.freshCkpt (s : State) (f : Nat) : State := { s with twin := s.twin.fresh f }

theorem Twin.fresh_half (t : Twin) (f : Nat) : (t.fresh f).half = t.half := by
  unfold Twin.fresh
  split <;> rfl

theorem Twin.fresh_ckptF (t : Twin) (f : Nat) : (t.fresh f).ckptF = f := by
  unfold Twin.fresh
  split
  · next h => exact h
  · rfl

theorem Twin.fresh_inputs (t : Twin) (f : Nat) : (t.fresh f).inputs = t.inputs := by
  unfold Twin.fresh
  split <;> rfl

theorem State.twinCkpt_not {s : State} (h : s.mirroring = false) (f n : Nat) (p : List Byte) : s.twinCkpt f n p = s :=
  if_pos (by rw [h]; rfl)

/-- A pack that has no place abandons the checkpoint. -/
theorem State.twinCkpt_unfit {s : State} (h : s.mirroring = true) {f : Nat} {p : List Byte} (n : Nat)
    (hu : s.cfg.twinArea = none ∨ (s.freshCkpt f).twin.abandoned = true ∨
      ∃ a, s.cfg.twinArea = some a ∧ a.size < (s.freshCkpt f).twin.wr + p.length) : s.twinCkpt f n p = (s.freshCkpt f).abandonCkpt := by
  refine (if_neg (by rw [h]; decide)).trans ?_
  dsimp only
  split
  · rfl
  · next a ha =>
    refine if_pos ?_
    rcases hu with hu | hu | ⟨b, hb, hu⟩
    · exact absurd (ha.symm.trans hu) (by simp)
    · exact Bool.or_eq_true_iff.2 (.inl hu)
    · cases ha.symm.trans hb
      exact Bool.or_eq_true_iff.2 (.inr (decide_eq_true hu))

theorem State.twinCkpt_fits {s : State} (h : s.mirroring = true) {f : Nat} {p : List Byte} {a : Area} (n : Nat) (ha : s.cfg.twinArea = some a)
    (hab : (s.freshCkpt f).twin.abandoned = false) (hr : (s.freshCkpt f).twin.wr + p.length ≤ a.size) : s.twinCkpt f n p =
      let u := s.freshCkpt f
      let s1 := u.poke (u.halfBase a + u.twin.wr) p
      { s1 with twin := { s1.twin with wr := u.twin.wr + p.length, packs := u.twin.packs ++ [(n, p)] } } := by
  refine (if_neg (by rw [h]; decide)).trans ?_
  dsimp only
  split
  · next e => exact absurd (ha.symm.trans e) (by simp)
  · next b hb =>
    cases hb.symm.trans ha
    refine if_neg ?_
    rw [Bool.or_eq_true, not_or]
    exact ⟨by rw [Bool.not_eq_true]; exact hab, by rw [decide_eq_true_eq]; exact Nat.not_lt.2 hr⟩

theorem State.abandonCkpt_again {s : State} (h : s.twin.abandoned = true) : s.abandonCkpt = s := if_pos h

theorem State.abandonCkpt_first {s : State} (h : s.twin.abandoned = false) :
    s.abandonCkpt = ({ s with twin := { s.twin with abandoned := true, packs := [] } }).inc .linkTwinStretchCnt := if_neg (by rw [h]; decide)

theorem State.applyInput_none {s : State} {r : RecIn} (h : r.kind ∉ [2, 3, 7, 10]) : s.applyInput r = s := by
  simp only [List.mem_cons, List.not_mem_nil, or_false, not_or] at h
  obtain ⟨h2, h3, h7, h10⟩ := h
  unfold State.applyInput
  split
  · next e => exact absurd e h2
  · next e => exact absurd e h3
  · next e => exact absurd e h7
  · next e => exact absurd e h10
  · rfl

theorem State.applyInput_detach {s : State} {r : RecIn} (h : r.kind = 10) (hd : leAt r.body 0 1 = 6) :
    s.applyInput r = { s with twin := { s.twin with detach := true } } := by
  unfold State.applyInput
  simp only [h]
  exact if_pos hd

/-! What a checkpoint that becomes complete leaves of the twin. -/

theorem State.foldl_twin {α : Type} {f : State → α → State} (h : ∀ t x, (f t x).twin = t.twin) (s : State) (l : List α) :
    (l.foldl f s).twin = s.twin := State.each_keeps State.twin f h l s

theorem State.freeSlot_twin (s : State) (q n k : Nat) : (s.freeSlot q n k).twin = s.twin := by
  unfold State.freeSlot
  split
  · rfl
  · dsimp only
    split <;> rfl

theorem State.dropSwaps_twin (s : State) (i : Nat) : (s.dropSwaps i).twin = s.twin := by
  refine State.foldl_twin (fun t o => ?_) s _
  cases o with
  | copy => exact State.freeSlot_twin ..
  | _ => rfl

theorem State.groupTidy_twin (s : State) (g : Option Nat) : (s.groupTidy g).twin = s.twin := by
  unfold State.groupTidy
  split
  · rfl
  · split <;> rfl

theorem State.memberLost_twin (s : State) (i code : Nat) : (s.memberLost i code).twin = s.twin := by
  unfold State.memberLost
  dsimp only
  split
  · rfl
  · split
    · exact (State.event_twin ..).trans (State.groupTidy_twin ..)
    · rfl

theorem State.cancelExport_twin (s : State) (i : Nat) (lost : Bool) : (s.cancelExport i lost).twin = s.twin := by
  unfold State.cancelExport
  dsimp only
  split
  · rfl
  · split
    · rfl
    · exact State.event_twin ..

theorem State.faultStream_twin (s : State) (i code : Nat) (quiet : Bool) : (s.faultStream i code quiet).twin = s.twin := by
  unfold State.faultStream
  extract_lets x s1 s2 s3
  split
  · rfl
  · split
    · split
      · rfl
      · exact State.record_twin ..
    · have h3 : s3.twin = s.twin := by
        refine (State.cancelExport_twin ..).trans ((State.memberLost_twin ..).trans ?_)
        split
        · rfl
        · exact State.dropSwaps_twin ..
      split
      · exact h3
      · exact (State.record_twin ..).trans ((State.event_twin ..).trans h3)

theorem State.retireInput_twin (s : State) (r : RecIn) : (s.retireInput r).twin = s.twin := by
  unfold State.retireInput
  split
  · split
    · exact State.faultStream_twin ..
    · rfl
  · rfl

theorem State.consumed_twin (s : State) (h : Nat) (p : List Byte) : (s.consumed h p).twin = s.twin := by
  unfold State.consumed
  split <;> rfl

theorem State.twinCkptEnd_not {s : State} (h : s.mirroring = false) (f n : Nat) : s.twinCkptEnd f n = s := if_pos (by rw [h]; rfl)

/-- Whether every pack of a checkpoint has come. -/
def Twin.whole (t : Twin) (n : Nat) : Prop := t.abandoned = false ∧ t.packs.length = n

theorem State.twinCkptEnd_part {s : State} (h : s.mirroring = true) {f n : Nat} (hw : ¬ (s.freshCkpt f).twin.whole n) :
    s.twinCkptEnd f n = s.freshCkpt f := by
  refine (if_neg (by rw [h]; decide)).trans (if_pos ?_)
  change ((s.freshCkpt f).twin.abandoned || (s.freshCkpt f).twin.packs.length != n) = true
  rw [Bool.or_eq_true, bne_iff_ne]
  by_contra hc
  obtain ⟨h1, h2⟩ := not_or.1 hc
  exact hw ⟨Bool.eq_false_iff.2 h1, not_not.1 h2⟩

/-- The state in which what a checkpoint has made past is gone. -/
def State.pastGone (s : State) (f : Nat) : State :=
  (s.each (s.twin.inputs.filter (s.isPast f s.twin.packs)) State.retireInput).each s.twin.packs (fun s e => s.consumed e.1 e.2)

theorem State.pastGone_twin (s : State) (f : Nat) : (s.pastGone f).twin = s.twin := by
  unfold State.pastGone
  rw [State.each_keeps State.twin (fun t (e : Nat × List Byte) => t.consumed e.1 e.2) (fun t e => t.consumed_twin e.1 e.2),
    State.each_keeps State.twin State.retireInput State.retireInput_twin]

/-- The twin after a checkpoint has become the complete one, from what it was and the records made past. -/
def Twin.completed (t : Twin) (packs : List (Nat × List Byte)) (f : Nat) (old : List RecIn) : Twin :=
  { t with complete := packs, packs := [], wr := 0, fc := f, half := !t.half, inputs := t.inputs.filter (fun r => !old.contains r) }

theorem Twin.completed_noInputs {t : Twin} (h : t.inputs = []) (p : List (Nat × List Byte)) (f : Nat) (old : List RecIn) :
    t.completed p f old = { t with complete := p, packs := [], wr := 0, fc := f, half := !t.half } := by
  cases t
  subst h
  rfl

theorem State.pastGone_nothing {s : State} (hi : s.twin.inputs = []) (hp : s.twin.packs = []) (f : Nat) : s.pastGone f = s := by
  unfold State.pastGone
  rw [hi, hp]
  rfl

theorem State.twinCkptEnd_whole {s : State} (h : s.mirroring = true) {f n : Nat} (hw : (s.freshCkpt f).twin.whole n) : s.twinCkptEnd f n =
    let u := s.freshCkpt f
    { u.pastGone f with
      twin := (u.pastGone f).twin.completed u.twin.packs f (u.twin.inputs.filter (u.isPast f u.twin.packs)) } := by
  obtain ⟨h1, h2⟩ := hw
  have hc : ¬ ((s.freshCkpt f).twin.abandoned || (s.freshCkpt f).twin.packs.length != n) = true := by
    rw [h1, h2]
    simp
  exact (if_neg (by rw [h]; decide)).trans (if_neg hc)

theorem State.woken_hasTwin (s : State) (c : Instr) : (s.woken c).hasTwin = s.hasTwin := State.of_woken s c (f := State.hasTwin) fun _ => rfl

/-- Settles O53, from what an attach, a record, a pack, the end of a checkpoint and a heartbeat each leave. -/
theorem twinMirrors : Obligations.TwinMirrors := by
  unfold Obligations.TwinMirrors
  refine ⟨fun n s => ?_, fun n s h => State.attachRefusal_other h, fun b s => ⟨fun h => ?_, fun r hm hb => ?_⟩, fun f tag pack s => ?_,
    fun f cnt s => ?_, fun d k s => ⟨fun h => congrArg done (if_pos h), fun h => congrArg done (if_neg (by rw [h]; decide))⟩, fun h s ha => ?_⟩
  · intro may r no
    refine ⟨fun h => congrArg done (State.twinAttach_not h), fun h hr ht => ?_, fun h hr ht => ?_, fun h hr hs hl => ?_, fun h hr hor => ?_⟩
    · exact congrArg done ((State.twinAttach_may h).trans ((if_pos hr).trans (if_pos ht)))
    · exact ⟨State.attachRefusal_other ht, congrArg done ((State.twinAttach_may h).trans ((if_pos hr).trans (if_neg ht)))⟩
    · exact congrArg done ((State.twinAttach_may h).trans ((if_neg (not_not.2 hr)).trans (if_pos (by rw [hs, hl]; rfl))))
    · refine congrArg done ((State.twinAttach_may h).trans ((if_neg (not_not.2 hr)).trans (if_neg ?_)))
      rcases hor with e | e <;> simp [e]
  · refine congrArg done ?_
    unfold State.twinInput
    rcases h with h | h
    · rw [h]
      rfl
    · rw [h]
      split <;> rfl
  · intro u
    have hx : s.twinInput b = u.applyInput r := by
      unfold State.twinInput
      rw [hm, hb]
      rfl
    exact ⟨congrArg done hx, fun hk => congrArg done (hx.trans (State.applyInput_none hk)),
      fun hk hd => congrArg done (hx.trans (State.applyInput_detach hk hd))⟩
  · intro u
    refine ⟨fun h => congrArg done (State.twinCkpt_not h ..), fun hm hor => ⟨fun hab => ?_, fun hab => ?_⟩, fun a hm harea hab hsz => ?_⟩
    · exact congrArg done ((State.twinCkpt_unfit hm _ hor).trans (State.abandonCkpt_again hab))
    · exact congrArg done ((State.twinCkpt_unfit hm _ hor).trans (State.abandonCkpt_first hab))
    · have hh : (s.freshCkpt f.toNat).twin.half = s.twin.half := Twin.fresh_half ..
      refine ⟨_, congrArg done (State.twinCkpt_fits hm tag.toNat harea hab hsz), rfl, rfl, Twin.fresh_ckptF .., ?_, rfl⟩
      change s.mem.write ((s.freshCkpt f.toNat).halfBase a + u.twin.wr) pack = _
      rw [State.halfBase, hh]
  · intro u whole
    have hh : (s.freshCkpt f.toNat).twin.half = s.twin.half := Twin.fresh_half ..
    have hg := (s.freshCkpt f.toNat).pastGone_twin f.toNat
    refine ⟨fun h => congrArg done (State.twinCkptEnd_not h ..), fun hm hw => congrArg done (State.twinCkptEnd_part hm hw),
      fun hm hw => ⟨_, congrArg done (State.twinCkptEnd_whole hm hw), rfl, rfl, rfl, rfl, ?_⟩, fun hm hw hi hp => ?_⟩
    · change (!((s.freshCkpt f.toNat).pastGone f.toNat).twin.half) = _
      rw [hg, hh]
    · have hi' : (s.freshCkpt f.toNat).twin.inputs = [] := (Twin.fresh_inputs ..).trans hi
      have hx := State.twinCkptEnd_whole hm hw
      dsimp only at hx
      rw [State.pastGone_nothing hi' hp, Twin.completed_noInputs hi', hh] at hx
      refine congrArg done (hx.trans ?_)
      rw [show (s.freshCkpt f.toNat).twin.packs = [] from hp]
      rfl
  · intro c
    refine ⟨fun hb => ?_, fun hb => ?_⟩
    · have hr : (s.woken c).twinDetachRep = _ := if_pos ((s.woken_hasTwin c).trans hb)
      rw [State.woken_twin] at hr
      exact done_runMsg (f := State.twinDetachRep) ha hr
    · exact done_runMsg (f := State.twinDetachRep) ha (if_neg (by rw [State.woken_hasTwin, hb]; decide))

end Sys2Proof.Machine
end

section
/-!
SUPPORT and proof of O54: the loss of a twin and a takeover (16 R421 to R424).
-/

namespace Sys2Proof.Machine

/-! ### The loss of a twin and a takeover (16 R421 to R424) -/

/-- Where no stream is open and the complete checkpoint is empty, a restore changes nothing. -/
theorem State.restoreAll_nothing {s : State} (hc : s.twin.complete = []) (hs : s.streams = []) : s.restoreAll = s := by
  unfold State.restoreAll
  rw [hc]
  unfold State.streamsWhere State.openStreams
  simp only [State.each, List.foldl_nil, hs, List.filter_nil, List.map_nil]

theorem State.hushed_restoreAll_nothing {s : State} (hc : s.twin.complete = []) (hs : s.streams = []) : s.hushed State.restoreAll = s := by
  unfold State.hushed
  rw [State.restoreAll_nothing (s := { s with sessions := [] }) hc hs]

theorem srcRecord_frame (old s : State) (d : Nat) : (srcRecord old s d).twin = s.twin ∧ (srcRecord old s d).streams = s.streams ∧
    (srcRecord old s d).execs = s.execs := by
  unfold srcRecord
  split
  · exact ⟨rfl, rfl, rfl⟩
  · exact ⟨State.record_twin .., State.record_streams .., State.record_execs ..⟩

/-- The loss of a source leaves the twin, the streams and the executions. -/
theorem State.sourceLost_frame (s : State) (d : Nat) : (s.sourceLost d).twin = s.twin ∧ (s.sourceLost d).streams = s.streams ∧
    (s.sourceLost d).execs = s.execs := by
  unfold State.sourceLost
  split
  · unfold State.toHoldover
    extract_lets h s1
    obtain ⟨k1, k2, k3⟩ := srcRecord_frame h (((s1.cnt .tickHoldCnt d 15 0 1).flagT d 1).event 0x0102 d d) d
    rw [k1, k2, k3]
    simp [s1, h, State.flagT, State.setRate, State.holdRate]
  · exact ⟨rfl, rfl, rfl⟩

theorem State.sourcesLost_frame (s : State) (l : List Nat) : (s.each l State.sourceLost).twin = s.twin ∧
    (s.each l State.sourceLost).streams = s.streams ∧ (s.each l State.sourceLost).execs = s.execs :=
  State.each_inv (P := fun t => t.twin = s.twin ∧ t.streams = s.streams ∧ t.execs = s.execs) l
    (fun t d _ ⟨h1, h2, h3⟩ => by
      obtain ⟨k1, k2, k3⟩ := t.sourceLost_frame d
      exact ⟨k1.trans h1, k2.trans h2, k3.trans h3⟩) s ⟨rfl, rfl, rfl⟩

/-- Replies that leave change neither the twin nor the streams. -/
theorem State.releaseHeld_frame (s : State) : s.releaseHeld.twin = { s.twin with fwdWait := [] } ∧ s.releaseHeld.streams = s.streams := by
  unfold State.releaseHeld
  exact State.each_inv (P := fun t => t.twin = { s.twin with fwdWait := [] } ∧ t.streams = s.streams) s.twin.fwdWait
    (fun t w _ ⟨h1, h2⟩ => ⟨(State.sendMsg_twin ..).trans h1, (State.sendMsg_streams ..).trans h2⟩) _ ⟨rfl, rfl⟩

theorem State.twinLost_frame (s : State) : s.twinLost.twin.state = .lost ∧ s.twinLost.twin.fwdWait = [] ∧ s.twinLost.streams = s.streams := by
  unfold State.twinLost State.twinRecord
  extract_lets x tw
  obtain ⟨h1, h2⟩ := ({ s with twin := tw } : State).releaseHeld_frame
  rw [State.record_twin, State.record_streams, State.event_twin, State.event_streams, h1, h2]
  exact ⟨rfl, rfl, rfl⟩

/-- The state in which every twin link has an order. -/
def State.ordersSent (s : State) : State := s.each s.twinLinks (fun s n => (s.sendOn n s.twinId 0 7 0 (leBytes 8 0)).2)

theorem State.ordersSent_frame (s : State) : s.ordersSent.twin = s.twin ∧ s.ordersSent.streams = s.streams :=
  State.each_inv (P := fun t => t.twin = s.twin ∧ t.streams = s.streams) s.twinLinks
    (fun _ _ _ ⟨h1, h2⟩ => ⟨(State.sendOn_twin ..).trans h1, (State.sendOn_streams ..).trans h2⟩) s ⟨rfl, rfl⟩

theorem State.takeOver_may {s : State} (h : s.standby = true ∧ (s.twin.state = .attached ∨ s.twin.state = .lost)) :
    s.takeOver = ({ s.ordersSent with twin := { s.ordersSent.twin with state := .taking } }).twinRecord :=
  if_pos (by simpa using h)

/-- Settles O54, from what each loss, order and end of a takeover leaves. -/
theorem twinTakesOver : Obligations.TwinTakesOver := by
  unfold Obligations.TwinTakesOver
  refine ⟨fun s => ?_, fun s => ?_, fun s => s.twinLost_frame, fun s => ?_, fun s => ?_, fun s => ?_⟩
  · intro lost
    have hi : (s.mirroring && decide (s.hbLoss ≤ s.twin.hbMissed)) = true ↔ lost := by
      rw [Bool.and_eq_true, decide_eq_true_eq]
    exact ⟨fun h hb => congrArg done ((if_pos (hi.2 h)).trans (if_pos hb)),
      fun h hb => congrArg done ((if_pos (hi.2 h)).trans (if_neg (Bool.eq_false_iff.1 hb))), fun h => congrArg done (if_neg fun e => h (hi.1 e))⟩
  · intro lost
    have hi : (s.forwarding && decide (s.hbLoss ≤ s.twin.hbMissed)) = true ↔ lost := by
      rw [Bool.and_eq_true, decide_eq_true_eq]
    exact ⟨fun h => congrArg done (if_pos (hi.2 h)), fun h => congrArg done (if_neg fun e => h (hi.1 e))⟩
  · intro may u
    refine ⟨fun h => congrArg done (State.takeOver_may h), fun h => ⟨_, congrArg done (State.takeOver_may h), ?_⟩,
      fun h => congrArg done (if_neg fun e => h (by simpa using e))⟩
    obtain ⟨k1, k2⟩ := s.ordersSent_frame
    unfold State.twinRecord
    rw [finish_twin, finish_streams, State.record_twin, State.record_streams, k1]
    exact ⟨rfl, k2, rfl, rfl⟩
  · intro u ds v w
    refine ⟨fun h => congrArg done (if_pos h), fun h => congrArg done (if_neg h), fun h hc hs => ⟨_, congrArg done (if_pos h), ?_⟩⟩
    have hu : u = s := State.hushed_restoreAll_nothing hc hs
    have hw : w.twin = v.twin ∧ w.streams = v.streams ∧ w.execs = v.execs :=
      ⟨(State.record_twin ..).trans (State.event_twin ..), (State.record_streams ..).trans (State.event_streams ..),
        (State.record_execs ..).trans (State.event_execs ..)⟩
    obtain ⟨k1, k2, k3⟩ := w.sourcesLost_frame (ds.filter (fun d => w.twinSrc d))
    obtain ⟨w1, w2, w3⟩ := hw
    have hst : u.streams = s.streams := congrArg (fun t : State => t.streams) hu
    have hex : u.execs = s.execs := congrArg (fun t : State => t.execs) hu
    rw [finish_twin, finish_streams, finish_execs]
    exact ⟨(congrArg Twin.state k1).trans (congrArg Twin.state w1), (congrArg Twin.complete k1).trans (congrArg Twin.complete w1),
      (k2.trans (w2.trans hst)).trans hs, k3.trans (w3.trans hex)⟩
  · intro obeys
    have hi : (s.bit .linkTwinCfg 0 31 && !s.bit .linkTwinCfg 0 16 && s.runs) = true ↔ obeys := by
      rw [Bool.and_eq_true, Bool.and_eq_true, Bool.not_eq_true', and_assoc]
      exact Iff.rfl
    exact ⟨fun h => congrArg done (if_pos (hi.2 h)), fun h => congrArg done (if_neg fun e => h (hi.1 e))⟩

end Sys2Proof.Machine
end

section
/-!
SUPPORT and proof of O55: the recorder and replay (19 R491 to R501).
-/

namespace Sys2Proof.Machine

/-! ### TREC_CTL and replay (19 R491 to R501) -/

/-- The records of a ring depend on memory and its checks only. -/
theorem State.recRead_of_mem {s t : State} (hm : t.mem = s.mem) (hx : t.memx = s.memx) (a : Area) (k off room : Nat) :
    t.recRead a k off room = s.recRead a k off room := by
  induction k generalizing off room with
  | zero => rfl
  | succ k ih =>
    unfold State.recRead State.badIn
    simp only [hm, hx, ih]

theorem State.recBad_of_mem {s t : State} (hm : t.mem = s.mem) (hx : t.memx = s.memx) (a : Area) (k off : Nat) :
    t.recBad a k off = s.recBad a k off := by
  induction k generalizing off with
  | zero => rfl
  | succ k ih =>
    unfold State.recBad State.badIn
    simp only [hm, hx, ih]

theorem State.recOff_woken (s : State) (c : Instr) (a : Area) (q : Nat) : (s.woken c).recOff a q = s.recOff a q :=
  State.of_woken s c (f := fun t => t.recOff a q) fun _ => rfl

theorem State.recRead_woken (s : State) (c : Instr) (a : Area) (k off room : Nat) : (s.woken c).recRead a k off room = s.recRead a k off room :=
  State.recRead_of_mem (State.woken_mem ..) (State.woken_memx ..) ..

theorem State.recBad_woken (s : State) (c : Instr) (a : Area) (k off : Nat) : (s.woken c).recBad a k off = s.recBad a k off :=
  State.recBad_of_mem (State.woken_mem ..) (State.woken_memx ..) ..

/-- The room for records in a reply on a session. -/
def State.recRoom (s : State) (n : Nat) : Nat := ((s.sess n).map (fun x => x.maxPayload)).getD 0

theorem State.trecReadRep_noRing {s : State} (h : s.cfg.trec = none) (n q k : Nat) : s.trecReadRep n q k = .no s 0x802 := by
  unfold State.trecReadRep State.ring
  rw [h]

theorem State.trecReadRep_gone {s : State} {q : Nat} (h : q < s.trec.tailSeq ∨ s.trec.headSeq ≤ q) (n k : Nat) :
    s.trecReadRep n q k = .no s 0x802 := by
  unfold State.trecReadRep
  split
  · rfl
  · exact if_pos h

theorem State.trecReadRep_held {s : State} {q : Nat} {a : Area} {b : List Byte} (ha : s.cfg.trec = some a)
    (hq : ¬ (q < s.trec.tailSeq ∨ s.trec.headSeq ≤ q)) {n k : Nat}
    (h : s.recRead a (min k (s.trec.headSeq - q)) (s.recOff a q) (s.recRoom n) = some b) : s.trecReadRep n q k = .ok s b := by
  unfold State.recRoom at h
  unfold State.trecReadRep State.ring
  rw [ha]
  refine (if_neg hq).trans ?_
  dsimp only
  rw [h]

theorem State.trecReadRep_bad {s : State} {q : Nat} {a : Area} {b : Nat} (ha : s.cfg.trec = some a)
    (hq : ¬ (q < s.trec.tailSeq ∨ s.trec.headSeq ≤ q)) {n k : Nat}
    (h : s.recRead a (min k (s.trec.headSeq - q)) (s.recOff a q) (s.recRoom n) = none)
    (hb : s.recBad a (min k (s.trec.headSeq - q)) (s.recOff a q) = some b) :
    s.trecReadRep n q k = .no (s.readFailed (b * 64) (reqCode .mgmt)) 0x803 := by
  unfold State.recRoom at h
  unfold State.trecReadRep State.ring
  rw [ha]
  refine (if_neg hq).trans ?_
  dsimp only
  rw [h, hb]

/-- One record that fits and whose blocks are good. -/
theorem State.recRead_one {s : State} (h : s.memx.badBlocks = []) (a : Area) {off room : Nat}
    (hr : max 16 (s.mem.leN (a.base + off) 4) ≤ room) :
    s.recRead a 1 off room = some (s.mem.readN (a.base + off) (max 16 (s.mem.leN (a.base + off) 4))) := by
  unfold State.recRead State.badIn State.recRead
  rw [h]
  simp only [List.filter_nil, List.isEmpty_nil, Bool.not_true, Bool.false_eq_true, if_false, if_neg (Nat.not_lt.2 hr), Option.map_some,
    List.append_nil]

theorem State.trecAckRep_not {s : State} {q : Nat} (h : ¬ (s.trec.drainSeq ≤ q ∧ q ≤ s.trec.headSeq)) : s.trecAckRep q = .no s 0x802 :=
  if_pos (by omega)

theorem State.trecAckRep_held {s : State} {t : Trec} {g : Option Area} (ht : s.trec = t) (hg : s.cfg.trec = g) {q : Nat}
    (h : t.drainSeq ≤ q ∧ q ≤ t.headSeq) : s.trecAckRep q =
    .ok { s with trec := { t with drainSeq := q, drainOff := g.elim t.drainOff (s.recOff · q) } } := by
  subst ht hg
  refine (if_neg (by omega)).trans ?_
  unfold State.ring
  cases s.cfg.trec <;> rfl

/-- What a device must be for a replay to begin. -/
def State.replayFree (s : State) : Prop :=
  s.dev.stage = 2 ∧ s.pitches.all (fun e => !e.2.built && !e.2.building) = true ∧ s.ctxs.all (fun e => e.2.state == .free) = true ∧
    s.twin.state ≠ .attached ∧ s.sessions.length = 1

theorem State.replayFree_iff (s : State) : (s.dev.stage == 2 && s.pitches.all (fun e => !e.2.built && !e.2.building) &&
    s.ctxs.all (fun e => e.2.state == .free) && s.twin.state != .attached && s.sessions.length == 1) = true ↔ s.replayFree := by
  simp only [State.replayFree, Bool.and_eq_true, beq_iff_eq, bne_iff_ne, and_assoc]

theorem State.replayBeginRep_not {s : State} (h : ¬ s.replayFree) (n : Nat) : s.replayBeginRep n = .no s 0x804 :=
  if_pos (by rw [Bool.not_eq_true', ← Bool.not_eq_true, s.replayFree_iff]; exact h)

theorem State.replayBeginRep_free {s : State} (h : s.replayFree) (n : Nat) : s.replayBeginRep n =
    if s.replay.active then .ok s else .ok { s with replay := { Replay.reset with active := true, session := n } } :=
  if_neg (by rw [Bool.not_eq_true', ← Bool.not_eq_true, s.replayFree_iff]; exact not_not.2 h)

theorem State.replayFree_woken (s : State) (c : Instr) : (s.woken c).replayFree = s.replayFree :=
  State.of_woken s c (f := State.replayFree) fun _ => rfl

theorem State.replayDataRep_off {s : State} (h : s.replay.active = false) (d : List Byte) : s.replayDataRep d = .no s 0x804 :=
  if_pos (by rw [h]; rfl)

theorem State.replayDataRep_on {s : State} (h : s.replay.active = true) (d : List Byte) : s.replayDataRep d =
    let r := s.takeRecs (d.length / 16 + 1) d 0
    ⟨r.1, leBytes 4 r.2.1, r.2.2.each r.2.2.replay.stopped (fun s k => s.playTick k (s.td k).next), false⟩ :=
  if_neg (by rw [h]; decide)

/-- A whole record has a header. -/
theorem parseRec_length {b : List Byte} {r : RecIn} (h : parseRec b = some r) : 64 ≤ leAt b 0 4 := by
  unfold parseRec at h
  dsimp only at h
  split at h
  · next hc => exact hc.1
  · cases h

theorem shortPad_rec {b : List Byte} (h : 64 ≤ leAt b 0 4) : shortPad b = none := if_neg fun hc => Nat.not_lt.2 h hc.2.1

/-- The state in which a record that waits for its tick is taken. -/
def State.queuedRec (s : State) (r : RecIn) : State :=
  { s with replay := { s.replay with lastSeq := some r.seq, queue := s.replay.queue ++ [r], bytes := s.replay.bytes + r.size } }

theorem State.takeRec_queued {s : State} {r : RecIn} {q : Nat} (hq : s.replay.lastSeq = some q) (h1 : r.kind ≠ 1) (hp : r.kind ≠ 0xFFFF) :
    s.takeRec r = s.queuedRec r := by
  unfold State.takeRec
  dsimp only
  rw [hq, if_neg (by simp), if_neg (by simp [h1, hp])]
  rfl

/-- A message that is one record. -/
theorem State.takeRecs_one {s : State} {r : RecIn} {d : List Byte} {q : Nat} (hd : parseRec d = some r) (hl : d.length = leAt d 0 4)
    (hq : s.replay.lastSeq = some q) (h1 : r.kind ≠ 1) (hp : r.kind ≠ 0xFFFF) (hr : s.recRefusal r = 0) :
    s.takeRecs (d.length / 16 + 1) d 0 = (0, 1, s.queuedRec r) := by
  have h64 := parseRec_length hd
  have hne : d.isEmpty = false := by
    rw [List.isEmpty_eq_false_iff_exists_mem, ← List.length_pos_iff_exists_mem]
    omega
  obtain ⟨f, hf⟩ : ∃ f, d.length / 16 = f + 1 := ⟨d.length / 16 - 1, by omega⟩
  have hdrop : d.drop (leAt d 0 4) = [] := List.drop_eq_nil_of_le (by omega)
  rw [hf]
  unfold State.takeRecs
  rw [hne, shortPad_rec h64, hd]
  dsimp only
  rw [if_neg (by decide), hr, if_neg (by decide), hdrop, State.takeRec_queued hq h1 hp]
  rfl

/-- Settles O55, from what each request of the recorder and of a replay answers. -/
theorem recorder : Obligations.Recorder := by
  unfold Obligations.Recorder
  refine ⟨fun h q n s ha => ?_, fun h q s ha => ?_, fun h s ha => ?_, fun h s ha => ?_, fun h d s ha => ?_, fun h s ha => ?_⟩
  · intro c w k
    have hcfg : w.cfg = s.cfg := State.woken_cfg ..
    have htrec : w.trec = s.trec := State.woken_trec ..
    have hroom : w.recRoom h.session = s.recRoom h.session := State.of_woken s c (f := fun t => t.recRoom h.session) fun _ => rfl
    have hr {u : State} {st : Nat} {p : List Byte} (e : w.trecReadRep h.session q.toNat n.toNat = ⟨st, p, u, false⟩) :
        exec c s = answered c h s u st p := done_runMsg (f := fun t => t.trecReadRep h.session q.toNat n.toNat) ha e
    have hin (h1 : s.trec.tailSeq ≤ q.toNat) (h2 : q.toNat < s.trec.headSeq) : ¬ (q.toNat < w.trec.tailSeq ∨ w.trec.headSeq ≤ q.toNat) := by
      rw [htrec]
      omega
    have hread (a : Area) : w.recRead a (min n.toNat (w.trec.headSeq - q.toNat)) (w.recOff a q.toNat) (w.recRoom h.session) =
        s.recRead a k (s.recOff a q.toNat) (s.recRoom h.session) := by
      rw [htrec, State.recRead_woken, State.recOff_woken, hroom]
    have hok (a : Area) (b : List Byte) (hc : s.cfg.trec = some a) (h1 : s.trec.tailSeq ≤ q.toNat) (h2 : q.toNat < s.trec.headSeq)
        (hb : s.recRead a k (s.recOff a q.toNat) (s.recRoom h.session) = some b) : exec c s = answered c h s w 0 b :=
      hr (State.trecReadRep_held (hcfg ▸ hc) (hin h1 h2) ((hread a).trans hb))
    refine ⟨fun hno => ?_, hok, fun a b hc h1 h2 hn hb => ?_, fun a hc h1 h2 hbad hone => ?_⟩
    · rcases hno with hno | hno
      · exact hr (State.trecReadRep_noRing (hcfg ▸ hno) ..)
      · exact hr (State.trecReadRep_gone (htrec ▸ hno) ..)
    · refine hr (State.trecReadRep_bad (hcfg ▸ hc) (hin h1 h2) ((hread a).trans hn) ?_)
      rw [htrec, State.recBad_woken, State.recOff_woken]
      exact hb
    · intro off l hmax
      obtain ⟨-, hopen, -, -⟩ := ha
      obtain ⟨x, hx⟩ := Option.isSome_iff_exists.1 hopen
      refine hok a _ hc h1 h2 ?_
      have hk : k = 1 := by
        have : n.toNat = 1 := congrArg BitVec.toNat hone
        omega
      have hl : l ≤ s.recRoom h.session := by
        rw [State.recRoom, hx]
        exact hmax x hx
      rw [hk]
      exact State.recRead_one hbad a hl
  · intro c held
    have htrec : (s.woken c).trec = s.trec := State.woken_trec ..
    have hcfg : (s.woken c).cfg = s.cfg := State.woken_cfg ..
    have hr {u : State} {st : Nat} {p : List Byte} (e : (s.woken c).trecAckRep q.toNat = ⟨st, p, u, false⟩) :
        exec c s = answered c h s u st p := done_runMsg (f := fun t => t.trecAckRep q.toNat) ha e
    have hheld {g : Option Area} (hg : s.cfg.trec = g) (hh : held) :=
      State.trecAckRep_held (s := s.woken c) htrec ((congrArg Cfg.trec hcfg).trans hg) hh
    refine ⟨fun hn => hr (State.trecAckRep_not (by rw [htrec]; exact hn)), fun hh hc => hr (hheld hc hh), fun a hh hc => ?_⟩
    have e := hheld hc hh
    dsimp only [Option.elim_some] at e
    rw [State.recOff_woken] at e
    exact hr e
  · intro c
    have hrep : (s.woken c).replay = s.replay := State.woken_replay ..
    have htrec : (s.woken c).trec = s.trec := State.woken_trec ..
    refine ⟨fun h1 => done_runMsg (f := State.trecClearRep) ha (if_pos (hrep.symm ▸ h1)), fun h1 => ?_⟩
    intro t u
    have e : (s.woken c).trecClearRep = _ := if_neg (Bool.eq_false_iff.1 (hrep.symm ▸ h1))
    rw [htrec] at e
    exact done_runMsg (f := State.trecClearRep) ha e
  · intro c empty
    have hrep : (s.woken c).replay = s.replay := State.woken_replay ..
    have hfree : (s.woken c).replayFree = empty := s.replayFree_woken c
    have hr {u : State} {st : Nat} (e : (s.woken c).replayBeginRep h.session = ⟨st, [], u, false⟩) : exec c s = answered c h s u st [] :=
      done_runMsg (f := fun t => t.replayBeginRep h.session) ha e
    have hb (he : empty) := State.replayBeginRep_free (s := s.woken c) (hfree.symm ▸ he) h.session
    refine ⟨fun hn => hr (State.replayBeginRep_not (hfree.symm ▸ hn) _), fun he h1 => ?_, fun he h1 => ?_⟩
    · exact hr ((hb he).trans (if_pos (hrep.symm ▸ h1)))
    · exact hr ((hb he).trans (if_neg (Bool.eq_false_iff.1 (hrep.symm ▸ h1))))
  · intro c w r
    have hrep : w.replay = s.replay := State.woken_replay ..
    have hr {u : State} {st : Nat} {p : List Byte} (e : w.replayDataRep d = ⟨st, p, u, false⟩) : exec c s = answered c h s u st p :=
      done_runMsg (f := fun t => t.replayDataRep d) ha e
    refine ⟨fun h1 => hr (State.replayDataRep_off (hrep.symm ▸ h1) d), fun h1 => hr (State.replayDataRep_on (hrep.symm ▸ h1) d),
      fun r q h1 hd hl hq _ hs hk hf hst => ?_⟩
    have hf' : w.recRefusal r = 0 := (State.of_woken s c (f := fun t => t.recRefusal r) fun _ => rfl).trans hf
    have ht := State.takeRecs_one hd hl (s := w) (hrep.symm ▸ hq) hs hk hf'
    have e := State.replayDataRep_on (s := w) (hrep.symm ▸ h1) d
    dsimp only at e
    rw [ht] at e
    have hstop : (w.queuedRec r).replay.stopped = [] := (congrArg Replay.stopped hrep).trans hst
    dsimp only at e
    rw [hstop] at e
    have hx := hr e
    unfold State.queuedRec at hx
    rw [hrep] at hx
    exact hx
  · intro c
    have hrep : (s.woken c).replay = s.replay := State.woken_replay ..
    exact ⟨fun h1 => done_runMsg (f := State.replayEndRep) ha (if_pos (hrep.symm ▸ h1)),
      fun h1 => done_runMsg (f := State.replayEndRep) ha (if_neg (Bool.eq_false_iff.1 (hrep.symm ▸ h1)))⟩

end Sys2Proof.Machine
end

section
/-!
SUPPORT: register writes, Kiosk instructions, what a withdrawn owner leaves and configuration records keep the device's hold (17 R428). A lemma `f_hold` says so of `f`; the operations that take an operation as argument ask it to keep it.
-/

namespace Sys2Proof.Machine

/-! ### Combinators -/

@[simp] theorem Dev.hold_ite (c : Prop) [Decidable c] (a b : Dev) : (if c then a else b).hold = if c then a.hold else b.hold :=
  apply_ite Dev.hold c a b

@[simp] theorem State.cond_hold {f : State → State} (h : ∀ t : State, (f t).dev.hold = t.dev.hold) (s : State) (b : Bool) :
    (s.cond b f).dev.hold = s.dev.hold := by
  cases b
  · rfl
  · exact h s

@[simp] theorem State.foldl_hold {α : Type} {f : State → α → State} (h : ∀ (t : State) x, (f t x).dev.hold = t.dev.hold) (s : State)
    (l : List α) : (l.foldl f s).dev.hold = s.dev.hold := State.each_keeps (fun t => t.dev.hold) f h l s

@[simp] theorem State.wipe_hold (s : State) (a n : Nat) : (s.wipe a n).dev.hold = s.dev.hold := by rfl

@[simp] theorem State.excFault_hold (s : State) (k c : Nat) : (s.excFault k c).dev.hold = s.dev.hold := by
  rw [(s.excFault_kern k c).1]

@[simp] theorem State.excRelease_hold (s : State) (k : Nat) : (s.excRelease k).dev.hold = s.dev.hold := by
  rw [(s.excRelease_kern k).1]

@[simp] theorem State.each_hold {α : Type} {f : State → α → State} (h : ∀ (t : State) x, (f t x).dev.hold = t.dev.hold) (s : State)
    (l : List α) : (s.each l f).dev.hold = s.dev.hold := State.foldl_hold h s l

@[simp] theorem State.draw_hold (s : State) : (s.draw).2.dev.hold = s.dev.hold := by rfl

@[simp] theorem State.rbLate_hold (s : State) (w : Nat) (deadline : Option Nat) : (s.rbLate w deadline).dev.hold = s.dev.hold := by
  unfold State.rbLate
  split <;> simp

@[simp] theorem State.armTst_hold (s : State) (n : Nat) (t : BitVec 24) : (s.armTst n t).dev.hold = s.dev.hold := by
  simp [State.armTst]

@[simp] theorem State.passTst_hold (s : State) (n k : Nat) : (s.passTst n k).dev.hold = s.dev.hold := by
  simp [State.passTst]

@[simp] theorem State.tstRange_hold (s : State) : (s.tstRange).dev.hold = s.dev.hold := by rfl

@[simp] theorem State.hostTst_hold {f : State → State} (h : ∀ t, (f t).dev.hold = t.dev.hold) (s : State) (n : Nat) :
    (s.hostTst n f).dev.hold = s.dev.hold := by
  simp [State.hostTst, h]

@[simp] theorem State.hostArm_hold (s : State) (n : Nat) : (s.hostArm n).dev.hold = s.dev.hold := by
  simp [State.hostArm]

@[simp] theorem State.hostPass_hold (s : State) (n : Nat) : (s.hostPass n).dev.hold = s.dev.hold := by
  simp [State.hostPass]

@[simp] theorem State.hostReset_hold (s : State) (n : Nat) : (s.hostReset n).dev.hold = s.dev.hold := by
  simp [State.hostReset]

@[simp] theorem State.faultExec_hold (s : State) (id code : Nat) :
    (s.faultExec id code).dev.hold = s.dev.hold := by
  unfold State.faultExec
  split <;> simp

@[simp] theorem State.parity_hold (s : State) (a : Nat) (reader : Option Nat) :
    (s.parity a reader).1.dev.hold = s.dev.hold := by
  unfold State.parity
  dsimp only
  (repeat' split) <;> simp

@[simp] theorem State.retireEntry_hold (s : State) (i : Nat) :
    (s.retireEntry i).dev.hold = s.dev.hold := by
  simp [State.retireEntry]

@[simp] theorem State.movrEn_hold (s : State) (n : Nat) : (s.movrEn n).dev.hold = s.dev.hold := by
  simp [State.movrEn]

@[simp] theorem State.movrAbort_hold (s : State) (n : Nat) :
    (s.movrAbort n).dev.hold = s.dev.hold := by
  simp [State.movrAbort]

@[simp] theorem State.movrDis_hold (s : State) (n : Nat) :
    (s.movrDis n).dev.hold = s.dev.hold := by
  simp [State.movrDis]

@[simp] theorem State.movrStart_hold (s : State) (n : Nat) (rq : Requester) : (s.movrStart n rq).dev.hold = s.dev.hold := by
  simp [State.movrStart]

@[simp] theorem State.movrResume_hold (s : State) (n : Nat) : (s.movrResume n).dev.hold = s.dev.hold := by
  simp [State.movrResume]

@[simp] theorem State.movrUnpause_hold (s : State) (n : Nat) : (s.movrUnpause n).dev.hold = s.dev.hold := by
  unfold State.movrUnpause
  dsimp only
  split <;> simp

@[simp] theorem State.movrPause_hold (s : State) (n : Nat) : (s.movrPause n).dev.hold = s.dev.hold := by rfl

@[simp] theorem State.portEn_hold (s : State) (p : Nat) : (s.portEn p).dev.hold = s.dev.hold := by
  simp [State.portEn]

@[simp] theorem State.withdrawPort_hold (s : State) (p : Nat) : (s.withdrawPort p).dev.hold = s.dev.hold := by
  refine State.each_hold (fun t n => ?_) s _
  rfl

@[simp] theorem State.portDis_hold (s : State) (p : Nat) : (s.portDis p).dev.hold = s.dev.hold := by
  simp [State.portDis]

@[simp] theorem State.portsStop_hold (s : State) (d : Nat) : (s.portsStop d).dev.hold = s.dev.hold := by
  refine State.each_hold (fun t p => ?_) s _
  rfl

@[simp] theorem State.setRate_hold (s : State) (d r : Nat) : (s.setRate d r).dev.hold = s.dev.hold := by
  simp [State.setRate]

@[simp] theorem State.holdRate_hold (s : State) (d : Nat) : (s.holdRate d).dev.hold = s.dev.hold := by
  simp [State.holdRate]

@[simp] theorem State.flagT_hold (s : State) (d bit : Nat) : (s.flagT d bit).dev.hold = s.dev.hold := by rfl

@[simp] theorem srcRecord_hold (s : State) (old : State) (d : Nat) : (srcRecord old s d).dev.hold = s.dev.hold := by
  unfold srcRecord
  split <;> simp

@[simp] theorem State.toAcquire_hold (s : State) (d : Nat) (free : Bool) :
    (s.toAcquire d free).dev.hold = s.dev.hold := by
  simp [State.toAcquire]

@[simp] theorem State.toLocked_hold (s : State) (d : Nat) :
    (s.toLocked d).dev.hold = s.dev.hold := by
  simp [State.toLocked]

@[simp] theorem State.toHoldover_hold (s0 : State) (d : Nat) :
    (s0.toHoldover d).dev.hold = s0.dev.hold := by
  simp [State.toHoldover]

@[simp] theorem State.toOff_hold (s : State) (d : Nat) :
    (s.toOff d).dev.hold = s.dev.hold := by
  simp [State.toOff]

@[simp] theorem State.takeSrc_hold (s : State) (d : Nat) : (s.takeSrc d).dev.hold = s.dev.hold := by
  simp [State.takeSrc]

@[simp] theorem State.sourceLost_hold (s : State) (d : Nat) :
    (s.sourceLost d).dev.hold = s.dev.hold := by
  simp [State.sourceLost]

@[simp] theorem State.tickEn_hold (s : State) (d : Nat) :
    (s.tickEn d).dev.hold = s.dev.hold := by
  unfold State.tickEn
  split <;> simp

@[simp] theorem State.tickDis_hold (s : State) (d : Nat) :
    (s.tickDis d).dev.hold = s.dev.hold := by
  simp [State.tickDis]

@[simp] theorem State.tickRestart_hold (s : State) (d : Nat) :
    (s.tickRestart d).dev.hold = s.dev.hold := by
  simp [State.tickRestart]

@[simp] theorem State.tickCfgErr_hold (s : State) (d : Nat) : (s.tickCfgErr d).dev.hold = s.dev.hold := by rfl

@[simp] theorem State.newSrc_hold (s : State) (d : Nat) (u : TickSrc) :
    (s.newSrc d u).dev.hold = s.dev.hold := by
  simp [State.newSrc]

@[simp] theorem State.srcChange_hold (s : State) (d src mult link : Nat) :
    (s.srcChange d src mult link).dev.hold = s.dev.hold := by
  simp [State.srcChange]

@[simp] theorem State.frameWrite_hold (s : State) (d v : Nat) : (s.frameWrite d v).dev.hold = s.dev.hold := by
  simp [State.frameWrite]

@[simp] theorem State.clearQuarters_hold (s : State) (qs : List Nat) :
    (s.clearQuarters qs).dev.hold = s.dev.hold := by
  simp [State.clearQuarters]

@[simp] theorem State.startBuild_hold (s : State) (b : BuildParams) :
    (s.startBuild b).dev.hold = s.dev.hold := by
  simp [State.startBuild]

@[simp] theorem State.epochRecord_hold (s : State) (subject dom e : Nat) :
    (s.epochRecord subject dom e).dev.hold = s.dev.hold := by
  simp [State.epochRecord]

@[simp] theorem State.buildDone_hold (s : State) (p : Nat) :
    (s.buildDone p).dev.hold = s.dev.hold := by
  simp [State.buildDone]

@[simp] theorem State.linkTo_hold (s : State) (n : Nat) (st : LState) : (s.linkTo n st).dev.hold = s.dev.hold := by rfl

@[simp] theorem State.linkEnable_hold (s : State) (n : Nat) : (s.linkEnable n).dev.hold = s.dev.hold := by
  simp [State.linkEnable]

@[simp] theorem State.linkDisable_hold (s : State) (n : Nat) : (s.linkDisable n).dev.hold = s.dev.hold := by
  simp [State.linkDisable]

@[simp] theorem State.routeInstall_hold (s : State) : (s.routeInstall).dev.hold = s.dev.hold := by
  simp [State.routeInstall]

@[simp] theorem State.updPtp_hold (s : State) (p : Nat) (f : Ptp → Ptp) : (s.updPtp p f).dev.hold = s.dev.hold := by rfl

@[simp] theorem State.updRtp_hold (s : State) (r : Nat) (f : Rtp → Rtp) : (s.updRtp r f).dev.hold = s.dev.hold := by rfl

@[simp] theorem State.ptpLock_hold (s : State) (p : Nat) (on : Bool) :
    (s.ptpLock p on).dev.hold = s.dev.hold := by
  simp [State.ptpLock]

@[simp] theorem State.rtpEnable_hold (s : State) (r : Nat) : (s.rtpEnable r).dev.hold = s.dev.hold := by
  simp [State.rtpEnable]

@[simp] theorem State.rtpDisable_hold (s : State) (r : Nat) : (s.rtpDisable r).dev.hold = s.dev.hold := by rfl

@[simp] theorem State.twinRecord_hold (s : State) :
    (s.twinRecord).dev.hold = s.dev.hold := by
  simp [State.twinRecord]

@[simp] theorem State.takeOver_hold (s : State) :
    (s.takeOver).dev.hold = s.dev.hold := by
  simp [State.takeOver]

@[simp] theorem State.powerTo_hold (s : State) (k wake : Nat) :
    (s.powerTo k wake).dev.hold = s.dev.hold := by
  simp [State.powerTo]

@[simp] theorem State.powerReq_hold (s : State) (k : Nat) :
    (s.powerReq k).2.dev.hold = s.dev.hold := by
  unfold State.powerReq
  dsimp only
  (repeat' split) <;> simp

@[simp] theorem State.setShadow_hold (s : State) (rq : Requester) (off v : Nat) : (s.setShadow rq off v).dev.hold = s.dev.hold := by rfl

@[simp] theorem State.readReg_hold (s : State) (rq : Requester) (r : RegName) (i j : Nat) :
    (s.readReg rq r i j).2.dev.hold = s.dev.hold := by
  simp [State.readReg]

@[simp] theorem State.regRead1_hold (s : State) (rq : Requester) (off : Nat) : (s.regRead1 rq off).2.2.dev.hold = s.dev.hold := by
  unfold State.regRead1
  split <;> simp

@[simp] theorem State.putWord_hold (s : State) (r : RegName) (i : Nat) (v : Nat) (j : Nat) :
    (s.putWord r i v j).dev.hold = s.dev.hold := by rfl

@[simp] theorem State.guarded_hold (s : State) (ok : Bool) (r : RegName) (i v : Nat) (evt : RegName) (k bit : Nat) :
    (s.guarded ok r i v evt k bit).dev.hold = s.dev.hold := by
  simp [State.guarded]

@[simp] theorem State.writeTickCtl_hold (s : State) (d v : Nat) :
    (s.writeTickCtl d v).dev.hold = s.dev.hold := by
  simp [State.writeTickCtl]

@[simp] theorem State.writeTick_hold (s : State) (r : RegName) (d v : Nat) :
    (s.writeTick r d v).dev.hold = s.dev.hold := by
  unfold State.writeTick
  split <;> simp

@[simp] theorem State.writeSdir_hold (s : State) (r : RegName) (i v : Nat) : (s.writeSdir r i v).dev.hold = s.dev.hold := by
  unfold State.writeSdir
  dsimp only
  split <;> simp

@[simp] theorem State.writeQtr_hold (s : State) (r : RegName) (q v : Nat) : (s.writeQtr r q v).dev.hold = s.dev.hold := by
  unfold State.writeQtr
  split <;> simp

@[simp] theorem State.writeSched_hold (s : State) (r : RegName) (i v : Nat) : (s.writeSched r i v).dev.hold = s.dev.hold := by
  unfold State.writeSched
  dsimp only
  (repeat' split) <;> simp

@[simp] theorem State.excClear_hold (s : State) (q j : Nat) : (s.excClear q j).dev.hold = s.dev.hold := by rfl

@[simp] theorem State.writeKiosk_hold (s : State) (r : RegName) (q j v : Nat) : (s.writeKiosk r q j v).dev.hold = s.dev.hold := by
  unfold State.writeKiosk
  split <;> simp

@[simp] theorem State.writePause_hold (s : State) (n : Nat) (b : Bool) : (s.writePause n b).dev.hold = s.dev.hold := by
  simp [State.writePause]

@[simp] theorem State.writeChan_hold (s : State) (n v : Nat) :
    (s.writeChan n v).dev.hold = s.dev.hold := by
  simp [State.writeChan]

@[simp] theorem State.writeHead_hold (s : State) (r : RegName) (n v : Nat) : (s.writeHead r n v).dev.hold = s.dev.hold := by
  simp [State.writeHead]

@[simp] theorem State.chanCmd_hold (s : State) (n : Nat) (rq : Requester) (v : Nat) :
    (s.chanCmd n rq v).dev.hold = s.dev.hold := by
  simp [State.chanCmd]

@[simp] theorem State.writeMovr_hold (s : State) (rq : Requester) (r : RegName) (n v : Nat) :
    (s.writeMovr rq r n v).dev.hold = s.dev.hold := by
  unfold State.writeMovr
  split <;> simp

@[simp] theorem State.writePortCfg_hold (s : State) (p v : Nat) : (s.writePortCfg p v).dev.hold = s.dev.hold := by
  simp [State.writePortCfg]

@[simp] theorem State.writePort_hold (s : State) (r : RegName) (p v : Nat) : (s.writePort r p v).dev.hold = s.dev.hold := by
  unfold State.writePort
  dsimp only
  split <;> simp [State.cond]

@[simp] theorem State.writeRtp_hold (s : State) (r v : Nat) : (s.writeRtp r v).dev.hold = s.dev.hold := by
  simp [State.writeRtp]

@[simp] theorem State.writePtp_hold (s : State) (p v : Nat) :
    (s.writePtp p v).dev.hold = s.dev.hold := by
  simp [State.writePtp]

@[simp] theorem State.writeHost_hold (s : State) (r : RegName) (i j v : Nat) :
    (s.writeHost r i j v).dev.hold = s.dev.hold := by
  unfold State.writeHost
  split <;> simp

@[simp] theorem State.stageRoute_hold (s : State) (v : Nat) : (s.stageRoute v).dev.hold = s.dev.hold := by rfl

@[simp] theorem State.writeLink_hold (s : State) (r : RegName) (n v : Nat) :
    (s.writeLink r n v).dev.hold = s.dev.hold := by
  unfold State.writeLink
  split <;> simp

@[simp] theorem State.writeWdog_hold (s : State) (v : Nat) : (s.writeWdog v).dev.hold = s.dev.hold := by
  simp [State.writeWdog]

@[simp] theorem State.writeMisc_hold (s : State) (r : RegName) (i v : Nat) : (s.writeMisc r i v).dev.hold = s.dev.hold := by
  unfold State.writeMisc
  split <;> simp

@[simp] theorem State.writePwr_hold (s : State) (v : Nat) :
    (s.writePwr v).2.dev.hold = s.dev.hold := by
  simp [State.writePwr]

@[simp] theorem State.writeReg_hold (s : State) (rq : Requester) (r : RegName) (i j v : Nat) :
    (s.writeReg rq r i j v).2.dev.hold = s.dev.hold := by
  unfold State.writeReg
  dsimp only
  (repeat' split) <;> simp

@[simp] theorem State.regWrite1_hold (s : State) (rq : Requester) (off v : Nat) :
    (s.regWrite1 rq off v).2.dev.hold = s.dev.hold := by
  unfold State.regWrite1
  split <;> simp

@[simp] theorem State.recordExc_hold (s : State) (k cause pc : Nat) (addr : Option Nat) :
    (s.recordExc k cause pc addr).dev.hold = s.dev.hold := by
  unfold State.recordExc
  split <;> simp

@[simp] theorem State.kioskExc_hold (s : State) (k cause : Nat) (addr : Option Nat) :
    (s.kioskExc k cause addr).dev.hold = s.dev.hold := by
  simp [State.kioskExc]

@[simp] theorem State.kioskTraffic_hold (s : State) (k a : Nat) : (s.kioskTraffic k a).dev.hold = s.dev.hold := by
  simp [State.kioskTraffic]

@[simp] theorem State.lineFault_hold (s : State) (k : Nat) :
    (s.lineFault k).dev.hold = s.dev.hold := by
  unfold State.lineFault
  split <;> simp

@[simp] theorem State.dropClean_hold (s : State) (k la : Nat) : (s.dropClean k la).dev.hold = s.dev.hold := by rfl

@[simp] theorem State.putLine_hold (s : State) (l : CLine) : (s.putLine l).dev.hold = s.dev.hold := by rfl

@[simp] theorem State.incK_hold (s : State) (r : RegName) (k : Nat) : (s.incK r k).dev.hold = s.dev.hold := by rfl

@[simp] theorem State.landLine_hold (s : State) (k : Nat) (l : CLine) :
    (s.landLine k l).dev.hold = s.dev.hold := by
  unfold State.landLine
  dsimp only
  (repeat' split) <;> simp

@[simp] theorem State.landAll_hold (s : State) (k : Nat) (ls : List CLine) :
    (s.landAll k ls).dev.hold = s.dev.hold := by
  simp [State.landAll]

@[simp] theorem State.landBlock_hold (s : State) (k a : Nat) :
    (s.landBlock k a).dev.hold = s.dev.hold := by
  simp [State.landBlock]

@[simp] theorem State.evictLine_hold (s : State) (k addr : Nat) :
    (s.evictLine k addr).dev.hold = s.dev.hold := by
  simp [State.evictLine]

@[simp] theorem State.cachedStore_hold (s0 : State) (k a : Nat) (bs : List Byte) :
    (s0.cachedStore k a bs).dev.hold = s0.dev.hold := by
  simp [State.cachedStore]

@[simp] theorem State.storePiece_hold (s : State) (k a : Nat) (bs : List Byte) :
    (s.storePiece k a bs).dev.hold = s.dev.hold := by
  unfold State.storePiece
  split <;> simp

@[simp] theorem State.kset_hold (s : State) (k : Nat) (f : Kiosk → Kiosk) : (s.kset k f).dev.hold = s.dev.hold := by rfl

@[simp] theorem State.withTst_hold {f : Nat → State → State} (h : ∀ i (t : State), (f i t).dev.hold = t.dev.hold)
    (s : State) (k n : Nat) : (s.withTst k n f).dev.hold = s.dev.hold := by
  unfold State.withTst
  dsimp only
  split
  · exact h _ s
  · simp

@[simp] theorem State.beginRel_hold (s : State) (k : Nat) (r : KRel) : (s.beginRel k r).dev.hold = s.dev.hold := by rfl

@[simp] theorem State.kNop_hold (s : State) (k : Nat) : (s.kNop k).dev.hold = s.dev.hold := by rfl

@[simp] theorem State.kEnd_hold (s : State) (k : Nat) :
    (s.kEnd k).dev.hold = s.dev.hold := by
  simp [State.kEnd]

@[simp] theorem State.kYield_hold (s : State) (k : Nat) (f : FS) :
    (s.kYield k f).dev.hold = s.dev.hold := by
  simp [State.kYield]

@[simp] theorem State.kWait_hold (s : State) (k : Nat) (f : FS) :
    (s.kWait k f).dev.hold = s.dev.hold := by
  simp [State.kWait]

@[simp] theorem State.kPass_hold (s : State) (k : Nat) (f : FS) :
    (s.kPass k f).dev.hold = s.dev.hold := by
  simp [State.kPass]

@[simp] theorem State.kArm_hold (s : State) (k : Nat) (f : FS) : (s.kArm k f).dev.hold = s.dev.hold := by
  refine State.withTst_hold (fun i t => ?_) _ _ _
  dsimp only
  split <;> simp

@[simp] theorem State.kTrst_hold (s : State) (k : Nat) (f : FS) :
    (s.kTrst k f).dev.hold = s.dev.hold := by
  simp [State.kTrst]

@[simp] theorem State.kFlush_hold (s : State) (k : Nat) (f : FS) : (s.kFlush k f).dev.hold = s.dev.hold := by rfl

@[simp] theorem State.kInv_hold (s : State) (k : Nat) (f : FS) : (s.kInv k f).dev.hold = s.dev.hold := by rfl

@[simp] theorem State.kFence_hold (s : State) (k : Nat) : (s.kFence k).dev.hold = s.dev.hold := by rfl

@[simp] theorem State.kCsr_hold (s : State) (k : Nat) (f : FS) : (s.kCsr k f).dev.hold = s.dev.hold := by rfl

@[simp] theorem State.kOpr_hold (s : State) (k : Nat) (f : FS) : (s.kOpr k f).dev.hold = s.dev.hold := by rfl

@[simp] theorem State.kAddi_hold (s : State) (k : Nat) (f : FI) : (s.kAddi k f).dev.hold = s.dev.hold := by rfl

@[simp] theorem State.kLui_hold (s : State) (k : Nat) (f : FI) : (s.kLui k f).dev.hold = s.dev.hold := by rfl

@[simp] theorem State.kSalu_hold (s : State) (k : Nat) (f : FV) : (s.kSalu k f).dev.hold = s.dev.hold := by
  unfold State.kSalu
  dsimp only
  split <;> simp

@[simp] theorem State.branch_hold (s : State) (k : Nat) (f : FB) (take : BitVec 64 → BitVec 64 → Bool) :
    (s.branch k f take).dev.hold = s.dev.hold := by
  simp [State.branch]

@[simp] theorem State.kJal_hold (s : State) (k : Nat) (f : FI) : (s.kJal k f).dev.hold = s.dev.hold := by rfl

@[simp] theorem State.kJr_hold (s : State) (k : Nat) (f : FI) : (s.kJr k f).dev.hold = s.dev.hold := by rfl

@[simp] theorem State.lineParity_hold (e : Option Nat) (ws : List Nat) (s : State) :
    (State.lineParity e ws s).state.dev.hold = s.dev.hold := by
  induction ws generalizing s with
  | nil => rfl
  | cons a ws ih =>
    unfold State.lineParity
    dsimp only
    split
    · exact (ih _).trans (State.parity_hold ..)
    · exact State.parity_hold ..
    · exact State.parity_hold ..

@[simp] theorem State.fillLine_hold (s : State) (k a : Nat) : (s.fillLine k a).state.dev.hold = s.dev.hold := by
  unfold State.fillLine
  extract_lets s1 e
  have w1 : s1.dev.hold = s.dev.hold := by simp [s1]
  clear_value s1 e
  split
  · simp only [KRes.state_stop]
    split <;> simp [w1]
  · have wp := (State.lineParity_hold e (s1.badWordsIn a 64) s1).trans w1
    split
    · next s2 h =>
      rw [h] at wp
      simp only [KRes.state_ok] at wp ⊢
      split <;> simp [wp]
    · exact wp

@[simp] theorem State.cachedLoad_hold (s : State) (k a n : Nat) : (s.cachedLoad k a n).state.dev.hold = s.dev.hold := by
  unfold State.cachedLoad
  extract_lets la get fill
  have wf : ∀ t : State, (fill t).state.dev.hold = t.dev.hold := by
    intro t
    have h := t.fillLine_hold k la
    simp only [fill]
    split <;> simp_all
  split
  · exact wf s
  · split
    · rfl
    · split
      · simp
      · exact (wf _).trans (by simp)

@[simp] theorem State.loadPiece_hold (s : State) (k a n : Nat) : (s.loadPiece k a n).state.dev.hold = s.dev.hold := by
  unfold State.loadPiece
  split <;> simp

@[simp] theorem State.loadPieces_hold (k : Nat) (ps : List (Nat × Nat)) (s : State) :
    (State.loadPieces k ps s).state.dev.hold = s.dev.hold := by
  induction ps generalizing s with
  | nil => rfl
  | cons p ps ih =>
    have h1 := s.loadPiece_hold k p.1 p.2
    unfold State.loadPieces
    split
    · next v t h =>
      rw [h] at h1
      have h2 := (ih t).trans h1
      split <;> simp_all
    all_goals simp_all

@[simp] theorem State.kioskLoad_hold (s : State) (k : Nat) (vec : Option Nat) (ps : List (Nat × Nat)) :
    (s.kioskLoad k vec ps).state.dev.hold = s.dev.hold := by
  have h := State.loadPieces_hold k ps s
  unfold State.kioskLoad
  split
  · rfl
  · split <;> simp_all

@[simp] theorem State.loaded_hold (r : KRes (List (List Byte))) (k : Nat) (f : List (List Byte) → Kiosk → Kiosk)
    (n sz : Nat) : (State.loaded k r f n sz).dev.hold = r.state.dev.hold := by
  cases r <;> simp_all [State.loaded]

@[simp] theorem State.kLd_hold (s : State) (k : Nat) (f : FM) :
    (s.kLd k f).dev.hold = s.dev.hold := by
  simp [State.kLd]

@[simp] theorem State.kioskStore_hold (s : State) (k : Nat) (vec : Option Nat) (ps : List (Nat × List Byte)) :
    (s.kioskStore k vec ps).state.dev.hold = s.dev.hold := by
  unfold State.kioskStore
  split
  · rfl
  · simp

@[simp] theorem State.stored_hold (r : KRes Unit) (k : Nat) : (State.stored k r).dev.hold = r.state.dev.hold := by
  cases r <;> simp_all [State.stored]

@[simp] theorem State.kSt_hold (s : State) (k : Nat) (f : FM) :
    (s.kSt k f).dev.hold = s.dev.hold := by
  simp [State.kSt]

@[simp] theorem State.kVld_hold (s : State) (k : Nat) (f : FM) :
    (s.kVld k f).dev.hold = s.dev.hold := by
  simp [State.kVld]

@[simp] theorem State.kVst_hold (s : State) (k : Nat) (f : FM) :
    (s.kVst k f).dev.hold = s.dev.hold := by
  simp [State.kVst]

@[simp] theorem State.kGather_hold (s : State) (k : Nat) (f : FV) :
    (s.kGather k f).dev.hold = s.dev.hold := by
  simp [State.kGather]

@[simp] theorem State.kScatter_hold (s : State) (k : Nat) (f : FV) :
    (s.kScatter k f).dev.hold = s.dev.hold := by
  simp [State.kScatter]

@[simp] theorem State.lanewise_hold (s : State) (k : Nat) (f : FV) (g : Kiosk → Nat → BitVec 32) :
    (s.lanewise k f g).dev.hold = s.dev.hold := by rfl

@[simp] theorem State.kValu_hold (s : State) (k : Nat) (f : FV) : (s.kValu k f).dev.hold = s.dev.hold := by rfl

@[simp] theorem State.kVfma_hold (s : State) (k : Nat) (f : FV) : (s.kVfma k f).dev.hold = s.dev.hold := by rfl

@[simp] theorem State.kVcmp_hold (s : State) (k : Nat) (f : FV) : (s.kVcmp k f).dev.hold = s.dev.hold := by
  unfold State.kVcmp
  dsimp only
  split <;> simp

@[simp] theorem State.kVcvt_hold (s : State) (k : Nat) (f : FV) : (s.kVcvt k f).dev.hold = s.dev.hold := by
  simp [State.kVcvt]

@[simp] theorem State.kSfu_hold (s : State) (k : Nat) (f : FV) (n : Nat) : (s.kSfu k f n).dev.hold = s.dev.hold := by rfl

@[simp] theorem State.kSincos_hold (s : State) (k : Nat) (f : FV) : (s.kSincos k f).dev.hold = s.dev.hold := by rfl

@[simp] theorem State.kVmovs_hold (s : State) (k : Nat) (f : FV) : (s.kVmovs k f).dev.hold = s.dev.hold := by
  unfold State.kVmovs
  dsimp only
  (repeat' split) <;> simp

@[simp] theorem State.kVred_hold (s : State) (k : Nat) (f : FV) : (s.kVred k f).dev.hold = s.dev.hold := by rfl

@[simp] theorem State.kioskDo_hold (s : State) (i : Instr) : (s.kioskDo i).dev.hold = s.dev.hold := by
  unfold State.kioskDo
  split <;> simp

@[simp] theorem State.kioskResumed_hold (s : State) (k : Nat) : (s.kioskResumed k).dev.hold = s.dev.hold := by rfl

@[simp] theorem State.kioskHalt_hold (s : State) (k : Nat) : (s.kioskHalt k).dev.hold = s.dev.hold := by
  simp [State.kioskHalt]

@[simp] theorem State.kioskUnhalt_hold (s : State) (k : Nat) : (s.kioskUnhalt k).dev.hold = s.dev.hold := by
  simp [State.kioskUnhalt]

@[simp] theorem State.kioskStep_hold (s : State) (k : Nat) : (s.kioskStep k).dev.hold = s.dev.hold := by
  unfold State.kioskStep
  extract_lets x s1 s2
  have w1 : s1.dev.hold = s.dev.hold := by simp [s1]
  clear_value s1
  have w2 : s2.dev.hold = s.dev.hold := by
    simp only [s2]
    split
    · simp [w1]
    · split
      · split <;> simp [w1]
      · simp [w1]
  split
  · exact w2
  · rfl

@[simp] theorem State.dbgCtl_hold (s : State) (v : Nat) :
    (s.dbgCtl v).dev.hold = s.dev.hold := by
  simp (disch := simp) [State.dbgCtl]

@[simp] theorem State.viewWrite_hold (s : State) (v : Nat) :
    (s.viewWrite v).dev.hold = s.dev.hold := by
  simp [State.viewWrite]

@[simp] theorem State.regWriteAt_hold (s : State) (rq : Requester) (off v : Nat) :
    (s.regWriteAt rq off v).2.dev.hold = s.dev.hold := by
  unfold State.regWriteAt
  split <;> simp

@[simp] theorem State.applyReg_hold (s : State) (c : CfgRec) :
    (s.applyReg c).2.dev.hold = s.dev.hold := by
  unfold State.applyReg
  dsimp only
  split <;> simp

@[simp] theorem State.applyTwin_hold (s : State) (v : List Byte) : (s.applyTwin v).dev.hold = s.dev.hold := by
  unfold State.applyTwin
  extract_lets n s1 s2 s3
  refine (State.each_hold (fun t l => ?_) s2 _).trans rfl
  rfl

@[simp] theorem State.applyStart_hold (s : State) (c : CfgRec) : (s.applyStart c).dev.hold = s.dev.hold := by
  unfold State.applyStart
  dsimp only
  split
  case h_3 =>
    refine State.each_hold (fun t k => ?_) s _
    rfl
  all_goals simp

@[simp] theorem State.applyRec_hold (s : State) (c : CfgRec) :
    (s.applyRec c).2.dev.hold = s.dev.hold := by
  unfold State.applyRec
  dsimp only
  (repeat' split) <;> simp

end Sys2Proof.Machine
end

section
/-!
SUPPORT and proof of O46: the start (17 R426 to R432).
-/

namespace Sys2Proof.Machine

/-! ### The start (17 R426 to R432) -/

/-- A device that is held has ended its start in stage 0. -/
def State.HeldOff (s : State) : Prop := s.dev.hold ≠ 0 → s.dev.stage = 0 ∧ s.dev.starting = false

theorem State.heldOff_holdAt (s : State) (c n : Nat) : (s.holdAt c n).HeldOff := fun _ => ⟨rfl, rfl⟩

theorem State.heldOff_of_free {s : State} (h : s.dev.hold = 0) : s.HeldOff := fun hn => absurd h hn

theorem State.unlessHeld_free {s : State} (h : s.dev.hold = 0) (f : State → State) : s.unlessHeld f = f s := if_pos h

theorem State.unlessHeld_held {s : State} (h : s.dev.hold ≠ 0) (f : State → State) : s.unlessHeld f = s := if_neg h

/-- A step that a device without a hold takes. -/
theorem State.HeldOff.unlessHeld {s : State} (h : s.HeldOff) {f : State → State} (hf : ∀ t : State, t.dev.hold = 0 → (f t).HeldOff) :
    (s.unlessHeld f).HeldOff := by
  unfold State.unlessHeld
  split
  · next h0 => exact hf s h0
  · exact h

/-- A step that sets no hold. -/
theorem State.heldOff_keeps {f : State → State} (hf : ∀ t : State, (f t).dev.hold = t.dev.hold) (t : State) (h : t.dev.hold = 0) :
    (f t).HeldOff := State.heldOff_of_free ((hf t).trans h)

theorem State.readMac_hold (s : State) (ok : Bool) : (s.readMac ok).dev.hold = s.dev.hold := by
  refine State.each_hold (fun t p => ?_) s _
  rfl

theorem State.drivePorts_hold (s : State) (l : List CfgRec) : (s.drivePorts l).dev.hold = s.dev.hold := by
  refine State.each_hold (fun t f => ?_) _ _
  rfl

theorem State.startConfig_heldOff (s : State) (h : s.dev.hold = 0) : s.startConfig.HeldOff := by
  unfold State.startConfig
  extract_lets b st x s1
  split
  · exact State.heldOff_holdAt _ _ _
  · split
    · exact State.heldOff_holdAt _ _ _
    · split
      · exact State.heldOff_holdAt _ _ _
      · exact State.heldOff_of_free ((State.drivePorts_hold ..).trans ((State.each_hold State.applyStart_hold _ _).trans h))

theorem State.startSecurity_heldOff (s : State) (e : StartEnv) (h : s.dev.hold = 0) : (s.startSecurity e).HeldOff := by
  unfold State.startSecurity
  extract_lets id x s1 y
  have h1 : s1.dev.hold = 0 := by
    refine (State.cond_hold (fun t => ?_) _ _).trans h
    rfl
  split
  · exact State.heldOff_holdAt _ _ _
  · split
    · exact State.heldOff_of_free h1
    · split
      · exact State.heldOff_holdAt _ _ _
      · dsimp only
        split
        · exact State.heldOff_holdAt _ _ _
        · split
          · exact State.heldOff_holdAt _ _ _
          · exact State.heldOff_of_free h1

/-- The state in which the flash's answer and the addresses are noted. -/
def State.flashRead (s : State) (e : StartEnv) : State :=
  let here := e.flashAnswers && decide (64 ≤ e.flashMiB)
  ({ s with flash := { s.flash with present := here, mib := e.flashMiB, dirOk := e.dirOk, counterAuth := e.counterAuth } }).readMac
    (here && e.dirOk)

theorem State.step2_absent {s : State} {e : StartEnv} (h : e.flashAnswers = false ∨ e.flashMiB < 64) :
    s.step2 e = (s.flashRead e).holdAt 1 2 := by
  refine if_pos ?_
  rcases h with h | h
  · simp [h]
  · simp [Nat.not_le.2 h]

theorem State.step2_noDir {s : State} {e : StartEnv} (h : e.flashAnswers = true) (hm : 64 ≤ e.flashMiB) (hd : e.dirOk = false) :
    s.step2 e = (s.flashRead e).holdAt 2 2 := (if_neg (by simp [h, hm])).trans (if_pos (by simp [hd]))

theorem State.step2_heldOff (s : State) (e : StartEnv) (h : s.dev.hold = 0) : (s.step2 e).HeldOff := by
  have h1 : (s.flashRead e).dev.hold = 0 := (State.readMac_hold ..).trans h
  unfold State.step2
  extract_lets here x fl s1
  split
  · exact State.heldOff_holdAt _ _ _
  · split
    · exact State.heldOff_holdAt _ _ _
    · exact (State.startSecurity_heldOff s1 e h1).unlessHeld State.startConfig_heldOff

theorem State.fetchLinks_dev (s : State) : s.fetchLinks.dev = s.dev := by
  unfold State.fetchLinks
  split
  · exact State.each_keeps State.dev (fun s n => s.linkTo n .seek) (fun _ _ => rfl) _ s
  · rfl

theorem State.HeldOff.fetchLinks {s : State} (h : s.HeldOff) : s.fetchLinks.HeldOff := by
  unfold State.HeldOff
  rw [State.fetchLinks_dev]
  exact h

theorem State.step3_heldOff (s : State) (h : s.dev.hold = 0) : s.step3.HeldOff := by
  unfold State.step3
  extract_lets st x
  split
  · exact (State.heldOff_holdAt _ _ _).fetchLinks
  · split
    · exact (State.heldOff_holdAt _ _ _).fetchLinks
    · exact State.heldOff_of_free h

theorem State.step4_heldOff (e : StartEnv) (s : State) (h : s.dev.hold = 0) : (s.step4 e).HeldOff := by
  unfold State.step4
  split
  · exact State.heldOff_holdAt _ _ _
  · exact State.heldOff_of_free h

theorem State.failedRead_hold (s : State) (a n c : Nat) : (s.failedRead a n c).dev.hold = s.dev.hold := by
  unfold State.failedRead
  split
  · rw [State.readFailed_dev]
  · rfl

theorem State.step5_hold (s : State) : s.step5.dev.hold = s.dev.hold := by
  change s.findRing.dev.hold = s.dev.hold
  unfold State.findRing
  split
  · exact State.cond_hold (fun t => t.failedRead_hold _ _ _) s _
  · rfl

theorem State.step6_hold (e : StartEnv) (s : State) : (s.step6 e).dev.hold = s.dev.hold := by
  unfold State.step6
  rw [State.each_hold fun t i => t.retireEntry_hold _]

theorem countRefused_hold (s t : State) : (countRefused s t).dev.hold = t.dev.hold := by
  unfold countRefused
  split <;> rfl

theorem State.applyImage_hold (s : State) (c : CfgRec) : (s.applyImage c).dev.hold = s.dev.hold := by
  unfold State.applyImage
  split
  · rfl
  · dsimp only
    split
    · exact State.applyRec_hold ..
    · exact (countRefused_hold ..).trans (State.applyRec_hold ..)

theorem State.step7_hold (s : State) : s.step7.dev.hold = s.dev.hold := by
  unfold State.step7
  extract_lets l x y s1 s2
  have h2 : s2.dev.hold = s.dev.hold := State.each_hold State.applyImage_hold s1 l
  split
  · exact h2
  · exact h2

/-- What the last step leaves: reports change nothing of the device. -/
theorem State.step8_dev (s : State) (e : StartEnv) : (s.step8 e).dev = { s.dev with stage := 2, starting := false, startMs := e.startMs } := by
  unfold State.step8
  extract_lets x s1 s2 s3 s4
  have h2 : s2.dev = s1.dev := by
    refine (State.record_dev ..).trans ?_
    unfold State.startRecord
    dsimp only
    split
    · exact State.record_dev ..
    · exact State.record_dev ..
  have h3 : s3.dev = s2.dev :=
    (State.event_dev ..).trans (State.each_keeps State.dev (fun s p => s.epochRecord p (s.pitchDom p) 1) (fun _ _ => State.record_dev ..) _ s2)
  have h4 : s4.dev = s3.dev := by
    unfold s4
    split
    · exact State.deviceFault_dev ..
    · rfl
  refine Eq.trans ?_ (h4.trans (h3.trans h2))
  split
  · rfl
  · exact State.deviceFault_dev ..

/-- The steps after the second. -/
def State.laterSteps (s : State) (e : StartEnv) : State :=
  ((((((s.unlessHeld State.step3).unlessHeld (fun s => s.step4 e)).unlessHeld State.step5).unlessHeld (fun s => s.step6 e)).unlessHeld
    State.step7).unlessHeld (fun s => s.step8 e))

theorem State.deviceStart_not {s : State} (h : s.dev.starting = false ∨ s.dev.rstLow = true ∨ s.dev.pwrGood = false) (e : StartEnv) :
    s.deviceStart e = s := if_pos (by rcases h with h | h | h <;> simp [h])

theorem State.deviceStart_starts {s : State} (hs : s.dev.starting = true) (hr : s.dev.rstLow = false) (hp : s.dev.pwrGood = true)
    (e : StartEnv) : s.deviceStart e = State.laterSteps (if s.dev.holdStep = 3 then s else s.step2 e) e := if_neg (by simp [hs, hr, hp])

theorem State.laterSteps_held {s : State} (h : s.dev.hold ≠ 0) (e : StartEnv) : s.laterSteps e = s := by
  unfold State.laterSteps
  simp only [State.unlessHeld_held h]

/-- A start ends in full function, or held in stage 0. -/
theorem State.laterSteps_ends {s : State} (h : s.HeldOff) (e : StartEnv) : (s.laterSteps e).dev.starting = false ∧
    ((s.laterSteps e).dev.hold = 0 → (s.laterSteps e).dev.stage = 2 ∧ (s.laterSteps e).dev.startMs = e.startMs) ∧
    ((s.laterSteps e).dev.hold ≠ 0 → (s.laterSteps e).dev.stage = 0) := by
  have h7 := ((((h.unlessHeld State.step3_heldOff).unlessHeld (State.step4_heldOff e)).unlessHeld (State.heldOff_keeps State.step5_hold)).unlessHeld
    (State.heldOff_keeps (State.step6_hold e))).unlessHeld (State.heldOff_keeps State.step7_hold)
  unfold State.laterSteps
  generalize ((((s.unlessHeld State.step3).unlessHeld (fun s => s.step4 e)).unlessHeld State.step5).unlessHeld (fun s => s.step6 e)).unlessHeld
    State.step7 = t at h7 ⊢
  by_cases h0 : t.dev.hold = 0
  · rw [State.unlessHeld_free h0, State.step8_dev]
    exact ⟨rfl, fun _ => ⟨rfl, rfl⟩, fun hn => absurd h0 hn⟩
  · rw [State.unlessHeld_held h0]
    obtain ⟨h1, h2⟩ := h7 h0
    exact ⟨h2, fun hn => absurd hn h0, fun _ => h1⟩

theorem State.stepTimeout_not {s : State} {n : Nat} (h : s.dev.starting = false ∨ s.dev.pwrGood = false ∨ n = 0 ∨ 8 < n) :
    s.stepTimeout n = s := by
  refine if_neg ?_
  rcases h with h | h | h | h
  · simp [h]
  · simp [h]
  · simp [h]
  · simp [Nat.not_le.2 h]

/-- The code of a step that takes too long. -/
def State.timedOut (s : State) : Nat → State
  | 2 => s.holdAt 3 2
  | 3 => (s.holdAt 4 3).fetchLinks
  | 4 => s.holdAt 6 4
  | n => s.draw.2.holdAt (1 + s.draw.1 % 6) n

theorem State.timedOut_other {s : State} {n : Nat} (h2 : n ≠ 2) (h3 : n ≠ 3) (h4 : n ≠ 4) :
    s.timedOut n = { s with free := s.free + 1 }.holdAt (1 + Config.freeNat s.free % 6) n := by
  unfold State.timedOut
  split
  · exact absurd rfl h2
  · exact absurd rfl h3
  · exact absurd rfl h4
  · rfl

theorem State.stepTimeout_due {s : State} (hs : s.dev.starting = true) (hp : s.dev.pwrGood = true) {n : Nat} (h1 : 1 ≤ n) (h8 : n ≤ 8) :
    s.stepTimeout n = s.timedOut n := if_pos (by simp [hs, hp, h1, h8])

/-- Settles O46, from what each step of a start leaves of the device's hold, and what the last step leaves. -/
theorem deviceStarts : Obligations.DeviceStarts := by
  unfold Obligations.DeviceStarts
  refine ⟨fun e s hs hr hp h3 h0 => ?_, fun e s hs hr hp h0 => ⟨_, rfl, ?_⟩, fun e s h => congrArg done (State.deviceStart_not h e),
    fun s hs hp => ?_, fun s n h => congrArg done (State.stepTimeout_not h)⟩
  · have hx := (State.deviceStart_starts hs hr hp e).trans (congrArg (State.laterSteps · e) (if_neg h3))
    have hrun (c : Nat) (hc : c ≠ 0) (h2 : s.step2 e = (s.flashRead e).holdAt c 2) : s.deviceStart e = (s.flashRead e).holdAt c 2 := by
      rw [hx, h2]
      exact State.laterSteps_held hc e
    have hm : (s.flashRead e).mem = s.mem := State.readMac_mem ..
    exact ⟨fun h => ⟨_, congrArg done (hrun 1 (by decide) (State.step2_absent h)), rfl, rfl, rfl, rfl, hm⟩,
      fun h1 h2 h3 => ⟨_, congrArg done (hrun 2 (by decide) (State.step2_noDir h1 h2 h3)), rfl, rfl, rfl, rfl, hm⟩⟩
  · have hx := State.deviceStart_starts hs hr hp e
    have hh : (if s.dev.holdStep = 3 then s else s.step2 e).HeldOff := by
      split
      · exact State.heldOff_of_free h0
      · exact State.step2_heldOff s e h0
    rw [finish_dev, hx]
    exact State.laterSteps_ends hh e
  · have hd {n : Nat} (h1 : 1 ≤ n) (h8 : n ≤ 8) := congrArg done (State.stepTimeout_due hs hp h1 h8)
    refine ⟨hd (by decide) (by decide), hd (by decide) (by decide), hd (by decide) (by decide), fun n hn => ?_⟩
    have hb : 1 ≤ n ∧ n ≤ 8 ∧ n ≠ 2 ∧ n ≠ 3 ∧ n ≠ 4 := by omega
    obtain ⟨h1, h8, h2, h3, h4⟩ := hb
    exact (hd h1 h8).trans (congrArg done (State.timedOut_other h2 h3 h4))

end Sys2Proof.Machine
end
